-- ==== Sys2Proof/Word.lean ====
section
/-! DEFINITION. The word types of the block: bytes, half words, words and double words. -/

namespace Sys2Proof

/-- One byte. -/
abbrev Byte := BitVec 8
/-- Two bytes, little-endian in memory. -/
abbrev Half := BitVec 16
/-- A register word (R10). -/
abbrev Word := BitVec 32
/-- A 64-bit quantity, held as a _LO/_HI pair where it is a register (R10). -/
abbrev DWord := BitVec 64

end Sys2Proof
end

