-- ==== Sys2Proof/Syntax.lean ====
section
/-! DEFINITION. The commands of the block: one constructor of Instr per row of spec/opcode_table.json, and the types of
their operands. -/

namespace Sys2Proof

/-- The requester classes of R49. -/
inductive Cls where
  | host | fwp | fwc | fwl | fws | rack | dbg
deriving DecidableEq, Repr

/-- The clock domains with a PLL (R23); Carapace's oscillator is not among them. -/
inductive ClkDomain where
  | tb | krm | fab | nt | bk | lnk | fw
deriving DecidableEq, Repr

/-- The strap pins of R33. -/
structure StrapPins where
  shdn  : BitVec 2
  fan   : BitVec 2
  hostc : BitVec 2
  feed  : BitVec 2
  crit  : BitVec 2
  i3c   : BitVec 2
  xspi  : Bool
  tap   : Bool
deriving DecidableEq, Repr

/-- A physical Kermes core, 0-35 (R110). -/
abbrev PhysCore := Fin 36
/-- A quadrant, 0-3 (R110). -/
abbrev Quad := Fin 4
/-- A vector register V0-V31 (R113). -/
abbrev VReg := Fin 32
/-- An accumulator row 0-63 (R113). -/
abbrev AccRow := Fin 64
/-- A Silk port, and the accelerator behind it, 0-7 (R271). -/
abbrev Port := Fin 8
/-- A receipt queue index, 0-1,048,575 (R228). -/
abbrev Queue := BitVec 20
/-- A Carapace branch: ACC0-ACC7 = 0-7, HOST = 8, FANA = 9, FANB = 10, AUXN = 11 (R7). -/
abbrev Branch := Fin 12
/-- A fan channel, 0-15 (R402). -/
abbrev FanChan := Fin 16
/-- A thermistor TH0-TH31 (R407). -/
abbrev Therm := Fin 32
/-- A drip rope, 0-3 (R410). -/
abbrev Rope := Fin 4
/-- A rack port, 0-1 (R329). -/
abbrev RackPort := Fin 2
/-- A control-state memory, by its index in INT_REMAP_STAT (R193). -/
abbrev CtrlMem := Fin 4

/-- AOP of a DPU slot or VACC (R117): what a contribution does to its row. -/
inductive AccOp where
  | none | init | add
deriving DecidableEq, Repr

/-- An address-generator operand: the generator and whether it steps (R124). -/
structure AgRef where
  ag   : Fin 8
  step : Bool
deriving DecidableEq, Repr

/-- One DPU operand: its data generator and its scale generator. -/
structure DpuSrc where
  data  : AgRef
  scale : AgRef
deriving DecidableEq, Repr

/-- The fields of a DPU slot (R117): format table entry, operands, accumulator operation and row. -/
structure DpuOp where
  fmt : Fin 8
  a   : DpuSrc
  b   : DpuSrc
  aop : AccOp
  row : AccRow
deriving DecidableEq, Repr

/-- The scaled formats, codes 0x0-0x5 of R69. -/
inductive ScaledFmt where
  | e4m3 | e5m2 | e3m2 | e2m3 | e2m1 | int8
deriving DecidableEq, Repr

/-- The 16-bit element formats of LDH and STH (R98). -/
inductive HalfFmt where
  | bf16 | binary16
deriving DecidableEq, Repr

/-- Fence causes of a core that hardware finds (R156). -/
inductive FenceCause where
  | seqParity | ctrlUe | sramHard | selftest | overcurrent | fused
deriving DecidableEq, Repr

/-- A tier channel: near stack or bulk channel (R198). -/
inductive TierChan where
  | near (s : Fin 6)
  | bulk (c : Fin 24)
deriving DecidableEq, Repr

/-- Bits of stored data that a fault outside the machine has flipped (R174, R176-R178): in an 8-byte block of a core's SRAM,
data bit c of byte r at 8r + c, P_r at 64 + r, Q_c at 72 + c; in a tier line, symbol j of codeword k at 80k + 8j. -/
inductive Upset where
  | sram (core : PhysCore) (block : BitVec 22) (bits : BitVec 80)
  | line (line : BitVec 42) (bits : BitVec 640)
deriving DecidableEq, Repr

/-- The BAR of a host read of memory: device memory, or the doorbells (R310, R233). -/
inductive MemBar where
  | bar2 | bar4
deriving DecidableEq, Repr

/-- A doorbell: the queue page written, the size accepted, and the value's fields (R233). -/
structure Doorbell where
  q      : Queue
  sizeOk : Bool
  value  : DWord
deriving DecidableEq, Repr

/-- A transaction unit of a Silk port (R274). -/
structure SilkUnit where
  typ     : Byte
  flags   : Byte
  len     : Half
  tag     : Half
  pmask   : Byte
  rsv     : Byte
  arg     : DWord
  payload : List Byte
deriving DecidableEq, Repr

/-- What the host's configuration space accesses have set in the function: the bits and registers the spec names (R305, R307,
R309, R313). -/
structure PciCfg where
  busMaster    : Bool := false
  msixEnable   : Bool := false
  functionMask : Bool := false
  /-- base addresses of BAR0, BAR2 and BAR4 -/
  bars         : List DWord := []
deriving DecidableEq, Repr

/-- The page a stop command enters by: HST_STOP or RCK_STOP (R327). -/
inductive StopPath where
  | host | rack
deriving DecidableEq, Repr

/-- The numeric effecters of R331. -/
inductive Effecter where
  | rackCap | rackPreset
deriving DecidableEq, Repr

/-- The two feeds (R342). -/
inductive Feed where
  | a | b
deriving DecidableEq, Repr

/-- Readings of one branch in a Carapace sample, in the units of its registers: 0.1 A, mV, 10 mV, 10 mV (R341), and its
NTC in 1/16 C, none where it reads open or short (R360). -/
structure BranchSample where
  i       : Nat
  vds     : Nat
  vout    : Nat
  vgs     : Nat
  ntc     : Option Int
deriving DecidableEq, Repr

/-- Readings of one feed in a Carapace sample (R341). -/
structure FeedSample where
  i   : Nat
  vin : Nat
  vgs : Nat
deriving DecidableEq, Repr

/-- One Carapace sample (R341). `gapUs`: where a transfer's gap ends in it, how many us of that gap lie before its first
sample and after its last one with V_GS below 9 V (R344). -/
structure CrpSample where
  branches : List BranchSample
  feedA    : FeedSample
  feedB    : FeedSample
  vbus     : Nat
  gapUs    : Fin 5 := 2
deriving DecidableEq, Repr

/-- What commissioning found of one channel: the speed at 100%, rpm, and the duties that hold a quarter, half and three
quarters of it, 0.1% (R405). -/
structure CommissPoint where
  chan : FanChan
  sMax : Nat
  d25  : Nat
  d50  : Nat
  d75  : Nat
deriving DecidableEq, Repr

/-- One thermistor conversion: resistance in ohms and temperature in 1/16 C (R407). -/
structure ThReading where
  th   : Therm
  ohms : Nat
  temp : Int
deriving DecidableEq, Repr

/-- One drip-rope reading: resistance in 0.1 kilo-ohms (R410). -/
structure DripReading where
  rope : Rope
  res  : Nat
deriving DecidableEq, Repr

/-- One Sepia sample: kind, the mean over the second in the kind's unit, and the lowest and highest reading in it with the
operating times at which they were read, ms (R451, R455). -/
structure SepSample where
  kind  : Fin 19
  value : Int
  low   : Int
  lowAt : Nat
  high  : Int
  highAt : Nat
deriving DecidableEq, Repr

/-- A tier channel that fails when MAIN rises: training or module identity (R172). -/
structure ChanFail where
  chan     : TierChan
  identity : Bool
deriving DecidableEq, Repr

/-- A temperature reading of a tier channel, 1/16 C (R170). -/
structure TierTemp where
  chan : TierChan
  temp : BitVec 16
deriving DecidableEq, Repr

/-- The four firmware cores (R419). -/
inductive FwCore where
  | power | climate | link | ledger
deriving DecidableEq, Repr

/-- The commands. -/
inductive Instr where
  /-- REGISTER_WRITE (R48): A write to a register that has no row of its own is checked against size, mask and owners and, if accepted, applied and counted in PAGE_SEQ. -/
  | registerWrite (cls : Cls) (addr : BitVec 26) (size : Nat) (value : BitVec 64)
  /-- READ_CLEAR (R8): A read of an RC register returns its value and clears it. -/
  | readClear (cls : Cls) (addr : BitVec 26) (size : Nat)
  /-- LO_READ (R58): A read of a _LO register captures _HI into the reading class's latch. -/
  | loRead (cls : Cls) (addr : BitVec 26) (size : Nat)
  /-- HI_WRITE (R59): A _HI write commits it together with the class's shadowed _LO in one cycle. -/
  | hiWrite (cls : Cls) (addr : BitVec 26) (value : BitVec 32)
  /-- SOFT_RESET (R43): A write of PAGE_CTRL.SOFT_RESET = 1 returns the block registers to reset values and sets BUSY. -/
  | softReset (cls : Cls) (page : BitVec 10)
  /-- SOFT_RESET_DONE (R43): The soft reset ends and SOFT_RESET and BUSY clear within 10 µs. -/
  | softResetDone (page : BitVec 10)
  /-- IRQ_SET (R46): A write of 1 to an IRQ_SET bit sets the matching IRQ_STAT bit as the hardware cause would. -/
  | irqSet (cls : Cls) (page : BitVec 10) (value : BitVec 32)
  /-- ERR_CLR (R47): A write of ERR_CLR.CLEAR = 1 clears ERR_CODE and ERR_INFO. -/
  | errClr (cls : Cls) (page : BitVec 10) (value : BitVec 32)
  /-- ACCESS_MASK_WRITE (R53): An FWP write of ACCESS_MASK changes the writers of a page from the following cycle. -/
  | accessMaskWrite (cls : Cls) (page : BitVec 10) (value : BitVec 32)
  /-- STRICT_SET (R61): A write of STRICT = 1 clears the four mode bits and sets STRICT_PEND until the next idle boundary. -/
  | strictSet (cls : Cls)
  /-- STRICT_CLEAR (R62): A write of STRICT = 0 makes the four mode bits writable and sets STRICT_PEND. -/
  | strictClear (cls : Cls) (bits : BitVec 4)
  /-- MODE_BIT_WRITE (R200): A write of BALANCE, FAST_REDUCE, BK_REORDER or ENTROPY_SEED is held until the next device idle boundary. -/
  | modeBitWrite (cls : Cls) (bits : BitVec 4)
  /-- DEVICE_IDLE_BOUNDARY (R201): After in-flight bulk requests, dispatch and sampling drain, the pending GEN_MODE values are applied and STRICT_ACT updated. -/
  | deviceIdleBoundary
  /-- MAIN_LOSS (R21): MAIN_PWR_GOOD falls while MAIN_PWR_EN is asserted, so MAIN signals are clamped, MAIN blocks fenced, MAIN_PWR_EN deasserted and the action logged. -/
  | mainLoss
  /-- PLL_LOCK_LOSS (R23): A PLL loses lock and its domain reacts as tabled, raising LOCK_LOSS. -/
  | pllLockLoss (dom : ClkDomain)
  /-- CLK_KRM_LIMIT_WRITE (R31): A write of CLK_KRM_LIMIT sets the governor's step ceiling, or is dropped above CEIL and latches LIMIT. -/
  | clkKrmLimitWrite (cls : Cls) (value : BitVec 32)
  /-- CARAPACE_POWER_ON (R32): Carapace leaves power-on reset, samples its straps, holds every gate off and sets fans to FAN_SAFE. -/
  | carapacePowerOn (pins : StrapPins)
  /-- CARAPACE_POWER_ON_RESET (R484): VCRP_12 falls below 9.5 V and the whole package resets. -/
  | carapacePowerOnReset
  /-- NOP (R116): The DPU slot does nothing. -/
  | nop (core : PhysCore)
  /-- DOT (R117): Each DPU computes the dot of its A block with the B block and delivers it to its accumulator under AOP. -/
  | dot (core : PhysCore) (op : DpuOp) (found : List Upset)
  /-- DOT2 (R117): Each DPU computes two FP6/FP4 dots and delivers both to its accumulator in order. -/
  | dot2 (core : PhysCore) (op : DpuOp) (found : List Upset)
  /-- DOTG (R117): Each DPU computes a 16-bit group result over two cycles and delivers it under AOP. -/
  | dotg (core : PhysCore) (op : DpuOp) (found : List Upset)
  /-- VNOP (R119): The vector slot leaves VD unchanged. -/
  | vnop (core : PhysCore)
  /-- VADD (R96): Lanewise binary32 addition. -/
  | vadd (core : PhysCore) (vd : VReg) (va : VReg) (vb : VReg)
  /-- VSUB (R96): Lanewise binary32 subtraction. -/
  | vsub (core : PhysCore) (vd : VReg) (va : VReg) (vb : VReg)
  /-- VMUL (R96): Lanewise binary32 multiplication. -/
  | vmul (core : PhysCore) (vd : VReg) (va : VReg) (vb : VReg)
  /-- VFMA (R96): Lanewise fused multiply-add with one rounding. -/
  | vfma (core : PhysCore) (vd : VReg) (va : VReg) (vb : VReg) (vc : VReg)
  /-- VMAX (R97): Lanewise maximum with canonical NaN and signed-zero rules. -/
  | vmax (core : PhysCore) (vd : VReg) (va : VReg) (vb : VReg)
  /-- VMIN (R97): Lanewise minimum with canonical NaN and signed-zero rules. -/
  | vmin (core : PhysCore) (vd : VReg) (va : VReg) (vb : VReg)
  /-- VCMPLT (R97): Lanewise less-than compare giving 1.0 or 0. -/
  | vcmplt (core : PhysCore) (vd : VReg) (va : VReg) (vb : VReg)
  /-- VCMPLE (R97): Lanewise less-or-equal compare giving 1.0 or 0. -/
  | vcmple (core : PhysCore) (vd : VReg) (va : VReg) (vb : VReg)
  /-- VCMPEQ (R97): Lanewise equality compare giving 1.0 or 0. -/
  | vcmpeq (core : PhysCore) (vd : VReg) (va : VReg) (vb : VReg)
  /-- VSEL (R119): Lanewise bit-copy select of VB or VC by VA. -/
  | vsel (core : PhysCore) (vd : VReg) (va : VReg) (vb : VReg) (vc : VReg)
  /-- VMOV (R119): Copies VA to VD bit for bit. -/
  | vmov (core : PhysCore) (vd : VReg) (va : VReg)
  /-- VABS (R119): Clears each lane's sign bit, canonicalising NaN. -/
  | vabs (core : PhysCore) (vd : VReg) (va : VReg)
  /-- VNEG (R119): Inverts each lane's sign bit, canonicalising NaN. -/
  | vneg (core : PhysCore) (vd : VReg) (va : VReg)
  /-- VBCAST (R119): Broadcasts lane VB of VA to every lane. -/
  | vbcast (core : PhysCore) (vd : VReg) (va : VReg) (lane : Fin 32)
  /-- VEXP (R103): Lanewise exponential by the defined integer algorithm. -/
  | vexp (core : PhysCore) (vd : VReg) (va : VReg)
  /-- VRCP (R104): Lanewise reciprocal by the defined integer algorithm. -/
  | vrcp (core : PhysCore) (vd : VReg) (va : VReg)
  /-- VRSQRT (R105): Lanewise reciprocal square root by the defined integer algorithm. -/
  | vrsqrt (core : PhysCore) (vd : VReg) (va : VReg)
  /-- VTANH (R106): Lanewise hyperbolic tangent by the defined polynomial or exponential path. -/
  | vtanh (core : PhysCore) (vd : VReg) (va : VReg)
  /-- VRSUM (R99): Sums the 32 lanes in a fixed five-level tree into lane 0. -/
  | vrsum (core : PhysCore) (vd : VReg) (va : VReg)
  /-- VRMAX (R99): Takes the maximum of the 32 lanes in a fixed tree into lane 0. -/
  | vrmax (core : PhysCore) (vd : VReg) (va : VReg)
  /-- VCVTI (R98): Converts FP32 lanes to INT32 with ties to even and saturation. -/
  | vcvti (core : PhysCore) (vd : VReg) (va : VReg)
  /-- VCVTF (R98): Converts INT32 lanes to FP32 under R90. -/
  | vcvtf (core : PhysCore) (vd : VReg) (va : VReg)
  /-- VQUANT (R94): Quantises 32 FP32 lanes to one scaled block with its scale byte. -/
  | vquant (core : PhysCore) (vd : VReg) (va : VReg) (fmt : ScaledFmt) (sat : Bool)
  /-- VDEQUANT (R95): Expands one scaled block into 32 FP32 lanes. -/
  | vdequant (core : PhysCore) (vd : VReg) (va : VReg) (fmt : ScaledFmt)
  /-- VACC (R100): Contributes each FP32 lane to its long accumulator under AOP. -/
  | vacc (core : PhysCore) (va : VReg) (aop : AccOp) (row : AccRow)
  /-- MNOP (R120): The move slot does nothing. -/
  | mnop (core : PhysCore)
  /-- LDV (R120): Loads 128 bytes at the generator address into a vector register. -/
  | ldv (core : PhysCore) (vreg : VReg) (ag : AgRef) (found : List Upset)
  /-- STV (R120): Stores a vector register to 128 bytes at the generator address. -/
  | stv (core : PhysCore) (vreg : VReg) (ag : AgRef)
  /-- LDH (R120): Loads 32 16-bit elements and converts them exactly to FP32. -/
  | ldh (core : PhysCore) (vreg : VReg) (ag : AgRef) (fmt : HalfFmt) (found : List Upset)
  /-- STH (R98): Converts a register to a 16-bit format and stores 64 bytes. -/
  | sth (core : PhysCore) (vreg : VReg) (ag : AgRef) (fmt : HalfFmt) (sat : Bool)
  /-- LDQ (R120): Loads a scaled block and its scale byte in the VQUANT layout. -/
  | ldq (core : PhysCore) (vreg : VReg) (ag : AgRef) (fmt : ScaledFmt) (sag : AgRef) (found : List Upset)
  /-- STQ (R120): Stores a scaled block and its scale byte from the VQUANT layout. -/
  | stq (core : PhysCore) (vreg : VReg) (ag : AgRef) (fmt : ScaledFmt) (sag : AgRef)
  /-- RDACC (R85): Reads out an accumulator row to FP32 in one rounding. -/
  | rdacc (core : PhysCore) (vreg : VReg) (row : AccRow)
  /-- CLRACC (R120): Clears an accumulator row. -/
  | clracc (core : PhysCore) (row : AccRow)
  /-- ACFG (R120): Gives a row a new ACC_CFG entry and clears it. -/
  | acfg (core : PhysCore) (row : AccRow) (entry : Fin 512)
  /-- SETAG (R125): Loads an address generator from an AG_INIT entry with counters at 0. -/
  | setag (core : PhysCore) (ag : Fin 8) (entry : Fin 32768)
  /-- LDC (R120): Loads 128 bytes of a CONST entry into a vector register. -/
  | ldc (core : PhysCore) (vreg : VReg) (entry : Fin 32768)
  /-- DMA (R131): Issues a DMA descriptor on its tag, stalling if the tag is busy. -/
  | dma (core : PhysCore) (entry : Fin 4096)
  /-- DMA_COMPLETE (R131): A DMA tag completes when its last byte is written, or the job faults with DMA_ERROR. -/
  | dmaComplete (core : PhysCore) (tag : Fin 16) (err : Option Nat) (found : List Upset)
  /-- RED (R133): A core contributes its row to a quadrant or chip reduction. -/
  | red (core : PhysCore) (entry : Fin 512)
  /-- REDUCTION_COMPLETE (R133): A fixed 16 or 48 cycles after the last contributor, the result replaces the root's row. -/
  | reductionComplete (entry : Fin 512)
  /-- SNOP (R121): The synchronisation slot does nothing. -/
  | snop (core : PhysCore)
  /-- LOOP (R122): Opens a loop of ARG + 1 iterations. -/
  | loop (core : PhysCore) (arg : Fin 4096)
  /-- LOOPC (R121): Opens a loop whose count is a LOOP_COUNTS entry. -/
  | loopc (core : PhysCore) (entry : Fin 4096)
  /-- ENDL (R122): Closes the innermost loop, branching back at no cost. -/
  | endl (core : PhysCore)
  /-- BARQ (R136): A core arrives at a quadrant barrier. -/
  | barq (core : PhysCore) (ident : BitVec 8)
  /-- BARC (R136): A core arrives at a chip barrier. -/
  | barc (core : PhysCore) (ident : BitVec 8)
  /-- BARRIER_RELEASE (R136): A fixed 8 or 32 cycles after the last arrival the barrier releases and the ramp restarts. -/
  | barrierRelease (scope : Option Quad)
  /-- WAITD (R121): Stalls the core until a DMA tag is complete. -/
  | waitd (core : PhysCore) (tag : Fin 16)
  /-- PHASE (R389): Announces the governor phase of the job. -/
  | phase (core : PhysCore) (ph : Fin 8)
  /-- MARK (R121): Writes its argument to KCORE_MARK. -/
  | mark (core : PhysCore) (arg : BitVec 12)
  /-- END (R150): The core retires; when it is the last participant the job ends. -/
  | endStream (core : PhysCore)
  /-- CORE_START (R135): A core's ramp delay expires and it issues its first bundle. -/
  | coreStart (core : PhysCore)
  /-- KERMES_WATCHDOG (R150): A participating core retires no bundle for KG_WDOG × 1,024 cycles and the job ends FAULT WATCHDOG. -/
  | kermesWatchdog (core : PhysCore)
  /-- SUBMIT (R144): A write of KG_SUB_GO.SUBMIT enqueues the writer's submission values, or latches QUEUE_FULL. -/
  | submit (cls : Cls)
  /-- JOB_LOAD (R146): When idle, Kermes takes a queue head and the loader checks the container in order. -/
  | jobLoad
  /-- LOAD_COMPLETE (R148): Loading ends with streams, tables and SRAM images written, LATE decided, and the job waits for its tick. -/
  | loadComplete
  /-- LAUNCH (R134): At the named tick the launch strobe crosses into KRM and rank 0 starts after 24 cycles. -/
  | launch
  /-- COMPLETION_RECORD (R150): After the last DMA write lands, the 64-byte completion record is written and JOB_DONE or JOB_REFUSED raised. -/
  | completionRecord
  /-- HALT (R137): A write of KG_CTRL.HALT stops every core within 64 cycles, aborts the job and sets QHOLD. -/
  | halt (cls : Cls)
  /-- FENCE (R156): A write of KCORE_CTRL.FENCE fences the core with cause COMMAND. -/
  | fence (cls : Cls) (core : PhysCore)
  /-- CORE_FENCED (R157): A hardware fence cause stops the core, aborts its job, empties its slot and lowers ACT_CORES. -/
  | coreFenced (core : PhysCore) (cause : FenceCause)
  /-- UNFENCE (R161): An FWP write of KCORE_CTRL.UNFENCE starts self-test to return the core as spare. -/
  | unfence (cls : Cls) (core : PhysCore)
  /-- SELFTEST_DONE (R161): An unfenced core passes self-test and becomes the quadrant spare, or is fenced with SELFTEST. -/
  | selftestDone (core : PhysCore) (pass : Bool)
  /-- CLR_ARITH (R109): A write of KCORE_CTRL.CLR_ARITH clears the arithmetic status word. -/
  | clrArith (cls : Cls) (core : PhysCore)
  /-- SPARE_ACTIVATE (R159): A write of KQ_SPARE.ACTIVATE starts the spare into a slot, or latches SPARE_REFUSED. -/
  | spareActivate (cls : Cls) (quad : Quad) (slot : Fin 8)
  /-- SPARE_DONE (R159): Within 4 ms the spare passes self-test, holds the slot and ACT_CORES rises. -/
  | spareDone (quad : Quad) (pass : Bool)
  /-- PSTATE_ENTER (R153): Idle Kermes recomputes T and enters the deepest permitted power state. -/
  | pstateEnter
  /-- WAKE (R154): WAKE(s) plus guard before the next event, Kermes begins waking to K0. -/
  | wake
  /-- CORE_POWER_DOWN_DONE (R162): A core completes power-down and starts under any latched start request. -/
  | corePowerDownDone (core : PhysCore)
  /-- REPAIR_SLOT (R180): In its slot every 64 cycles, a bank performs one write-back, stale rebuild, poison rewrite or scrub. -/
  | repairSlot (core : PhysCore) (bank : Fin 16) (found : List Upset)
  /-- TIER_WRITE_BACK (R181): A corrected or uncorrectable tier line is rewritten within 1 ms at lowest priority. -/
  | tierWriteBack (line : BitVec 42)
  /-- PATROL_READ (R190): A tier channel issues its next patrol read at an even rate, counting a pass at the end. -/
  | patrolRead (chan : TierChan) (found : List Upset)
  /-- TIER_READY (R191): A tier channel finishes writing its lines and sets READY. -/
  | tierReady (chan : TierChan)
  /-- ROW_SPARING (R192): At the core's idle boundary a candidate SRAM row is copied to a spare, or the core is fenced SRAM_HARD. -/
  | rowSparing (core : PhysCore) (bank : Fin 16) (row : BitVec 14)
  /-- REMAP (R193): A control-state memory line is remapped to a spare line, or REMAP_FULL is raised. -/
  | remap (mem : CtrlMem) (line : Nat) (bad : BitVec 8)
  /-- CHANNEL_FENCE (R197): An FWP write of TC_CTRL.FENCE fences a tier channel, poisoning its granules. -/
  | channelFence (cls : Cls) (chan : TierChan)
  /-- FFY_LOAD (R209): A write of FFY_SET_GO.LOAD captures FFY_SET for loading at the next slot boundary. -/
  | ffyLoad (cls : Cls)
  /-- FRAME_SLOT (R213): At each multiple of 1,024 ticks a SYNC frame is sent on every enabled output. -/
  | frameSlot (reflection : Option Nat)
  /-- FRAME_ACCEPT (R216): A received frame with correct CRC and position is accepted and the follower measures its offset. -/
  | frameAccept (line : List Bool) (frac : Fin 8)
  /-- HOLDOVER (R218): A follower that stops accepting frames enters holdover. -/
  | holdover
  /-- VALID_LOST (R218): After 32 slots without an accepted frame, VALID falls. -/
  | validLost
  /-- ECHO_GO (R220): A write of FFY_CTRL.ECHO_GO starts cable calibration, or latches ECHO_BUSY. -/
  | echoGo (cls : Cls)
  /-- CAL_DONE (R220): After 64 echo pairs FFY_CABLE is set or CAL_FAIL set. -/
  | calDone
  /-- TRAY_SYNC_PULSE (R224): At each multiple of 2^20 ticks TRAY_SYNC is driven high for 16 ticks. -/
  | traySyncPulse (contention : Bool)
  /-- TIMEBASE_LOSS (R225): TIMEBASE_REF or TB lock is lost; the counter holds, LOCKED and VALID clear and frames stop. -/
  | timebaseLoss
  /-- TIMEBASE_LOCK_RETURN (R225): TB lock returns; a master resumes invalid, a follower steps at the next accepted frame. -/
  | timebaseLockReturn
  /-- POST (R233): A POST doorbell appends host-written receipts up to INDEX. -/
  | post (db : Doorbell)
  /-- VACK (R233): A VACK doorbell advances the consumed-verdict index. -/
  | vack (db : Doorbell)
  /-- ENABLE (R233): An ENABLE doorbell reads and checks the context and enables the queue. -/
  | enable (db : Doorbell)
  /-- DISABLE (R233): A DISABLE doorbell stops appends from the next cycle. -/
  | disable (db : Doorbell)
  /-- QUEUE_DISABLED (R233): After DISABLE, the queue becomes disabled once VDONE equals PROD. -/
  | queueDisabled (q : Queue)
  /-- ARM (R233): An ARM doorbell sends the queue's interrupt once, now or when VDONE reaches INDEX. -/
  | arm (db : Doorbell)
  /-- DISPATCH_PASS (R235): The queue manager notes undispatched receipts and visits queues in ascending index. -/
  | dispatchPass
  /-- RECEIPT_DISPATCH (R236): One receipt is read, sampled, journaled and passed to the witness or given NOT_SAMPLED. -/
  | receiptDispatch (q : Queue)
  /-- SEED_ROTATE (R239): A write of WIT_ROTATE.GO starts a new seed epoch and publishes the retiring seed. -/
  | seedRotate (cls : Cls)
  /-- REGISTER (R240): WIT_CMD REGISTER checks a container and begins hashing its PROGRAM and WEIGHTS digests. -/
  | register (cls : Cls) (slot : BitVec 8)
  /-- UNREGISTER (R240): WIT_CMD UNREGISTER returns a slot to EMPTY. -/
  | unregister (cls : Cls) (slot : BitVec 8)
  /-- SLOT_HASH_DONE (R240): Hashing ends and the slot becomes VALID, FAILED or stays STALE, raising CMD_DONE. -/
  | slotHashDone
  /-- WITNESS_SUBMIT (R242): A sampled receipt at the pending head is checked, its input copied and a witness job submitted. -/
  | witnessSubmit
  /-- WITNESS_VERDICT (R245): A witness job's outcome gives its verdict, retrying once after an abort or fault. -/
  | witnessVerdict
  /-- OUTPUT_DIGEST (R251): After a digested job ends COMPLETE the OUTPUT and RESULT digests are completed. -/
  | outputDigest
  /-- DIGEST_RECORD_WRITE (R253): A 192-byte digest record is written once the digest ring has room. -/
  | digestRecordWrite
  /-- BATCH_CLOSE (R254): A write of DGT_BATCH_CLOSE.CLOSE closes the open batch. -/
  | batchClose (cls : Cls)
  /-- BATCH_TIMEOUT (R254): DGT_BATCH_TIMEOUT ms after its first leaf a batch closes. -/
  | batchTimeout
  /-- BATCH_SIGN (R256): The ledger core signs a closed batch and writes its record to the batch ring. -/
  | batchSign
  /-- JOURNAL_ENABLE (R263): A rise of JRN_CTRL.EN opens the next unpinned slot, or slot 0 after a layout change. -/
  | journalEnable (cls : Cls)
  /-- JOURNAL_DISABLE (R263): A fall of JRN_CTRL.EN completes the entry in progress and starts sealing. -/
  | journalDisable (cls : Cls)
  /-- SEGMENT_SEAL (R263): The open segment is sealed with its SEAL digest, applying any PIN_PEND. -/
  | segmentSeal
  /-- PIN (R262): JRN_PIN_CMD PIN pins a sealed slot or sets PIN_PEND on the open one. -/
  | pin (cls : Cls) (slot : BitVec 10)
  /-- UNPIN (R262): JRN_PIN_CMD UNPIN clears a pin or PIN_PEND. -/
  | unpin (cls : Cls) (slot : BitVec 10)
  /-- REPLAY (R264): A write of WIT_RPL_GO.GO replays a journal entry on Kermes or an accelerator. -/
  | replay (cls : Cls) (target : Fin 16)
  /-- REPLAY_TIMEOUT (R264): No REPLAY_RSP within 10 s gives verdict ABORTED 0x40. -/
  | replayTimeout (port : Port) (tag : BitVec 16)
  /-- LOCKSTEP_ENABLE (R265): A rise of LKS_CFGi.EN clears the pair and starts comparison from START. -/
  | lockstepEnable (cls : Cls) (pair : Fin 4) (cfg : BitVec 32)
  /-- CHECKPOINT_TIMEOUT (R267): A member's checkpoint not arriving within LKS_TIMEOUT records a KIND 2 divergence. -/
  | checkpointTimeout (pair : Fin 4)
  /-- MEM_WR (R280): A received memory write is stored as full lines if inside the port window, else dropped. -/
  | memWr (port : Port) (unit : SilkUnit)
  /-- RCPT (R232): A received receipt is appended to its queue after earlier writes are visible, or refused. -/
  | rcpt (port : Port) (unit : SilkUnit)
  /-- CHKPT (R267): A received checkpoint is compared with the other member's, recording matches, divergences or overrun. -/
  | chkpt (port : Port) (unit : SilkUnit)
  /-- MEM_RD (R280): A received read request is answered with lines, or zeros with ERR outside the window. -/
  | memRd (port : Port) (unit : SilkUnit)
  /-- REPLAY_RSP (R284): A received replay response gives the replay verdict, or is dropped for an unknown tag. -/
  | replayRsp (port : Port) (unit : SilkUnit)
  /-- HALT_ACK (R295): A received halt acknowledgement sets SLK_STAT.HALTED. -/
  | haltAck (port : Port) (unit : SilkUnit)
  /-- CAP_ACK (R289): A received cap acknowledgement records the GEN applied and clears ACK_LATE. -/
  | capAck (port : Port) (unit : SilkUnit)
  /-- QUIESCE_ACK (R300): A received quiesce acknowledgement lets the shutdown proceed. -/
  | quiesceAck (port : Port) (unit : SilkUnit)
  /-- ALERT_INFO (R294): A received alert description is latched in SLK_ALERT. -/
  | alertInfo (port : Port) (unit : SilkUnit)
  /-- TELEMETRY (R293): A received telemetry unit is held in the SLK page. -/
  | telemetry (port : Port) (unit : SilkUnit)
  /-- INIT (R296): A received INIT is checked for version and credits, and the port goes UP with its first SET_CAP. -/
  | silkInit (port : Port) (unit : SilkUnit)
  /-- CREDIT (R277): A received CREDIT unit returns credits of each class. -/
  | credit (port : Port) (unit : SilkUnit) (retries : Nat) (corrected : Nat)
  /-- PORT_ENABLE (R296): A rise of SLK_CTRL.EN starts bring-up in WAIT_PWR, or is latched as RESTART_PEND while SHUTTING. -/
  | portEnable (cls : Cls) (port : Port)
  /-- BRANCH_POWER_GOOD_REPORT (R296): Carapace reports ACCp power good and the waiting port drives PG and pulls RESET_N. -/
  | branchPowerGoodReport (port : Port)
  /-- RST_HOLD_EXPIRY (R296): RST_HOLD expires, RESET_N is released and the port enters TRAINING. -/
  | rstHoldExpiry (port : Port)
  /-- LINK_UP (R296): The link reaches L0 and the port checks rate, width and Link Number and sends INIT. -/
  | linkUp (port : Port) (rateOk : Bool) (widthOk : Bool) (linkNo : BitVec 8)
  /-- TRAIN_TIMEOUT (R296): The link has not reached L0 within TRAIN_TO and the port goes DOWN. -/
  | trainTimeout (port : Port)
  /-- INIT_TIMEOUT (R296): No accelerator INIT within 1 ms and the port goes DOWN. -/
  | initTimeout (port : Port)
  /-- PORT_RETRY (R297): SLK_TIMING.RETRY after going DOWN the port tries again, or is fenced after MAX_ATTEMPTS. -/
  | portRetry (port : Port)
  /-- LINK_RECOVERY (R298): The link leaves L0; the port stays UP while recovery proceeds. -/
  | linkRecovery (port : Port)
  /-- RECOVERY_FAIL (R298): The link has not returned to L0 within 10 ms, or recovered too often, and the port goes DOWN. -/
  | recoveryFail (port : Port)
  /-- REMOVED (R299): Detect finds no receiver and the port goes DOWN with cause REMOVED. -/
  | removed (port : Port) (branchOff : Bool)
  /-- PORT_SHUTDOWN (R300): A write of SLK_CTRL.EN = 0 quiesces the accelerator and takes the port OFF. -/
  | portShutdown (cls : Cls) (port : Port)
  /-- QUIESCE_TIMEOUT (R300): No QUIESCE_ACK within 10 ms and the shutdown continues at step 2. -/
  | quiesceTimeout (port : Port)
  /-- RETRAIN (R303): A write of SLK_CTRL.RETRAIN takes the port DOWN with cause COMMAND and brings it up again. -/
  | retrain (cls : Cls) (port : Port)
  /-- SLK_HALT (R295): A write of SLK_CTRL.HALT sends HALT with reason 1, or latches HALT_NOT_UP. -/
  | slkHalt (cls : Cls) (port : Port)
  /-- SLK_RESUME (R295): A write of SLK_CTRL.RESUME sends RESUME and clears HALTED. -/
  | slkResume (cls : Cls) (port : Port)
  /-- HEART_TOGGLE (R291): Every 16.384 µs HEART toggles on an UP port. -/
  | heartToggle (port : Port)
  /-- TEL_STALE (R293): No TELEMETRY for 65.536 µs on an UP port raises TEL_STALE. -/
  | telStale (port : Port)
  /-- ALERT (R294): A falling edge of ALERT_N raises ALERT and acts under ALERT_ACT. -/
  | alert (port : Port)
  /-- ALERT_RELEASE (R290): ALERT_N rises and THROTTLE is re-evaluated. -/
  | alertRelease (port : Port)
  /-- RACK_LIMIT_ASSERT (R332): RACK_LIMIT_N falls; THROTTLE rises and the preset cap and MIN_STEP take hold within 1 µs. -/
  | rackLimitAssert
  /-- RACK_LIMIT_RELEASE (R332): RACK_LIMIT_N rises and THROTTLE follows. -/
  | rackLimitRelease
  /-- PRESET_WITHDRAW (R332): 1 ms after RACK_LIMIT_N returns high the preset is withdrawn and the governor resumes the step. -/
  | presetWithdraw
  /-- PERST (R307): PERST_N resets the host port and counts as driver loss. -/
  | perst
  /-- D3HOT_ENTRY (R307): Entry into D3hot counts as driver loss. -/
  | d3hotEntry
  /-- HOST_LINK_DOWN (R307): The host link goes down, counting as driver loss. -/
  | hostLinkDown
  /-- BAR2_READ (R310): A host read through BAR2 returns device memory, with the poisoned indication where poisoned. -/
  | bar2Read (bar : MemBar) (off : BitVec 36) (len : Nat) (found : List Upset)
  /-- BAR2_WRITE (R310): A host write through BAR2 writes device memory, merging narrow writes. -/
  | bar2Write (off : BitVec 36) (data : List Byte) (poisoned : Bool)
  /-- IDE_FAIL (R317): A TLP failing its integrity check makes the stream Insecure and is discarded. -/
  | ideFail
  /-- GET_CERTIFICATE (R317): SPDM GET_CERTIFICATE returns the responder key's certificate. -/
  | getCertificate
  /-- MB_DOORBELL (R318): A write of HST_MB_DB submits a mailbox request to the link core, or latches MB_SLOT. -/
  | mbDoorbell (cls : Cls) (slot : Fin 4)
  /-- MB_ACK (R318): A write of HST_MB_ACK frees a mailbox slot. -/
  | mbAck (cls : Cls) (slot : Fin 4)
  /-- HELLO (R322): HELLO negotiates version, features and heartbeat timeout and starts a session. -/
  | hello (slot : Fin 4)
  /-- GOODBYE (R320): GOODBYE sets DRIVER_LOST at once. -/
  | goodbye (slot : Fin 4)
  /-- GET_INFO (R442): GET_INFO returns slot, core, version and digest information. -/
  | getInfo (slot : Fin 4)
  /-- SET_HOST_CAP (R377): SET_HOST_CAP sets or withdraws the host cap and answers after the next tick. -/
  | setHostCap (slot : Fin 4)
  /-- SET_WALL_CLOCK (R457): SET_WALL_CLOCK sets calendar time at the next whole operating second. -/
  | setWallClock (slot : Fin 4)
  /-- WALL_CLOCK_APPLY (R457): At the next operating second SEP_CAL is set, CAL_SET rises and the answer is sent. -/
  | wallClockApply
  /-- SEPIA_CLEAR (R465): SEPIA_CLEAR checks a maintenance token and starts erasing its scope. -/
  | sepiaClear (slot : Fin 4)
  /-- CLEAR_DONE (R465): The clear ends with a CLEARED entry and CLEAR_DONE. -/
  | clearDone
  /-- PROFILE_WRITE (R483): PROFILE_WRITE checks a new tray profile and starts storing it. -/
  | profileWrite (slot : Fin 4)
  /-- PROFILE_STORED (R483): The sealed profile is written with CRC and VALID last, applying at once in the safe profile. -/
  | profileStored
  /-- FW_STAGE (R434): FW_STAGE copies an image into the inactive slot and checks it. -/
  | fwStage (slot : Fin 4)
  /-- UPD_DONE (R434): Staging ends with the slot STAGED or REJECTED and UPD_DONE raised. -/
  | updDone (flashErr : Bool)
  /-- ACTIVATE (R438): FW_ACTIVATE ACTIVATE makes the staged slot TRIAL and restarts the cores in order. -/
  | activate (slot : Fin 4)
  /-- CONFIRM (R441): FW_ACTIVATE CONFIRM commits the running trial. -/
  | confirm (slot : Fin 4)
  /-- CANCEL (R437): FW_ACTIVATE CANCEL withdraws a staged slot or pending activation and reverts restarted cores. -/
  | cancel (slot : Fin 4)
  /-- HB_WRITE (R324): A write of HST_HB renews the heartbeat and clears DRIVER_LOST after a HELLO. -/
  | hbWrite (cls : Cls)
  /-- DRIVER_LOST (R324): HST_HB_AGE reaches HB_TIMEOUT and DRIVER_LOST rises, withdrawing the host cap. -/
  | driverLost
  /-- HALT_KRM (R327): HST_STOP or RCK_STOP HALT_KRM halts Kermes as KG_CTRL.HALT. -/
  | haltKrm (cls : Cls) (path : StopPath)
  /-- HALT_ACC (R327): HST_STOP or RCK_STOP HALT_ACC sends HALT on every UP port. -/
  | haltAcc (cls : Cls) (path : StopPath)
  /-- DISPATCH_OFF (R327): HST_STOP.DISPATCH_OFF clears QMG_CTRL.DISPATCH. -/
  | dispatchOff (cls : Cls)
  /-- TRAY_DRIVE (R328): A write of TRAY_DRIVE pulls or releases TRAY_HALT_N. -/
  | trayDrive (cls : Cls) (path : StopPath) (pull : Bool)
  /-- TRAY_HALT (R328): TRAY_HALT_N low for 100 ns halts Kermes and sends HALT reason 4 on every UP port. -/
  | trayHalt (other : Bool)
  /-- ENTDAA (R329): The I3C dynamic address assignment gives the port an address. -/
  | entdaa (port : RackPort) (addr : BitVec 7)
  /-- SETDASA (R329): The I3C port takes a dynamic address from its static address. -/
  | setdasa (port : RackPort) (static : BitVec 7) (addr : BitVec 7)
  /-- SET_ENDPOINT_ID (R329): MCTP Set Endpoint ID assigns the port's EID. -/
  | setEndpointId (port : RackPort) (eid : BitVec 8)
  /-- GET_ENDPOINT_ID (R329): MCTP Get Endpoint ID returns the EID. -/
  | getEndpointId (port : RackPort)
  /-- GET_MCTP_VERSION_SUPPORT (R329): MCTP Get MCTP Version Support returns supported versions. -/
  | getMctpVersionSupport (port : RackPort)
  /-- GET_MESSAGE_TYPE_SUPPORT (R329): MCTP Get Message Type Support returns supported types. -/
  | getMessageTypeSupport (port : RackPort)
  /-- GET_TID (R330): PLDM GetTID returns the terminus ID. -/
  | getTid (port : RackPort)
  /-- GET_PLDM_VERSION (R330): PLDM GetPLDMVersion returns the version of a type. -/
  | getPldmVersion (port : RackPort) (type : BitVec 8)
  /-- GET_PLDM_TYPES (R330): PLDM GetPLDMTypes returns supported types. -/
  | getPldmTypes (port : RackPort)
  /-- GET_PLDM_COMMANDS (R330): PLDM GetPLDMCommands returns supported commands. -/
  | getPldmCommands (port : RackPort) (type : BitVec 8)
  /-- GET_PDR_REPOSITORY_INFO (R330): PLDM GetPDRRepositoryInfo returns repository information. -/
  | getPdrRepositoryInfo (port : RackPort)
  /-- GET_PDR (R330): PLDM GetPDR returns a PDR. -/
  | getPdr (port : RackPort) (handle : BitVec 32)
  /-- GET_SENSOR_READING (R330): PLDM GetSensorReading returns a numeric sensor reading. -/
  | getSensorReading (port : RackPort) (sensor : BitVec 16)
  /-- GET_STATE_SENSOR_READINGS (R330): PLDM GetStateSensorReadings returns state sensor readings. -/
  | getStateSensorReadings (port : RackPort) (sensor : BitVec 16)
  /-- GET_NUMERIC_EFFECTER_VALUE (R330): PLDM GetNumericEffecterValue returns an effecter value. -/
  | getNumericEffecterValue (port : RackPort) (effecter : Effecter)
  /-- SET_NUMERIC_EFFECTER_VALUE (R331): PLDM SetNumericEffecterValue writes RCK_CAP or RCK_PRESET as RACK. -/
  | setNumericEffecterValue (port : RackPort) (effecter : Effecter) (value : BitVec 32)
  /-- SET_STATE_EFFECTER_STATES (R331): PLDM SetStateEffecterStates writes RCK_STOP through TRAY_STOP. -/
  | setStateEffecterStates (port : RackPort) (stop : BitVec 3)
  /-- POLL_FOR_PLATFORM_EVENT_MESSAGE (R333): PLDM PollForPlatformEventMessage returns queued events, clearing EVENT after the last. -/
  | pollForPlatformEventMessage (port : RackPort)
  /-- QUERY_DEVICE_IDENTIFIERS (R330): PLDM QueryDeviceIdentifiers returns device identifiers. -/
  | queryDeviceIdentifiers (port : RackPort)
  /-- GET_FIRMWARE_PARAMETERS (R330): PLDM GetFirmwareParameters returns firmware parameters. -/
  | getFirmwareParameters (port : RackPort)
  /-- REQUEST_UPDATE (R334): PLDM RequestUpdate starts an update, or returns ALREADY_IN_UPDATE_MODE. -/
  | requestUpdate (port : RackPort)
  /-- PASS_COMPONENT_TABLE (R330): PLDM PassComponentTable passes the component table. -/
  | passComponentTable (port : RackPort) (table : List Byte)
  /-- UPDATE_COMPONENT (R434): PLDM UpdateComponent begins transfer of the image into the inactive slot. -/
  | updateComponent (port : RackPort) (image : List Byte)
  /-- TRANSFER_COMPLETE (R330): PLDM TransferComplete reports the end of transfer. -/
  | transferComplete (port : RackPort)
  /-- VERIFY_COMPLETE (R434): PLDM VerifyComplete reports the check of the staged image. -/
  | verifyComplete (port : RackPort) (flashErr : Bool)
  /-- APPLY_COMPLETE (R330): PLDM ApplyComplete reports the image applied to the slot. -/
  | applyComplete (port : RackPort)
  /-- ACTIVATE_FIRMWARE (R437): PLDM ActivateFirmware activates the staged slot as ACTIVATE does. -/
  | activateFirmware (port : RackPort)
  /-- GET_STATUS (R330): PLDM GetStatus returns the update status. -/
  | getStatus (port : RackPort)
  /-- CANCEL_UPDATE (R435): PLDM CancelUpdate cancels the update with code CANCELLED. -/
  | cancelUpdate (port : RackPort)
  /-- CARAPACE_SAMPLE (R341): Every 2 µs Carapace samples currents and voltages and drives the curve, thermal model, power good and comparisons. -/
  | carapaceSample (sample : CrpSample)
  /-- FEED_QUAL (R342): A feed's V_IN enters 54–62 V and the feed starts qualifying. -/
  | feedQual (feed : Feed)
  /-- FEED_READY (R342): V_IN stays in range for CF_CFG.QUAL and the feed becomes READY. -/
  | feedReady (feed : Feed)
  /-- FEED_OV (R342): V_IN above 66 V for 100 µs sets OV and opens or transfers the feed. -/
  | feedOv (feed : Feed)
  /-- FEED_EN (R343): A write of CF_CTRL.EN enables feed selection or opens the closed feed. -/
  | feedEn (cls : Cls) (en : Bool)
  /-- FEED_CLOSE (R343): With no feed closed, Carapace selects a READY feed and drives its gate soft or hard. -/
  | feedClose
  /-- FEED_UV (R344): V_IN below UV for 5 µs fails the closed feed. -/
  | feedUv (feed : Feed)
  /-- FEED_REVERSE (R344): An analogue comparator pulls the gate when V_IN falls below V_BUS − 0.5 V. -/
  | feedReverse (feed : Feed)
  /-- FEED_RETURN (R345): With RETURN = 1, after QUAL of primary READY and other CLOSED, the bus transfers back to the primary. -/
  | feedReturn
  /-- FEED_SWITCH (R345): A write of CF_CTRL.SWITCH transfers to the other feed, or latches NO_FEED. -/
  | feedSwitch (cls : Cls)
  /-- FEED_CLEAR (R347): A write of CF_CTRL.CLEAR returns TRIPPED feeds to OPEN. -/
  | feedClear (cls : Cls)
  /-- FEED_INST (R347): The feed instantaneous comparator trips the feed within 1 µs. -/
  | feedInst (feed : Feed) (peak : Nat)
  /-- BUS_LOSS (R346): No feed has been CLOSED for 40 µs, and every RAMP or ON branch goes SHUTTING with restart latched. -/
  | busLoss
  /-- BRANCH_EN (R350): A write of CB_CTRL.EN enables a branch into WAIT or shuts it down, with checks. -/
  | branchEn (cls : Cls) (branch : Branch) (en : Bool)
  /-- BRANCH_CLEAR (R349): A write of CB_CTRL.CLEAR returns LOCKOUT or GATE_FAULT to OFF. -/
  | branchClear (cls : Cls) (branch : Branch)
  /-- CURVE_LOAD (R357): A write of CB_CTRL.CURVE_LOAD validates the shadow curve and makes it live. -/
  | curveLoad (cls : Cls) (branch : Branch)
  /-- RAMP_START (R352): A WAIT branch meeting every condition takes a free ramp slot and enters RAMP. -/
  | rampStart (branch : Branch)
  /-- GATE_STUCK (R353): V_GS has not reached VGS_MIN within GS_TO and the branch goes GATE_FAULT. -/
  | gateStuck (branch : Branch)
  /-- RAMP_LAG (R353): V_OUT 5 V below the ramp reference for 100 µs trips the branch. -/
  | rampLag (branch : Branch)
  /-- RAMP_TIMEOUT (R353): The branch has not reached ON within 2 × V_BUS / SLEW + 5 ms and trips. -/
  | rampTimeout (branch : Branch)
  /-- POWER_GOOD (R354): V_GS ≥ 9 V with V_DS < 100 mV for 200 µs raises power good and enters ON. -/
  | powerGood (branch : Branch)
  /-- POWER_GOOD_LOSS (R354): V_GS < 8.5 V or V_DS ≥ 250 mV for 20 µs drops power good. -/
  | powerGoodLoss (branch : Branch)
  /-- GATE_COLLAPSE (R355): V_GS below 3 V for 10 µs while ON removes drive and latches GATE_FAULT. -/
  | gateCollapse (branch : Branch)
  /-- BRANCH_INST (R359): The branch comparator pulls the gate within 1 µs of crossing CB_IINST. -/
  | branchInst (branch : Branch)
  /-- BACKOFF_EXPIRY (R362): The retry timer reaches zero and the branch goes to WAIT. -/
  | backoffExpiry (branch : Branch)
  /-- RETRY_RESET (R362): After RESET_S seconds ON, RETRIES returns to 0. -/
  | retryReset (branch : Branch)
  /-- SHUTDOWN_COMPLETE (R364): SHUTTING ends at V_GS < 1 V and V_OUT < 5 V, or after 500 ms with OUT_HELD. -/
  | shutdownComplete (branch : Branch) (held : Bool)
  /-- CARAPACE_FRAME (R367): A valid frame arrives on the Carapace link, ending any silence with a full state exchange. -/
  | carapaceFrame (valid : Bool) (ack : Bool)
  /-- HOLD_FRAME (R431): While the power core restarts, link hardware sends a hold frame every 100 µs. -/
  | holdFrame
  /-- LINK_SILENCE (R367): 1 ms without a valid frame makes the keeper hold every gate and pull CRP_ALERT_N. -/
  | linkSilence
  /-- KEEPER_SAFE_DUTY (R367): After 5 s of silence each fan duty rises to at least FAN_SAFE. -/
  | keeperSafeDuty
  /-- GOVERNOR_TICK (R373): Every 10 µs the governor forms its quantities, caps, budget, accelerator caps and KRM step. -/
  | governorTick (fresh : Bool)
  /-- KRM_STEP_UP (R384): After 100 µs with K below K_ALLOW − HYST, the step rises by one. -/
  | krmStepUp
  /-- YIELD_END (R385): After 1 ms of headroom without emergency the witness yield ends. -/
  | yieldEnd
  /-- AVSBUS_READ (R373): Every 100 µs the MAIN rail output power is read over AVSBus. -/
  | avsbusRead (watts : Nat)
  /-- MISMATCH (R388): 100 disagreeing ticks move an accelerator from TRUST to MISMATCH. -/
  | mismatch (acc : Port)
  /-- DISTRUST (R388): 10,000 disagreeing ticks move MISMATCH to DISTRUST. -/
  | distrust (acc : Port)
  /-- TRUST_RESTORED (R388): Enough agreeing ticks return an accelerator to TRUST. -/
  | trustRestored (acc : Port)
  /-- RETRUST (R388): A write of GA_CTRL.RETRUST returns DISTRUST to TRUST. -/
  | retrust (cls : Cls) (acc : Port)
  /-- ACK_LATE (R387): No CAP_ACK within 100 µs sets ACK_LATE and THR on the port. -/
  | ackLate (acc : Port)
  /-- NO_MEAS (R393): Readings missing for 20 µs stop cap and step rises and set NO_MEAS. -/
  | noMeas
  /-- DUTY_COMPOSE (R398): Every 10 ms each channel's applied duty is composed from base, minimum, floors, boosts and shutdown. -/
  | dutyCompose (vRail : Nat) (iRail : Nat)
  /-- FAN_EN (R404): A write of LCW_CHn_CTRL.EN starts a spin-up or stops the channel. -/
  | fanEn (cls : Cls) (chan : FanChan) (en : Bool)
  /-- FAN_CLEAR (R402): A write of LCW_CHn_CTRL.CLEAR returns a STALLED channel to OFF and starts a spin-up. -/
  | fanClear (cls : Cls) (chan : FanChan)
  /-- SPINUP_END (R402): After 2 s of spin-up the channel goes to RUN or PROBE. -/
  | spinupEnd (chan : FanChan)
  /-- PROBE_END (R401): After the 2 s ripple probe the channel goes to RUN with TACH_LOST, RETRY_WAIT or STALLED. -/
  | probeEnd (chan : FanChan) (ripple : Nat)
  /-- RETRY_WAIT_END (R402): After 5 s off the channel spins up again with ATTEMPT incremented. -/
  | retryWaitEnd (chan : FanChan)
  /-- TACH_TIMEOUT (R402): No tach period for 1 s of on-time sends a running channel to PROBE. -/
  | tachTimeout (chan : FanChan)
  /-- TACH_RECOVERED (R403): Ten valid tach periods clear TACH_LOST and ATTEMPT. -/
  | tachRecovered (chan : FanChan)
  /-- STOPPING_END (R404): The channel reaches its off threshold and goes OFF or starts a latched spin-up. -/
  | stoppingEnd (chan : FanChan)
  /-- COMMISSION (R405): A write of LCW_CTRL.COMMISSION starts commissioning every running channel. -/
  | commission (cls : Cls)
  /-- COMMISS_DONE (R405): Commissioning ends and its record is stored. -/
  | commissDone (points : List CommissPoint)
  /-- AGEING_EVALUATION (R406): The climate core evaluates a steady channel's duty ratio and sets AGEING after three high ratios. -/
  | ageingEvaluation (chan : FanChan)
  /-- THERMISTOR_CONVERSION (R407): Every millisecond each thermistor is converted and classified. -/
  | thermistorConversion (vsnsOk : Bool) (readings : List ThReading)
  /-- SENSOR_FAULT_CLEAR (R407): A fault class clears after its time in range. -/
  | sensorFaultClear (th : Therm)
  /-- POWER_STEP_CHECK (R408): The climate core checks a thermistor's response to its branch's power steps, setting or clearing STUCK. -/
  | powerStepCheck (th : Therm) (step : Int) (move : Int)
  /-- VSNS_FAULT (R396): VSNS_1P8 out of range for 100 µs classes every thermistor OPEN. -/
  | vsnsFault
  /-- DRIP_CLASSIFY (R410): Every 10 ms each enabled rope's voltage is classified. -/
  | dripClassify (readings : List DripReading)
  /-- DRIP_CLASS_CHANGE (R410): A rope class held for 2 s takes effect, raising WET or DRIP_FAULT. -/
  | dripClassChange (rope : Rope)
  /-- SHDN_ASSERT (R411): A critical reading or WET rope asserts SYS_SHDN_N and shuts the ACC and AUXN branches. -/
  | shdnAssert
  /-- REL_OK (R413): After 1 s of safe readings REL_OK rises. -/
  | relOk
  /-- SHDN_RELEASE_WRITE (R413): A write of HZ_SHDN_REL advances the release sequence; the third releases SYS_SHDN_N. -/
  | shdnReleaseWrite (cls : Cls) (value : BitVec 32)
  /-- REL_SEQ (R413): A gap of over 100 ms between release writes restarts the sequence and latches REL_SEQ. -/
  | relSeq
  /-- TABLE_MODE_ENTRY (R415): Heartbeat age, climate core loss or TABLE_FORCE puts the fans in autonomous table mode. -/
  | tableModeEntry
  /-- RESUME (R415): An FWC write of LCW_CTRL.RESUME ends table mode when no cause remains. -/
  | resume (cls : Cls)
  /-- TBL_LOAD (R416): A write of LCW_CTRL.TBL_LOAD validates the shadow table and makes it live. -/
  | tblLoad (cls : Cls)
  /-- ALWAYS_RESET (R469): VAON rails drop and the conductor die's ALWAYS domain enters reset. -/
  | alwaysReset
  /-- ROM_BOOT (R425): The ALWAYS domain leaves reset; ROM checks and loads the active image and releases the cores. -/
  | romBoot
  /-- PROFILE_VALIDATE (R480): The power core checks the tray profile and applies it, or enters the safe profile. -/
  | profileValidate
  /-- MAIN_POWER_UP (R473): Once HOST is ON, the power core asserts MAIN_PWR_EN. -/
  | mainPowerUp
  /-- MAIN_POWER_GOOD (R473): MAIN_PWR_GOOD rises; tiers initialise, the host port trains and Silk ports are enabled. -/
  | mainPowerGood (failed : List ChanFail)
  /-- MAIN_PWR_TIMEOUT (R471): MAIN_PWR_GOOD has not risen 50 ms after MAIN_PWR_EN and the power core deasserts it. -/
  | mainPwrTimeout
  /-- MAIN_RETRY (R471): 1 s after a failed MAIN power-up the power core tries again. -/
  | mainRetry
  /-- MAIN_RECOVERY (R472): After a MAIN loss and the waits, the power core reasserts MAIN_PWR_EN. -/
  | mainRecovery
  /-- CORE_WATCHDOG (R429): A firmware core's watchdog expires and the core restarts. -/
  | coreWatchdog (core : FwCore)
  /-- CORE_EXCEPTION (R429): An unhandled exception restarts a firmware core. -/
  | coreException (core : FwCore)
  /-- SECTION_DIGEST_FAIL (R429): A failed digest check of a resident section restarts the core with a reload. -/
  | sectionDigestFail (core : FwCore)
  /-- CORE_RESTART (R429): A write of FWC_CORE_CTRL.RESTART restarts the core and clears its fault count. -/
  | coreRestart (cls : Cls) (core : FwCore)
  /-- CORE_HALT (R430): A write of FWC_CORE_CTRL.HALT halts a core with outputs held. -/
  | coreHalt (cls : Cls) (core : FwCore)
  /-- CORE_RUN (R430): A write of FWC_CORE_CTRL.RUN resumes a halted core. -/
  | coreRun (cls : Cls) (core : FwCore)
  /-- CORE_RESTART_DONE (R429): A restart completes with the core RUNNING, starting any latched restart or next activation core. -/
  | coreRestartDone (core : FwCore)
  /-- PWR_PENDING_RELEASE (R439): After EMERGENCY has been 0 for 10 s, the pending power core restarts into the new slot. -/
  | pwrPendingRelease
  /-- TRIAL_EXPIRY (R441): The trial period ends and the slot commits or reverts. -/
  | trialExpiry
  /-- TRACE_POINT (R446): A core reaches an enabled trace point, counting, recording and logging it. -/
  | tracePoint (point : BitVec 8) (arg : BitVec 32)
  /-- LOG_RECORD (R444): A core appends a log record to the ring. -/
  | logRecord (core : FwCore) (level : Fin 5) (body : List Byte)
  /-- SEPIA_SAMPLE (R451): Once per second each enabled kind takes a sample into its histogram. -/
  | sepiaSample (samples : List SepSample)
  /-- SEPIA_INTERVAL_CLOSE (R453): At each SEP_PERIOD the kinds' accumulators move to pending sets, merging if needed. -/
  | sepiaIntervalClose
  /-- FLUSH (R453): A write of SEP_CTRL.FLUSH closes every interval with PARTIAL. -/
  | flush (cls : Cls)
  /-- SEPIA_RECORD_WRITE (R456): The ledger core writes a pending record into the next slot. -/
  | sepiaRecordWrite (verifyFail : Bool)
  /-- OPSEC_COMMIT (R450): Every 15 minutes operating seconds are committed to the counter journal. -/
  | opsecCommit
  /-- ACTION_ENTRY_WRITE (R461): The ledger core writes a safety action entry after its POST readings. -/
  | actionEntryWrite (pre : List Half) (post : List Half)
  /-- TACH_PERIOD (R399): A falling edge on FAN_TACH completes a tach period within one on-period, updating the speed and T_last and moving a SPINUP channel to RUN. -/
  | tachPeriod (chan : FanChan) (periodUs : Nat)
  /-- HOST_LINK_UP (R304): The host port link reaches L0 after training or PERST_N release, setting HST_LINK rate, width and UP and raising LINK_CHG. -/
  | hostLinkUp (rate : Fin 8) (width : Fin 16) (cfg : PciCfg)
  /-- LINK_RECOVERY_EXIT (R298): A Silk link in Recovery returns to L0 while the port stays UP, and waiting CONTROL units such as SET_CAP are sent. -/
  | linkRecoveryExit (port : Port)
  /-- PLL_LOCK_RETURN (R23): A PLL regains lock, its CLK_STAT lock bit rises and the FW domain leaves its fallback oscillator. -/
  | pllLockReturn (dom : ClkDomain)
  /-- TIER_TEMP_READ (R170): Every 1 ms each near-tier stack and bulk module temperature is read into TC_TEMP. -/
  | tierTempRead (temps : List TierTemp)
  /-- DEFERRED_COMMIT (R499): A trial whose AUTO_CONFIRM commit was deferred by an emergency commits once EMERGENCY has been 0 for 10 s without a break. -/
  | deferredCommit
  /-- SPDM_KEY_EXCHANGE (R317): An SPDM 1.2 message over DOE establishes the secure session within which IDE_KM runs. -/
  | spdmKeyExchange
  /-- IDE_KM_KEY_SET (R317): IDE_KM messages over DOE program and activate Link IDE keys, making the stream secure and setting IDE_ON. -/
  | ideKmKeySet
  /-- CREDIT_RETURN (R277): The FX9 sends a CREDIT unit for freed receive blocks, at most every 256 ns and at least every 1 µs while credits are owed. -/
  | creditReturn (port : Port)
  /-- WAKE_DONE (R154): The wake time of a Kermes idle state ends, the cores reach K0 and KG_STAT.WAKING clears, letting a job with no tick launch. -/
  | wakeDone
deriving DecidableEq, Repr

end Sys2Proof
end

