-- ==== Sys2Proof/Config.lean ====
section
/-! DEFINITION. The free values: constants without a body, so that nothing proved of the model rests on a value the spec
leaves open (log 1). A counter in State (`free`) is applied to them and advances at each use. -/

namespace Sys2Proof.Config

/-- A 64-bit value that nothing constrains: entropy (R239), a nonce (R464), and the like. -/
opaque freeWord : Nat → DWord

/-- A duration that the spec does not fix, in Kermes cycles (R205: transfers that leave the chip). -/
opaque freeCycles : Nat → Nat

/-- What the RS(10,8) decoder makes of a codeword with two or more wrong symbols (R176, log 95). -/
opaque rsFree : BitVec 80 → BitVec 32

/-- Whether a fan channel's switch is on in the `w`-th 20 ms window of its ripple probe's pseudo-random pattern, which the
spec does not give (R401). -/
opaque probeOn : Nat → Nat → Bool

/-- The secret seed of the identity key, which stays in the key store (R255, log 15). -/
opaque identitySeed : BitVec 256

/-- The secret that makes the randomness of its signatures. -/
opaque identityPrf : BitVec 256

/-- The `n`-th signature of the SPDM responder with its key (R317): over a transcript of the standard that no row carries. -/
opaque ecdsaP384 : List (BitVec 8) → Nat → BitVec 768

end Sys2Proof.Config
end

