-- ==== Sys2Proof/Machine/Regs.lean ====
section
/-! DEFINITION. The register pages of the spec's register tables: for each page kind its place, its domain and its
ACCESS_MASK reset (R36, R54), and for each register its offset, its reset value and its fields with their access codes
and owners. Field constants carry the manual's names. -/

namespace Sys2Proof.Machine

/-- Access codes of R8. -/
inductive Access where
  | ro | rw | w1c | w1s | wo | rc
deriving DecidableEq, Repr

/-- The page kinds of R36. -/
inductive PageKind where
  | gen
  | acc
  | krmcore
  | krmquad
  | krmglob
  | ntrchan
  | ntrglob
  | blkchan
  | blkglob
  | int
  | ffy
  | clk
  | wit
  | dgt
  | jrn
  | lks
  | qmg
  | slk
  | hst
  | rck
  | crpglob
  | crpfeed
  | crpbr
  | govglob
  | govacc
  | lcwglob
  | lcwchan
  | hzdsens
  | hzddrip
  | fwc
  | fwl
  | trc
  | sep
  | sepwin
  | alg
deriving DecidableEq, Repr

/-- A field of a register: lowest bit, width, access code, owning classes (bit i = class code i; 0 = unowned), and the
range outside which a written value is dropped with the page's range error. -/
structure FRow where
  lo  : Nat
  w   : Nat
  acc : Access
  own : Nat := 0
  rng : Option (Nat × Nat) := none
deriving DecidableEq, Repr

/-- A register or an array of `n` registers of `sub` words each at `stride`; `pair` a _LO/_HI pair. `hi` and `lom` are
the bits the halves of a pair hold. `percls` one copy per class, `fenced` writable while fenced, `zero` 0 is also in range. -/
structure RRow where
  off    : Nat
  rst    : Nat
  fields : List FRow
  n      : Nat := 1
  stride : Nat := 4
  sub    : Nat := 1
  pair   : Bool := false
  hi     : Nat := 0xFFFFFFFF
  lom    : Nat := 0xFFFFFFFF
  percls : Bool := false
  fenced : Bool := false
  zero   : Bool := false
deriving DecidableEq, Repr

/-- A page kind: first page, number of instances, block code, ACCESS_MASK reset, whether in MAIN, whether SOFT_RESET is
ignored (R44), the block error code of a value out of range (0: none named), its registers. -/
structure PRow where
  kind   : PageKind
  page   : Nat
  n      : Nat
  code   : Nat
  mask   : Nat
  main   : Bool
  nosr   : Bool
  rngErr : Nat
  regs   : List RRow
deriving DecidableEq, Repr

/-- A named field: offset of its register in the page, lowest bit, width. -/
structure Fld where
  off : Nat
  lo  : Nat
  w   : Nat
deriving DecidableEq, Repr

/-! ### The common header (R41) -/

def PAGE_CTRL_ENABLE : Fld := ⟨0x10, 0, 1⟩
def PAGE_CTRL_SOFT_RESET : Fld := ⟨0x10, 1, 1⟩
def PAGE_STAT_READY : Fld := ⟨0x14, 0, 1⟩
def PAGE_STAT_BUSY : Fld := ⟨0x14, 1, 1⟩
def PAGE_STAT_FAULT : Fld := ⟨0x14, 2, 1⟩
def PAGE_STAT_FENCED : Fld := ⟨0x14, 3, 1⟩
def IRQ_STAT : Fld := ⟨0x18, 0, 32⟩
def IRQ_EN : Fld := ⟨0x1C, 0, 32⟩
def ERR_CODE_CODE : Fld := ⟨0x24, 0, 16⟩
def ERR_CODE_MORE : Fld := ⟨0x24, 16, 16⟩
def ERR_INFO_DETAIL : Fld := ⟨0x28, 0, 28⟩
def ERR_INFO_REQ : Fld := ⟨0x28, 28, 4⟩
def ACCESS_MASK : Fld := ⟨0x30, 0, 7⟩
def PAGE_SEQ : Fld := ⟨0x34, 0, 32⟩

/-! ### GEN (02_register_pages_access.md, R60) -/

/-- Page base. -/
def pGEN : Nat := 0x0
def GEN_FAMILY_MEMBER : Fld := ⟨0x100, 28, 4⟩
def GEN_FAMILY_STEP_LTR : Fld := ⟨0x100, 24, 4⟩
def GEN_FAMILY_STEP_NUM : Fld := ⟨0x100, 20, 4⟩
def GEN_FAMILY_PHYS_CORES : Fld := ⟨0x100, 14, 6⟩
def GEN_FAMILY_ACT_CORES : Fld := ⟨0x100, 8, 6⟩
def GEN_FAMILY_NT_STACKS : Fld := ⟨0x100, 5, 3⟩
def GEN_FAMILY_BK_CHANNELS : Fld := ⟨0x100, 0, 5⟩
def GEN_MODE_STRICT_ACT : Fld := ⟨0x104, 9, 1⟩
def GEN_MODE_STRICT_PEND : Fld := ⟨0x104, 8, 1⟩
def GEN_MODE_ENTROPY_SEED : Fld := ⟨0x104, 4, 1⟩
def GEN_MODE_BK_REORDER : Fld := ⟨0x104, 3, 1⟩
def GEN_MODE_FAST_REDUCE : Fld := ⟨0x104, 2, 1⟩
def GEN_MODE_BALANCE : Fld := ⟨0x104, 1, 1⟩
def GEN_MODE_STRICT : Fld := ⟨0x104, 0, 1⟩
def GEN_STATE_DRIVER_LOST : Fld := ⟨0x108, 8, 1⟩
def GEN_STATE_SHDN : Fld := ⟨0x108, 7, 1⟩
def GEN_STATE_CORES_FENCED : Fld := ⟨0x108, 6, 1⟩
def GEN_STATE_SINGLE_FEED : Fld := ⟨0x108, 5, 1⟩
def GEN_STATE_FW_UPDATE : Fld := ⟨0x108, 4, 1⟩
def GEN_STATE_EMERGENCY : Fld := ⟨0x108, 3, 1⟩
def GEN_STATE_SAFE_PROFILE : Fld := ⟨0x108, 2, 1⟩
def GEN_STATE_AUTONOMOUS : Fld := ⟨0x108, 1, 1⟩
def GEN_STATE_MAIN_ON : Fld := ⟨0x108, 0, 1⟩
def GEN_UID : Fld := ⟨0x10C, 0, 32⟩

def rowsGEN : List RRow := [
  { off := 0x100, rst := 0x90090000, fields := [] },
  { off := 0x104, rst := 0x1E, fields := [⟨4, 1, .rw, 0, none⟩, ⟨3, 1, .rw, 0, none⟩, ⟨2, 1, .rw, 0, none⟩, ⟨1, 1, .rw, 0, none⟩, ⟨0, 1, .rw, 0, none⟩] },
  { off := 0x108, rst := 0x0, fields := [] },
  { off := 0x10C, rst := 0x0, fields := [], pair := true }]

/-! ### ACC (02_register_pages_access.md, R65) -/

/-- Page base. -/
def pACC : Nat := 0x10000
def ACC_WHOAMI_LEVEL : Fld := ⟨0x100, 4, 3⟩
def ACC_WHOAMI_REQ : Fld := ⟨0x100, 0, 4⟩
def ACC_DENY_CNT : Fld := ⟨0x104, 0, 32⟩
def ACC_DENY_ADDR : Fld := ⟨0x108, 0, 26⟩
def ACC_DENY_INFO_REASON : Fld := ⟨0x10C, 8, 2⟩
def ACC_DENY_INFO_REQ : Fld := ⟨0x10C, 0, 4⟩

def rowsACC : List RRow := [
  { off := 0x100, rst := 0x0, fields := [] },
  { off := 0x104, rst := 0x0, fields := [⟨0, 32, .rc, 0, none⟩] },
  { off := 0x108, rst := 0x0, fields := [] },
  { off := 0x10C, rst := 0x0, fields := [] }]

/-! ### KRMCORE (04_kermes_execution.md, R163) -/

/-- Page base. -/
def pKRMCORE (i : Nat) : Nat := 0x100000 + i * 0x10000
def KCORE_CTRL_CLR_ARITH : Fld := ⟨0x100, 2, 1⟩
def KCORE_CTRL_UNFENCE : Fld := ⟨0x100, 1, 1⟩
def KCORE_CTRL_FENCE : Fld := ⟨0x100, 0, 1⟩
def KCORE_STAT_LOGICAL : Fld := ⟨0x104, 16, 6⟩
def KCORE_STAT_RESTART_PEND : Fld := ⟨0x104, 7, 1⟩
def KCORE_STAT_SHUTTING : Fld := ⟨0x104, 6, 1⟩
def KCORE_STAT_SPARE : Fld := ⟨0x104, 5, 1⟩
def KCORE_STAT_RUNNING : Fld := ⟨0x104, 4, 1⟩
def KCORE_STAT_PSTATE : Fld := ⟨0x104, 0, 2⟩
def KCORE_ARITH : Fld := ⟨0x108, 0, 32⟩
def KCORE_FCAUSE_CAUSE : Fld := ⟨0x10C, 0, 8⟩
def KCORE_PC_PC : Fld := ⟨0x110, 0, 14⟩
def KCORE_MARK_MARK : Fld := ⟨0x114, 0, 12⟩
def KCORE_BSTALL : Fld := ⟨0x118, 0, 32⟩
def KCORE_DSTALL : Fld := ⟨0x11C, 0, 32⟩
def KCORE_CYC : Fld := ⟨0x120, 0, 32⟩

def rowsKRMCORE : List RRow := [
  { off := 0x100, rst := 0x0, fields := [⟨2, 1, .w1s, 0, none⟩, ⟨1, 1, .w1s, 2, none⟩, ⟨0, 1, .w1s, 0, none⟩], fenced := true },
  { off := 0x104, rst := 0x0, fields := [] },
  { off := 0x108, rst := 0x0, fields := [] },
  { off := 0x10C, rst := 0x0, fields := [] },
  { off := 0x110, rst := 0x0, fields := [] },
  { off := 0x114, rst := 0x0, fields := [] },
  { off := 0x118, rst := 0x0, fields := [] },
  { off := 0x11C, rst := 0x0, fields := [] },
  { off := 0x120, rst := 0x0, fields := [], pair := true }]

/-! ### KRMQUAD (04_kermes_execution.md, R163) -/

/-- Page base. -/
def pKRMQUAD (i : Nat) : Nat := 0x340000 + i * 0x10000
def KQ_MAP_SLOT0 : Fld := ⟨0x100, 0, 4⟩
def KQ_MAP_SLOT1 : Fld := ⟨0x100, 4, 4⟩
def KQ_MAP_SLOT2 : Fld := ⟨0x100, 8, 4⟩
def KQ_MAP_SLOT3 : Fld := ⟨0x100, 12, 4⟩
def KQ_MAP_SLOT4 : Fld := ⟨0x100, 16, 4⟩
def KQ_MAP_SLOT5 : Fld := ⟨0x100, 20, 4⟩
def KQ_MAP_SLOT6 : Fld := ⟨0x100, 24, 4⟩
def KQ_MAP_SLOT7 : Fld := ⟨0x100, 28, 4⟩
def KQ_SPARE_BUSY : Fld := ⟨0x104, 8, 1⟩
def KQ_SPARE_SPARE : Fld := ⟨0x104, 4, 4⟩
def KQ_SPARE_ACTIVATE : Fld := ⟨0x104, 3, 1⟩
def KQ_SPARE_SLOT : Fld := ⟨0x104, 0, 3⟩
def KQ_BAR_LAST_ID : Fld := ⟨0x108, 8, 8⟩
def KQ_BAR_ARRIVED : Fld := ⟨0x108, 0, 8⟩

def rowsKRMQUAD : List RRow := [
  { off := 0x100, rst := 0x76543210, fields := [] },
  { off := 0x104, rst := 0x80, fields := [⟨3, 1, .w1s, 0, none⟩, ⟨0, 3, .rw, 0, none⟩] },
  { off := 0x108, rst := 0x0, fields := [] }]

/-! ### KRMGLOB (04_kermes_execution.md, R163) -/

/-- Page base. -/
def pKRMGLOB : Nat := 0x380000
def KG_CTRL_MAX_STATE : Fld := ⟨0x100, 6, 2⟩
def KG_CTRL_LATE_POLICY : Fld := ⟨0x100, 5, 1⟩
def KG_CTRL_FENCE_POLICY : Fld := ⟨0x100, 3, 2⟩
def KG_CTRL_QHOLD : Fld := ⟨0x100, 1, 1⟩
def KG_CTRL_HALT : Fld := ⟨0x100, 0, 1⟩
def KG_STAT_WQ_DEPTH : Fld := ⟨0x104, 16, 5⟩
def KG_STAT_HQ_DEPTH : Fld := ⟨0x104, 11, 5⟩
def KG_STAT_CRING_FULL : Fld := ⟨0x104, 10, 1⟩
def KG_STAT_WAKING : Fld := ⟨0x104, 9, 1⟩
def KG_STAT_PSTATE : Fld := ⟨0x104, 7, 2⟩
def KG_STAT_LOADING : Fld := ⟨0x104, 6, 1⟩
def KG_STAT_RUNNING : Fld := ⟨0x104, 5, 1⟩
def KG_SUB_ADDR : Fld := ⟨0x108, 0, 32⟩
def KG_SUB_TICK : Fld := ⟨0x110, 0, 32⟩
def KG_SUB_NBASE : Fld := ⟨0x118, 0, 32⟩
def KG_SUB_NSIZE : Fld := ⟨0x120, 0, 32⟩
def KG_SUB_BBASE : Fld := ⟨0x128, 0, 32⟩
def KG_SUB_BSIZE : Fld := ⟨0x130, 0, 32⟩
def KG_SUB_ID : Fld := ⟨0x138, 0, 32⟩
def KG_SUB_GO_SUBMIT : Fld := ⟨0x13C, 0, 1⟩
def KG_CRING_BASE : Fld := ⟨0x140, 0, 32⟩
def KG_CRING_CTRL_LOG2_ENTRIES : Fld := ⟨0x148, 0, 5⟩
def KG_CRING_WR : Fld := ⟨0x14C, 0, 32⟩
def KG_CRING_RD : Fld := ⟨0x150, 0, 32⟩
def KG_PS_GUARD : Fld := ⟨0x154, 0, 16⟩
def KG_ACT_MAP : Fld := ⟨0x158, 0, 32⟩
def KG_PS_RELOAD : Fld := ⟨0x160, 0, 32⟩
def KG_WDOG : Fld := ⟨0x164, 0, 24⟩

def rowsKRMGLOB : List RRow := [
  { off := 0x100, rst := 0xC8, fields := [⟨6, 2, .rw, 0, none⟩, ⟨5, 1, .rw, 0, none⟩, ⟨3, 2, .rw, 0, none⟩, ⟨1, 1, .rw, 0, none⟩, ⟨0, 1, .w1s, 0, none⟩] },
  { off := 0x104, rst := 0x180, fields := [] },
  { off := 0x108, rst := 0x0, fields := [⟨0, 32, .rw, 3, none⟩], pair := true, hi := 0xFFFF, percls := true },
  { off := 0x110, rst := 0x0, fields := [⟨0, 32, .rw, 3, none⟩], pair := true, percls := true },
  { off := 0x118, rst := 0x0, fields := [⟨0, 32, .rw, 3, none⟩], pair := true, hi := 0xFFFF, percls := true },
  { off := 0x120, rst := 0x0, fields := [⟨0, 32, .rw, 3, none⟩], pair := true, percls := true },
  { off := 0x128, rst := 0x0, fields := [⟨0, 32, .rw, 3, none⟩], pair := true, hi := 0xFFFF, percls := true },
  { off := 0x130, rst := 0x0, fields := [⟨0, 32, .rw, 3, none⟩], pair := true, percls := true },
  { off := 0x138, rst := 0x0, fields := [⟨0, 32, .rw, 3, none⟩], percls := true },
  { off := 0x13C, rst := 0x0, fields := [⟨0, 1, .wo, 3, none⟩] },
  { off := 0x140, rst := 0x0, fields := [⟨0, 32, .rw, 0, none⟩], pair := true },
  { off := 0x148, rst := 0x6, fields := [⟨0, 5, .rw, 0, none⟩] },
  { off := 0x14C, rst := 0x0, fields := [] },
  { off := 0x150, rst := 0x0, fields := [⟨0, 32, .rw, 0, none⟩] },
  { off := 0x154, rst := 0x5, fields := [⟨0, 16, .rw, 0, none⟩] },
  { off := 0x158, rst := 0x0, fields := [], pair := true, hi := 0xF },
  { off := 0x160, rst := 0x0, fields := [⟨0, 32, .rw, 0, none⟩] },
  { off := 0x164, rst := 0x100000, fields := [⟨0, 24, .rw, 0, none⟩] }]

/-! ### NTRCHAN (05_memory_integrity.md, R198) -/

/-- Page base. -/
def pNTRCHAN (i : Nat) : Nat := 0x400000 + i * 0x10000
def TC_CTRL_FENCE : Fld := ⟨0x100, 0, 1⟩
def TC_STAT_FCAUSE : Fld := ⟨0x104, 16, 4⟩
def TC_STAT_LANES_REP : Fld := ⟨0x104, 8, 8⟩
def TC_STAT_MARKED : Fld := ⟨0x104, 7, 1⟩
def TC_STAT_POS : Fld := ⟨0x104, 0, 4⟩
def TC_CE_CNT : Fld := ⟨0x108, 0, 32⟩
def TC_UE_CNT : Fld := ⟨0x10C, 0, 32⟩
def TC_PATROL : Fld := ⟨0x110, 0, 32⟩
def TC_TEMP_DEV_SUB : Fld := ⟨0x118, 16, 1⟩
def TC_TEMP_TEMP : Fld := ⟨0x118, 0, 16⟩

def rowsNTRCHAN : List RRow := [
  { off := 0x100, rst := 0x0, fields := [⟨0, 1, .w1s, 2, none⟩] },
  { off := 0x104, rst := 0x0, fields := [] },
  { off := 0x108, rst := 0x0, fields := [⟨0, 32, .rc, 0, none⟩] },
  { off := 0x10C, rst := 0x0, fields := [⟨0, 32, .rc, 0, none⟩] },
  { off := 0x110, rst := 0x0, fields := [], pair := true },
  { off := 0x118, rst := 0x0, fields := [] }]

/-! ### NTRGLOB (05_memory_integrity.md, R198) -/

/-- Page base. -/
def pNTRGLOB : Nat := 0x460000
def TG_PATROL_PERIOD : Fld := ⟨0x100, 0, 10⟩
def TG_READY : Fld := ⟨0x104, 0, 24⟩
def TG_PASS_CNT : Fld := ⟨0x108, 0, 32⟩
def TG_REORDER_REORDER : Fld := ⟨0x10C, 0, 1⟩

def rowsNTRGLOB : List RRow := [
  { off := 0x100, rst := 0xC, fields := [⟨0, 10, .rw, 0, none⟩] },
  { off := 0x104, rst := 0x0, fields := [] },
  { off := 0x108, rst := 0x0, fields := [] },
  { off := 0x10C, rst := 0x0, fields := [] }]

/-! ### BLKCHAN (05_memory_integrity.md, R198) -/

/-- Page base. -/
def pBLKCHAN (i : Nat) : Nat := 0x480000 + i * 0x10000

def rowsBLKCHAN : List RRow := [
  { off := 0x100, rst := 0x0, fields := [⟨0, 1, .w1s, 2, none⟩] },
  { off := 0x104, rst := 0x0, fields := [] },
  { off := 0x108, rst := 0x0, fields := [⟨0, 32, .rc, 0, none⟩] },
  { off := 0x10C, rst := 0x0, fields := [⟨0, 32, .rc, 0, none⟩] },
  { off := 0x110, rst := 0x0, fields := [], pair := true },
  { off := 0x118, rst := 0x0, fields := [] }]

/-! ### BLKGLOB (05_memory_integrity.md, R198) -/

/-- Page base. -/
def pBLKGLOB : Nat := 0x600000

def rowsBLKGLOB : List RRow := [
  { off := 0x100, rst := 0x18, fields := [⟨0, 10, .rw, 0, none⟩] },
  { off := 0x104, rst := 0x0, fields := [] },
  { off := 0x108, rst := 0x0, fields := [] },
  { off := 0x10C, rst := 0x0, fields := [] }]

/-! ### INT (05_memory_integrity.md, R198) -/

/-- Page base. -/
def pINT : Nat := 0x610000
def INT_CTRL_CE_THR : Fld := ⟨0x100, 4, 4⟩
def INT_CTRL_AUTO_SPARE : Fld := ⟨0x100, 3, 1⟩
def INT_CTRL_BK_PATROL : Fld := ⟨0x100, 2, 1⟩
def INT_CTRL_NT_PATROL : Fld := ⟨0x100, 1, 1⟩
def INT_CTRL_SRAM_SCRUB : Fld := ⟨0x100, 0, 1⟩
def INT_STAT_REC_ENTRIES : Fld := ⟨0x104, 8, 8⟩
def INT_STAT_REC_FULL : Fld := ⟨0x104, 2, 1⟩
def INT_STAT_REC_VALID : Fld := ⟨0x104, 1, 1⟩
def INT_STAT_INJ_FUSED : Fld := ⟨0x104, 0, 1⟩
def INT_CE_CNT : Fld := ⟨0x108, 0, 32⟩
def INT_UE_CNT : Fld := ⟨0x118, 0, 32⟩
def INT_POISON_CNT : Fld := ⟨0x128, 0, 32⟩
def INT_LAST_ADDR : Fld := ⟨0x130, 0, 32⟩
def INT_LAST_INFO_SYNDROME : Fld := ⟨0x138, 16, 8⟩
def INT_LAST_INFO_POSITION : Fld := ⟨0x138, 8, 8⟩
def INT_LAST_INFO_TYPE : Fld := ⟨0x138, 4, 4⟩
def INT_LAST_INFO_SOURCE : Fld := ⟨0x138, 0, 4⟩
def INT_REMAP_STAT_USED0 : Fld := ⟨0x13C, 0, 5⟩
def INT_REMAP_STAT_USED1 : Fld := ⟨0x13C, 5, 5⟩
def INT_REMAP_STAT_USED2 : Fld := ⟨0x13C, 10, 5⟩
def INT_REMAP_STAT_USED3 : Fld := ⟨0x13C, 15, 5⟩
def INT_SPARE_STAT_CORE : Fld := ⟨0x140, 20, 6⟩
def INT_SPARE_STAT_BANK : Fld := ⟨0x140, 16, 4⟩
def INT_SPARE_STAT_ROW : Fld := ⟨0x140, 4, 12⟩
def INT_SPARE_STAT_FREE : Fld := ⟨0x140, 0, 4⟩

def rowsINT : List RRow := [
  { off := 0x100, rst := 0x3F, fields := [⟨4, 4, .rw, 0, none⟩, ⟨3, 1, .rw, 0, none⟩, ⟨2, 1, .rw, 0, none⟩, ⟨1, 1, .rw, 0, none⟩, ⟨0, 1, .rw, 0, none⟩] },
  { off := 0x104, rst := 0x1, fields := [] },
  { off := 0x108, rst := 0x0, fields := [⟨0, 32, .rc, 0, none⟩], n := 4, stride := 0x4 },
  { off := 0x118, rst := 0x0, fields := [⟨0, 32, .rc, 0, none⟩], n := 4, stride := 0x4 },
  { off := 0x128, rst := 0x0, fields := [⟨0, 32, .rc, 0, none⟩] },
  { off := 0x130, rst := 0x0, fields := [], pair := true, hi := 0xFFFF },
  { off := 0x138, rst := 0x0, fields := [] },
  { off := 0x13C, rst := 0x0, fields := [] },
  { off := 0x140, rst := 0x8, fields := [] }]

/-! ### FFY (06_determinism_firefly.md, R227) -/

/-- Page base. -/
def pFFY : Nat := 0x620000
def FFY_CTRL_TSYNC_EN : Fld := ⟨0x100, 16, 1⟩
def FFY_CTRL_PORT_EN : Fld := ⟨0x100, 8, 8⟩
def FFY_CTRL_ECHO_GO : Fld := ⟨0x100, 3, 1⟩
def FFY_CTRL_OUT_EN : Fld := ⟨0x100, 2, 1⟩
def FFY_CTRL_ROLE : Fld := ⟨0x100, 0, 1⟩
def FFY_STAT_HOP : Fld := ⟨0x104, 16, 8⟩
def FFY_STAT_CHAIN_LONG : Fld := ⟨0x104, 7, 1⟩
def FFY_STAT_UPSTREAM_OK : Fld := ⟨0x104, 6, 1⟩
def FFY_STAT_CAL_FAIL : Fld := ⟨0x104, 5, 1⟩
def FFY_STAT_CAL_BUSY : Fld := ⟨0x104, 4, 1⟩
def FFY_STAT_CALIBRATED : Fld := ⟨0x104, 3, 1⟩
def FFY_STAT_HOLDOVER : Fld := ⟨0x104, 2, 1⟩
def FFY_STAT_LOCKED : Fld := ⟨0x104, 1, 1⟩
def FFY_STAT_VALID : Fld := ⟨0x104, 0, 1⟩
def FFY_TICK : Fld := ⟨0x108, 0, 32⟩
def FFY_SET : Fld := ⟨0x110, 0, 32⟩
def FFY_SET_GO_LOAD : Fld := ⟨0x118, 0, 1⟩
def FFY_CABLE_DELAY : Fld := ⟨0x11C, 0, 16⟩
def FFY_OFFSET_OFFSET : Fld := ⟨0x120, 0, 16⟩
def FFY_FRAME_ERR : Fld := ⟨0x124, 0, 32⟩
def FFY_PDLY_DELAY : Fld := ⟨0x128, 0, 12⟩

def rowsFFY : List RRow := [
  { off := 0x100, rst := 0x1FF00, fields := [⟨16, 1, .rw, 0, none⟩, ⟨8, 8, .rw, 0, none⟩, ⟨3, 1, .w1s, 0, none⟩, ⟨2, 1, .rw, 0, none⟩, ⟨0, 1, .rw, 0, none⟩] },
  { off := 0x104, rst := 0x0, fields := [] },
  { off := 0x108, rst := 0x0, fields := [], pair := true },
  { off := 0x110, rst := 0x0, fields := [⟨0, 32, .rw, 0, none⟩], pair := true },
  { off := 0x118, rst := 0x0, fields := [⟨0, 1, .wo, 0, none⟩] },
  { off := 0x11C, rst := 0x0, fields := [] },
  { off := 0x120, rst := 0x0, fields := [] },
  { off := 0x124, rst := 0x0, fields := [⟨0, 32, .rc, 0, none⟩] },
  { off := 0x128, rst := 0x0, fields := [⟨0, 12, .rw, 0, none⟩], n := 8, stride := 0x4 }]

/-! ### CLK (01_package_pins_clocks.md, R31) -/

/-- Page base. -/
def pCLK : Nat := 0xD00000
def CLK_KRM_CEIL : Fld := ⟨0x100, 16, 6⟩
def CLK_KRM_TARGET : Fld := ⟨0x100, 8, 6⟩
def CLK_KRM_STEP : Fld := ⟨0x100, 0, 6⟩
def CLK_KRM_LIMIT_LIMIT : Fld := ⟨0x104, 0, 6⟩
def CLK_STAT_FW_FALLBACK : Fld := ⟨0x108, 7, 1⟩
def CLK_STAT_FW_LOCK : Fld := ⟨0x108, 6, 1⟩
def CLK_STAT_LNK_LOCK : Fld := ⟨0x108, 5, 1⟩
def CLK_STAT_BK_LOCK : Fld := ⟨0x108, 4, 1⟩
def CLK_STAT_NT_LOCK : Fld := ⟨0x108, 3, 1⟩
def CLK_STAT_FAB_LOCK : Fld := ⟨0x108, 2, 1⟩
def CLK_STAT_KRM_LOCK : Fld := ⟨0x108, 1, 1⟩
def CLK_STAT_TB_LOCK : Fld := ⟨0x108, 0, 1⟩
def CLK_STEP_CNT : Fld := ⟨0x10C, 0, 32⟩
def CLK_LOSS_CNT : Fld := ⟨0x110, 0, 32⟩

def rowsCLK : List RRow := [
  { off := 0x100, rst := 0x280000, fields := [] },
  { off := 0x104, rst := 0x28, fields := [⟨0, 6, .rw, 2, none⟩] },
  { off := 0x108, rst := 0x0, fields := [] },
  { off := 0x10C, rst := 0x0, fields := [⟨0, 32, .rc, 0, none⟩] },
  { off := 0x110, rst := 0x0, fields := [⟨0, 32, .rc, 0, none⟩] }]

/-! ### WIT (07_witness_receipts_replay.md, R270) -/

/-- Page base. -/
def pWIT : Nat := 0x630000
def WIT_CTRL_BATCH_WIT : Fld := ⟨0x100, 4, 1⟩
def WIT_CTRL_SHED : Fld := ⟨0x100, 3, 1⟩
def WIT_CTRL_MM_PIN : Fld := ⟨0x100, 2, 1⟩
def WIT_CTRL_RETRY : Fld := ⟨0x100, 1, 1⟩
def WIT_CTRL_EN : Fld := ⟨0x100, 0, 1⟩
def WIT_STAT_RUNNING : Fld := ⟨0x104, 15, 1⟩
def WIT_STAT_YIELD : Fld := ⟨0x104, 14, 1⟩
def WIT_STAT_BACKLOG : Fld := ⟨0x104, 13, 1⟩
def WIT_STAT_PENDING : Fld := ⟨0x104, 0, 13⟩
def WIT_SLOT_BASE : Fld := ⟨0x108, 0, 32⟩
def WIT_CMD_OP : Fld := ⟨0x110, 8, 2⟩
def WIT_CMD_SLOT : Fld := ⟨0x110, 0, 8⟩
def WIT_CMD_STAT_STATE : Fld := ⟨0x114, 9, 3⟩
def WIT_CMD_STAT_BUSY : Fld := ⟨0x114, 8, 1⟩
def WIT_CMD_STAT_SLOT : Fld := ⟨0x114, 0, 8⟩
def WIT_HSEED : Fld := ⟨0x118, 0, 32⟩
def WIT_ROTATE_GO : Fld := ⟨0x138, 0, 1⟩
def WIT_EPOCH : Fld := ⟨0x13C, 0, 32⟩
def WIT_PREV_SEED : Fld := ⟨0x140, 0, 32⟩
def WIT_CNT_MATCH : Fld := ⟨0x160, 0, 32⟩
def WIT_CNT_MISMATCH : Fld := ⟨0x164, 0, 32⟩
def WIT_CNT_OTHER : Fld := ⟨0x168, 0, 32⟩
def WIT_CNT_SHED : Fld := ⟨0x16C, 0, 32⟩
def WIT_LAST_MM_Q : Fld := ⟨0x170, 0, 20⟩
def WIT_LAST_MM_SEQ : Fld := ⟨0x178, 0, 32⟩
def WIT_RPL_BASE : Fld := ⟨0x180, 0, 32⟩
def WIT_RPL_CTRL_LOG2_ENTRIES : Fld := ⟨0x188, 0, 5⟩
def WIT_RPL_WR : Fld := ⟨0x18C, 0, 32⟩
def WIT_RPL_RD : Fld := ⟨0x190, 0, 32⟩
def WIT_RPL_ENTRY : Fld := ⟨0x198, 0, 32⟩
def WIT_RPL_GO_GO : Fld := ⟨0x1A0, 4, 1⟩
def WIT_RPL_GO_TARGET : Fld := ⟨0x1A0, 0, 4⟩

def rowsWIT : List RRow := [
  { off := 0x100, rst := 0x6, fields := [⟨4, 1, .rw, 0, none⟩, ⟨3, 1, .rw, 0, none⟩, ⟨2, 1, .rw, 0, none⟩, ⟨1, 1, .rw, 0, none⟩, ⟨0, 1, .rw, 0, none⟩] },
  { off := 0x104, rst := 0x0, fields := [] },
  { off := 0x108, rst := 0x0, fields := [⟨0, 32, .rw, 0, none⟩], pair := true, hi := 0xFFFF },
  { off := 0x110, rst := 0x0, fields := [⟨8, 2, .wo, 0, none⟩, ⟨0, 8, .wo, 0, none⟩] },
  { off := 0x114, rst := 0x0, fields := [] },
  { off := 0x118, rst := 0x0, fields := [⟨0, 32, .rw, 0, none⟩], n := 8, stride := 0x4 },
  { off := 0x138, rst := 0x0, fields := [⟨0, 1, .wo, 0, none⟩] },
  { off := 0x13C, rst := 0x0, fields := [] },
  { off := 0x140, rst := 0x0, fields := [], n := 8, stride := 0x4 },
  { off := 0x160, rst := 0x0, fields := [⟨0, 32, .rc, 0, none⟩] },
  { off := 0x164, rst := 0x0, fields := [⟨0, 32, .rc, 0, none⟩] },
  { off := 0x168, rst := 0x0, fields := [⟨0, 32, .rc, 0, none⟩] },
  { off := 0x16C, rst := 0x0, fields := [⟨0, 32, .rc, 0, none⟩] },
  { off := 0x170, rst := 0x0, fields := [] },
  { off := 0x178, rst := 0x0, fields := [], pair := true },
  { off := 0x180, rst := 0x0, fields := [⟨0, 32, .rw, 0, none⟩], pair := true, hi := 0xFFFF },
  { off := 0x188, rst := 0x6, fields := [⟨0, 5, .rw, 0, none⟩] },
  { off := 0x18C, rst := 0x0, fields := [] },
  { off := 0x190, rst := 0x0, fields := [⟨0, 32, .rw, 0, none⟩] },
  { off := 0x198, rst := 0x0, fields := [⟨0, 32, .rw, 0, none⟩], pair := true, hi := 0xFFFF },
  { off := 0x1A0, rst := 0x0, fields := [⟨4, 1, .wo, 0, none⟩, ⟨0, 4, .wo, 0, none⟩] }]

/-! ### DGT (07_witness_receipts_replay.md, R270) -/

/-- Page base. -/
def pDGT : Nat := 0x640000
def DGT_CTRL_BATCH_EN : Fld := ⟨0x100, 1, 1⟩
def DGT_CTRL_HOST_DIGEST : Fld := ⟨0x100, 0, 1⟩
def DGT_STAT_KEY_EXHAUSTED : Fld := ⟨0x104, 6, 1⟩
def DGT_STAT_CLOSED_WAIT : Fld := ⟨0x104, 2, 4⟩
def DGT_STAT_SIGNING : Fld := ⟨0x104, 1, 1⟩
def DGT_STAT_HASHING : Fld := ⟨0x104, 0, 1⟩
def DGT_RING_BASE : Fld := ⟨0x108, 0, 32⟩
def DGT_RING_CTRL_LOG2_ENTRIES : Fld := ⟨0x110, 0, 5⟩
def DGT_RING_WR : Fld := ⟨0x114, 0, 32⟩
def DGT_RING_RD : Fld := ⟨0x118, 0, 32⟩
def DGT_BATCH_TIMEOUT : Fld := ⟨0x11C, 0, 16⟩
def DGT_BATCH_CLOSE_CLOSE : Fld := ⟨0x120, 0, 1⟩
def DGT_BATCH_LEAVES : Fld := ⟨0x124, 0, 32⟩
def DGT_BATCH_NO : Fld := ⟨0x128, 0, 32⟩
def DGT_BRING_BASE : Fld := ⟨0x130, 0, 32⟩
def DGT_BRING_CTRL_LOG2_ENTRIES : Fld := ⟨0x138, 0, 5⟩
def DGT_BRING_WR : Fld := ⟨0x13C, 0, 32⟩
def DGT_BRING_RD : Fld := ⟨0x140, 0, 32⟩
def DGT_UNBATCHED : Fld := ⟨0x144, 0, 32⟩
def DGT_KEY_IDX : Fld := ⟨0x148, 0, 32⟩
def DGT_PUBKEY : Fld := ⟨0x150, 0, 32⟩

def rowsDGT : List RRow := [
  { off := 0x100, rst := 0x0, fields := [⟨1, 1, .rw, 0, none⟩, ⟨0, 1, .rw, 0, none⟩] },
  { off := 0x104, rst := 0x0, fields := [] },
  { off := 0x108, rst := 0x0, fields := [⟨0, 32, .rw, 0, none⟩], pair := true },
  { off := 0x110, rst := 0x8, fields := [⟨0, 5, .rw, 0, none⟩] },
  { off := 0x114, rst := 0x0, fields := [] },
  { off := 0x118, rst := 0x0, fields := [⟨0, 32, .rw, 0, none⟩] },
  { off := 0x11C, rst := 0x3E8, fields := [⟨0, 16, .rw, 0, none⟩] },
  { off := 0x120, rst := 0x0, fields := [⟨0, 1, .wo, 0, none⟩] },
  { off := 0x124, rst := 0x0, fields := [] },
  { off := 0x128, rst := 0x0, fields := [], pair := true },
  { off := 0x130, rst := 0x0, fields := [⟨0, 32, .rw, 0, none⟩], pair := true },
  { off := 0x138, rst := 0x4, fields := [⟨0, 5, .rw, 0, none⟩] },
  { off := 0x13C, rst := 0x0, fields := [] },
  { off := 0x140, rst := 0x0, fields := [⟨0, 32, .rw, 0, none⟩] },
  { off := 0x144, rst := 0x0, fields := [⟨0, 32, .rc, 0, none⟩] },
  { off := 0x148, rst := 0x0, fields := [], pair := true },
  { off := 0x150, rst := 0x0, fields := [], n := 17, stride := 0x4 }]

/-! ### JRN (07_witness_receipts_replay.md, R270) -/

/-- Page base. -/
def pJRN : Nat := 0x650000
def JRN_CTRL_EN : Fld := ⟨0x100, 0, 1⟩
def JRN_STAT_PIN_PEND : Fld := ⟨0x104, 1, 1⟩
def JRN_STAT_FULL : Fld := ⟨0x104, 0, 1⟩
def JRN_BASE : Fld := ⟨0x108, 0, 32⟩
def JRN_SEGS : Fld := ⟨0x110, 0, 11⟩
def JRN_OPEN : Fld := ⟨0x114, 0, 11⟩
def JRN_FREE : Fld := ⟨0x118, 0, 32⟩
def JRN_PIN_CMD_OP : Fld := ⟨0x120, 16, 2⟩
def JRN_PIN_CMD_SLOT : Fld := ⟨0x120, 0, 10⟩
def JRN_PINNED : Fld := ⟨0x124, 0, 11⟩
def JRN_FAIL_CNT : Fld := ⟨0x128, 0, 32⟩
def JRN_USE_NO : Fld := ⟨0x130, 0, 32⟩

def rowsJRN : List RRow := [
  { off := 0x100, rst := 0x0, fields := [⟨0, 1, .rw, 0, none⟩] },
  { off := 0x104, rst := 0x0, fields := [] },
  { off := 0x108, rst := 0x0, fields := [⟨0, 32, .rw, 0, none⟩], pair := true, hi := 0xFFFF, lom := 0xC0000000 },
  { off := 0x110, rst := 0x40, fields := [⟨0, 11, .rw, 0, none⟩] },
  { off := 0x114, rst := 0x0, fields := [] },
  { off := 0x118, rst := 0x0, fields := [], pair := true },
  { off := 0x120, rst := 0x0, fields := [⟨16, 2, .wo, 0, none⟩, ⟨0, 10, .wo, 0, none⟩] },
  { off := 0x124, rst := 0x0, fields := [] },
  { off := 0x128, rst := 0x0, fields := [⟨0, 32, .rc, 0, none⟩] },
  { off := 0x130, rst := 0x0, fields := [], pair := true }]

/-! ### LKS (07_witness_receipts_replay.md, R270) -/

/-- Page base. -/
def pLKS : Nat := 0x660000
def LKS_TIMEOUT : Fld := ⟨0x100, 0, 24⟩
def LKS_CFG_POLICY : Fld := ⟨0x140, 24, 1⟩
def LKS_CFG_LOG2_N : Fld := ⟨0x140, 16, 5⟩
def LKS_CFG_MEMBER_Y : Fld := ⟨0x140, 8, 3⟩
def LKS_CFG_MEMBER_X : Fld := ⟨0x140, 4, 3⟩
def LKS_CFG_EN : Fld := ⟨0x140, 0, 1⟩
def LKS_STAT_MORE : Fld := ⟨0x144, 16, 16⟩
def LKS_STAT_KIND : Fld := ⟨0x144, 4, 2⟩
def LKS_STAT_STATE : Fld := ⟨0x144, 0, 3⟩
def LKS_START : Fld := ⟨0x148, 0, 32⟩
def LKS_MATCHED : Fld := ⟨0x150, 0, 32⟩
def LKS_DIV_K : Fld := ⟨0x158, 0, 32⟩
def LKS_DIV_TILE_X : Fld := ⟨0x160, 0, 32⟩
def LKS_DIV_TILE_Y : Fld := ⟨0x168, 0, 32⟩
def LKS_DIV_TICK_X : Fld := ⟨0x170, 0, 32⟩
def LKS_DIV_TICK_Y : Fld := ⟨0x178, 0, 32⟩
def LKS_DIG_X : Fld := ⟨0x240, 0, 32⟩
def LKS_DIG_Y : Fld := ⟨0x250, 0, 32⟩

def rowsLKS : List RRow := [
  { off := 0x100, rst := 0x2710, fields := [⟨0, 24, .rw, 0, none⟩] },
  { off := 0x140, rst := 0x0, fields := [⟨24, 1, .rw, 0, none⟩, ⟨16, 5, .rw, 0, none⟩, ⟨8, 3, .rw, 0, none⟩, ⟨4, 3, .rw, 0, none⟩, ⟨0, 1, .rw, 0, none⟩], n := 4, stride := 0x40 },
  { off := 0x144, rst := 0x0, fields := [], n := 4, stride := 0x40 },
  { off := 0x148, rst := 0x0, fields := [⟨0, 32, .rw, 0, none⟩], n := 4, stride := 0x40, pair := true },
  { off := 0x150, rst := 0x0, fields := [], n := 4, stride := 0x40, pair := true },
  { off := 0x158, rst := 0x0, fields := [], n := 4, stride := 0x40, pair := true },
  { off := 0x160, rst := 0x0, fields := [], n := 4, stride := 0x40, pair := true },
  { off := 0x168, rst := 0x0, fields := [], n := 4, stride := 0x40, pair := true },
  { off := 0x170, rst := 0x0, fields := [], n := 4, stride := 0x40, pair := true },
  { off := 0x178, rst := 0x0, fields := [], n := 4, stride := 0x40, pair := true },
  { off := 0x240, rst := 0x0, fields := [], n := 4, stride := 0x20, sub := 4 },
  { off := 0x250, rst := 0x0, fields := [], n := 4, stride := 0x20, sub := 4 }]

/-! ### QMG (07_witness_receipts_replay.md, R270) -/

/-- Page base. -/
def pQMG : Nat := 0x670000
def QMG_CTRL_DISPATCH : Fld := ⟨0x100, 0, 1⟩
def QMG_STAT_STALLED : Fld := ⟨0x104, 2, 1⟩
def QMG_STAT_LOST_MODE : Fld := ⟨0x104, 1, 1⟩
def QMG_STAT_IDLE : Fld := ⟨0x104, 0, 1⟩
def QMG_CTX_BASE : Fld := ⟨0x108, 0, 32⟩
def QMG_ENABLED : Fld := ⟨0x110, 0, 32⟩
def QMG_PENDING : Fld := ⟨0x114, 0, 32⟩
def QMG_NAK_CNT : Fld := ⟨0x118, 0, 32⟩
def QMG_DB_ERR : Fld := ⟨0x11C, 0, 32⟩
def QMG_LAST_ERR_Q_REASON : Fld := ⟨0x120, 20, 4⟩
def QMG_LAST_ERR_Q_QUEUE : Fld := ⟨0x120, 0, 20⟩
def QMG_PASS_CNT : Fld := ⟨0x124, 0, 32⟩
def QMG_PASS_NS : Fld := ⟨0x128, 0, 32⟩

def rowsQMG : List RRow := [
  { off := 0x100, rst := 0x0, fields := [⟨0, 1, .rw, 0, none⟩] },
  { off := 0x104, rst := 0x1, fields := [] },
  { off := 0x108, rst := 0x0, fields := [⟨0, 32, .rw, 0, none⟩], pair := true, hi := 0xFFFF },
  { off := 0x110, rst := 0x0, fields := [] },
  { off := 0x114, rst := 0x0, fields := [] },
  { off := 0x118, rst := 0x0, fields := [⟨0, 32, .rc, 0, none⟩] },
  { off := 0x11C, rst := 0x0, fields := [⟨0, 32, .rc, 0, none⟩] },
  { off := 0x120, rst := 0x0, fields := [] },
  { off := 0x124, rst := 0x0, fields := [] },
  { off := 0x128, rst := 0x0, fields := [] }]

/-! ### SLK (08_silk_ports.md, R303) -/

/-- Page base. -/
def pSLK (i : Nat) : Nat := 0x700000 + i * 0x10000
def SLK_CTRL_RETRAIN : Fld := ⟨0x100, 9, 1⟩
def SLK_CTRL_ATTACH : Fld := ⟨0x100, 8, 1⟩
def SLK_CTRL_ALERT_ACT : Fld := ⟨0x100, 6, 2⟩
def SLK_CTRL_RACK_THR_EN : Fld := ⟨0x100, 5, 1⟩
def SLK_CTRL_THR : Fld := ⟨0x100, 4, 1⟩
def SLK_CTRL_HB_STOP : Fld := ⟨0x100, 3, 1⟩
def SLK_CTRL_RESUME : Fld := ⟨0x100, 2, 1⟩
def SLK_CTRL_HALT : Fld := ⟨0x100, 1, 1⟩
def SLK_CTRL_EN : Fld := ⟨0x100, 0, 1⟩
def SLK_STAT_RESET : Fld := ⟨0x104, 14, 1⟩
def SLK_STAT_PG : Fld := ⟨0x104, 13, 1⟩
def SLK_STAT_RCPT_TAG_VALID : Fld := ⟨0x104, 12, 1⟩
def SLK_STAT_FALLBACK : Fld := ⟨0x104, 11, 1⟩
def SLK_STAT_HALTED : Fld := ⟨0x104, 10, 1⟩
def SLK_STAT_ALERT : Fld := ⟨0x104, 9, 1⟩
def SLK_STAT_THR_SRC : Fld := ⟨0x104, 6, 3⟩
def SLK_STAT_THROTTLE : Fld := ⟨0x104, 5, 1⟩
def SLK_STAT_HEART : Fld := ⟨0x104, 4, 1⟩
def SLK_STAT_RESTART_PEND : Fld := ⟨0x104, 3, 1⟩
def SLK_STAT_STATE : Fld := ⟨0x104, 0, 3⟩
def SLK_DOWN_DOWN_CNT : Fld := ⟨0x108, 16, 16⟩
def SLK_DOWN_ATTEMPTS : Fld := ⟨0x108, 8, 8⟩
def SLK_DOWN_CAUSE : Fld := ⟨0x108, 0, 8⟩
def SLK_TIMING_MAX_ATTEMPTS : Fld := ⟨0x10C, 24, 3⟩
def SLK_TIMING_RETRY : Fld := ⟨0x10C, 16, 8⟩
def SLK_TIMING_TRAIN_TO : Fld := ⟨0x10C, 8, 8⟩
def SLK_TIMING_RST_HOLD : Fld := ⟨0x10C, 0, 8⟩
def SLK_WIN_BASE : Fld := ⟨0x110, 0, 32⟩
def SLK_WIN_SIZE : Fld := ⟨0x118, 0, 32⟩
def SLK_ACC_ID : Fld := ⟨0x120, 0, 32⟩
def SLK_CRED0_RESPONSE : Fld := ⟨0x128, 16, 16⟩
def SLK_CRED0_CONTROL : Fld := ⟨0x128, 0, 16⟩
def SLK_CRED1_REPLAY : Fld := ⟨0x12C, 0, 16⟩
def SLK_FLIT_RETRY : Fld := ⟨0x130, 0, 32⟩
def SLK_FEC_CORR : Fld := ⟨0x134, 0, 32⟩
def SLK_DROP : Fld := ⟨0x138, 0, 32⟩
def SLK_LAST_DROP_REASON : Fld := ⟨0x13C, 16, 8⟩
def SLK_LAST_DROP_TYPE : Fld := ⟨0x13C, 0, 8⟩
def SLK_TEL_PWR_TEMP : Fld := ⟨0x140, 16, 16⟩
def SLK_TEL_PWR_EST : Fld := ⟨0x140, 0, 16⟩
def SLK_TEL_STATE_GEN : Fld := ⟨0x144, 16, 16⟩
def SLK_TEL_STATE_STATE : Fld := ⟨0x144, 0, 16⟩
def SLK_TEL_TICK : Fld := ⟨0x148, 0, 32⟩
def SLK_ALERT_CODE : Fld := ⟨0x150, 8, 24⟩
def SLK_ALERT_CLASS : Fld := ⟨0x150, 0, 8⟩
def SLK_LAST_RCPT_TAG : Fld := ⟨0x154, 0, 16⟩

def rowsSLK : List RRow := [
  { off := 0x100, rst := 0x60, fields := [⟨9, 1, .w1s, 0, none⟩, ⟨8, 1, .rw, 0, none⟩, ⟨6, 2, .rw, 0, none⟩, ⟨5, 1, .rw, 2, none⟩, ⟨4, 1, .rw, 2, none⟩, ⟨3, 1, .rw, 2, none⟩, ⟨2, 1, .w1s, 0, none⟩, ⟨1, 1, .w1s, 0, none⟩, ⟨0, 1, .rw, 0, none⟩], fenced := true },
  { off := 0x104, rst := 0x0, fields := [] },
  { off := 0x108, rst := 0x0, fields := [] },
  { off := 0x10C, rst := 0x30A1401, fields := [⟨24, 3, .rw, 0, none⟩, ⟨16, 8, .rw, 0, none⟩, ⟨8, 8, .rw, 0, none⟩, ⟨0, 8, .rw, 0, none⟩] },
  { off := 0x110, rst := 0x0, fields := [⟨0, 32, .rw, 0, none⟩], pair := true, hi := 0xFFFF, lom := 0xFFFFF000 },
  { off := 0x118, rst := 0x0, fields := [⟨0, 32, .rw, 0, none⟩], pair := true, hi := 0xFFFF, lom := 0xFFFFF000 },
  { off := 0x120, rst := 0x0, fields := [], pair := true },
  { off := 0x128, rst := 0x0, fields := [] },
  { off := 0x12C, rst := 0x0, fields := [] },
  { off := 0x130, rst := 0x0, fields := [⟨0, 32, .rc, 0, none⟩] },
  { off := 0x134, rst := 0x0, fields := [⟨0, 32, .rc, 0, none⟩] },
  { off := 0x138, rst := 0x0, fields := [⟨0, 32, .rc, 0, none⟩] },
  { off := 0x13C, rst := 0x0, fields := [] },
  { off := 0x140, rst := 0x0, fields := [] },
  { off := 0x144, rst := 0x0, fields := [] },
  { off := 0x148, rst := 0x0, fields := [], pair := true },
  { off := 0x150, rst := 0x0, fields := [] },
  { off := 0x154, rst := 0x0, fields := [] }]

/-! ### HST (09_host_interface.md, R336) -/

/-- Page base. -/
def pHST : Nat := 0x780000
def HST_LINK_IDE_FAIL : Fld := ⟨0x100, 9, 1⟩
def HST_LINK_IDE_ON : Fld := ⟨0x100, 8, 1⟩
def HST_LINK_WIDTH : Fld := ⟨0x100, 4, 4⟩
def HST_LINK_RATE : Fld := ⟨0x100, 1, 3⟩
def HST_LINK_UP : Fld := ⟨0x100, 0, 1⟩
def HST_STOP_TRAY_DRIVE : Fld := ⟨0x104, 3, 1⟩
def HST_STOP_DISPATCH_OFF : Fld := ⟨0x104, 2, 1⟩
def HST_STOP_HALT_ACC : Fld := ⟨0x104, 1, 1⟩
def HST_STOP_HALT_KRM : Fld := ⟨0x104, 0, 1⟩
def HST_BAR2_BASE : Fld := ⟨0x108, 0, 32⟩
def HST_HB : Fld := ⟨0x110, 0, 32⟩
def HST_HB_AGE_AGE : Fld := ⟨0x114, 0, 16⟩
def HST_MB_DB_SLOT : Fld := ⟨0x118, 0, 2⟩
def HST_MB_ACK_SLOT : Fld := ⟨0x11C, 0, 2⟩
def HST_MB_STAT_SESSION_OK : Fld := ⟨0x120, 9, 1⟩
def HST_MB_STAT_LINK_CORE_UP : Fld := ⟨0x120, 8, 1⟩
def HST_MB_STAT_RSP_READY : Fld := ⟨0x120, 4, 4⟩
def HST_MB_STAT_FREE : Fld := ⟨0x120, 0, 4⟩
def HST_STAT_TRAY_PIN : Fld := ⟨0x124, 1, 1⟩
def HST_STAT_TRAY_HALT : Fld := ⟨0x124, 0, 1⟩
def HST_FEAT : Fld := ⟨0x128, 0, 32⟩
def HST_VER_TIMEOUT : Fld := ⟨0x130, 16, 16⟩
def HST_VER_MAJOR : Fld := ⟨0x130, 8, 8⟩
def HST_VER_MINOR : Fld := ⟨0x130, 0, 8⟩

def rowsHST : List RRow := [
  { off := 0x100, rst := 0x0, fields := [] },
  { off := 0x104, rst := 0x0, fields := [⟨3, 1, .rw, 3, none⟩, ⟨2, 1, .w1s, 0, none⟩, ⟨1, 1, .w1s, 0, none⟩, ⟨0, 1, .w1s, 0, none⟩] },
  { off := 0x108, rst := 0x0, fields := [⟨0, 32, .rw, 0, none⟩], pair := true, hi := 0xFFFF, lom := 0xC0000000 },
  { off := 0x110, rst := 0x0, fields := [⟨0, 32, .wo, 0, none⟩] },
  { off := 0x114, rst := 0xFFFF, fields := [] },
  { off := 0x118, rst := 0x0, fields := [⟨0, 2, .wo, 0, none⟩] },
  { off := 0x11C, rst := 0x0, fields := [⟨0, 2, .wo, 0, none⟩] },
  { off := 0x120, rst := 0xF, fields := [] },
  { off := 0x124, rst := 0x0, fields := [] },
  { off := 0x128, rst := 0x0, fields := [], pair := true },
  { off := 0x130, rst := 0x0, fields := [] }]

/-! ### RCK (09_host_interface.md, R336) -/

/-- Page base. -/
def pRCK : Nat := 0x790000
def RCK_CAP_CAP : Fld := ⟨0x100, 0, 16⟩
def RCK_PRESET_CAP : Fld := ⟨0x104, 0, 16⟩
def RCK_STAT_EID1 : Fld := ⟨0x108, 24, 8⟩
def RCK_STAT_EID0 : Fld := ⟨0x108, 16, 8⟩
def RCK_STAT_ALERT : Fld := ⟨0x108, 2, 1⟩
def RCK_STAT_PRESET_ACT : Fld := ⟨0x108, 1, 1⟩
def RCK_STAT_LIMIT_PIN : Fld := ⟨0x108, 0, 1⟩
def RCK_ALERT_EN_FW_UPDATE : Fld := ⟨0x10C, 5, 1⟩
def RCK_ALERT_EN_EVENT : Fld := ⟨0x10C, 4, 1⟩
def RCK_ALERT_EN_SAFE_PROFILE : Fld := ⟨0x10C, 3, 1⟩
def RCK_ALERT_EN_DRIVER_LOST : Fld := ⟨0x10C, 2, 1⟩
def RCK_ALERT_EN_EMERGENCY : Fld := ⟨0x10C, 1, 1⟩
def RCK_ALERT_EN_SHDN : Fld := ⟨0x10C, 0, 1⟩
def RCK_ALERT_SRC_FW_UPDATE : Fld := ⟨0x110, 5, 1⟩
def RCK_ALERT_SRC_EVENT : Fld := ⟨0x110, 4, 1⟩
def RCK_ALERT_SRC_SAFE_PROFILE : Fld := ⟨0x110, 3, 1⟩
def RCK_ALERT_SRC_DRIVER_LOST : Fld := ⟨0x110, 2, 1⟩
def RCK_ALERT_SRC_EMERGENCY : Fld := ⟨0x110, 1, 1⟩
def RCK_ALERT_SRC_SHDN : Fld := ⟨0x110, 0, 1⟩
def RCK_STOP_TRAY_DRIVE : Fld := ⟨0x114, 2, 1⟩
def RCK_STOP_HALT_ACC : Fld := ⟨0x114, 1, 1⟩
def RCK_STOP_HALT_KRM : Fld := ⟨0x114, 0, 1⟩
def RCK_ERR_CNT : Fld := ⟨0x118, 0, 32⟩

def rowsRCK : List RRow := [
  { off := 0x100, rst := 0x0, fields := [⟨0, 16, .rw, 34, some (500, 20000)⟩], zero := true },
  { off := 0x104, rst := 0x0, fields := [⟨0, 16, .rw, 34, some (500, 20000)⟩], zero := true },
  { off := 0x108, rst := 0x0, fields := [] },
  { off := 0x10C, rst := 0x3F, fields := [⟨5, 1, .rw, 0, none⟩, ⟨4, 1, .rw, 0, none⟩, ⟨3, 1, .rw, 0, none⟩, ⟨2, 1, .rw, 0, none⟩, ⟨1, 1, .rw, 0, none⟩, ⟨0, 1, .rw, 0, none⟩] },
  { off := 0x110, rst := 0x0, fields := [⟨5, 1, .w1c, 34, none⟩, ⟨4, 1, .w1c, 34, none⟩, ⟨3, 1, .w1c, 34, none⟩, ⟨2, 1, .w1c, 34, none⟩, ⟨1, 1, .w1c, 34, none⟩, ⟨0, 1, .w1c, 34, none⟩] },
  { off := 0x114, rst := 0x0, fields := [⟨2, 1, .rw, 34, none⟩, ⟨1, 1, .w1s, 34, none⟩, ⟨0, 1, .w1s, 34, none⟩] },
  { off := 0x118, rst := 0x0, fields := [⟨0, 32, .rc, 0, none⟩] }]

/-! ### CRPGLOB (10_carapace_power_path.md, R372) -/

/-- Page base. -/
def pCRPGLOB : Nat := 0x800000
def CRP_STRAPS_FEED_RSVD : Fld := ⟨0x100, 16, 1⟩
def CRP_STRAPS_TAP_EN : Fld := ⟨0x100, 15, 1⟩
def CRP_STRAPS_XSPI_MODE : Fld := ⟨0x100, 14, 1⟩
def CRP_STRAPS_I3C_SADDR : Fld := ⟨0x100, 12, 2⟩
def CRP_STRAPS_CRIT_SENS : Fld := ⟨0x100, 10, 2⟩
def CRP_STRAPS_FEED_CFG : Fld := ⟨0x100, 8, 2⟩
def CRP_STRAPS_HOST_CURVE : Fld := ⟨0x100, 6, 2⟩
def CRP_STRAPS_FAN_SAFE : Fld := ⟨0x100, 4, 2⟩
def CRP_STRAPS_SHDN_THR : Fld := ⟨0x100, 2, 2⟩
def CRP_GCTRL_MAX_RAMP : Fld := ⟨0x104, 4, 3⟩
def CRP_GCTRL_PROFILE_OK : Fld := ⟨0x104, 0, 1⟩
def CRP_GSTAT_SILENCE_MS : Fld := ⟨0x108, 16, 16⟩
def CRP_GSTAT_ALERT_OUT : Fld := ⟨0x108, 2, 1⟩
def CRP_GSTAT_SAFE_DUTY : Fld := ⟨0x108, 1, 1⟩
def CRP_GSTAT_SHDN : Fld := ⟨0x108, 0, 1⟩
def CRP_LINK_ERR : Fld := ⟨0x10C, 0, 32⟩
def CRP_ACT_LOST : Fld := ⟨0x110, 0, 32⟩

def rowsCRPGLOB : List RRow := [
  { off := 0x100, rst := 0x0, fields := [] },
  { off := 0x104, rst := 0x20, fields := [⟨4, 3, .rw, 0, some (1, 4)⟩, ⟨0, 1, .rw, 0, none⟩] },
  { off := 0x108, rst := 0x6, fields := [] },
  { off := 0x10C, rst := 0x0, fields := [⟨0, 32, .rc, 0, none⟩] },
  { off := 0x110, rst := 0x0, fields := [⟨0, 32, .rc, 0, none⟩] }]

/-! ### CRPFEED (10_carapace_power_path.md, R372) -/

/-- Page base. -/
def pCRPFEED : Nat := 0x810000
def CF_CTRL_CLEAR : Fld := ⟨0x100, 3, 1⟩
def CF_CTRL_SWITCH : Fld := ⟨0x100, 2, 1⟩
def CF_CTRL_RETURN : Fld := ⟨0x100, 1, 1⟩
def CF_CTRL_EN : Fld := ⟨0x100, 0, 1⟩
def CF_STAT_CAUSE : Fld := ⟨0x104, 16, 4⟩
def CF_STAT_OV_B : Fld := ⟨0x104, 12, 1⟩
def CF_STAT_OV_A : Fld := ⟨0x104, 11, 1⟩
def CF_STAT_SINGLE : Fld := ⟨0x104, 10, 1⟩
def CF_STAT_ON : Fld := ⟨0x104, 8, 2⟩
def CF_STAT_STATE_B : Fld := ⟨0x104, 4, 3⟩
def CF_STAT_STATE_A : Fld := ⟨0x104, 0, 3⟩
def CF_CFG_QUAL : Fld := ⟨0x108, 16, 8⟩
def CF_CFG_SLEW : Fld := ⟨0x108, 8, 8⟩
def CF_CFG_UV : Fld := ⟨0x108, 0, 8⟩
def CF_LIMIT_RATING : Fld := ⟨0x10C, 16, 16⟩
def CF_LIMIT_IINST : Fld := ⟨0x10C, 0, 16⟩
def CF_VIN_VIN_B : Fld := ⟨0x110, 16, 16⟩
def CF_VIN_VIN_A : Fld := ⟨0x110, 0, 16⟩
def CF_VBUS_VBUS : Fld := ⟨0x114, 0, 16⟩
def CF_I_IB : Fld := ⟨0x118, 16, 16⟩
def CF_I_IA : Fld := ⟨0x118, 0, 16⟩
def CF_XFER_GAP_MAX : Fld := ⟨0x11C, 24, 8⟩
def CF_XFER_LAST_GAP : Fld := ⟨0x11C, 16, 8⟩
def CF_XFER_COUNT : Fld := ⟨0x11C, 0, 16⟩

def rowsCRPFEED : List RRow := [
  { off := 0x100, rst := 0x0, fields := [⟨3, 1, .w1s, 0, none⟩, ⟨2, 1, .w1s, 0, none⟩, ⟨1, 1, .rw, 0, none⟩, ⟨0, 1, .rw, 0, none⟩] },
  { off := 0x104, rst := 0x0, fields := [] },
  { off := 0x108, rst := 0xA32D0, fields := [⟨16, 8, .rw, 0, some (1, 255)⟩, ⟨8, 8, .rw, 0, some (1, 100)⟩, ⟨0, 8, .rw, 0, some (192, 216)⟩] },
  { off := 0x10C, rst := 0x7D01388, fields := [⟨16, 16, .rw, 0, some (0, 2000)⟩, ⟨0, 16, .rw, 0, some (0, 6000)⟩] },
  { off := 0x110, rst := 0x0, fields := [] },
  { off := 0x114, rst := 0x0, fields := [] },
  { off := 0x118, rst := 0x0, fields := [] },
  { off := 0x11C, rst := 0x0, fields := [] }]

/-! ### CRPBR (10_carapace_power_path.md, R372) -/

/-- Page base. -/
def pCRPBR (i : Nat) : Nat := 0x820000 + i * 0x10000
def CB_CTRL_CURVE_LOAD : Fld := ⟨0x100, 2, 1⟩
def CB_CTRL_CLEAR : Fld := ⟨0x100, 1, 1⟩
def CB_CTRL_EN : Fld := ⟨0x100, 0, 1⟩
def CB_STAT_CAUSE : Fld := ⟨0x104, 20, 4⟩
def CB_STAT_OUT_HELD : Fld := ⟨0x104, 15, 1⟩
def CB_STAT_NTC_FAULT : Fld := ⟨0x104, 14, 1⟩
def CB_STAT_RESTART_PEND : Fld := ⟨0x104, 13, 1⟩
def CB_STAT_PG : Fld := ⟨0x104, 12, 1⟩
def CB_STAT_RETRIES : Fld := ⟨0x104, 8, 3⟩
def CB_STAT_STATE : Fld := ⟨0x104, 0, 3⟩
def CB_CFG_GS_TO : Fld := ⟨0x108, 16, 8⟩
def CB_CFG_VGS_MIN : Fld := ⟨0x108, 8, 8⟩
def CB_CFG_SLEW : Fld := ⟨0x108, 0, 8⟩
def CB_RETRY_RESET_S : Fld := ⟨0x10C, 24, 8⟩
def CB_RETRY_MAX_RETRY : Fld := ⟨0x10C, 16, 3⟩
def CB_RETRY_BACKOFF : Fld := ⟨0x10C, 0, 16⟩
def CB_CURVE_I01_I1 : Fld := ⟨0x110, 16, 16⟩
def CB_CURVE_I01_I0 : Fld := ⟨0x110, 0, 16⟩
def CB_CURVE_I23_I3 : Fld := ⟨0x114, 16, 16⟩
def CB_CURVE_I23_I2 : Fld := ⟨0x114, 0, 16⟩
def CB_CURVE_I45_I5 : Fld := ⟨0x118, 16, 16⟩
def CB_CURVE_I45_I4 : Fld := ⟨0x118, 0, 16⟩
def CB_CURVE_I67_I7 : Fld := ⟨0x11C, 16, 16⟩
def CB_CURVE_I67_I6 : Fld := ⟨0x11C, 0, 16⟩
def CB_CURVE_T0 : Fld := ⟨0x120, 0, 32⟩
def CB_CURVE_T1 : Fld := ⟨0x124, 0, 32⟩
def CB_CURVE_T2 : Fld := ⟨0x128, 0, 32⟩
def CB_CURVE_T3 : Fld := ⟨0x12C, 0, 32⟩
def CB_CURVE_T4 : Fld := ⟨0x130, 0, 32⟩
def CB_CURVE_T5 : Fld := ⟨0x134, 0, 32⟩
def CB_CURVE_T6 : Fld := ⟨0x138, 0, 32⟩
def CB_CURVE_T7 : Fld := ⟨0x13C, 0, 32⟩
def CB_IINST_IINST : Fld := ⟨0x140, 0, 16⟩
def CB_COOL_COOL : Fld := ⟨0x144, 0, 16⟩
def CB_THERM_T_TRIP : Fld := ⟨0x148, 16, 8⟩
def CB_THERM_REF_TH : Fld := ⟨0x148, 8, 5⟩
def CB_THERM_MODE : Fld := ⟨0x148, 0, 1⟩
def CB_POLE0_R_R : Fld := ⟨0x14C, 0, 16⟩
def CB_POLE0_TAU : Fld := ⟨0x150, 0, 32⟩
def CB_POLE1_R_R : Fld := ⟨0x154, 0, 16⟩
def CB_POLE1_TAU : Fld := ⟨0x158, 0, 32⟩
def CB_POLE2_R_R : Fld := ⟨0x15C, 0, 16⟩
def CB_POLE2_TAU : Fld := ⟨0x160, 0, 32⟩
def CB_MEAS_V_DS : Fld := ⟨0x164, 16, 16⟩
def CB_MEAS_I : Fld := ⟨0x164, 0, 16⟩
def CB_VOLT_V_GS : Fld := ⟨0x168, 16, 16⟩
def CB_VOLT_V_OUT : Fld := ⟨0x168, 0, 16⟩
def CB_TFET_T_FET : Fld := ⟨0x16C, 0, 16⟩
def CB_ACCUM : Fld := ⟨0x170, 0, 32⟩
def CB_TMR : Fld := ⟨0x174, 0, 32⟩
def CB_TRIPS : Fld := ⟨0x178, 0, 32⟩

def rowsCRPBR : List RRow := [
  { off := 0x100, rst := 0x0, fields := [⟨2, 1, .w1s, 0, none⟩, ⟨1, 1, .w1s, 0, none⟩, ⟨0, 1, .rw, 0, none⟩] },
  { off := 0x104, rst := 0x0, fields := [] },
  { off := 0x108, rst := 0x142814, fields := [⟨16, 8, .rw, 0, some (1, 255)⟩, ⟨8, 8, .rw, 0, some (20, 80)⟩, ⟨0, 8, .rw, 0, some (1, 100)⟩] },
  { off := 0x10C, rst := 0x3C070064, fields := [⟨24, 8, .rw, 0, some (1, 255)⟩, ⟨16, 3, .rw, 0, none⟩, ⟨0, 16, .rw, 0, some (10, 65535)⟩] },
  { off := 0x110, rst := 0x0, fields := [⟨16, 16, .rw, 0, none⟩, ⟨0, 16, .rw, 0, none⟩] },
  { off := 0x114, rst := 0x0, fields := [⟨16, 16, .rw, 0, none⟩, ⟨0, 16, .rw, 0, none⟩] },
  { off := 0x118, rst := 0x0, fields := [⟨16, 16, .rw, 0, none⟩, ⟨0, 16, .rw, 0, none⟩] },
  { off := 0x11C, rst := 0x0, fields := [⟨16, 16, .rw, 0, none⟩, ⟨0, 16, .rw, 0, none⟩] },
  { off := 0x120, rst := 0x3938700, fields := [⟨0, 32, .rw, 0, none⟩] },
  { off := 0x124, rst := 0x989680, fields := [⟨0, 32, .rw, 0, none⟩] },
  { off := 0x128, rst := 0x1E8480, fields := [⟨0, 32, .rw, 0, none⟩] },
  { off := 0x12C, rst := 0x7A120, fields := [⟨0, 32, .rw, 0, none⟩] },
  { off := 0x130, rst := 0x186A0, fields := [⟨0, 32, .rw, 0, none⟩] },
  { off := 0x134, rst := 0x4E20, fields := [⟨0, 32, .rw, 0, none⟩] },
  { off := 0x138, rst := 0x1388, fields := [⟨0, 32, .rw, 0, none⟩] },
  { off := 0x13C, rst := 0x3E8, fields := [⟨0, 32, .rw, 0, none⟩] },
  { off := 0x140, rst := 0x0, fields := [⟨0, 16, .rw, 0, none⟩] },
  { off := 0x144, rst := 0x2710, fields := [⟨0, 16, .rw, 0, some (1, 65535)⟩] },
  { off := 0x148, rst := 0x7D0000, fields := [⟨16, 8, .rw, 0, some (60, 150)⟩, ⟨8, 5, .rw, 0, none⟩, ⟨0, 1, .rw, 0, none⟩] },
  { off := 0x14C, rst := 0x9A, fields := [⟨0, 16, .rw, 0, none⟩] },
  { off := 0x150, rst := 0x1F4, fields := [⟨0, 32, .rw, 0, some (20, 4294967295)⟩] },
  { off := 0x154, rst := 0x166, fields := [⟨0, 16, .rw, 0, none⟩] },
  { off := 0x158, rst := 0x4E20, fields := [⟨0, 32, .rw, 0, some (20, 4294967295)⟩] },
  { off := 0x15C, rst := 0x200, fields := [⟨0, 16, .rw, 0, none⟩] },
  { off := 0x160, rst := 0x1E8480, fields := [⟨0, 32, .rw, 0, some (20, 4294967295)⟩] },
  { off := 0x164, rst := 0x0, fields := [] },
  { off := 0x168, rst := 0x0, fields := [] },
  { off := 0x16C, rst := 0x0, fields := [] },
  { off := 0x170, rst := 0x0, fields := [] },
  { off := 0x174, rst := 0x0, fields := [] },
  { off := 0x178, rst := 0x0, fields := [⟨0, 32, .rc, 0, none⟩] }]

/-! ### GOVGLOB (11_tray_power_governance.md, R394) -/

/-- Page base. -/
def pGOVGLOB : Nat := 0x900000
def GG_CTRL_PRESET_KRM : Fld := ⟨0x100, 0, 1⟩
def GG_STAT_KRM_TARGET : Fld := ⟨0x104, 8, 6⟩
def GG_STAT_NO_MEAS : Fld := ⟨0x104, 7, 1⟩
def GG_STAT_WIT_YIELD : Fld := ⟨0x104, 6, 1⟩
def GG_STAT_FLOOR_OVER : Fld := ⟨0x104, 5, 1⟩
def GG_STAT_DEFAULT : Fld := ⟨0x104, 4, 1⟩
def GG_STAT_SOURCE : Fld := ⟨0x104, 0, 4⟩
def GG_EFF_CAP : Fld := ⟨0x108, 0, 16⟩
def GG_HOST_CAP : Fld := ⟨0x10C, 0, 16⟩
def GG_DEF_CAP : Fld := ⟨0x110, 0, 16⟩
def GG_THERM_CAP : Fld := ⟨0x114, 0, 16⟩
def GG_FAN_CAP : Fld := ⟨0x118, 0, 16⟩
def GG_EMERG_CAP : Fld := ⟨0x11C, 0, 16⟩
def GG_SF_CAP : Fld := ⟨0x120, 0, 16⟩
def GG_FEED_CAP : Fld := ⟨0x124, 0, 16⟩
def GG_HARD_CAP : Fld := ⟨0x128, 0, 16⟩
def GG_MARGIN : Fld := ⟨0x12C, 0, 16⟩
def GG_HEADROOM : Fld := ⟨0x130, 0, 16⟩
def GG_SLOPE_TRAY : Fld := ⟨0x134, 0, 16⟩
def GG_KRM_CFG_HYST : Fld := ⟨0x138, 16, 8⟩
def GG_KRM_CFG_MIN_STEP : Fld := ⟨0x138, 10, 6⟩
def GG_KRM_CFG_FLOOR : Fld := ⟨0x138, 0, 10⟩
def GG_KRM_STATIC : Fld := ⟨0x13C, 0, 10⟩
def GG_KOPP0_STEP0 : Fld := ⟨0x140, 0, 8⟩
def GG_KOPP0_STEP1 : Fld := ⟨0x140, 8, 8⟩
def GG_KOPP0_STEP2 : Fld := ⟨0x140, 16, 8⟩
def GG_KOPP0_STEP3 : Fld := ⟨0x140, 24, 8⟩
def GG_KOPP1_STEP0 : Fld := ⟨0x144, 0, 8⟩
def GG_KOPP1_STEP1 : Fld := ⟨0x144, 8, 8⟩
def GG_KOPP1_STEP2 : Fld := ⟨0x144, 16, 8⟩
def GG_KOPP1_STEP3 : Fld := ⟨0x144, 24, 8⟩
def GG_REASON_REASON : Fld := ⟨0x148, 0, 10⟩
def GG_POWER_U : Fld := ⟨0x14C, 16, 16⟩
def GG_POWER_P_TRAY : Fld := ⟨0x14C, 0, 16⟩
def GG_KRM_PWR_K_ALLOW : Fld := ⟨0x150, 16, 16⟩
def GG_KRM_PWR_K : Fld := ⟨0x150, 0, 16⟩
def GG_DEADBAND : Fld := ⟨0x154, 0, 10⟩
def GG_DUR : Fld := ⟨0x158, 0, 32⟩

def rowsGOVGLOB : List RRow := [
  { off := 0x100, rst := 0x1, fields := [⟨0, 1, .rw, 2, none⟩] },
  { off := 0x104, rst := 0x16, fields := [] },
  { off := 0x108, rst := 0x2AF8, fields := [] },
  { off := 0x10C, rst := 0x0, fields := [⟨0, 16, .rw, 2, some (500, 20000)⟩], zero := true },
  { off := 0x110, rst := 0x0, fields := [⟨0, 16, .rw, 2, some (500, 20000)⟩], zero := true },
  { off := 0x114, rst := 0x0, fields := [⟨0, 16, .rw, 2, some (500, 20000)⟩], zero := true },
  { off := 0x118, rst := 0x0, fields := [⟨0, 16, .rw, 2, some (500, 20000)⟩], zero := true },
  { off := 0x11C, rst := 0xBB8, fields := [⟨0, 16, .rw, 2, some (500, 20000)⟩], zero := true },
  { off := 0x120, rst := 0x0, fields := [⟨0, 16, .rw, 2, some (500, 20000)⟩], zero := true },
  { off := 0x124, rst := 0x0, fields := [] },
  { off := 0x128, rst := 0x2AF8, fields := [] },
  { off := 0x12C, rst := 0x64, fields := [⟨0, 16, .rw, 2, none⟩] },
  { off := 0x130, rst := 0x32, fields := [⟨0, 16, .rw, 2, none⟩] },
  { off := 0x134, rst := 0x190, fields := [⟨0, 16, .rw, 2, some (1, 4000)⟩] },
  { off := 0x138, rst := 0x1400C8, fields := [⟨16, 8, .rw, 2, some (1, 255)⟩, ⟨10, 6, .rw, 2, some (0, 40)⟩, ⟨0, 10, .rw, 2, some (0, 1000)⟩] },
  { off := 0x13C, rst := 0x78, fields := [⟨0, 10, .rw, 2, some (0, 1000)⟩] },
  { off := 0x140, rst := 0x28282828, fields := [⟨0, 8, .rw, 3, some (0, 40)⟩, ⟨8, 8, .rw, 3, some (0, 40)⟩, ⟨16, 8, .rw, 3, some (0, 40)⟩, ⟨24, 8, .rw, 3, some (0, 40)⟩] },
  { off := 0x144, rst := 0x28282828, fields := [⟨0, 8, .rw, 3, some (0, 40)⟩, ⟨8, 8, .rw, 3, some (0, 40)⟩, ⟨16, 8, .rw, 3, some (0, 40)⟩, ⟨24, 8, .rw, 3, some (0, 40)⟩] },
  { off := 0x148, rst := 0x0, fields := [] },
  { off := 0x14C, rst := 0x0, fields := [] },
  { off := 0x150, rst := 0x0, fields := [] },
  { off := 0x154, rst := 0x2, fields := [⟨0, 10, .rw, 2, some (1, 100)⟩] },
  { off := 0x158, rst := 0x0, fields := [], n := 10, stride := 0x8, pair := true }]

/-! ### GOVACC (11_tray_power_governance.md, R394) -/

/-- Page base. -/
def pGOVACC (i : Nat) : Nat := 0x910000 + i * 0x10000
def GA_CTRL_RETRUST : Fld := ⟨0x100, 3, 1⟩
def GA_CTRL_PHASE : Fld := ⟨0x100, 0, 3⟩
def GA_STAT_ACK_LATE : Fld := ⟨0x104, 4, 1⟩
def GA_STAT_SERVICE : Fld := ⟨0x104, 2, 2⟩
def GA_STAT_TRUST : Fld := ⟨0x104, 0, 2⟩
def GA_WEIGHT : Fld := ⟨0x108, 0, 16⟩
def GA_FLOOR : Fld := ⟨0x10C, 0, 16⟩
def GA_SLOPE : Fld := ⟨0x110, 0, 16⟩
def GA_FALLBACK : Fld := ⟨0x114, 0, 16⟩
def GA_OPP01_OPP1 : Fld := ⟨0x118, 16, 16⟩
def GA_OPP01_OPP0 : Fld := ⟨0x118, 0, 16⟩
def GA_OPP23_OPP3 : Fld := ⟨0x11C, 16, 16⟩
def GA_OPP23_OPP2 : Fld := ⟨0x11C, 0, 16⟩
def GA_OPP45_OPP5 : Fld := ⟨0x120, 16, 16⟩
def GA_OPP45_OPP4 : Fld := ⟨0x120, 0, 16⟩
def GA_OPP67_OPP7 : Fld := ⟨0x124, 16, 16⟩
def GA_OPP67_OPP6 : Fld := ⟨0x124, 0, 16⟩
def GA_CAP_THR_CAP : Fld := ⟨0x128, 16, 16⟩
def GA_CAP_CAP : Fld := ⟨0x128, 0, 16⟩
def GA_MEAS_E : Fld := ⟨0x12C, 16, 16⟩
def GA_MEAS_M : Fld := ⟨0x12C, 0, 16⟩
def GA_HARD : Fld := ⟨0x130, 0, 16⟩
def GA_REASON : Fld := ⟨0x134, 0, 16⟩
def GA_GEN_ACKED : Fld := ⟨0x138, 16, 16⟩
def GA_GEN_SENT : Fld := ⟨0x138, 0, 16⟩
def GA_DUR : Fld := ⟨0x140, 0, 32⟩

def rowsGOVACC : List RRow := [
  { off := 0x100, rst := 0x3, fields := [⟨3, 1, .w1s, 2, none⟩, ⟨0, 3, .rw, 0, none⟩] },
  { off := 0x104, rst := 0x0, fields := [] },
  { off := 0x108, rst := 0x1, fields := [⟨0, 16, .rw, 3, some (1, 255)⟩] },
  { off := 0x10C, rst := 0x320, fields := [⟨0, 16, .rw, 2, none⟩] },
  { off := 0x110, rst := 0xC8, fields := [⟨0, 16, .rw, 2, some (1, 4000)⟩] },
  { off := 0x114, rst := 0x4B0, fields := [⟨0, 16, .rw, 2, none⟩] },
  { off := 0x118, rst := 0xBB80BB8, fields := [⟨16, 16, .rw, 3, none⟩, ⟨0, 16, .rw, 3, none⟩] },
  { off := 0x11C, rst := 0xBB80BB8, fields := [⟨16, 16, .rw, 3, none⟩, ⟨0, 16, .rw, 3, none⟩] },
  { off := 0x120, rst := 0xBB80BB8, fields := [⟨16, 16, .rw, 3, none⟩, ⟨0, 16, .rw, 3, none⟩] },
  { off := 0x124, rst := 0xBB80BB8, fields := [⟨16, 16, .rw, 3, none⟩, ⟨0, 16, .rw, 3, none⟩] },
  { off := 0x128, rst := 0x0, fields := [] },
  { off := 0x12C, rst := 0x0, fields := [] },
  { off := 0x130, rst := 0x0, fields := [] },
  { off := 0x134, rst := 0x0, fields := [] },
  { off := 0x138, rst := 0x0, fields := [] },
  { off := 0x140, rst := 0x0, fields := [], n := 10, stride := 0x8, pair := true }]

/-! ### LCWGLOB (12_air_movers_hazards.md, R418) -/

/-- Page base. -/
def pLCWGLOB : Nat := 0xA00000
def LCW_CTRL_TBL_LOAD : Fld := ⟨0x100, 3, 1⟩
def LCW_CTRL_TABLE_FORCE : Fld := ⟨0x100, 2, 1⟩
def LCW_CTRL_COMMISSION : Fld := ⟨0x100, 1, 1⟩
def LCW_CTRL_RESUME : Fld := ⟨0x100, 0, 1⟩
def LCW_STAT_COMMISSIONING : Fld := ⟨0x104, 5, 1⟩
def LCW_STAT_KEEPER : Fld := ⟨0x104, 4, 1⟩
def LCW_STAT_CAUSE_FORCE : Fld := ⟨0x104, 3, 1⟩
def LCW_STAT_CAUSE_FWC : Fld := ⟨0x104, 2, 1⟩
def LCW_STAT_CAUSE_HB : Fld := ⟨0x104, 1, 1⟩
def LCW_STAT_AUTO : Fld := ⟨0x104, 0, 1⟩
def LCW_CFG_MIN_DUTY : Fld := ⟨0x108, 16, 10⟩
def LCW_CFG_STRETCH_N : Fld := ⟨0x108, 8, 4⟩
def LCW_CFG_FSW : Fld := ⟨0x108, 0, 7⟩
def LCW_RIPPLE_THR_THR : Fld := ⟨0x10C, 0, 16⟩
def LCW_TBL_T : Fld := ⟨0x110, 16, 8⟩
def LCW_TBL_D : Fld := ⟨0x110, 0, 10⟩
def LCW_AGEING_AGEING : Fld := ⟨0x130, 0, 16⟩
def LCW_FAULTS_TACH_LOST : Fld := ⟨0x134, 16, 16⟩
def LCW_FAULTS_STALLED : Fld := ⟨0x134, 0, 16⟩
def LCW_RAIL_I_RAIL : Fld := ⟨0x138, 16, 16⟩
def LCW_RAIL_V_RAIL : Fld := ⟨0x138, 0, 16⟩

def rowsLCWGLOB : List RRow := [
  { off := 0x100, rst := 0x0, fields := [⟨3, 1, .w1s, 6, none⟩, ⟨2, 1, .rw, 6, none⟩, ⟨1, 1, .w1s, 6, none⟩, ⟨0, 1, .w1s, 6, none⟩] },
  { off := 0x104, rst := 0x7, fields := [] },
  { off := 0x108, rst := 0xC80819, fields := [⟨16, 10, .rw, 0, some (0, 500)⟩, ⟨8, 4, .rw, 0, some (2, 15)⟩, ⟨0, 7, .rw, 0, some (20, 120)⟩] },
  { off := 0x10C, rst := 0x14, fields := [⟨0, 16, .rw, 0, some (5, 500)⟩] },
  { off := 0x110, rst := 0x0, fields := [⟨16, 8, .rw, 0, some (0, 100)⟩, ⟨0, 10, .rw, 0, some (0, 1000)⟩], n := 8, stride := 0x4 },
  { off := 0x130, rst := 0x0, fields := [] },
  { off := 0x134, rst := 0x0, fields := [] },
  { off := 0x138, rst := 0x0, fields := [] }]

/-! ### LCWCHAN (12_air_movers_hazards.md, R418) -/

/-- Page base. -/
def pLCWCHAN : Nat := 0xA10000
def LCW_CH_CTRL_CLEAR : Fld := ⟨0x100, 1, 1⟩
def LCW_CH_CTRL_EN : Fld := ⟨0x100, 0, 1⟩
def LCW_CH_DUTY_DUTY : Fld := ⟨0x104, 0, 10⟩
def LCW_CH_CFG_NBR : Fld := ⟨0x108, 16, 16⟩
def LCW_CH_CFG_ZONE : Fld := ⟨0x108, 4, 2⟩
def LCW_CH_CFG_PPR : Fld := ⟨0x108, 0, 2⟩
def LCW_CH_STAT_APPLIED : Fld := ⟨0x10C, 16, 10⟩
def LCW_CH_STAT_ATTEMPT : Fld := ⟨0x10C, 8, 2⟩
def LCW_CH_STAT_STRETCH : Fld := ⟨0x10C, 6, 1⟩
def LCW_CH_STAT_RESTART_PEND : Fld := ⟨0x10C, 5, 1⟩
def LCW_CH_STAT_AGEING : Fld := ⟨0x10C, 4, 1⟩
def LCW_CH_STAT_TACH_LOST : Fld := ⟨0x10C, 3, 1⟩
def LCW_CH_STAT_STATE : Fld := ⟨0x10C, 0, 3⟩
def LCW_CH_SPEED_RPM : Fld := ⟨0x110, 0, 16⟩
def LCW_CH_AGE_D_BASE : Fld := ⟨0x114, 16, 10⟩
def LCW_CH_AGE_RATIO : Fld := ⟨0x114, 0, 16⟩

def rowsLCWCHAN : List RRow := [
  { off := 0x100, rst := 0x1, fields := [⟨1, 1, .w1s, 0, none⟩, ⟨0, 1, .rw, 0, none⟩], n := 16, stride := 0x20 },
  { off := 0x104, rst := 0x3E8, fields := [⟨0, 10, .rw, 6, some (0, 1000)⟩], n := 16, stride := 0x20 },
  { off := 0x108, rst := 0x1, fields := [⟨16, 16, .rw, 0, none⟩, ⟨4, 2, .rw, 0, none⟩, ⟨0, 2, .rw, 0, none⟩], n := 16, stride := 0x20 },
  { off := 0x10C, rst := 0x0, fields := [], n := 16, stride := 0x20 },
  { off := 0x110, rst := 0x0, fields := [], n := 16, stride := 0x20 },
  { off := 0x114, rst := 0x0, fields := [], n := 16, stride := 0x20 }]

/-! ### HZDSENS (12_air_movers_hazards.md, R418) -/

/-- Page base. -/
def pHZDSENS : Nat := 0xA20000
def HZ_CRIT : Fld := ⟨0x100, 0, 32⟩
def HZ_SHDN_CFG_DRIP_SHDN : Fld := ⟨0x104, 16, 4⟩
def HZ_SHDN_CFG_THR : Fld := ⟨0x104, 0, 8⟩
def HZ_SHDN_STAT_REL_STEP : Fld := ⟨0x108, 10, 2⟩
def HZ_SHDN_STAT_REL_OK : Fld := ⟨0x108, 9, 1⟩
def HZ_SHDN_STAT_CAUSE : Fld := ⟨0x108, 7, 2⟩
def HZ_SHDN_STAT_FIRST : Fld := ⟨0x108, 1, 6⟩
def HZ_SHDN_STAT_ASSERTED : Fld := ⟨0x108, 0, 1⟩
def HZ_SHDN_REL : Fld := ⟨0x10C, 0, 32⟩
def HZ_LATCH_SHDN_SEEN : Fld := ⟨0x110, 2, 1⟩
def HZ_LATCH_CRIT_FAULT : Fld := ⟨0x110, 1, 1⟩
def HZ_LATCH_WET : Fld := ⟨0x110, 0, 1⟩
def HZ_RATE_LIM_LIM : Fld := ⟨0x114, 0, 8⟩
def HZ_CORR_WIN : Fld := ⟨0x118, 16, 8⟩
def HZ_CORR_DP : Fld := ⟨0x118, 0, 16⟩
def HZ_FLT_STUCK : Fld := ⟨0x11C, 0, 32⟩
def HZ_FLT_OPEN : Fld := ⟨0x120, 0, 32⟩
def HZ_FLT_SHORT : Fld := ⟨0x124, 0, 32⟩
def HZ_FLT_RATE : Fld := ⟨0x128, 0, 32⟩
def HZ_TH_CLASS : Fld := ⟨0x200, 16, 3⟩
def HZ_TH_TEMP : Fld := ⟨0x200, 0, 16⟩
def HZ_THCFG_INLET : Fld := ⟨0x280, 12, 1⟩
def HZ_THCFG_ASSOC : Fld := ⟨0x280, 8, 4⟩
def HZ_THCFG_ZONE : Fld := ⟨0x280, 0, 2⟩

def rowsHZDSENS : List RRow := [
  { off := 0x100, rst := 0x0, fields := [⟨0, 32, .rw, 2, none⟩] },
  { off := 0x104, rst := 0x0, fields := [⟨16, 4, .rw, 2, none⟩, ⟨0, 8, .rw, 2, none⟩] },
  { off := 0x108, rst := 0x0, fields := [] },
  { off := 0x10C, rst := 0x0, fields := [⟨0, 32, .wo, 7, none⟩] },
  { off := 0x110, rst := 0x0, fields := [⟨2, 1, .w1c, 0, none⟩, ⟨1, 1, .w1c, 0, none⟩, ⟨0, 1, .w1c, 0, none⟩] },
  { off := 0x114, rst := 0xA, fields := [⟨0, 8, .rw, 0, some (2, 50)⟩] },
  { off := 0x118, rst := 0x780096, fields := [⟨16, 8, .rw, 0, some (10, 255)⟩, ⟨0, 16, .rw, 0, some (10, 2000)⟩] },
  { off := 0x11C, rst := 0x0, fields := [⟨0, 32, .rw, 6, none⟩] },
  { off := 0x120, rst := 0x0, fields := [] },
  { off := 0x124, rst := 0x0, fields := [] },
  { off := 0x128, rst := 0x0, fields := [] },
  { off := 0x200, rst := 0x0, fields := [], n := 32, stride := 0x4 },
  { off := 0x280, rst := 0xF00, fields := [⟨12, 1, .rw, 0, none⟩, ⟨8, 4, .rw, 0, none⟩, ⟨0, 2, .rw, 0, none⟩], n := 32, stride := 0x4 }]

/-! ### HZDDRIP (12_air_movers_hazards.md, R418) -/

/-- Page base. -/
def pHZDDRIP : Nat := 0xA30000
def HZ_DRIP_EN_EN : Fld := ⟨0x100, 0, 4⟩
def HZ_DRIP_RES : Fld := ⟨0x104, 16, 16⟩
def HZ_DRIP_STATE : Fld := ⟨0x104, 0, 2⟩

def rowsHZDDRIP : List RRow := [
  { off := 0x100, rst := 0xF, fields := [⟨0, 4, .rw, 0, none⟩] },
  { off := 0x104, rst := 0x0, fields := [], n := 4, stride := 0x4 }]

/-! ### FWC (13_firmware_complex.md, R448) -/

/-- Page base. -/
def pFWC : Nat := 0xB00000
def FWC_CTRL_AUTO_CONFIRM : Fld := ⟨0x100, 0, 1⟩
def FWC_STAT_FLOOR : Fld := ⟨0x104, 8, 8⟩
def FWC_STAT_PWR_PENDING : Fld := ⟨0x104, 2, 1⟩
def FWC_STAT_TRIAL : Fld := ⟨0x104, 1, 1⟩
def FWC_STAT_ACTIVE : Fld := ⟨0x104, 0, 1⟩
def FWC_UPD_STAT_PATH : Fld := ⟨0x108, 16, 1⟩
def FWC_UPD_STAT_CODE : Fld := ⟨0x108, 8, 8⟩
def FWC_UPD_STAT_STATE : Fld := ⟨0x108, 0, 4⟩
def FWC_SLOTA_ROLLBACK : Fld := ⟨0x10C, 8, 8⟩
def FWC_SLOTA_STATE : Fld := ⟨0x10C, 0, 3⟩
def FWC_SLOTA_VER : Fld := ⟨0x110, 0, 32⟩
def FWC_SLOTB_ROLLBACK : Fld := ⟨0x114, 8, 8⟩
def FWC_SLOTB_STATE : Fld := ⟨0x114, 0, 3⟩
def FWC_SLOTB_VER : Fld := ⟨0x118, 0, 32⟩
def FWC_TRIAL_LEFT : Fld := ⟨0x11C, 0, 32⟩
def FWC_CORE_CTRL_RUN : Fld := ⟨0x200, 2, 1⟩
def FWC_CORE_CTRL_HALT : Fld := ⟨0x200, 1, 1⟩
def FWC_CORE_CTRL_RESTART : Fld := ⟨0x200, 0, 1⟩
def FWC_CORE_STAT_RESTARTS : Fld := ⟨0x204, 16, 16⟩
def FWC_CORE_STAT_CAUSE : Fld := ⟨0x204, 8, 4⟩
def FWC_CORE_STAT_SLOT : Fld := ⟨0x204, 4, 1⟩
def FWC_CORE_STAT_RESTART_PEND : Fld := ⟨0x204, 3, 1⟩
def FWC_CORE_STAT_STATE : Fld := ⟨0x204, 0, 3⟩
def FWC_CORE_VER : Fld := ⟨0x208, 0, 32⟩
def FWC_CORE_WDOG : Fld := ⟨0x20C, 0, 32⟩
def FWC_CORE_DIG : Fld := ⟨0x220, 0, 32⟩

def rowsFWC : List RRow := [
  { off := 0x100, rst := 0x1, fields := [⟨0, 1, .rw, 3, none⟩] },
  { off := 0x104, rst := 0x0, fields := [] },
  { off := 0x108, rst := 0x0, fields := [] },
  { off := 0x10C, rst := 0x0, fields := [] },
  { off := 0x110, rst := 0x0, fields := [] },
  { off := 0x114, rst := 0x0, fields := [] },
  { off := 0x118, rst := 0x0, fields := [] },
  { off := 0x11C, rst := 0x0, fields := [] },
  { off := 0x200, rst := 0x0, fields := [⟨2, 1, .w1s, 3, none⟩, ⟨1, 1, .w1s, 3, none⟩, ⟨0, 1, .w1s, 3, none⟩], n := 4, stride := 0x40 },
  { off := 0x204, rst := 0x0, fields := [], n := 4, stride := 0x40 },
  { off := 0x208, rst := 0x0, fields := [], n := 4, stride := 0x40 },
  { off := 0x20C, rst := 0x0, fields := [⟨0, 32, .rw, 2, none⟩], n := 4, stride := 0x40 },
  { off := 0x220, rst := 0x0, fields := [], n := 4, stride := 0x40, sub := 8 }]

/-! ### FWL (13_firmware_complex.md, R448) -/

/-- Page base. -/
def pFWL : Nat := 0xB10000
def FWL_WR : Fld := ⟨0x100, 0, 32⟩
def FWL_OLDEST : Fld := ⟨0x108, 0, 32⟩
def FWL_CURSOR_CURSOR : Fld := ⟨0x110, 15, 3⟩
def FWL_LEVEL_LEVEL0 : Fld := ⟨0x114, 0, 3⟩
def FWL_LEVEL_LEVEL1 : Fld := ⟨0x114, 4, 3⟩
def FWL_LEVEL_LEVEL2 : Fld := ⟨0x114, 8, 3⟩
def FWL_LEVEL_LEVEL3 : Fld := ⟨0x114, 12, 3⟩

def rowsFWL : List RRow := [
  { off := 0x100, rst := 0x0, fields := [], pair := true },
  { off := 0x108, rst := 0x0, fields := [], pair := true },
  { off := 0x110, rst := 0x0, fields := [⟨15, 3, .rw, 0, none⟩], percls := true },
  { off := 0x114, rst := 0x2222, fields := [⟨0, 3, .rw, 0, none⟩, ⟨4, 3, .rw, 0, none⟩, ⟨8, 3, .rw, 0, none⟩, ⟨12, 3, .rw, 0, none⟩] }]

/-! ### TRC (13_firmware_complex.md, R448) -/

/-- Page base. -/
def pTRC : Nat := 0xB20000
def TRC_EN : Fld := ⟨0x100, 0, 32⟩
def TRC_IRQ : Fld := ⟨0x120, 0, 32⟩
def TRC_LAST_CORE : Fld := ⟨0x140, 8, 2⟩
def TRC_LAST_POINT : Fld := ⟨0x140, 0, 8⟩
def TRC_LAST_ARG : Fld := ⟨0x144, 0, 32⟩
def TRC_CNT : Fld := ⟨0x400, 0, 32⟩

def rowsTRC : List RRow := [
  { off := 0x100, rst := 0x0, fields := [⟨0, 32, .rw, 0, none⟩], n := 8, stride := 0x4 },
  { off := 0x120, rst := 0x0, fields := [⟨0, 32, .rw, 0, none⟩], n := 8, stride := 0x4 },
  { off := 0x140, rst := 0x0, fields := [] },
  { off := 0x144, rst := 0x0, fields := [] },
  { off := 0x400, rst := 0x0, fields := [⟨0, 32, .rc, 0, none⟩], n := 256, stride := 0x4 }]

/-! ### SEP (14_sepia_recorder.md, R467) -/

/-- Page base. -/
def pSEP : Nat := 0xC00000
def SEP_CTRL_FLUSH : Fld := ⟨0x100, 1, 1⟩
def SEP_CTRL_EN : Fld := ⟨0x100, 0, 1⟩
def SEP_STAT_WRITING : Fld := ⟨0x104, 4, 1⟩
def SEP_STAT_PENDING : Fld := ⟨0x104, 3, 1⟩
def SEP_STAT_CAL_SET : Fld := ⟨0x104, 2, 1⟩
def SEP_STAT_CLEARING : Fld := ⟨0x104, 1, 1⟩
def SEP_STAT_FULL : Fld := ⟨0x104, 0, 1⟩
def SEP_PERIOD : Fld := ⟨0x108, 0, 8⟩
def SEP_KIND_EN : Fld := ⟨0x10C, 0, 19⟩
def SEP_NEXT : Fld := ⟨0x110, 0, 17⟩
def SEP_WSEQ : Fld := ⟨0x114, 0, 32⟩
def SEP_OPSEC : Fld := ⟨0x118, 0, 32⟩
def SEP_CYCLES : Fld := ⟨0x120, 0, 32⟩
def SEP_CAL : Fld := ⟨0x128, 0, 32⟩
def SEP_NONCE : Fld := ⟨0x130, 0, 32⟩

def rowsSEP : List RRow := [
  { off := 0x100, rst := 0x1, fields := [⟨1, 1, .w1s, 19, none⟩, ⟨0, 1, .rw, 18, none⟩] },
  { off := 0x104, rst := 0x0, fields := [] },
  { off := 0x108, rst := 0x18, fields := [⟨0, 8, .rw, 19, some (1, 168)⟩] },
  { off := 0x10C, rst := 0x7FFFF, fields := [⟨0, 19, .rw, 19, none⟩] },
  { off := 0x110, rst := 0x0, fields := [] },
  { off := 0x114, rst := 0x0, fields := [] },
  { off := 0x118, rst := 0x0, fields := [], pair := true },
  { off := 0x120, rst := 0x0, fields := [] },
  { off := 0x128, rst := 0x0, fields := [], pair := true },
  { off := 0x130, rst := 0x0, fields := [], pair := true }]

/-! ### SEPWIN (14_sepia_recorder.md, R467) -/

/-- Page base. -/
def pSEPWIN : Nat := 0xC10000
def SEP_CURSOR_GROUP : Fld := ⟨0x100, 0, 13⟩

def rowsSEPWIN : List RRow := [
  { off := 0x100, rst := 0x0, fields := [⟨0, 13, .rw, 0, none⟩], percls := true }]

/-! ### ALG (14_sepia_recorder.md, R467) -/

/-- Page base. -/
def pALG : Nat := 0xC20000
def ALG_CURSOR : Fld := ⟨0x100, 0, 4⟩
def ALG_HEAD : Fld := ⟨0x104, 0, 10⟩
def ALG_PIN : Fld := ⟨0x108, 0, 4⟩
def ALG_NO : Fld := ⟨0x10C, 0, 32⟩
def ALG_WSEQ : Fld := ⟨0x110, 0, 32⟩
def ALG_LOST : Fld := ⟨0x114, 0, 32⟩

def rowsALG : List RRow := [
  { off := 0x100, rst := 0x0, fields := [⟨0, 4, .rw, 0, none⟩], percls := true },
  { off := 0x104, rst := 0x0, fields := [] },
  { off := 0x108, rst := 0x0, fields := [] },
  { off := 0x10C, rst := 0x0, fields := [] },
  { off := 0x110, rst := 0x0, fields := [] },
  { off := 0x114, rst := 0x0, fields := [⟨0, 32, .rc, 0, none⟩] }]

/-- The assigned page kinds (R36). R18 and R19 do not name the block of the INT page; the model has it in MAIN, with the
memories it serves (log 93). -/
def pageRows : List PRow := [
  ⟨.gen, 0x0, 1, 0x1, 0x3, false, false, 0x0, rowsGEN⟩,
  ⟨.acc, 0x1, 1, 0x2, 0x2, false, false, 0x0, rowsACC⟩,
  ⟨.krmcore, 0x10, 36, 0x101, 0x1B, true, false, 0x0, rowsKRMCORE⟩,
  ⟨.krmquad, 0x34, 4, 0x102, 0x1B, true, false, 0x0, rowsKRMQUAD⟩,
  ⟨.krmglob, 0x38, 1, 0x103, 0x1B, true, false, 0x0, rowsKRMGLOB⟩,
  ⟨.ntrchan, 0x40, 6, 0x201, 0x1B, true, false, 0x0, rowsNTRCHAN⟩,
  ⟨.ntrglob, 0x46, 1, 0x202, 0x1B, true, false, 0x0, rowsNTRGLOB⟩,
  ⟨.blkchan, 0x48, 24, 0x211, 0x1B, true, false, 0x0, rowsBLKCHAN⟩,
  ⟨.blkglob, 0x60, 1, 0x212, 0x1B, true, false, 0x0, rowsBLKGLOB⟩,
  ⟨.int, 0x61, 1, 0x220, 0x1B, true, false, 0x0, rowsINT⟩,
  ⟨.ffy, 0x62, 1, 0x301, 0xB, false, false, 0x0, rowsFFY⟩,
  ⟨.clk, 0xD0, 1, 0xD01, 0x2, false, true, 0x0, rowsCLK⟩,
  ⟨.wit, 0x63, 1, 0x401, 0x1B, true, false, 0x0, rowsWIT⟩,
  ⟨.dgt, 0x64, 1, 0x402, 0x1B, true, false, 0x0, rowsDGT⟩,
  ⟨.jrn, 0x65, 1, 0x403, 0x1B, true, false, 0x0, rowsJRN⟩,
  ⟨.lks, 0x66, 1, 0x404, 0x1B, true, false, 0x0, rowsLKS⟩,
  ⟨.qmg, 0x67, 1, 0x405, 0x1B, true, false, 0x0, rowsQMG⟩,
  ⟨.slk, 0x70, 8, 0x501, 0xB, true, false, 0x0, rowsSLK⟩,
  ⟨.hst, 0x78, 1, 0x601, 0xB, true, false, 0x0, rowsHST⟩,
  ⟨.rck, 0x79, 1, 0x602, 0x2A, false, false, 0x101, rowsRCK⟩,
  ⟨.crpglob, 0x80, 1, 0x701, 0x2, false, true, 0x101, rowsCRPGLOB⟩,
  ⟨.crpfeed, 0x81, 1, 0x702, 0x2, false, true, 0x102, rowsCRPFEED⟩,
  ⟨.crpbr, 0x82, 12, 0x703, 0x2, false, true, 0x104, rowsCRPBR⟩,
  ⟨.govglob, 0x90, 1, 0x801, 0x23, false, false, 0x101, rowsGOVGLOB⟩,
  ⟨.govacc, 0x91, 8, 0x802, 0x3, false, false, 0x101, rowsGOVACC⟩,
  ⟨.lcwglob, 0xA0, 1, 0x901, 0x7, false, true, 0x102, rowsLCWGLOB⟩,
  ⟨.lcwchan, 0xA1, 1, 0x902, 0x7, false, true, 0x102, rowsLCWCHAN⟩,
  ⟨.hzdsens, 0xA2, 1, 0xA01, 0x7, false, true, 0x101, rowsHZDSENS⟩,
  ⟨.hzddrip, 0xA3, 1, 0xA02, 0x7, false, true, 0x101, rowsHZDDRIP⟩,
  ⟨.fwc, 0xB0, 1, 0xB01, 0x1F, false, false, 0x101, rowsFWC⟩,
  ⟨.fwl, 0xB1, 1, 0xB02, 0x1F, false, false, 0x0, rowsFWL⟩,
  ⟨.trc, 0xB2, 1, 0xB03, 0x1F, false, false, 0x0, rowsTRC⟩,
  ⟨.sep, 0xC0, 1, 0xC01, 0x13, false, false, 0x101, rowsSEP⟩,
  ⟨.sepwin, 0xC1, 1, 0xC02, 0x13, false, false, 0x101, rowsSEPWIN⟩,
  ⟨.alg, 0xC2, 1, 0xC03, 0x13, false, false, 0x101, rowsALG⟩]

/-- The page kind of page number `pg`, with the instance. -/
def findPage (pg : Nat) : Option (PRow × Nat) :=
  (pageRows.find? fun p => p.page ≤ pg && pg < p.page + p.n).map fun p => (p, pg - p.page)

/-- The bytes one element of a register row covers. -/
def RRow.bytes (r : RRow) : Nat := if r.pair then 8 else 4 * r.sub

/-- The register holding offset `off`, with the element index and the byte offset in the element. -/
def findReg (rs : List RRow) (off : Nat) : Option (RRow × Nat × Nat) :=
  match rs with
  | [] => none
  | r :: t =>
    if r.off ≤ off && (off - r.off) / r.stride < r.n && (off - r.off) % r.stride < r.bytes && off % 4 = r.off % 4 &&
        r.n != 1 then
      some (r, (off - r.off) / r.stride, (off - r.off) % r.stride)
    else if r.n = 1 && r.off ≤ off && off < r.off + r.bytes && off % 4 = 0 then some (r, 0, off - r.off)
    else findReg t off

/-- Whether the word at `off` belongs to a _LO/_HI pair, and to which half. -/
def isLo (rs : List RRow) (off : Nat) : Bool :=
  match findReg rs off with
  | some (r, _, 0) => r.pair
  | _ => false

/-- The physical core of logical core `q`'s slot with the fused map 0x7654_3210 in quadrant `c / 9` (R110): whether the
physical core is slotted, and its logical index. -/
def fusedLogical (c : Nat) : Option Nat :=
  if c % 9 < 8 then some (8 * (c / 9) + c % 9) else none

/-- Curve currents of the standard shape for the 24 A class, low word first (R358). -/
def curveWord (i : Nat) : Nat :=
  match i with
  | 0 => 0x012C0108
  | 1 => 0x01E00168
  | 2 => 0x02D00258
  | _ => 0x04B003C0

/-- A curve word scaled by a rating in amperes against 24 A (R358). -/
def scaleCurve (w rating : Nat) : Nat :=
  (w / 0x10000 * rating / 24) * 0x10000 + (w % 0x10000 * rating / 24)

/-- The reset table of R416, point `i`. -/
def tblWord (i : Nat) : Nat :=
  match i with
  | 0 => 0x19012C
  | 1 => 0x1E015E
  | 2 => 0x2301A4
  | 3 => 0x2801F4
  | 4 => 0x2D0258
  | 5 => 0x3202D0
  | 6 => 0x37035C
  | _ => 0x3C03E8

/-- The reset value of a block register that depends on the instance or the element, with the fuses and straps of
State.reset; others have the row's value. `k` the page kind, `inst` the instance, `off` the offset, `e` the element. -/
def blockReset (k : PageKind) (inst off e rst : Nat) : Nat :=
  match k with
  | .gen => if off = 0x100 then 0x910920D8 else rst
  | .krmcore =>
    if off = 0x104 then
      match fusedLogical inst with
      | some q => q * 0x10000 + 3
      | none => 0x3F0023
    else rst
  | .krmglob => if off = 0x158 then 0x7FBFDFEFF % 0x100000000 else if off = 0x15C then 0x7 else rst
  | .crpbr =>
    let rating := if inst = 8 then 8 else 24
    if 0x110 ≤ off && off < 0x120 then scaleCurve (curveWord ((off - 0x110) / 4)) rating
    else if off = 0x140 then 1440 * rating / 24 else rst
  | .lcwglob => if 0x110 ≤ off && off < 0x130 then tblWord e else rst
  | .hzdsens => if off = 0x100 then 0xFF else if off = 0x104 then 85 else rst
  | .fwc => if (off - 0x20C) % 0x40 = 0 && 0x20C ≤ off then (if e = 0 then 10 else 100) else rst
  | _ => rst

/-- The reset value of a header word. -/
def headerReset (p : PRow) (inst off : Nat) : Nat :=
  if off = 0 then p.code * 0x10000 + inst * 0x100 + 1
  else if off = 4 then 0x100
  else if off = 0x10 then 1
  else if off = 0x30 then p.mask
  else 0

/-- The reset value of the register word at BAR0 offset `a` (0 where none is assigned; an
MSI-X table entry starts masked). -/
def regReset (a : Nat) : BitVec 32 :=
  if 0x788000 ≤ a && a < 0x790000 then (if a % 16 = 12 then 1 else 0) else
  match findPage (a / 0x10000) with
  | none => 0
  | some (p, inst) =>
    let off := a % 0x10000
    if off < 0x100 then BitVec.ofNat 32 (headerReset p inst off)
    else
      match findReg p.regs off with
      | none => 0
      | some (r, e, b) =>
        BitVec.ofNat 32 (blockReset p.kind inst off e (if b = 0 then r.rst else if r.sub > 1 then r.rst else 0))

end Sys2Proof.Machine
end

