-- ==== Sys2Proof/Machine/State.lean ====
section
/-! DEFINITION. The state of the block: plain data. Every register page's words are in `regs` (a word not listed holds its
reset value, Machine/Regs.lean); what no register shows is in the fields below. A field's default is its reset value. -/

namespace Sys2Proof.Machine

/-- Class of a long accumulator (R76, R83). -/
inductive AccClass where
  | finite | posInf | negInf | nan
deriving DecidableEq, Repr

/-- Why a core's self-test or start is in progress or latched (R159, R161, R162). -/
inductive StartReq where
  | unfence | spare (slot : Nat) | wake
deriving DecidableEq, Repr

/-- One row of a bank's stale tracker (R182): the row, the mask of stale blocks, the cycle it became stale. -/
structure StaleRow where
  row  : Nat
  mask : BitVec 16
  born : Nat
deriving DecidableEq, Repr

/-- A spare-row assignment of the fuse map or the repair record (R192, R194). -/
structure SpareRow where
  core : Nat
  bank : Nat
  row  : Nat
deriving DecidableEq, Repr

/-- One channel of the commissioning record: S_MAX in rpm, the duties at a quarter, half and three quarters of it, T_C in
1/16 C (R405, R476). -/
structure CommissRec where
  chan : Nat
  sMax : Nat
  d25  : Nat
  d50  : Nat
  d75  : Nat
  tc   : Int
deriving DecidableEq, Repr

/-- Where the job taken stands (R145, R148). -/
inductive JobPhase where
  | loading | loaded | running | ended
deriving DecidableEq, Repr

/-- What SHUTTING of a branch leads to (R364, R365). -/
inductive AfterShut where
  | off | backoff | lockout
deriving DecidableEq, Repr

/-- What a branch was before a retriable trip or an EN = 0 of the present sample: state, RETRIES, retry timer, CAUSE, and
whether it was a trip (R371). -/
structure MetTrip where
  state   : Nat
  retries : Nat
  tmr     : Nat
  trip    : Bool
deriving DecidableEq, Repr

/-- A hardware action awaiting its action-log entry (R459, R460, R461): code, source, cause, argument, operating time in
ms, whether it was taken in silence; for an action of Carapace, its eight readings before it and the samples since (R370). -/
structure ActionRec where
  code   : Nat
  source : Nat
  cause  : Nat
  arg    : Nat
  opMs   : Nat
  silent : Bool
  pre    : List (BitVec 16) := []
  post   : List Nat := []
deriving DecidableEq, Repr

/-- A PLDM platform event (R330). -/
structure PldmEvent where
  sensor : Nat
  value  : Nat
deriving DecidableEq, Repr

/-- A staging of a firmware image in progress (R434). -/
structure StageReq where
  pldm  : Bool
  slot  : Nat
  addr  : Nat
  len   : Nat
  image : List (BitVec 8)
deriving DecidableEq, Repr

/-- Fuse and key-store contents (never changed by a command but for FLOOR and the key counter). -/
structure Fuses where
  /-- 64 bits: GEN_UID (R60 (GEN_UID)) -/
  uid : BitVec 64 := 0
  /-- 4 bits: GEN_FAMILY.STEP_LTR (R60) -/
  stepLtr : BitVec 4 := 1
  /-- 4 bits: GEN_FAMILY.STEP_NUM (R60) -/
  stepNum : BitVec 4 := 0
  /-- 1 bit: the debug fuse of TAP_EN (R33) -/
  debugFuse : Bool := false
  /-- 4 x 32 bits: fused KQ_MAP (R110) -/
  kqMap : List (BitVec 32) := [0x76543210, 0x76543210, 0x76543210, 0x76543210]
  /-- 4 x 4 bits: fused KQ_SPARE.SPARE (R110) -/
  kqSpare : List (BitVec 4) := [8, 8, 8, 8]
  /-- fuse map of spare SRAM rows (R192) -/
  spareMap : List SpareRow := []
  /-- fused pad delay, eighths of a tick (R220) -/
  padDelay : Nat := 0
  /-- rollback floor 0-64 (R423, R428) -/
  floor : Nat := 0
  /-- fuse-backed identity-key counter (R257) -/
  keyCtr : Nat := 0
  /-- 68 bytes: identity public key (DGT_PUBKEY), bytes not listed read 0 (R256) -/
  pubKey : List (BitVec 8) := []
  /-- 68 bytes: image public key in ROM (R422) -/
  romImageKey : List (BitVec 8) := []
  /-- 68 bytes: maintenance public key in ROM (R464) -/
  romMaintKey : List (BitVec 8) := []
  /-- 48 bytes: the SPDM responder's ECDSA P-384 key, bytes not listed 0 (R317) -/
  spdmKey : List (BitVec 8) := []
  /-- the SPDM certificate of the store (R317) -/
  certificate : List (BitVec 8) := []
deriving DecidableEq, Repr

/-- Levels at the pins that no register holds. -/
structure Pins where
  /-- 1 bit: MAIN_PWR_EN (R20) -/
  mainPwrEn : Bool := false
  /-- 1 bit: MAIN_PWR_GOOD (R20) -/
  mainPwrGood : Bool := false
  /-- 1 bit: RACK_LIMIT_N low (R332) -/
  rackLimitLow : Bool := false
  /-- 1 bit: another party holds TRAY_HALT_N low (R328) -/
  trayExtLow : Bool := false
  /-- 1 bit: debug TAP connected (R33) -/
  tapConnected : Bool := false
  /-- 1 bit: the link core has first started (RACK_ALERT_N before it) (R333) -/
  linkCoreStarted : Bool := false
  /-- 1 bit: a HELLO has succeeded since ALWAYS reset (R324) -/
  firstHello : Bool := false
deriving DecidableEq, Repr

/-- MAIN power sequencing kept by the power core. -/
structure MainPwr where
  /-- failed rises of MAIN_PWR_GOOD in this attempt (R471) -/
  tries : Nat := 0
  /-- times (ns) of MAIN losses within 60 s (R472) -/
  losses : List Nat := []
  /-- a recovery of MAIN is due (R472) -/
  waiting : Bool := false
  /-- MAIN stays off until ALWAYS reset (R471, R472) -/
  gaveUp : Bool := false
  /-- ports that were not OFF at the MAIN loss (R472) -/
  silkLost : List Nat := []
  /-- the LNK PLL has lost lock (no HEART) (R23) -/
  lnkLost : Bool := false
  /-- mV: the VDD_KRM setpoint of the AVSBus master (R427, R430, R470) -/
  vddKrm : Nat := 750
  /-- the profile's entries for MAIN pages wait for the power core (R472) -/
  profDue : Bool := false
  /-- the ports of SILK_MASK wait for the link core to enable them (R472, R473) -/
  silkDue : Bool := false
deriving DecidableEq, Repr

/-- The GEN_MODE bits in effect since the last device idle boundary. -/
structure EffMode where
  /-- STRICT in effect (R200) -/
  strict : Bool := false
  /-- BALANCE in effect (R200) -/
  balance : Bool := true
  /-- FAST_REDUCE in effect (R200) -/
  fastReduce : Bool := true
  /-- BK_REORDER in effect (R200) -/
  bkReorder : Bool := true
  /-- ENTROPY_SEED in effect (R200) -/
  entropySeed : Bool := true
deriving DecidableEq, Repr

/-- One vector register. -/
structure VReg1 where
  /-- 32 lanes of 32 bits, lane 0 lowest (R113) -/
  bits : BitVec 1024 := 0
  /-- poison bit (R186) -/
  poison : Bool := false
  /-- cycle at which the outstanding write lands (R114) -/
  land : Nat := 0
deriving DecidableEq, Repr

/-- One accumulator of a row. -/
structure Acc1 where
  /-- the 216-bit two's-complement long accumulator, as an integer (R82) -/
  sum : Int := 0
  /-- class of the sum (R76, R83) -/
  cls : AccClass := .finite
  /-- bits were truncated below the window (R83) -/
  ulf : Bool := false
  /-- the sum left the window (R83) -/
  ovf : Bool := false
  /-- FP32 value of fast mode (R87) -/
  fast : BitVec 32 := 0
  /-- contributions since the last clear (R149) -/
  count : Nat := 0
deriving DecidableEq, Repr

/-- One accumulator row: its configuration and 32 accumulators. -/
structure AccRow1 where
  /-- ACC_CFG MODE (R143) -/
  fastMode : Bool := false
  /-- ACC_CFG SAT (R143) -/
  sat : Bool := false
  /-- ACC_CFG window exponent W (R143) -/
  w : Int := 0
  /-- 32 accumulators (0-31) (R82) -/
  accs : Tab Acc1 := []
  /-- poison bit of the row (R186) -/
  poison : Bool := false
  /-- cycle at which the outstanding write lands (R114) -/
  land : Nat := 0
deriving DecidableEq, Repr

/-- One address generator. -/
structure AddrGen where
  /-- BASE (R124) -/
  base : BitVec 32 := 0
  /-- stride S0, signed (R124) -/
  s0 : BitVec 32 := 0
  /-- stride S1, signed (R124) -/
  s1 : BitVec 32 := 0
  /-- stride S2, signed (R124) -/
  s2 : BitVec 32 := 0
  /-- count N0, 1-65,536 (R124) -/
  n0 : Nat := 1
  /-- count N1 (R124) -/
  n1 : Nat := 1
  /-- count N2 (R124) -/
  n2 : Nat := 1
  /-- counter i0 (R124) -/
  i0 : Nat := 0
  /-- counter i1 (R124) -/
  i1 : Nat := 0
  /-- counter i2 (R124) -/
  i2 : Nat := 0
deriving DecidableEq, Repr

/-- One level of the loop stack. -/
structure LoopLevel where
  /-- first bundle of the body (R122) -/
  top : Nat := 0
  /-- iterations left after this one (R122) -/
  left : Nat := 0
deriving DecidableEq, Repr

/-- One of the 16 DMA tags of a core. -/
structure DmaTag where
  /-- transfer in progress (R131) -/
  busy : Bool := false
  /-- the descriptor in progress (R131) -/
  desc : BitVec 256 := 0
  /-- cycle of the issuing bundle (R205) -/
  issued : Nat := 0
  /-- core cycle at which the tag completed (R205) -/
  doneAt : Nat := 0
deriving DecidableEq, Repr

/-- A program store of the bundle in progress. -/
structure CoreStore where
  /-- SRAM address (R120) -/
  addr : Nat := 0
  /-- the bytes stored (R120) -/
  bytes : List (BitVec 8) := []
  /-- the register stored was poisoned (R187) -/
  poisoned : Bool := false
  /-- a scale byte, less than a block (R182) -/
  narrow : Bool := false
deriving DecidableEq, Repr

/-- The bits of an SRAM block that differ from what was last written, with its check bits. -/
structure BlockUpset where
  /-- data 8r + c, then P_r, then Q_c (R174) -/
  bits : BitVec 80 := 0
  /-- found and counted before its write-back (R196) -/
  seen : Bool := false
deriving DecidableEq, Repr

/-- The bits of a tier line that differ from what was last written, with its check bits. -/
structure LineUpset where
  /-- symbol j of codeword k at bit 80k + 8j (R176, R177) -/
  bits : BitVec 640 := 0
  /-- found and counted before its write-back (R196) -/
  seen : Bool := false
deriving DecidableEq, Repr

/-- The repair-slot queues of one SRAM bank. -/
structure BankState where
  /-- corrected write-backs queued (rows), at most 4 (R180) -/
  writeBacks : List Nat := []
  /-- stale tracker, at most 32 rows with a 16-bit block mask each, oldest first (R182) -/
  stale : List StaleRow := []
  /-- uncorrectable blocks awaiting the poison signature (R180) -/
  ueRewrites : List Nat := []
  /-- next row of the scrub (R189) -/
  scrubRow : Nat := 0
  /-- the last slot served a write-back (one in two while a rebuild waits) (R180) -/
  lastWb : Bool := false
  /-- corrections per row since power-up (R192) -/
  rowCe : Tab Nat := []
  /-- rows that are spare candidates (R192) -/
  candidates : List Nat := []
  /-- spare rows in use, 0-8 (R192) -/
  sparesUsed : Nat := 0
deriving DecidableEq, Repr

/-- The synchronisation operation of a bundle (R121). -/
inductive SyncOp where
  | snop
  | loop (count : Nat)
  | endl
  | bar (chip : Bool) (ident : Nat)
  | waitd
  | phase (ph : Nat)
  | mark (arg : Nat)
  | endStream
deriving DecidableEq, Repr

/-- A write of the bundle in progress, applied when its sync slot closes the bundle (R115). -/
inductive PendWrite where
  /-- a vector register takes a value after a latency -/
  | vreg (r : Nat) (v : VReg1) (lat : Nat)
  /-- an accumulator row takes a value after a latency -/
  | acc (row : Nat) (v : AccRow1) (lat : Nat)
  /-- a vector register takes the readout of a row (RDACC) -/
  | readout (r row : Nat)
deriving DecidableEq, Repr

/-- A reduction in progress: the RED_TABLE entry, each contributor's logical index with its row and the chip cycle at
which it arrived (R133). -/
structure RedState where
  entry : Nat
  got   : List (Nat × AccRow1 × Nat)
deriving DecidableEq, Repr

/-- One physical Kermes core. -/
structure Core1 where
  /-- V0-V31 (R113) -/
  vregs : Tab VReg1 := []
  /-- 64 accumulator rows (R113) -/
  accs : Tab AccRow1 := []
  /-- AG0-AG7 (R113) -/
  ags : Tab AddrGen := []
  /-- loop stack, 8 levels (R113) -/
  loops : List LoopLevel := []
  /-- 16 DMA tags (R113) -/
  tags : Tab DmaTag := []
  /-- bundle store, 16,384 bundles (R113) -/
  store : Tab (BitVec 128) := []
  /-- bundles loaded (R148) -/
  storeLen : Nat := 0
  /-- FMT_TABLE entries in the core (R143, R148) -/
  fmtTab : Tab (BitVec 32) := []
  /-- ACC_CFG entries (R143, R148) -/
  accCfg : Tab (BitVec 32) := []
  /-- AG_INIT entries (R143, R148) -/
  agInit : Tab (BitVec 256) := []
  /-- DMA_DESC entries (R131, R148) -/
  dmaDesc : Tab (BitVec 256) := []
  /-- LOOP_COUNTS entries (R121, R148) -/
  loopCounts : Tab (BitVec 32) := []
  /-- CONST entries (R120, R148) -/
  consts : Tab (BitVec 1024) := []
  /-- 16 SRAM banks (R180) -/
  banks : Tab BankState := []
  /-- logical index of the running job on this core (R134) -/
  logical : Option Nat := none
  /-- the core has started in the running job (R135) -/
  started : Bool := false
  /-- chip cycle of the core's start after the last launch or release (R135) -/
  start : Nat := 0
  /-- chip cycle of its first start after the launch (KCORE_CYC, repair slots) (R129) -/
  launchStart : Nat := 0
  /-- chip cycle at which the next bundle may issue (R115) -/
  now : Nat := 0
  /-- END retired (R150) -/
  retired : Bool := false
  /-- barrier waited at: chip scope?, identifier (R136) -/
  waitBar : Option (Bool × Nat) := none
  /-- writes of the bundle in progress (R115) -/
  pending : List PendWrite := []
  /-- banks accessed of the bundle in progress, in service order (R128) -/
  accesses : List Nat := []
  /-- banks of the second KiB of a DOTG, read in the following cycle (R117) -/
  carry : List Nat := []
  /-- banks the bundle in progress leaves to the following cycle (R117) -/
  carryNext : List Nat := []
  /-- generators stepped by the bundle in progress (R125) -/
  steps : List Nat := []
  /-- SETAGs of the bundle in progress: generator, entry (R125) -/
  setags : List (Nat × Nat) := []
  /-- vector registers the bundle in progress reads (R114) -/
  rdV : List Nat := []
  /-- accumulator rows it reads (R114) -/
  rdR : List Nat := []
  /-- DMA tags it waits on (R114, R131) -/
  waitTags : List Nat := []
  /-- descriptors it issues (R131) -/
  dmaIssue : List Nat := []
  /-- RED_TABLE entries it contributes to (R133) -/
  redIssue : List Nat := []
  /-- slots of the bundle in progress that wait for it to be free to issue (R114, R115) -/
  latch : List Instr := []
  /-- arithmetic flags set since the launch (R150) -/
  jobArith : Nat := 0
  /-- its synchronisation operation, while it is held by a busy tag or an unfinished reduction (R114, R121) -/
  held : Option SyncOp := none
  /-- cycle of the last bundle retired (watchdog) (R150) -/
  lastIssue : Nat := 0
  /-- stores of the bundle in progress, made as it issues (R115) -/
  stores : List CoreStore := []
  /-- arithmetic flags its slots have raised (R108, R109) -/
  flags : Nat := 0
  /-- holds a RESIDENT image (R155) -/
  resident : Bool := false
  /-- start request latched (KCORE_STAT.RESTART_PEND) (R162) -/
  latched : Option StartReq := none
  /-- start in progress awaiting self-test (R159, R161) -/
  selftest : Option StartReq := none
deriving DecidableEq, Repr

/-- One queue entry: a captured submission. -/
structure JobSub where
  /-- container device address (R144) -/
  addr : Nat := 0
  /-- launch tick, 0 = none (R144) -/
  tick : BitVec 64 := 0
  /-- near window base (R144) -/
  nbase : Nat := 0
  /-- near window size (R144) -/
  nsize : Nat := 0
  /-- bulk window base (R144) -/
  bbase : Nat := 0
  /-- bulk window size (R144) -/
  bsize : Nat := 0
  /-- job identifier (R144) -/
  jobId : BitVec 32 := 0
  /-- submitted by the witness (R144) -/
  witness : Bool := false
  /-- PARAM words replacing LOOP_COUNTS (witness jobs) (R242) -/
  params : List (BitVec 32) := []
  /-- RESUBMITTED (R158) -/
  resubmitted : Bool := false
deriving DecidableEq, Repr

/-- The job being loaded, waiting or running. -/
structure Job where
  /-- its submission (R145) -/
  sub : JobSub := ({})
  /-- loading, loaded, running, ended (R145, R148) -/
  phase : JobPhase := .loading
  /-- participating logical indexes, ascending (R134) -/
  parts : List Nat := []
  /-- their physical cores (R141) -/
  phys : List Nat := []
  /-- container FLAGS (R138) -/
  flags : BitVec 8 := 0
  /-- COMPLETION_BOUND (R138) -/
  bound : Nat := 0
  /-- MAX_CONTRIB (R140) -/
  maxContrib : Nat := 0
  /-- RED_TABLE (R133) -/
  redTab : Tab (BitVec 64) := []
  /-- TENSOR_MAP entries (R142) -/
  tensors : List (BitVec 512) := []
  /-- reductions in progress (R133) -/
  reds : List RedState := []
  /-- STRICT_ACT at launch (R150) -/
  strict : Bool := false
  /-- FAST_REDUCE in effect at launch (R81) -/
  fastOk : Bool := false
  /-- the launch strobe has gone out (R134) -/
  launched : Bool := false
  /-- LATE (R148) -/
  late : Bool := false
  /-- tick of the launch strobe (R150) -/
  launchTick : BitVec 64 := 0
  /-- physical cores active at launch (R150) -/
  actMap : BitVec 64 := 0
  /-- an OUTPUT store was poisoned (R188) -/
  poisoned : Bool := false
  /-- KRM step changed during the job (R150) -/
  throttled : Bool := false
  /-- a fast row was used (R250) -/
  fastUsed : Bool := false
  /-- STATUS (R150) -/
  status : Nat := 0
  /-- CODE (R150) -/
  code : Nat := 0
  /-- SHORTFALL (R146) -/
  shortfall : Nat := 0
  /-- REFUSE_MASK (R146) -/
  refuseMask : Nat := 0
  /-- END_TICK (R150) -/
  endTick : BitVec 64 := 0
  /-- last cycle reached, from rank-0 start (R150) -/
  endCycle : Nat := 0
  /-- PROGRAM digest (R249) -/
  progDigest : List (BitVec 8) := []
  /-- WEIGHTS digest (R249) -/
  weightDigest : List (BitVec 8) := []
  /-- INPUT digest (R249) -/
  inputDigest : List (BitVec 8) := []
  /-- OUTPUT digest (R249) -/
  outputDigest : List (BitVec 8) := []
  /-- a digested byte was poisoned (R251) -/
  digPoison : Bool := false
  /-- the job is digested (R251) -/
  digest : Bool := false
  /-- WEIGHTS taken from a slot (R253) -/
  wcached : Bool := false
  /-- the digests are done (R253) -/
  digDone : Bool := false
deriving DecidableEq, Repr

/-- Kermes as a whole. -/
structure Krm where
  /-- 36 physical cores (R110) -/
  cores : Tab Core1 := []
  /-- host job queue, 16 entries (R144) -/
  hostQ : List JobSub := []
  /-- witness job queue, 16 entries (R144) -/
  witQ : List JobSub := []
  /-- the witness queue is next in the alternation (R145) -/
  witTurn : Bool := false
  /-- the job taken (R145) -/
  job : Option Job := none
  /-- Kermes phase (R389): IDLE (R389) -/
  phase : Nat := 3
  /-- GEN_MODE in effect (R200) -/
  mode : EffMode := ({})
  /-- the last witness job that ended, awaiting its verdict (R242) -/
  lastDone : Option Job := none
deriving DecidableEq, Repr

/-- One near stack or bulk channel. -/
structure TierChanSt where
  /-- corrections per lane or device since MAIN power-up (R179) -/
  marks : Tab Nat := []
  /-- lines awaiting a write-back, with whether they are poisoned (R181) -/
  writeBacks : List (Nat × Bool) := []
  /-- lines written with zeros (R191) -/
  initDone : Bool := false
deriving DecidableEq, Repr

/-- Stored-data integrity. -/
structure Integ where
  /-- near stacks 0-5, bulk channels 8-31 (R179) -/
  chans : Tab TierChanSt := []
  /-- control-memory lines with one corrected error (R193) -/
  ceLines : List (Nat × Nat) := []
  /-- SRAM assignments of the repair record, at most 256 (R194) -/
  spares : List SpareRow := []
  /-- remap entries (memory, line) (R193) -/
  remaps : List (Nat × Nat) := []
  /-- channels that finished the current patrol pass (R190) -/
  passDone : List Nat := []
  /-- the repair record has been read from flash (R473, R476) -/
  repRead : Bool := false
  /-- upset SRAM blocks, by device address (R174) -/
  sramUps : Tab BlockUpset := []
  /-- upset tier lines, by device address (R176, R177) -/
  lineUps : Tab LineUpset := []
  /-- poisoned words of the control-state memories: memory, word (R193) -/
  badWords : List (Nat × Nat) := []
  /-- it awaits the ledger core to be written (R194) -/
  repDirty : Bool := false
deriving DecidableEq, Repr

/-- Firefly beyond its page. -/
structure Ffy where
  /-- the tick counter (R208) -/
  counter : BitVec 64 := 0
  /-- requester and captured FFY_SET of a requested load (R209) -/
  load : Option (Nat × BitVec 64) := none
  /-- ROLE in effect (FOLLOWER) (R219) -/
  role : Bool := false
  /-- PORT_EN in effect (R226) -/
  portEn : BitVec 8 := 0xFF
  /-- FFY_PDLY in effect (0 where absent) (R227) -/
  pdly : List (BitVec 12) := []
  /-- outputs (Silk port 0-7, FFY_SYNC_OUT 8) whose next frame carries DISC (R214) -/
  disc : BitVec 9 := 0
  /-- phase of the counter within a tick, in eighths (R217) -/
  phase : Fin 8 := 0
  /-- ticks the counter still waits, where a slew or a step put its phase back (R217) -/
  hold : Nat := 0
  /-- TICK of the last accepted countable frame (R216) -/
  lastTick : Option (BitVec 64) := none
  /-- a frame has been accepted (R216) -/
  everAccepted : Bool := false
  /-- a frame was accepted in this slot (R218) -/
  got : Bool := false
  /-- one that counts towards synchronisation was (R216) -/
  gotSync : Bool := false
  /-- the slot before had an accepted frame, or this one has (R218) -/
  heard : Bool := false
  /-- slots since a frame that counts towards synchronisation (R216) -/
  missed : Nat := 0
  /-- slots since an accepted frame, echo slots apart (R218) -/
  silent : Nat := 0
  /-- the FFY_SYNC_IN termination is disconnected for this slot (R220) -/
  termOff : Bool := false
  /-- last frequency correction, eighths of a tick per frame (R218) -/
  slew : Int := 0
  /-- the lock returned: the next accepted frame is applied by stepping (R225) -/
  resync : Bool := false
  /-- tick of the last slot framed (R213) -/
  slotAt : Option (BitVec 64) := none
  /-- tick of the last TRAY_SYNC pulse (R224) -/
  pulseAt : Option (BitVec 64) := none
  /-- the next slot is an echo slot (our own request) (R220) -/
  echoNext : Bool := false
  /-- the next upstream slot is an echo slot (R220) -/
  echoServe : Bool := false
  /-- echo pairs done, 0-64 (R220) -/
  echoPairs : Nat := 0
  /-- sum of the round trips, eighths of a tick (R220) -/
  echoSum : Nat := 0
  /-- a reflection was missing (R220) -/
  echoMiss : Bool := false
deriving DecidableEq, Repr

/-- One receipt queue's entry of the queue-context store. -/
structure QueueSt where
  /-- enabled (R233) -/
  enabled : Bool := false
  /-- DISABLE accepted, VDONE not yet PROD (R233) -/
  disabling : Bool := false
  /-- PROD (R231) -/
  prod : BitVec 16 := 0
  /-- DISP (R231) -/
  disp : BitVec 16 := 0
  /-- VDONE (R231) -/
  vdone : BitVec 16 := 0
  /-- VACK (R231) -/
  vack : BitVec 16 := 0
  /-- verdicts written ahead of VDONE (low SEQ bits) (R247) -/
  written : List (BitVec 16) := []
  /-- context FLAGS as read on ENABLE (R230) -/
  flags : BitVec 8 := 0
  /-- LOG2_K (R230) -/
  log2k : Nat := 0
  /-- LOG2_SIZE (R230) -/
  log2s : Nat := 4
  /-- PRODUCER (R230) -/
  producer : Nat := 8
  /-- WEIGHT (R230) -/
  weight : Nat := 0
  /-- MSIX (R230) -/
  msix : Nat := 0
  /-- RING_BASE (R230) -/
  ring : Nat := 0
  /-- VRING_BASE (R230) -/
  vring : Nat := 0
  /-- IRQ_MOD (R230) -/
  irqMod : Nat := 0
  /-- verdicts since the last IRQ_MOD message (R234) -/
  irqCnt : Nat := 0
  /-- SEQ_HI (sequence bits [63:16]) (R231) -/
  seqHi : BitVec 64 := 0
  /-- ARM still waiting (R233) -/
  armed : Option (BitVec 16) := none
  /-- receipts noted for the pass and not yet dispatched (R235) -/
  noted : Nat := 0
deriving DecidableEq, Repr

/-- One receipt in the witness pending list, or in Kermes. -/
structure WitReceipt where
  /-- queue index (R242) -/
  queue : Nat := 0
  /-- the 128 bytes of the receipt (R228) -/
  bytes : List (BitVec 8) := []
  /-- journal segment of its entry (R247) -/
  journaled : Option Nat := none
  /-- JOURNAL_FAIL (R260) -/
  jrnFail : Bool := false
  /-- RETRIED (R245) -/
  retried : Bool := false
  /-- a replay under R264 (R264) -/
  replay : Bool := false
  /-- where its input is read from (R264) -/
  inAddr : Nat := 0
  /-- seed epoch of its sampling (R247) -/
  epoch : Nat := 0
  /-- a watched weight write happened during its run (R269) -/
  slotDirty : Bool := false
  /-- STRICT_ACT at its dispatch (R247) -/
  strict : Bool := false
  /-- a re-execution was submitted to Kermes (TARGET 8) (R247) -/
  ran : Bool := false
deriving DecidableEq, Repr

/-- The address ranges the fabric watches for a witness slot. -/
structure SlotWatch where
  /-- near range start (R241) -/
  nearLo : Nat := 0
  /-- near range end (exclusive) (R241) -/
  nearHi : Nat := 0
  /-- bulk range start (R241) -/
  bulkLo : Nat := 0
  /-- bulk range end (exclusive) (R241) -/
  bulkHi : Nat := 0
deriving DecidableEq, Repr

/-- A replay outstanding at an accelerator. -/
structure PortReplay where
  /-- port (R264) -/
  port : Nat := 0
  /-- replay tag (R284) -/
  tag : BitVec 16 := 0
  /-- the receipt (R264) -/
  receipt : WitReceipt := ({})
  /-- sent (false: waiting for room, at most four outstanding) (R284) -/
  sent : Bool := false
deriving DecidableEq, Repr

/-- Queue manager and witness beyond their pages. -/
structure QmgWit where
  /-- 1,048,576 queues (R231) -/
  queues : Tab QueueSt := []
  /-- a dispatch pass is running (R235) -/
  inPass : Bool := false
  /-- its start (ns) (R235) -/
  passStart : Nat := 0
  /-- witness pending list, 4,096 (R243) -/
  pendList : List WitReceipt := []
  /-- receipts whose witness job is in Kermes, oldest first (R242) -/
  inKermes : List WitReceipt := []
  /-- next witness job number (R242) -/
  jobNo : BitVec 32 := 0
  /-- current seed, 32 bytes (R239) -/
  seed : List (BitVec 8) := []
  /-- slot of the running REGISTER (R240) -/
  hashing : Option Nat := none
  /-- watched ranges per slot (R241) -/
  watch : Tab SlotWatch := []
  /-- replays to accelerators (R264) -/
  replays : List PortReplay := []
  /-- next replay tag (R284) -/
  replayTag : BitVec 16 := 0
  /-- replay verdicts held while the replay ring is full (R264) -/
  rplHeld : List (List (BitVec 8)) := []
  /-- receipts of retried jobs at the head of a full pending list (R245) -/
  retries : List WitReceipt := []
  /-- receipts of replays at the tail of a full pending list (R264) -/
  rplWait : List WitReceipt := []
  /-- a selected receipt whose dispatch waits for room in the pending list (R243) -/
  heldR : Option WitReceipt := none
deriving DecidableEq, Repr

/-- One attestation batch. -/
structure Batch where
  /-- batch number (R254) -/
  no : Nat := 0
  /-- result digests of its leaves (R254) -/
  leaves : List (List (BitVec 8)) := []
  /-- END_TICK of leaf 0 (R255) -/
  firstTick : BitVec 64 := 0
  /-- tick of the close (R255) -/
  closeTick : BitVec 64 := 0
  /-- its record once signed (R256) -/
  signed : Option (List (BitVec 8)) := none
deriving DecidableEq, Repr

/-- Digest and batch state beyond the page. -/
structure Dgt where
  /-- digest records held on a full ring (R253) -/
  held : List (List (BitVec 8)) := []
  /-- the open batch (R254) -/
  openB : Batch := ({})
  /-- closed batches not yet in the batch ring (R254) -/
  closed : List Batch := []
deriving DecidableEq, Repr

/-- Journal state beyond the page and the segments. -/
structure Jrn where
  /-- pinned slots (R262) -/
  pins : List Nat := []
  /-- a segment is open (R260) -/
  isOpen : Bool := false
  /-- bytes used in the open segment (R260) -/
  used : Nat := 0
  /-- entries of the open segment, pads included (R259) -/
  entries : Nat := 0
  /-- tick of its last entry (R259) -/
  lastTick : BitVec 64 := 0
  /-- JRN_BASE or JRN_SEGS written since EN fell (R263) -/
  relaid : Bool := false
  /-- no rise of EN since MAIN power-up (R263) -/
  firstRise : Bool := true
  /-- EN fell and the open segment awaits its seal (R263) -/
  sealPend : Bool := false
deriving DecidableEq, Repr

/-- One uncompared checkpoint. -/
structure Checkpoint where
  /-- K (R266) -/
  k : BitVec 64 := 0
  /-- TILE (R266) -/
  tile : BitVec 64 := 0
  /-- TICK (R266) -/
  tick : BitVec 64 := 0
  /-- DIGEST (R266) -/
  digest : BitVec 128 := 0
deriving DecidableEq, Repr

/-- One lockstep pair. -/
structure LksPair where
  /-- uncompared checkpoints of member X, at most 2,048 (R267) -/
  bufX : List Checkpoint := []
  /-- uncompared checkpoints of member Y (R267) -/
  bufY : List Checkpoint := []
  /-- next K expected from X (R267) -/
  nextX : BitVec 64 := 0
  /-- next K expected from Y (R267) -/
  nextY : BitVec 64 := 0
  /-- a divergence is recorded (R267) -/
  diverged : Bool := false
deriving DecidableEq, Repr

/-- One Silk port beyond its page. -/
structure SlkPort where
  /-- credits held towards the accelerator per class (0 where absent) (R276) -/
  cred : List Nat := []
  /-- blocks to return per class (0 where absent) (R277) -/
  owed : List Nat := []
  /-- CONTROL units waiting for L0 or credits (R278, R298) -/
  waiting : List SilkUnit := []
  /-- RESPONSE and REPLAY units waiting for credits (R276) -/
  respWait : List SilkUnit := []
  /-- link in L0 (R298) -/
  inL0 : Bool := false
  /-- times (ns) of entries into Recovery within 1 s (R298) -/
  recoveries : List Nat := []
  /-- the accelerator's INIT accepted (R296) -/
  initSeen : Bool := false
  /-- Carapace's report of ACCp power good (R287) -/
  pgBranch : Bool := false
  /-- ALERT_N low (R294) -/
  alertLow : Bool := false
  /-- HEART level (R291) -/
  heart : Bool := false
  /-- QUIESCE sent, acknowledgement awaited (R300) -/
  quiesced : Bool := false
  /-- TEL_STALE: no TELEMETRY has come for 65.536 us on an UP port (R293) -/
  telStale : Bool := false
  /-- loop tick of the last SET_CAP with RELEASE (R387) -/
  relTime : Option Nat := none
  /-- the first SET_CAP after UP is due (R296) -/
  firstCap : Bool := false
deriving DecidableEq, Repr

/-- Host and rack interface beyond their pages. -/
structure HstRck where
  /-- ns since the last heartbeat (HST_HB_AGE in ms) (R324) -/
  hbAgeNs : Nat := 65535000000
  /-- GEN_STATE.DRIVER_LOST (R324) -/
  lost : Bool := true
  /-- a HELLO has succeeded since DRIVER_LOST rose (R326) -/
  helloSince : Bool := false
  /-- current SESSION, 0 = none (R322) -/
  session : BitVec 32 := 0
  /-- slots whose request awaits its row (R318) -/
  slotReq : List Nat := []
  /-- mailbox slots of SET_HOST_CAP requests answered after the next loop tick (R377) -/
  capSlots : List Nat := []
  /-- RACK_LIMIT_N has returned high, withdrawal due (R332) -/
  presetTimer : Bool := false
  /-- I3C dynamic addresses (0 where absent) (R329) -/
  dynAddr : List Nat := []
  /-- PLDM events queued (R330, R376) -/
  events : List PldmEvent := []
  /-- SPDM secure session established (R317) -/
  spdm : Bool := false
  /-- PLDM TID (R330) -/
  pldmTid : BitVec 8 := 1
  /-- the PDR repository the link core wrote (R330) -/
  pdrs : List (List (BitVec 8)) := []
  /-- Bus Master Enable, MSI-X Enable and Function Mask, BAR assignments (R304, R305, R307) -/
  pci : PciCfg := {}
  /-- the function is in D3hot (R304, R307) -/
  d3hot : Bool := false
  /-- the power core has yet to clear W_HOST for the session's features (R321) -/
  maskDue : Bool := false
  /-- the power core has yet to withdraw the host cap (R326, R377) -/
  capDue : Bool := false
  /-- PLDM update progress: 0 idle, 1 requested, 2 table passed, 3 receiving, 4 transferred, 5 verified, 6 applied (R434) -/
  pldmUpd : Nat := 0
deriving DecidableEq, Repr

/-- One branch beyond its page (Carapace). -/
structure BranchSt where
  /-- live curve currents, 0.1 A (the standard shape where empty) (R357) -/
  liveI : List Nat := []
  /-- live curve times, us (R357) -/
  liveT : List Nat := []
  /-- CB_CFG in effect since the last entry to RAMP (R351) -/
  cfg : BitVec 32 := 0x142814
  /-- CB_RETRY in effect (R351) -/
  retry : BitVec 32 := 0x3C070064
  /-- thermal poles d0-d2 in units of 2^-40 K (steady state where empty) (R360, R363) -/
  d : List Nat := []
  /-- CB_COOL in effect since the last entry to RAMP, ms (R351) -/
  cool : Nat := 10000
  /-- retry timer left, us (R362) -/
  tmr : Nat := 0
  /-- the trip or EN = 0 that the present sample took first (R371) -/
  met : Option MetTrip := none
  /-- what SHUTTING leads to (R364) -/
  after : AfterShut := .off
  /-- currents of the 10 us window in progress (R341) -/
  win : List Nat := []
  /-- sum of the five currents of the last 10 us window, 0.1 A (R341) -/
  mean10 : Nat := 0
  /-- V_OUT of that window, 10 mV (R373) -/
  mean10P : Nat := 0
deriving DecidableEq, Repr

/-- One feed beyond the page (Carapace). -/
structure FeedSt where
  /-- curve accumulator (R347) -/
  acc : Nat := 0
  /-- V_GS of the bank, 10 mV (R342) -/
  vgs : Nat := 0
  /-- samples of comparator blanking left (R344) -/
  blank : Nat := 0
deriving DecidableEq, Repr

/-- Carapace beyond its pages. -/
structure Crp where
  /-- Carapace has left its power-on reset (R473) -/
  on : Bool := false
  /-- 12 branches (R349) -/
  branches : Tab BranchSt := []
  /-- feeds A and B (R342) -/
  feeds : Tab FeedSt := []
  /-- samples of the gap of the transfer in progress so far (R344) -/
  gap : Option Nat := none
  /-- feed of a transfer whose gate waits for the other's V_GS below 1 V (R343, R345) -/
  closing : Option Nat := none
  /-- the last 40 samples, newest first, for the readings of the action log (R370, R459) -/
  past : List CrpSample := []
  /-- no feed has been CLOSED since the 40 us of a bus loss ended (R346) -/
  busLost : Bool := true
  /-- the Carapace link is silent (R367) -/
  silent : Bool := true
  /-- time (ns) the silence began (R367) -/
  silentFrom : Nat := 0
  /-- commands dropped until the state is acknowledged (R368) -/
  ackWait : Bool := false
  /-- up to 32 actions buffered in silence (R368) -/
  actBuf : List ActionRec := []
  /-- the keeper has set the safe duty in this silence (R367) -/
  keeperActed : Bool := false
  /-- actions lost in this silence (R368, R461) -/
  lostAct : Nat := 0
  /-- time since the first switching period of fan channel 0 began, us (R397) -/
  switchUs : Nat := 0
  /-- duties in force at Carapace (FAN_SAFE where absent) (R367) -/
  heldDuty : List Nat := []
  /-- sum of the five currents of the CLOSED feed over the last 10 us window, 0.1 A (R373) -/
  feedMean : Nat := 0
  /-- currents of that window in progress (R373) -/
  feedWin : List Nat := []
deriving DecidableEq, Repr

/-- Governor state of one accelerator. -/
structure GovAcc where
  /-- cap in force, 0.25 W (R383) -/
  cap : Nat := 0
  /-- THR_CAP last computed (R387) -/
  thrCap : Nat := 0
  /-- SLOPE last sent (R387) -/
  slope : Nat := 0
  /-- FALLBACK last sent (R387) -/
  fallback : Nat := 0
  /-- CAP last sent (R387) -/
  sentCap : Nat := 0
  /-- in service at the last tick (R382) -/
  inService : Bool := false
  /-- consecutive disagreeing ticks (R388) -/
  disagree : Nat := 0
  /-- consecutive agreeing ticks (R388) -/
  agree : Nat := 0
  /-- loop tick of an unacknowledged SET_CAP (R387) -/
  ackDue : Option Nat := none
deriving DecidableEq, Repr

/-- Governor beyond its pages. -/
structure Gov where
  /-- 8 accelerators (R381) -/
  accs : Tab GovAcc := []
  /-- filtered U, uW (R373) -/
  u : Int := 0
  /-- latest K, W (R373) -/
  k : Nat := 0
  /-- FEED term of the last tick with a CLOSED feed, uW (R374) -/
  feedCap : Nat := 0
  /-- ticks K < K_ALLOW - HYST has held (R384) -/
  upN : Nat := 0
  /-- ticks the yield's end condition has held (R385) -/
  yieldN : Nat := 0
  /-- the governor holds the witness yielded (R385) -/
  yield : Bool := false
  /-- K_ALLOW of the last tick, uW (R384) -/
  kAllow : Int := 0
  /-- P_EFF of the last tick, uW (R374) -/
  pEff : Nat := 11000000000
  /-- loop ticks since ALWAYS reset (R373) -/
  tickN : Nat := 0
deriving DecidableEq, Repr

/-- One fan channel beyond its page. -/
structure FanSt where
  /-- T_last, us (R400) -/
  tLast : Nat := 20000
  /-- consecutive valid tach periods (R403) -/
  validRun : Nat := 0
  /-- composed duty before the state acts, 0.1% (R398) -/
  composed : Nat := 0
  /-- after RESUME, the duty the applied one may not fall below, 0.01%; 0 = no limit (R415) -/
  fall : Nat := 0
  /-- consecutive evaluations above 1.15 (R406) -/
  ageRun : Nat := 0
  /-- N in force, 0 = no stretch (R400) -/
  stretchN : Nat := 0
  /-- on-time of the stretched period, us (R400) -/
  onTime : Nat := 0
deriving DecidableEq, Repr

/-- Lacewing beyond its pages. -/
structure Lcw where
  /-- 16 channels (R402) -/
  fans : Tab FanSt := []
  /-- live table (T, D) (the reset table where empty) (R416) -/
  table : List (Nat × Nat) := []
  /-- commissioning record in force (R405) -/
  commis : List CommissRec := []
deriving DecidableEq, Repr

/-- One thermistor beyond its page. -/
structure ThermSt where
  /-- readings over the last second, newest first, 1/16 C (R407) -/
  hist : List Int := []
  /-- class of the latest conversion: 0 in range, 1 OPEN, 2 SHORT (R407) -/
  raw : Nat := 0
  /-- consecutive unanswered power steps (R408) -/
  missed : Nat := 0
  /-- consecutive answered power steps (R408) -/
  answered : Nat := 0
deriving DecidableEq, Repr

/-- Hazard sensing beyond its pages. -/
structure Hzd where
  /-- 32 thermistors (R407) -/
  therm : Tab ThermSt := []
  /-- class a rope last read (R410) -/
  dripNext : Tab Nat := []
  /-- VSNS_1P8 is out of range (R396) -/
  vsnsOut : Bool := false
  /-- class of the release sequence (R413) -/
  relCls : Option Nat := none
  /-- time (ns) of its last write (R413) -/
  relTime : Nat := 0
deriving DecidableEq, Repr

/-- One firmware core beyond its page. -/
structure FwCore1 where
  /-- times (ns) of fault restarts within 60 s (R432) -/
  faults : List Nat := []
  /-- 1,024 bits: its interrupt inputs enabled, one for each page index (bytes not listed 0) (R315) -/
  irqEn : List (BitVec 8) := []
  /-- cause of a latched restart (R433) -/
  pendCause : Nat := 0
  /-- shared SRAM offset of its resident section (R421, R429) -/
  secLoad : Nat := 0
  /-- length of its resident section (R421, R429) -/
  secLen : Nat := 0
deriving DecidableEq, Repr

/-- Firmware complex beyond its pages. -/
structure Fwc where
  /-- four cores (R432) -/
  cores : Tab FwCore1 := []
  /-- activation or revert: 0 none, 1-4 the position in the core order being restarted or awaited (R438) -/
  actStage : Nat := 0
  /-- a revert is in progress (R441) -/
  reverting : Bool := false
  /-- ROM is in recovery (R426) -/
  recovery : Bool := false
  /-- ROM has booted since ALWAYS reset (R425) -/
  romDone : Bool := false
  /-- the staging in progress (R434) -/
  stage : Option StageReq := none
  /-- AUTO_CONFIRM commit deferred by EMERGENCY (R499) -/
  commitDefer : Bool := false
  /-- next log record number (R444) -/
  logSeq : BitVec 32 := 0
  /-- the 4 MiB shared SRAM, bytes not listed 0 (R419) -/
  sram : List Host.Cell := []
  /-- PROFILE_WRITE STATE (R483) -/
  profState : Nat := 0
  /-- its CODE (R483) -/
  profCode : Nat := 0
  /-- GEN of the profile in force (R483) -/
  profGen : BitVec 32 := 0
  /-- GEN_STATE.SAFE_PROFILE (R474) -/
  safeProfile : Bool := false
  /-- a valid profile has been applied (R473) -/
  profValid : Bool := false
  /-- SILK_MASK of the profile in force (R477) -/
  silkMask : BitVec 8 := 0
  /-- START_MASK of the profile in force (R477) -/
  startMask : BitVec 16 := 0
  /-- FALLBACK limits of the profile (none in force where empty) (R477) -/
  fbLimit : List Nat := []
  /-- FAN_CAP of the profile (R477) -/
  fanCaps : List Nat := []
  /-- THERM_T (R477) -/
  thermT : Nat := 0
  /-- THERM_SLOPE (R477) -/
  thermSlope : Nat := 0
  /-- THERM_MIN (R477) -/
  thermMin : Nat := 0
  /-- profile entries that target MAIN pages (R472) -/
  profMain : List (Nat × BitVec 32 × BitVec 32) := []
  /-- time (ns) the trial started (R441) -/
  trialStart : Nat := 0
  /-- SET_WALL_CLOCK requests awaiting the next whole second: SECONDS and mailbox slot (R457) -/
  wall : List (Nat × Nat) := []
  /-- a profile stored in the safe profile waits for HOST to be ON (R489) -/
  profLate : Bool := false
  /-- branches that the power core enables again once SYS_SHDN_N is released (R413, R489, R494) -/
  shdnDue : List Nat := []
deriving DecidableEq, Repr

/-- One Sepia kind's accumulators. -/
structure KindAcc where
  /-- 32 bin counts (R452) -/
  bins : Tab Nat := []
  /-- MIN and its operating time, ms (R455) -/
  minV : Option (Int × Nat) := none
  /-- MAX and its operating time, ms (R455) -/
  maxV : Option (Int × Nat) := none
  /-- SAMPLES (R455) -/
  samples : Nat := 0
  /-- sum of the samples (MEAN) (R455) -/
  sum : Int := 0
  /-- START_OP (R455) -/
  startOp : Nat := 0
  /-- FLAGS gathered (R455) -/
  flags : BitVec 8 := 0
  /-- operating seconds at the close (pending set) (R455) -/
  closeOp : Nat := 0
  /-- CAL_TIME at the close (pending set) (R455) -/
  closeCal : Nat := 0
deriving DecidableEq, Repr

/-- Recorder and action log beyond their pages. -/
structure Sepia where
  /-- 19 kinds accumulating (R451) -/
  live : Tab KindAcc := []
  /-- pending sets (R454) -/
  pend : Tab KindAcc := []
  /-- kinds with a pending set (R454) -/
  pendKinds : List Nat := []
  /-- SEP_PERIOD in effect (R453) -/
  periodEff : Nat := 24
  /-- SEP_KIND_EN in effect (R453) -/
  kindEff : BitVec 32 := 0x7FFFF
  /-- ns of the operating second in progress (R450) -/
  opFrac : Nat := 0
  /-- operating seconds at ALWAYS power-up (R453) -/
  opAtUp : Nat := 0
  /-- SCOPE of the running clear, 0 = none (R465) -/
  clearScope : Nat := 0
  /-- its requester class (R460) -/
  clearCls : Nat := 0
  /-- hardware action queue, 64 (R461) -/
  actQ : List ActionRec := []
  /-- actions lost since the last entry (R461) -/
  lostSince : Nat := 0
  /-- next slot of the ring sectors (R462) -/
  ringPos : Nat := 0
  /-- entries in the pinned sector (R462) -/
  pinCount : Nat := 0
  /-- MAIN was off for part of the interval (R455) -/
  mainGap : Bool := true
  /-- operating seconds last committed to the counter journal (R450) -/
  cjOp : Nat := 0
  /-- power-cycle count in the counter journal (R450) -/
  cjCycles : Nat := 0
  /-- last action number in the counter journal (R449) -/
  cjNo : Nat := 0
  /-- the ledger core has done its duties of this power-up (R450, R462) -/
  ledgerUp : Bool := false
deriving DecidableEq, Repr

/-- What the block sends. -/
inductive Out where
  /-- data of a register read -/
  | regRead (cls : Cls) (addr : Nat) (value : BitVec 64)
  /-- a transaction unit sent on a Silk port -/
  | silk (port : Nat) (unit : SilkUnit)
  /-- an MSI-X message: vector -/
  | msix (vector : Nat)
  /-- data of a host read through BAR2, with the poisoned indication -/
  | bar2 (data : List (BitVec 8)) (poisoned : Bool)
  /-- the 64-bit word of a host read through BAR4 (R233) -/
  | bar4 (value : BitVec 64)
  /-- a SYNC frame sent on an output: Silk port 0-7, FFY_SYNC_OUT 8; its level tick by tick from the start of the slot at
  `tick`, all of it early by eighths of a tick (R213, R215) -/
  | sync (output early : Nat) (tick : BitVec 64) (line : List Bool)
  /-- the step of an echo slot on FFY_SYNC_OUT, at a tick (R220) -/
  | echoStep (tick : BitVec 64)
  /-- a TRAY_SYNC pulse of 16 ticks from a tick -/
  | traySync (tick : BitVec 64)
  /-- an in-band interrupt of a rack port that has a message to be read (R329) -/
  | ibi (port : Nat)
  /-- an MCTP control or PLDM response on a rack port: completion code and bytes -/
  | mctp (port : Nat) (code : Nat) (data : List (BitVec 8))
  /-- a PLDM request the device itself sends -/
  | pldmReq (port : Nat) (cmd : Nat) (data : List (BitVec 8))
  /-- an SPDM message to the host -/
  | spdm (data : List (BitVec 8))
deriving DecidableEq, Repr

/-- The whole device. -/
structure State where
  /-- the register pages: BAR0 offset to word; a word not listed holds its reset value (Machine/Regs.lean; each register below) (R36, R37) -/
  regs : Tab (BitVec 32) := []
  /-- per-class register copies (class x 2^26 + offset) (R144, R445, R458, R463) -/
  copies : Tab (BitVec 32) := []
  /-- _HI latch of each class (R58) -/
  hiLatch : Tab (BitVec 32) := []
  /-- shadowed _LO of each class (R59) -/
  loShadow : Tab (Option (BitVec 32)) := []
  /-- device memory of R164: near, bulk, SRAM aperture; bytes not listed 0 (R164, R191) -/
  mem : List Host.Cell := []
  /-- poisoned tier lines and SRAM blocks, by address, rising (R186) -/
  poison : List Nat := []
  /-- stale SRAM blocks, by address, rising (R182) -/
  stale : List Nat := []
  /-- boot flash, bytes not listed 0xFF (erased) (R420) -/
  flash : List Host.Cell := []
  /-- fuses and key store (R427) -/
  fuses : Fuses := ({})
  /-- pin levels (R486) -/
  pins : Pins := ({})
  /-- MAIN sequencing (R471) -/
  mainP : MainPwr := ({})
  /-- Kermes (R110) -/
  krm : Krm := ({})
  /-- integrity (R180) -/
  integ : Integ := ({})
  /-- Firefly (R208) -/
  ffy : Ffy := ({})
  /-- queue manager and witness (R230) -/
  qw : QmgWit := ({})
  /-- digests (R251) -/
  dgt : Dgt := ({})
  /-- journal (R258) -/
  jrn : Jrn := ({})
  /-- four lockstep pairs (R265) -/
  lks : Tab LksPair := []
  /-- eight Silk ports (R296) -/
  slk : Tab SlkPort := []
  /-- host and rack interface (R304) -/
  hr : HstRck := ({})
  /-- Carapace (R341) -/
  crp : Crp := ({})
  /-- governor (R373) -/
  gov : Gov := ({})
  /-- Lacewing (R398) -/
  lcw : Lcw := ({})
  /-- hazard sensing (R407) -/
  hzd : Hzd := ({})
  /-- firmware complex (R419) -/
  fwc : Fwc := ({})
  /-- Sepia and action log (R450) -/
  sep : Sepia := ({})
  /-- the model's own clock, ns (a tick of an idle step) (log 2) -/
  nowNs : Nat := 0
  /-- the model's own counter behind the free values (log 1) -/
  free : Nat := 0
  /-- what the block has sent, oldest first (read data, units, messages, responses) (log 12) -/
  outs : List Out := []
  /-- commands waiting, first in first out (-) -/
  pending : List Instr := []
deriving DecidableEq, Repr

/-- The machine right after reset: every field at its reset value, the queue empty. -/
def State.reset : State := {}

/-- Why a command stops the machine with a fault. No command of this block does: the spec gives every command an effect. -/
inductive Fault where
  /-- raised by nobody: the spec names no condition that stops the device as a whole; safe -/
  | none
deriving DecidableEq, Repr

/-- Why a command is refused. -/
inductive Refusal where
  /-- raised by an arm of the dispatch whose command has no meaning yet; safe -/
  | notModelled (mnemonic : String)
deriving DecidableEq, Repr

end Sys2Proof.Machine
end

