-- ==== Sys2Proof/Machine/Ops.lean ====
section
/-! DEFINITION. Named operations over the registers, the memories and the outputs of the block. -/

namespace Sys2Proof.Machine

/-- The outcome of a command. -/
abbrev Res := Host.Outcome State Fault Refusal

/-! ### Fields -/

/-- The value of a field in a register word. -/
def Fld.get (f : Fld) (v : BitVec 32) : Nat := (v >>> f.lo).toNat % 2 ^ f.w

/-- The mask of a field in its word. -/
def Fld.mask (f : Fld) : BitVec 32 := BitVec.ofNat 32 (2 ^ f.w - 1) <<< f.lo

/-- A register word with a field replaced by the low bits of `x`. -/
def Fld.put (f : Fld) (v : BitVec 32) (x : Nat) : BitVec 32 :=
  (v &&& ~~~f.mask) ||| (BitVec.ofNat 32 (x % 2 ^ f.w) <<< f.lo)

/-- The field of element `i` of an array of registers. -/
def Fld.nth (f : Fld) (i stride : Nat) : Fld := { f with off := f.off + i * stride }

/-- 1 for true, 0 for false. -/
def bit (b : Bool) : Nat := if b then 1 else 0

/-- A count saturating at 32 bits of ones. -/
def sat32 (n : Nat) : Nat := if n > 0xFFFFFFFF then 0xFFFFFFFF else n

/-! ### Registers -/

/-- The stored word of the register at BAR0 offset `a`. -/
def State.rd (s : State) (a : Nat) : BitVec 32 := Tab.get s.regs a (regReset a)

/-- Stores a word at BAR0 offset `a`. -/
def State.wr (s : State) (a : Nat) (v : BitVec 32) : State :=
  { s with regs := Tab.set s.regs a v (regReset a) }

/-- A field of the page at `base`. -/
def State.fget (s : State) (base : Nat) (f : Fld) : Nat := f.get (s.rd (base + f.off))

/-- Whether a one-bit field is set. -/
def State.flag (s : State) (base : Nat) (f : Fld) : Bool := s.fget base f != 0

/-- Writes a field of the page at `base`. -/
def State.fset (s : State) (base : Nat) (f : Fld) (x : Nat) : State :=
  s.wr (base + f.off) (f.put (s.rd (base + f.off)) x)

/-- A 64-bit pair at `base + f.off`. -/
def State.pget (s : State) (base : Nat) (f : Fld) : Nat :=
  (s.rd (base + f.off)).toNat + 0x100000000 * (s.rd (base + f.off + 4)).toNat

/-- Writes a 64-bit pair. -/
def State.pset (s : State) (base : Nat) (f : Fld) (x : Nat) : State :=
  (s.wr (base + f.off) (BitVec.ofNat 32 x)).wr (base + f.off + 4) (BitVec.ofNat 32 (x / 0x100000000))

/-- Adds to a counter register of 32 bits that saturates (R56). -/
def State.count (s : State) (base : Nat) (f : Fld) (n : Nat := 1) : State :=
  s.fset base f (sat32 (s.fget base f + n))

/-- One more change of the page (R48), modulo 2^32. -/
def State.seqUp (s : State) (base : Nat) : State :=
  s.fset base PAGE_SEQ (s.fget base PAGE_SEQ + 1)

/-! ### Outputs, interrupts, errors -/

/-- Sends something. -/
def State.emit (s : State) (o : Out) : State := { s with outs := s.outs ++ [o] }

/-- The fixed MSI-X vector of a page (R313). -/
def pageVector (base : Nat) : Nat :=
  let p := base / 0x10000
  if p = 0x78 then 0
  else if p ≤ 1 then 1
  else if p = 0x38 then 2
  else if 0x10 ≤ p && p < 0x38 then 3
  else if (0x40 ≤ p && p < 0x61) || p = 0x61 then 4
  else if p = 0x62 then 5
  else if 0x63 ≤ p && p ≤ 0x67 then p - 0x63 + 6
  else if 0x70 ≤ p && p < 0x78 then p - 0x70 + 11
  else if p = 0x79 then 19
  else if 0x80 ≤ p && p < 0x90 then 20
  else if 0x90 ≤ p && p < 0xA0 then 21
  else if 0xA0 ≤ p && p < 0xB0 then 22
  else if 0xB0 ≤ p && p < 0xC0 then 23
  else if 0xC0 ≤ p && p < 0xD0 then 24
  else 25

/-- The vector-control word of an MSI-X table entry. -/
def msixCtl (v : Nat) : Nat := 0x788000 + 16 * v + 12

/-- The word of the pending-bit array that holds vector `v`. -/
def msixPba (v : Nat) : Nat := 0x787F00 + 4 * (v / 32)

/-- Whether the function may send MSI-X messages: its link is up, it is in D0, and the host has set Bus Master Enable (R305)
and MSI-X Enable and has not masked the function (log 14). -/
def State.msixOn (s : State) : Bool :=
  s.flag pHST HST_LINK_UP && !s.hr.d3hot && s.hr.pci.busMaster && s.hr.pci.msixEnable && !s.hr.pci.functionMask

/-- Sends an MSI-X message; a vector masked, or that may not be sent yet, sets its pending bit and is sent when it may (R313).
Without MAIN there is no host port to send through. -/
def State.sendMsix (s : State) (v : Nat) : State :=
  if s.pins.mainPwrGood then
    if (s.rd (msixCtl v)).getLsbD 0 || !s.msixOn then s.wr (msixPba v) (s.rd (msixPba v) ||| (1#32 <<< (v % 32)))
    else s.emit (.msix v)
  else s

/-- Sends the pending vectors that are not masked, where the function may (R313). -/
def State.sendPending (s : State) : State :=
  if !s.msixOn then s
  else
    (List.range 64).foldl (fun s w =>
      if s.rd (msixPba (32 * w)) = 0 then s
      else
        (List.range 32).foldl (fun s i =>
          let v := 32 * w + i
          if (s.rd (msixPba v)).getLsbD i && !(s.rd (msixCtl v)).getLsbD 0 then
            (s.wr (msixPba v) (s.rd (msixPba v) &&& ~~~(1#32 <<< i))).emit (.msix v)
          else s) s) s

/-- A page's interrupt condition (R46). -/
def State.irqCond (s : State) (base : Nat) : Bool :=
  (s.rd (base + IRQ_STAT.off) &&& s.rd (base + IRQ_EN.off)) != 0

/-- Interrupt input `p` of every firmware core: the condition of the page of index `p` (R315). -/
def State.irqInput (s : State) (p : Nat) : Bool := s.irqCond (p * 0x10000)

/-- The interrupt inputs that firmware core `n` has enabled and that stand (R315). -/
def State.coreIrqs (s : State) (n : Nat) : List Nat :=
  (List.range 1024).filter fun p =>
    ((Tab.get s.fwc.cores n {}).irqEn.getD (p / 8) 0).getLsbD (p % 8) && s.irqInput p

/-- Writes IRQ_STAT, and sends the page's vector when its condition rises (R313). -/
def State.setIrq (s : State) (base : Nat) (v : BitVec 32) : State :=
  let t := s.wr (base + IRQ_STAT.off) v
  if t.irqCond base && !s.irqCond base then t.sendMsix (pageVector base) else t

/-- Sets cause bits of IRQ_STAT (R46). -/
def State.raiseBits (s : State) (base : Nat) (bits : Nat) : State :=
  s.setIrq base (s.rd (base + IRQ_STAT.off) ||| BitVec.ofNat 32 bits)

/-- Sets one cause bit. -/
def State.raise (s : State) (base : Nat) (b : Nat) : State := s.raiseBits base (2 ^ b)

/-- Latches an error of a page, the first until cleared; a later one counts in MORE (R47). -/
def State.latch (s : State) (base code req detail : Nat) : State :=
  if s.fget base ERR_CODE_CODE = 0 then
    (((s.fset base ERR_CODE_CODE code).fset base ERR_INFO_REQ req).fset base ERR_INFO_DETAIL detail).seqUp base |>.raise base 0
  else if s.fget base ERR_CODE_MORE = 0xFFFF then s
  else (s.fset base ERR_CODE_MORE (s.fget base ERR_CODE_MORE + 1)).seqUp base

/-- Sets a bit of PAGE_STAT; a change counts in PAGE_SEQ, a rise of FENCED or FAULT raises its cause (R46, R48). -/
def State.setStat (s : State) (base : Nat) (f : Fld) (b : Bool) : State :=
  if s.flag base f = b then s
  else
    let t := (s.fset base f (bit b)).seqUp base
    if b && f.lo = 3 then t.raise base 2 else if b && f.lo = 2 then t.raise base 1 else t

/-- A hardware change of a configuration field: the field's value and, where it changes, PAGE_SEQ (R48). -/
def State.hwSet (s : State) (base : Nat) (f : Fld) (x : Nat) : State :=
  if s.fget base f = x then s else (s.fset base f x).seqUp base

/-! ### Sets of naturals, in rising order -/

/-- Adds an element to a rising list. -/
def setAdd : List Nat → Nat → List Nat
  | [], k => [k]
  | j :: t, k => if k < j then k :: j :: t else if k = j then j :: t else j :: setAdd t k

/-- Removes an element. -/
def setDel (l : List Nat) (k : Nat) : List Nat := l.filter (· != k)

/-- The `i`-th element of a list of numbers, 0 where absent. -/
def nth (l : List Nat) (i : Nat) : Nat := l.getD i 0

/-- Replaces the `i`-th element, padding with zeros. -/
def setNth : List Nat → Nat → Nat → List Nat
  | [], 0, v => [v]
  | [], i + 1, v => 0 :: setNth [] i v
  | _ :: t, 0, v => v :: t
  | x :: t, i + 1, v => x :: setNth t i v

/-! ### Little-endian numbers -/

/-- The number a little-endian byte string stands for. -/
def leNat : List Byte → Nat
  | [] => 0
  | b :: t => b.toNat + 256 * leNat t

/-- The `n` low bytes of a number, little-endian. -/
def natLe : Nat → Nat → List Byte
  | 0, _ => []
  | n + 1, v => BitVec.ofNat 8 v :: natLe n (v / 256)

/-- `n` bytes of a byte string from `off`; absent bytes read zero. -/
def slice (l : List Byte) (off n : Nat) : List Byte :=
  let t := (l.drop off).take n
  t ++ List.replicate (n - t.length) 0

/-- A little-endian field of a byte string. -/
def fieldLe (l : List Byte) (off n : Nat) : Nat := leNat (slice l off n)

/-- The signed value of a two's-complement number of `w` bits. -/
def toSigned (w v : Nat) : Int :=
  if v % 2 ^ w < 2 ^ (w - 1) then (v % 2 ^ w : Nat) else (v % 2 ^ w : Nat) - (2 ^ w : Nat)

/-- The two's-complement number of `w` bits of an integer. -/
def ofSigned (w : Nat) (i : Int) : Nat := (i % (2 ^ w : Nat)).toNat

/-! ### Byte memories -/

/-- One byte of a byte memory whose unlisted bytes read `d`. -/
def memByte (m : List Host.Cell) (d : Byte) (a : Nat) : Byte := Tab.get m a d

/-- `n` bytes from address `a`. -/
def memBytes (m : List Host.Cell) (d : Byte) (a : Nat) : Nat → List Byte
  | 0 => []
  | n + 1 => memByte m d a :: memBytes m d (a + 1) n

/-- Writes a byte string at address `a`. -/
def memPut (m : List Host.Cell) (d : Byte) (a : Nat) : List Byte → List Host.Cell
  | [] => m
  | b :: t => memPut (Tab.set m a b d) d (a + 1) t

/-- One byte of device memory: an unlisted byte reads zero (R191). -/
def State.byteAt (s : State) (a : Nat) : Byte := memByte s.mem 0 a

/-- `n` bytes of device memory. -/
def State.bytesAt (s : State) (a n : Nat) : List Byte := memBytes s.mem 0 a n

/-- A little-endian number in device memory. -/
def State.leAt (s : State) (a n : Nat) : Nat := leNat (s.bytesAt a n)

/-- Writes bytes of device memory. -/
def State.putBytes (s : State) (a : Nat) (bs : List Byte) : State := { s with mem := memPut s.mem 0 a bs }

/-- Bytes of the boot flash: erased bytes read 0xFF. -/
def State.flashAt (s : State) (a n : Nat) : List Byte := memBytes s.flash 0xFF a n

/-- Writes bytes of the boot flash. -/
def State.putFlash (s : State) (a : Nat) (bs : List Byte) : State := { s with flash := memPut s.flash 0xFF a bs }

/-- Erases `n` bytes of the boot flash from `a`. -/
def State.eraseFlash (s : State) (a n : Nat) : State :=
  { s with flash := s.flash.filter fun c => !(a ≤ c.1 && c.1 < a + n) }

/-! ### Free values -/

/-- The next free 64-bit value, and the state with its counter advanced (log 1). -/
def State.freeWord (s : State) : DWord × State := (Config.freeWord s.free, { s with free := s.free + 1 })

/-- `n` bytes that nothing constrains (log 1). -/
def State.freeBytes (s : State) (n : Nat) : List Byte × State :=
  let k := (n + 7) / 8
  (((List.range k).flatMap fun i => natLe 8 (Config.freeWord (s.free + i)).toNat).take n, { s with free := s.free + k })

/-! ### Shared conditions -/

/-- Applies `f` to the states of a list of indices in turn. -/
def State.each (s : State) (l : List Nat) (f : State → Nat → State) : State := l.foldl f s

/-- The Firefly counter as an on-chip time stamp. -/
def State.tick (s : State) : DWord := s.ffy.counter

/-- Operating time in ms (R450). -/
def State.opMs (s : State) : Nat := s.pget pSEP SEP_OPSEC * 1000 + s.sep.opFrac / 1000000

/-- Puts an action into the hardware action queue of 64; one too many counts in ALG_LOST (R461). -/
def State.queueAction (s : State) (r : ActionRec) : State :=
  if s.sep.actQ.length < 64 then { s with sep.actQ := s.sep.actQ ++ [r] }
  else { (s.count pALG ALG_LOST).raise pALG 4 with sep.lostSince := s.sep.lostSince + 1 }

/-- An action of the conductor die (R460). -/
def State.act (s : State) (code source cause arg : Nat) : State :=
  s.queueAction { code, source, cause, arg, opMs := s.opMs, silent := false }

/-- Carapace measures the readings of this action itself (R460). -/
def crpCode (code : Nat) : Bool := 1 ≤ code && code ≤ 6

/-- The reading that an action of Carapace takes from a sample (R460): V_GS of a gate fault, the current of a tripped branch
or feed, V_BUS of a transfer or a bus loss. -/
def crpReading (code source : Nat) (x : CrpSample) : Nat :=
  let b := x.branches.getD source ⟨0, 0, 0, 0, some 0⟩
  if code = 3 then b.vgs
  else if code = 1 || code = 2 then b.i
  else if code = 5 then (if source = 0 then x.feedA.i else x.feedB.i)
  else x.vbus

/-- The readings of eight intervals of five samples: each the mean, 0xFFFF where samples are missing (R459, log 99). -/
def intervalMeans (l : List Nat) : List Half :=
  (List.range 8).map fun k =>
    let w := (l.drop (5 * k)).take 5
    if w.length < 5 then 0xFFFF else BitVec.ofNat 16 (min 0xFFFF (w.foldl (· + ·) 0 / 5))

/-- An action of Carapace as it is reported: with the eight readings that end at it (R370, R459). -/
def State.crpRec (s : State) (code source cause arg : Nat) : ActionRec :=
  { code, source, cause, arg, opMs := s.opMs, silent := s.crp.silent
    pre := (intervalMeans (s.crp.past.map (crpReading code source))).reverse }

/-- An action of Carapace, with the readings before it: buffered while the link is silent, at most 32, the excess in
CRP_ACT_LOST (R368, R370, R460). -/
def State.crpAct (s : State) (code source cause arg : Nat) : State :=
  if s.crp.silent then
    if s.crp.actBuf.length < 32 then { s with crp.actBuf := s.crp.actBuf ++ [s.crpRec code source cause arg] }
    else { (s.count pCRPGLOB CRP_ACT_LOST) with crp.lostAct := s.crp.lostAct + 1 }
  else s.queueAction (s.crpRec code source cause arg)

end Sys2Proof.Machine
end

