-- ==== Sys2Proof/Machine/Clock.lean ====
section
/-! DEFINITION. What passes with time when no command waits: one tick of the Firefly timebase, one nanosecond (log 2). -/

namespace Sys2Proof.Machine

/-- Whole operating seconds reach SEP_OPSEC, and SEP_CAL once it is set (R450, R457). -/
def State.carrySeconds (s : State) : State :=
  let k := s.sep.opFrac / 1000000000
  if k = 0 then s
  else
    let s := { s with sep.opFrac := s.sep.opFrac % 1000000000 }.pset pSEP SEP_OPSEC (s.pget pSEP SEP_OPSEC + k)
    if s.flag pSEP SEP_STAT_CAL_SET then s.pset pSEP SEP_CAL (s.pget pSEP SEP_CAL + k) else s

/-- The counter over `n` ticks of time: it first waits the ticks that a slew or a step put it back (R208, R217). -/
def Ffy.run (f : Ffy) (n : Nat) : Ffy := { f with counter := f.counter + BitVec.ofNat 64 (n - f.hold), hold := f.hold - n }

/-- `n` nanoseconds: the Firefly counter counts while its PLL is locked (R208), the heartbeat ages (R324), the model's
clock and the operating time advance (R450). -/
def State.advance (s : State) (n : Nat) : State :=
  State.carrySeconds { s with
    nowNs := s.nowNs + n
    hr.hbAgeNs := s.hr.hbAgeNs + n
    ffy := if s.flag pFFY FFY_STAT_LOCKED then s.ffy.run n else s.ffy
    sep.opFrac := s.sep.opFrac + n }

/-- One nanosecond. -/
def idleTick (s : State) : State := s.advance 1

/-- The time to the multiple of `unit` that comes next; 0 where the counter stands at one that `done` does not name. -/
def State.untilBoundary (s : State) (unit : Nat) (done : Option DWord) : Nat :=
  let c := s.ffy.counter.toNat
  if c % unit = 0 && done != some s.ffy.counter then 0 else s.ffy.hold + (unit - c % unit)

end Sys2Proof.Machine
end

