-- ==== Sys2Proof/Machine/Straps.lean ====
section
/-! DEFINITION. The straps as sampled (R32-R35) and the settings they decode to. -/

namespace Sys2Proof.Machine

/-- A strap field of CRP_STRAPS. -/
def State.strap (s : State) (f : Fld) : Nat := s.fget pCRPGLOB f

/-- SHDN_THR, degrees Celsius. -/
def State.strapThr (s : State) : Nat := nth [85, 90, 95, 105] (s.strap CRP_STRAPS_SHDN_THR)

/-- FAN_SAFE, 0.1%. -/
def State.fanSafe (s : State) : Nat := nth [1000, 850, 700, 600] (s.strap CRP_STRAPS_FAN_SAFE)

/-- The HOST_CURVE rating, A. -/
def State.hostRating (s : State) : Nat := nth [8, 12, 18, 24] (s.strap CRP_STRAPS_HOST_CURVE)

/-- The class rating of a branch, A (R357). -/
def State.rating (s : State) (b : Nat) : Nat := if b = 8 then s.hostRating else 24

/-- CRIT_SENS: the mask of critical thermistors. -/
def State.strapCrit (s : State) : Nat := nth [0xFF, 0x3F, 0xF, 0x3] (s.strap CRP_STRAPS_CRIT_SENS)

/-- The feeds that may close, the primary first (R33, R34). -/
def State.feedOrder (s : State) : List Nat :=
  match s.strap CRP_STRAPS_FEED_CFG with
  | 1 => [0]
  | 2 => [1]
  | _ => [0, 1]

/-- Carapace takes no command while its link is silent, nor until its state is acknowledged (R367, R368). -/
def State.crpDeaf (s : State) : Bool := s.crp.silent || s.crp.ackWait

end Sys2Proof.Machine
end

