-- ==== Sys2Proof/Machine/Registers.lean ====
section
/-! DEFINITION. Register access (02_register_pages_access.md): reading a word as a class sees it, the checks of a write, the
fields it changes, the denial record, and the commands READ_CLEAR, LO_READ, IRQ_SET, ERR_CLR,
ACCESS_MASK_WRITE, SOFT_RESET, SOFT_RESET_DONE. -/

namespace Sys2Proof.Machine

/-- Requester codes of R49. -/
def clsCode : Cls → Nat
  | .host => 0
  | .fwp => 1
  | .fwc => 2
  | .fwl => 3
  | .fws => 4
  | .rack => 5
  | .dbg => 6

/-- Privilege levels of R49. -/
def clsLevel : Cls → Nat
  | .host => 4
  | .fwp => 1
  | .fwc => 2
  | .fwl => 2
  | .fws => 2
  | .rack => 3
  | .dbg => 5

/-- The key of a class's own copy of the word at `a`. -/
def clsKey (cls : Cls) (a : Nat) : Nat := clsCode cls * 0x4000000 + a

/-! ### Reading -/

/-- GEN_STATE (R64): each bit mirrors its condition. -/
def genState (s : State) : BitVec 32 :=
  let emergency := (s.rd (pHZDSENS + HZ_LATCH_WET.off)).toNat % 8 != 0
  let upd := s.fget pFWC FWC_UPD_STAT_STATE
  BitVec.ofNat 32 <|
    256 * bit s.hr.lost + 128 * bit (s.flag pHZDSENS HZ_SHDN_STAT_ASSERTED) +
    64 * bit (s.fget pGEN GEN_FAMILY_ACT_CORES < 32) + 32 * bit (s.flag pCRPFEED CF_STAT_SINGLE) +
    16 * bit ([1, 2, 3, 5, 6, 7].contains upd) +
    8 * bit emergency + 4 * bit s.fwc.safeProfile +
    2 * bit (s.flag pLCWGLOB LCW_STAT_AUTO) + bit s.pins.mainPwrGood

/-- RACK_ALERT_N is low (R333). -/
def rackAlertLow (s : State) : Bool :=
  (s.rd (pRCK + RCK_ALERT_SRC_SHDN.off) &&& s.rd (pRCK + RCK_ALERT_EN_SHDN.off)) != 0 || !s.pins.linkCoreStarted

/-- TRAY_HALT_N is low, held by another party or by the FX9 (R328); what the host port, a MAIN block, drives is clamped to idle
without MAIN (R21). -/
def trayHaltLow (s : State) : Bool :=
  s.pins.trayExtLow || (s.pins.mainPwrGood && s.flag pHST HST_STOP_TRAY_DRIVE) || s.flag pRCK RCK_STOP_TRAY_DRIVE

/-- The digest engine computes a digest (R270): of a slot being registered, of a job being loaded, or of the output of a digested
job that ended COMPLETE. -/
def State.hashing (s : State) : Bool :=
  s.qw.hashing.isSome ||
  (match s.krm.job with
    | some j => j.phase = .loading
    | none => false) ||
  (match s.krm.lastDone with
    | some j => j.digest && j.status = 0 && !j.digDone
    | none => false)

/-- The ledger core signs (R256, R270): it runs, an index is left and a closed batch has no signature. -/
def State.signing (s : State) : Bool :=
  s.fget pFWC (FWC_CORE_STAT_STATE.nth 3 0x40) = 2 && !s.flag pDGT DGT_STAT_KEY_EXHAUSTED &&
    s.dgt.closed.any fun b => b.signed.isNone

/-- The 4 KiB or 32 KiB of flash or log a window page shows a class (R445, R458, R463), one word at window offset `o`. -/
def windowWord (s : State) (cls : Cls) (a : Nat) : Option (BitVec 32) :=
  let page := a / 0x10000
  let off := a % 0x10000
  if page = 0xC1 && 0x1000 ≤ off && off < 0x2000 then
    let g := Tab.get s.copies (clsKey cls (pSEPWIN + SEP_CURSOR_GROUP.off)) 0
    some (BitVec.ofNat 32 (leNat (s.flashAt (0x2000000 + g.toNat * 4096 + (off - 0x1000)) 4)))
  else if page = 0xC2 && 0x1000 ≤ off && off < 0x2000 then
    let g := Tab.get s.copies (clsKey cls (pALG + ALG_CURSOR.off)) 0
    some (BitVec.ofNat 32 (leNat (s.flashAt (0x80000 + g.toNat % 16 * 4096 + (off - 0x1000)) 4)))
  else if page = 0xB1 && 0x8000 ≤ off then
    let g := Tab.get s.copies (clsKey cls (pFWL + FWL_CURSOR_CURSOR.off)) 0
    some (BitVec.ofNat 32 (leNat (memBytes s.fwc.sram 0 (0x300000 + g.toNat / 0x8000 % 8 * 0x8000 + (off - 0x8000)) 4)))
  else none

/-- The word a class reads at BAR0 offset `a` (R22, R39, R58, R64). -/
def readWord (s : State) (cls : Cls) (a : Nat) : BitVec 32 :=
  match findPage (a / 0x10000) with
  | none => 0
  | some (p, _) =>
    let off := a % 0x10000
    if p.main && !s.pins.mainPwrGood then 0xFFFFFFFF
    else
      match p.kind, off with
      | .gen, 0x100 =>
        GEN_FAMILY_STEP_NUM.put (GEN_FAMILY_STEP_LTR.put (s.rd a) s.fuses.stepLtr.toNat) s.fuses.stepNum.toNat
      | .gen, 0x108 => genState s
      | .gen, 0x10C => BitVec.ofNat 32 s.fuses.uid.toNat
      | .acc, 0x100 => BitVec.ofNat 32 (clsLevel cls * 16 + clsCode cls)
      | .ffy, 0x108 => BitVec.ofNat 32 s.ffy.counter.toNat
      | .hst, 0x114 => BitVec.ofNat 32 (min 0xFFFF (s.hr.hbAgeNs / 1000000))
      | .hst, 0x120 =>
        HST_MB_STAT_LINK_CORE_UP.put (s.rd a) (bit (s.fget pFWC (FWC_CORE_STAT_STATE.nth 2 0x40) = 2))
      | .hst, 0x124 => BitVec.ofNat 32 (2 * bit (trayHaltLow s) + s.fget pHST HST_STAT_TRAY_HALT)
      | .rck, 0x108 =>
        RCK_STAT_LIMIT_PIN.put (RCK_STAT_ALERT.put (s.rd a) (bit (rackAlertLow s))) (bit s.pins.rackLimitLow)
      | .fwc, 0x11C =>
        if s.fget pFWC FWC_UPD_STAT_STATE = 7 then
          BitVec.ofNat 32 ((s.rd a).toNat - (s.nowNs - s.fwc.trialStart) / 1000000000)
        else s.rd a
      | .lcwglob, 0x104 =>
        let w := LCW_STAT_KEEPER.put (s.rd a) (s.fget pCRPGLOB CRP_GSTAT_SAFE_DUTY)
        let w := LCW_STAT_CAUSE_FORCE.put w (s.fget pLCWGLOB LCW_CTRL_TABLE_FORCE)
        let w := LCW_STAT_CAUSE_FWC.put w (bit (s.fget pFWC (FWC_CORE_STAT_STATE.nth 1 0x40) != 2))
        LCW_STAT_CAUSE_HB.put w (bit (3000000000 ≤ s.hr.hbAgeNs))
      | .qmg, 0x104 => QMG_STAT_LOST_MODE.put (s.rd a) (bit s.hr.lost)
      | .wit, 0x104 => WIT_STAT_YIELD.put (s.rd a) (bit s.gov.yield)
      | .dgt, 0x104 => DGT_STAT_HASHING.put (DGT_STAT_SIGNING.put (s.rd a) (bit s.signing)) (bit s.hashing)
      | .govglob, 0x104 => GG_STAT_WIT_YIELD.put (s.rd a) (bit s.gov.yield)
      | .clk, 0x100 => if s.pins.mainPwrGood then s.rd a else s.rd a &&& 0x3F0000#32
      | .clk, 0x108 =>
        let v := if s.pins.mainPwrGood then s.rd a else s.rd a &&& 0xC1#32
        CLK_STAT_TB_LOCK.put v (s.fget pFFY FFY_STAT_LOCKED)
      | _, _ =>
        if p.kind = .dgt && 0x150 ≤ off && off < 0x194 then
          BitVec.ofNat 32 (fieldLe s.fuses.pubKey (off - 0x150) 4)
        else
          match windowWord s cls a with
          | some w => w
          | none =>
            match findReg p.regs off with
            | some (r, _, b) =>
              if r.pair && b = 4 then Tab.get s.hiLatch (clsKey cls (a - 4)) 0
              else if r.percls then Tab.get s.copies (clsKey cls a) 0
              else s.rd a
            | none => s.rd a

/-- The _HI half of the pair whose _LO is at `a`, from the same moment. -/
def readHi (s : State) (cls : Cls) (a : Nat) : BitVec 32 :=
  if a = pGEN + 0x10C then BitVec.ofNat 32 (s.fuses.uid.toNat / 0x100000000)
  else if a = pFFY + 0x108 then BitVec.ofNat 32 (s.ffy.counter.toNat / 0x100000000)
  else
    match findPage (a / 0x10000) with
    | some (p, _) =>
      match findReg p.regs (a % 0x10000) with
      | some (r, _, _) => if r.percls then Tab.get s.copies (clsKey cls (a + 4)) 0 else s.rd (a + 4)
      | none => 0
    | none => 0

/-- Whether page `pg` is assigned and powered. -/
def pageUp (s : State) (pg : Nat) : Bool :=
  match findPage pg with
  | none => false
  | some (p, _) => !(p.main && !s.pins.mainPwrGood)

/-- Whether the word at `a` is the _LO half of a pair. -/
def loAt (a : Nat) : Bool :=
  match findPage (a / 0x10000) with
  | none => false
  | some (p, _) => isLo p.regs (a % 0x10000)

/-- Whether the host port takes the host's memory accesses: it is powered (R22) and not in D3hot (R304). -/
def State.hostPort (s : State) : Bool := s.pins.mainPwrGood && !s.hr.d3hot

/-- Whether a class reaches the register pages: the host through the host port; DBG through a connected TAP (R33, R49). -/
def State.reaches (s : State) (cls : Cls) : Bool :=
  match cls with
  | .host => s.hostPort
  | .dbg => s.pins.tapConnected
  | _ => true

/-- Whether a page's access port takes an access of `size` bytes at BAR0 offset `a` of a page with registers `rs` (R38). -/
def sizeOk (rs : List RRow) (a size : Nat) : Bool :=
  (size = 4 && a % 4 = 0) || (size = 8 && a % 8 = 0 && isLo rs (a % 0x10000))

/-- The MSI-X table and the pending bits, which the host reaches as PCI Express has it (R316). -/
def msixAt (a : Nat) : Bool := a / 0x10000 * 0x10000 = pHST && 0x7F00 ≤ a % 0x10000

/-! ### Denials -/

/-- Records a denial in the ACC page (R65). -/
def denied (s : State) (cls : Cls) (a reason : Nat) : State :=
  let t := s.count pACC ACC_DENY_CNT
  let t := t.wr (pACC + ACC_DENY_ADDR.off) (BitVec.ofNat 32 a)
  let t := t.wr (pACC + ACC_DENY_INFO_REQ.off) (BitVec.ofNat 32 (reason * 256 + clsCode cls))
  t.raise pACC 3

/-- An access of the wrong size or alignment: recorded in the ACC page and latched in the page accessed (R38, R47). -/
def badSize (s : State) (cls : Cls) (a : Nat) : State :=
  (denied s cls a 2).latch (a / 0x10000 * 0x10000) 3 (clsCode cls) (a % 0x10000)

/-! ### Writing -/

/-- Whether a class owns a field; an unowned field belongs to every class (R52). -/
def FRow.owns (f : FRow) (cls : Cls) : Bool := f.own = 0 || f.own / 2 ^ clsCode cls % 2 = 1

/-- The value a word carries in a field. -/
def FRow.val (f : FRow) (v : Nat) : Nat := v / 2 ^ f.lo % 2 ^ f.w

/-- Whether a field can be written at all. -/
def FRow.writable (f : FRow) : Bool := f.acc != .ro && f.acc != .rc

/-- The owner rule of R52 for a register's writable fields. -/
def ownersOk (fs : List FRow) (cls : Cls) (old v : Nat) : Bool :=
  let ws := fs.filter FRow.writable
  ws.any (fun f => f.owns cls) &&
    ws.all fun f => f.owns cls || (if f.acc = .rw then f.val v = f.val old else f.val v = 0)

/-- One field of a written word: an RW field takes the value, a W1C bit clears, an action bit stays 0 (R8). -/
def FRow.write (f : FRow) (old v : Nat) : Nat :=
  match f.acc with
  | .rw => f.val v * 2 ^ f.lo
  | .w1c => (f.val old - (Nat.land (f.val old) (f.val v))) * 2 ^ f.lo
  | _ => 0

/-- The bits of a word that its writable fields cover. -/
def coverMask (fs : List FRow) : Nat :=
  (fs.filter FRow.writable).foldl (fun m f => m + (2 ^ f.w - 1) * 2 ^ f.lo) 0

/-- The word a register holds after `v` is written over `old`: fields that a write does not reach keep their value. -/
def writeWord (fs : List FRow) (old : BitVec 32) (v : Nat) : BitVec 32 :=
  (old &&& ~~~BitVec.ofNat 32 (coverMask fs)) |||
    BitVec.ofNat 32 (((fs.filter FRow.writable).map fun f => f.write old.toNat v).foldl (· + ·) 0)

/-- Whether every RW field's written value lies in its range. -/
def rangeOk (r : RRow) (v : Nat) : Bool :=
  r.fields.all fun f =>
    match f.rng with
    | none => true
    | some (lo, hi) => (lo ≤ f.val v && f.val v ≤ hi) || (r.zero && f.val v = 0)

/-- The stored word a class writes over. -/
def oldWord (s : State) (cls : Cls) (r : RRow) (a : Nat) : BitVec 32 :=
  if r.percls then Tab.get s.copies (clsKey cls a) 0 else s.rd a

/-- Stores a register word, in the class's own copy where the register has one per class. -/
def putWord (s : State) (cls : Cls) (r : RRow) (a : Nat) (w : BitVec 32) : State :=
  if r.percls then { s with copies := Tab.set s.copies (clsKey cls a) w 0 } else s.wr a w

/-- The journal ring lies wholly within the bulk tier, with 2-1,024 segments (R258). -/
def journalRange (s : State) : Bool :=
  let b := s.pget pJRN JRN_BASE
  let n := s.fget pJRN JRN_SEGS
  b % 0x40000000 = 0 && 2 ≤ n && n ≤ 1024 && 0x010000000000 ≤ b && b + n * 0x40000000 ≤ 0x028000000000

/-- LKS_CFG and LKS_START (R265): an enabled pair's settings stand still; the two members differ, and no accelerator is in two
enabled pairs (log 20). -/
def lockstepRule (s : State) (base off v : Nat) : Option Nat :=
  let i := (off - 0x140) / 0x40
  if off < 0x140 || 0x240 ≤ off then none
  else
    let old := (s.rd (base + 0x140 + 0x40 * i)).toNat
    let en := old % 2 = 1
    let field (w : Nat) : List Nat := [w / 16 % 8, w / 256 % 8, w / 0x10000 % 32, w / 0x1000000 % 2]
    if off % 0x40 = 8 then (if en then some 0x0102 else none)
    else if off % 0x40 != 0 then none
    else if en && field v != field old then some 0x0102
    else
      let x := v / 16 % 8
      let y := v / 256 % 8
      let clash := v % 2 = 1 && [0, 1, 2, 3].any fun j =>
        let w := (s.rd (base + 0x140 + 0x40 * j)).toNat
        j != i && w % 2 = 1 && (w / 16 % 8 = x || w / 16 % 8 = y || w / 256 % 8 = x || w / 256 % 8 = y)
      if x = y || clash then some 0x0101 else none

/-- The block's own rule on a value, beyond field ranges: the error code it latches when it drops the write (0: dropped
without one). `v` is the whole value, both halves of a pair. -/
def blockRule (s : State) (k : PageKind) (base off v : Nat) : Option Nat :=
  match k with
  | .clk => if off = 0x104 && v % 64 > s.fget pCLK CLK_KRM_CEIL then some 0x0101 else none
  | .hst => if off = 0x108 && (v % 0x40000000 != 0 || v + 0x1000000000 > 0x1000000000000) then some 0x0102 else none
  | .krmglob =>
    if off = 0x148 then
      if !(6 ≤ v % 32 && v % 32 ≤ 20) then some 0x0103
      else if s.fget base KG_CRING_WR != s.fget base KG_CRING_RD then some 0 else none
    else none
  | .wit =>
    if off = 0x188 then
      if !(2 ≤ v % 32 && v % 32 ≤ 16) || s.fget base WIT_RPL_WR != s.fget base WIT_RPL_RD then some 0x0104 else none
    else none
  | .dgt =>
    if off = 0x110 then
      if !(4 ≤ v % 32 && v % 32 ≤ 16) || s.fget base DGT_RING_WR != s.fget base DGT_RING_RD then some 0x0101 else none
    else if off = 0x138 then
      if !(2 ≤ v % 32 && v % 32 ≤ 10) || s.fget base DGT_BRING_WR != s.fget base DGT_BRING_RD then some 0x0101 else none
    else none
  | .jrn =>
    let en := s.flag base JRN_CTRL_EN
    if off = 0x100 then (if v % 2 = 1 && !en && !(journalRange s) then some 0x0103 else none)
    else if (off = 0x108 || off = 0x110) && en then some 0x0101
    else none
  | .lks => lockstepRule s base off v
  | .qmg => if off = 0x108 && s.fget base QMG_ENABLED != 0 then some 0x0102 else none
  | .govacc =>
    if off = 0x10C && v % 65536 > s.fget base GA_HARD then some 0x0101
    else if off = 0x114 then
      match s.fwc.fbLimit[(base - pGOVACC 0) / 0x10000]? with
      | some m => if v % 65536 > m then some 0x0101 else none
      | none => none
    else none
  | .crpglob | .crpfeed => if s.crpDeaf then some 0 else none
  | .crpbr =>
    let r := s.rating ((base - pCRPBR 0) / 0x10000)
    if s.crpDeaf then some 0
    else if off = 0x110 && v % 65536 > 11 * r then some 0x0104
    else if off = 0x140 && v % 65536 > 60 * r then some 0x0104
    else none
  | .hzdsens =>
    if s.crpDeaf && (off < 0x110 || off = 0x114 || 0x280 ≤ off) then some 0
    else if off = 0x104 && v % 256 > s.strapThr then some 0x0101
    else none
  | .hzddrip => if s.crpDeaf then some 0 else none
  | .slk =>
    let st := s.fget base SLK_STAT_STATE
    if (off = 0x110 || off = 0x118) && st != 0 && st != 7 then some 0x0101 else none
  | _ => none

/-- An accepted write that the block drops: PAGE_SEQ counts it all the same (R48), and the page latches the error, if the
block names one. -/
def dropWrite (s : State) (cls : Cls) (a code : Nat) : State :=
  let base := a / 0x10000 * 0x10000
  if code = 0 then s.seqUp base else (s.seqUp base).latch base code (clsCode cls) (a % 0x10000)

/-- The fence and the soft reset of a page, met by a write of a block register at `a` (R43, R45). -/
def blockGate (s : State) (cls : Cls) (a : Nat) (inFence : Bool) : Bool × State :=
  let base := a / 0x10000 * 0x10000
  if s.flag base PAGE_STAT_FENCED && !inFence then (false, dropWrite s cls a 1)
  else if s.flag base PAGE_STAT_BUSY then (false, dropWrite s cls a 2)
  else (true, s)

/-- The checks of a write in order: the requester's path (R22, R33), page and power (R22, R39), size (R38), read-only registers (R48), mask
and owners (R51, R52), soft reset and fence (R43, R45). `ok` when the write is accepted; otherwise the state after it is dropped. -/
def writeGate (s : State) (cls : Cls) (a size v : Nat) : Bool × State :=
  match findPage (a / 0x10000) with
  | none => (false, s)
  | some (p, _) =>
    let base := a / 0x10000 * 0x10000
    let off := a % 0x10000
    let mask := s.fget base ACCESS_MASK
    let allowed := mask / 2 ^ clsCode cls % 2 = 1
    if !s.reaches cls || (p.main && !s.pins.mainPwrGood) then (false, s)
    else if msixAt a then (true, s)
    else if !(sizeOk p.regs a size) then (false, badSize s cls a)
    else if off < 0x100 then
      if off = 0x30 then
        if cls = .fwp then (true, s) else (false, denied s cls a 3)
      else if off = 0x10 || off = 0x18 || off = 0x1C || off = 0x20 || off = 0x2C then
        if allowed then (true, s) else (false, denied s cls a 0)
      else (false, s)
    else
      let slotWord := p.kind = .hst && 0x1000 ≤ off && off < 0x3000
      match findReg p.regs off with
      | none =>
        if !slotWord then (false, s) else if !allowed then (false, denied s cls a 0) else blockGate s cls a false
      | some (r, _, _) =>
        if !(r.fields.any FRow.writable) then (false, s)
        else if !allowed then (false, denied s cls a 0)
        else if !(ownersOk r.fields cls (oldWord s cls r a).toNat (v % 0x100000000)) ||
            (size = 8 && !(ownersOk r.fields cls (oldWord s cls r (a + 4)).toNat (v / 0x100000000))) then
          (false, denied s cls a 1)
        else blockGate s cls a r.fenced

/-- The value an accepted write commits at the register's own offset: both halves for a pair (R59), and whether this is
the write that commits. -/
def commitValue (s : State) (cls : Cls) (r : RRow) (a size v b : Nat) : Option (Nat × Nat) :=
  if !r.pair then some (a, v % 0x100000000)
  else if size = 8 then some (a, v)
  else if b = 0 then none
  else
    let lo :=
      match Tab.get s.loShadow (clsKey cls (a - 4)) none with
      | some w => w.toNat
      | none => (oldWord s cls r (a - 4)).toNat
    some (a - 4, lo + v % 0x100000000 * 0x100000000)

/-- GEN_MODE after a write (R61, R62, R200): a change of STRICT is applied first; STRICT_PEND is set while STRICT differs
from STRICT_ACT; while STRICT = 1 the four mode bits are 0. -/
def genModeWord (old : BitVec 32) (v : Nat) : BitVec 32 :=
  let act := old &&& 0x200#32
  let pend := if v % 2 = GEN_MODE_STRICT_ACT.get old then act else act ||| 0x100#32
  if v % 2 = 1 then pend ||| 1#32 else pend ||| BitVec.ofNat 32 (v % 32)

/-- The word a register takes, where its block adds to R8: GEN_MODE (R61), and the strapped sensors of HZ_CRIT (R412). -/
def takeWord (s : State) (k : PageKind) (off : Nat) (r : RRow) (old : BitVec 32) (x : Nat) : BitVec 32 :=
  if k = .gen && off = 0x104 then genModeWord old x
  else if k = .hzdsens && off = 0x100 then writeWord r.fields old x ||| BitVec.ofNat 32 s.strapCrit
  else writeWord r.fields old x

/-- Applies an accepted write to a block register: range and block rules, then the fields, then PAGE_SEQ. The flag says
whether the register took the value. -/
def writeBlock (s : State) (cls : Cls) (p : PRow) (r : RRow) (a size v b : Nat) : Bool × State :=
  let base := a / 0x10000 * 0x10000
  match commitValue s cls r a size v b with
  | none =>
    (false, { s with loShadow := Tab.set s.loShadow (clsKey cls a) (some (BitVec.ofNat 32 v)) none }.seqUp base)
  | some (c, x) =>
    let s := { s with loShadow := Tab.set s.loShadow (clsKey cls c) none none }
    if !rangeOk r (x % 0x100000000) then
      (false, dropWrite s cls c p.rngErr)
    else
      match blockRule s p.kind base (c % 0x10000) x with
      | some e => (false, dropWrite s cls c e)
      | none =>
        if r.pair then
          let lo := BitVec.ofNat 32 (Nat.land (x % 0x100000000) r.lom)
          let hi := BitVec.ofNat 32 (Nat.land (x / 0x100000000) r.hi)
          (true, (putWord (putWord s cls r c lo) cls r (c + 4) hi).seqUp base)
        else
          let w := takeWord s p.kind (c % 0x10000) r (oldWord s cls r c) x
          (true, (putWord s cls r c w).seqUp base)

/-- The logical index a physical core has by the fuses (R110), if it has one. -/
def Fuses.slotOf (f : Fuses) (c : Nat) : Option Nat :=
  ((List.range 8).find? fun k => (f.kqMap.getD (c / 9) 0).toNat / 16 ^ k % 16 = c % 9).map fun k => 8 * (c / 9) + k

/-- Whether a physical core is its quadrant's spare by the fuses (R110). -/
def Fuses.isSpare (f : Fuses) (c : Nat) : Bool := (f.kqSpare.getD (c / 9) 0xF).toNat = c % 9

/-- The mask of the physical cores that the fuses slot (R110, R163). -/
def Fuses.actMap (f : Fuses) : Nat :=
  (((List.range 36).filter fun c => (f.slotOf c).isSome).map fun c => 2 ^ c).foldl (· + ·) 0

/-- Kermes registers whose reset value is of the fuses (R110, R163). -/
def State.fusedPage (s : State) (base : Nat) : State :=
  if pKRMQUAD 0 ≤ base && base ≤ pKRMQUAD 3 then
    let q := (base - pKRMQUAD 0) / 0x10000
    (s.wr (base + KQ_MAP_SLOT0.off) (s.fuses.kqMap.getD q 0)).fset base KQ_SPARE_SPARE (s.fuses.kqSpare.getD q 8).toNat
  else if pKRMCORE 0 ≤ base && base ≤ pKRMCORE 35 then
    let c := (base - pKRMCORE 0) / 0x10000
    (s.fset base KCORE_STAT_LOGICAL ((s.fuses.slotOf c).getD 0x3F)).fset base KCORE_STAT_SPARE
      (bit ((s.fuses.slotOf c).isNone && s.fuses.isSpare c))
  else if base = pKRMGLOB then s.pset base KG_ACT_MAP s.fuses.actMap
  else s

/-- What a soft reset leaves: words whose reset value is what fuses, the boot or flash hold now, and conditions outside the
block that a field mirrors (log 91). -/
def keptFields : List (Nat × Fld) :=
  [(pGEN, ⟨0x100, 0, 32⟩), (pFFY, FFY_STAT_LOCKED), (pSEP, SEP_NEXT), (pSEP, SEP_CYCLES), (pALG, ALG_HEAD), (pALG, ALG_PIN),
   (pALG, ALG_NO), (pDGT, ⟨0x148, 0, 32⟩), (pDGT, ⟨0x14C, 0, 32⟩), (pDGT, DGT_STAT_KEY_EXHAUSTED), (pINT, ⟨0x104, 0, 32⟩), (pFWC, ⟨0x104, 0, 32⟩),
   (pFWC, ⟨0x10C, 0, 32⟩), (pFWC, ⟨0x110, 0, 32⟩), (pFWC, ⟨0x114, 0, 32⟩), (pFWC, ⟨0x118, 0, 32⟩)] ++
  (List.range 20).map (fun j => (pGOVGLOB, ⟨0x158 + 4 * j, 0, 32⟩)) ++
  ((List.range 8).flatMap fun a => (List.range 20).map fun j => (pGOVACC a, ⟨0x140 + 4 * j, 0, 32⟩)) ++
  (List.range 4).flatMap fun n => (pFWC, ⟨0x208 + 0x40 * n, 0, 32⟩) ::
    (List.range 8).map fun i => (pFWC, ⟨0x220 + 0x40 * n + 4 * i, 0, 32⟩)

/-- The page's registers that a soft reset does not put at a fixed value: those of the fuses, the boot and flash as they are,
operating seconds as flash holds them, a fresh nonce (R464), a counter at 0, the heartbeat's age at its reset (log 91). -/
def State.dynamicReset (t : State) (base : Nat) (s : State) : State :=
  let s := (keptFields.filter fun e => e.1 = base).foldl (fun s e => s.fset base e.2 (t.fget base e.2)) (s.fusedPage base)
  if base = pSEP then (s.freeWord.2.pset pSEP SEP_OPSEC s.sep.cjOp).pset pSEP SEP_NONCE s.freeWord.1.toNat
  else if base = pFFY then { s with ffy.counter := 0 }
  else if base = pHST then { s with hr.hbAgeNs := 65535000000 }
  else s

/-- Whether a register key, of whatever class, is a block register of the page at `base`; the MSI-X table and the pending
bits are not (R316). -/
def blockKey (base k : Nat) : Bool :=
  base + 0x100 ≤ k % 0x4000000 && k % 0x4000000 < base + (if base = pHST then 0x7F00 else 0x10000)

/-- Starts a soft reset (R43): block registers, IRQ_STAT, ERR_CODE and ERR_INFO at their reset values, BUSY and SOFT_RESET
set; one change in PAGE_SEQ. -/
def softReset (s : State) (base : Nat) : State :=
  let t := { s with
    regs := s.regs.filter fun e => !(blockKey base e.1)
    copies := s.copies.filter fun e => !(blockKey base e.1)
    hiLatch := s.hiLatch.filter fun e => !(blockKey base e.1)
    loShadow := s.loShadow.filter fun e => !(blockKey base e.1) }
  let t := ((t.wr (base + 0x18) 0).wr (base + 0x24) 0).wr (base + 0x28) 0
  let t := s.dynamicReset base t
  ((t.fset base PAGE_STAT_BUSY 1).fset base PAGE_CTRL_SOFT_RESET 1).seqUp base

/-- Applies an accepted write to the header (R41-R48). -/
def writeHeader (s : State) (p : PRow) (a v : Nat) : State :=
  let base := a / 0x10000 * 0x10000
  let off := a % 0x10000
  let w := BitVec.ofNat 32 v
  if off = 0x10 then
    let s := s.fset base PAGE_CTRL_ENABLE (v % 2)
    if v / 2 % 2 = 1 && !p.nosr then softReset s base else s.seqUp base
  else if off = 0x18 then (s.wr a (s.rd a &&& ~~~w)).seqUp base
  else if off = 0x1C then
    let t := (s.wr a w).seqUp base
    if t.irqCond base && !s.irqCond base then t.sendMsix (pageVector base) else t
  else if off = 0x20 then s.raiseBits base (v % 0x100000000)
  else if off = 0x2C then (if v % 2 = 1 then (s.wr (base + 0x24) 0).wr (base + 0x28) 0 else s)
  else (s.wr a (BitVec.ofNat 32 (Nat.lor (v % 128) 2))).seqUp base

/-- A write into the MSI-X table or the pending bits (R316): the table takes the words; a vector unmasked with its
pending bit set is sent (R313). -/
def writeMsix (s : State) (a size v : Nat) : State :=
  if a < 0x788000 then s
  else
    let s := s.wr (a / 4 * 4) (BitVec.ofNat 32 v)
    let s := if size = 8 then s.wr (a / 4 * 4 + 4) (BitVec.ofNat 32 (v / 0x100000000)) else s
    let n := (a - 0x788000) / 16
    if (s.rd (msixPba n)).getLsbD (n % 32) && !(s.rd (msixCtl n)).getLsbD 0 && s.msixOn then
      (s.wr (msixPba n) (s.rd (msixPba n) &&& ~~~(1#32 <<< (n % 32)))).emit (.msix n)
    else s

/-- A whole register write: the gate, then the page's part it falls in. The flag says whether a block register took the
value, so that an action the register starts may follow. -/
def regWrite (s : State) (cls : Cls) (a size v : Nat) : Bool × State :=
  let g := writeGate s cls a size v
  if !g.1 then g
  else
    match findPage (a / 0x10000) with
    | none => (false, s)
    | some (p, _) =>
      let off := a % 0x10000
      if msixAt a then (false, writeMsix s a size v)
      else if off < 0x100 then (false, writeHeader s p a v)
      else
        match findReg p.regs off with
        | none => (false, (s.wr a (BitVec.ofNat 32 v)).seqUp (a / 0x10000 * 0x10000))
        | some (r, _, b) => writeBlock s cls p r a size v b

/-- A register write that is a row of its own: where it is accepted, `act` follows. -/
def writeThen (s : State) (cls : Cls) (a v : Nat) (act : State → State) : State :=
  let r := regWrite s cls a 4 v
  if r.1 then act r.2 else r.2

/-! ### The commands -/

/-- The fields of RC access of the word at `a`, as a mask. -/
def rcMask (a : Nat) : Nat :=
  match findPage (a / 0x10000) with
  | none => 0
  | some (p, _) =>
    match findReg p.regs (a % 0x10000) with
    | none => 0
    | some (r, _, _) => (r.fields.filter (fun f => f.acc = .rc)).foldl (fun m f => m + (2 ^ f.w - 1) * 2 ^ f.lo) 0

/-- The all-ones answer to a read of `size` bytes that a page does not take: R38 and R22 give the word 0xFFFF_FFFF, and a
64-bit read answers it in both halves (log 92). -/
def allOnes (size : Nat) : BitVec 64 := if size = 8 then 0xFFFFFFFFFFFFFFFF else 0xFFFFFFFF

/-- Clears the RC fields of the word at `a`. -/
def State.clearRc (s : State) (a : Nat) : State :=
  if rcMask a = 0 then s else s.wr a (s.rd a &&& ~~~BitVec.ofNat 32 (rcMask a))

/-- A read of `size` bytes by a class: the value goes to the reader; RC fields clear (R8, R56); a read of _LO captures _HI into the
class's latch, a 64-bit one returns both halves (R10, R58); a size or alignment the page does not take reads all ones
and is recorded (R38), but in the MSI-X table and the pending bits, where an aligned double word is read (R316). -/
def readAccess (s : State) (cls : Cls) (a size : Nat) : State :=
  let answer (t : State) (v : BitVec 64) : State := t.emit (.regRead cls a v)
  match findPage (a / 0x10000) with
  | none => if s.reaches cls then answer s 0 else s
  | some (p, _) =>
    if !s.reaches cls then s
    else if p.main && !s.pins.mainPwrGood then answer s (allOnes size)
    else if msixAt a && ((size = 4 && a % 4 = 0) || (size = 8 && a % 8 = 0)) then
      answer s (if size = 8 then s.rd (a + 4) ++ s.rd a else (s.rd a).setWidth 64)
    else if !(sizeOk p.regs a size) then answer (badSize s cls a) (allOnes size)
    else
      let hi := readHi s cls a
      let lo := readWord s cls a
      let t := if isLo p.regs (a % 0x10000) then { s with hiLatch := Tab.set s.hiLatch (clsKey cls a) hi 0 } else s
      let t := if size = 8 then (t.clearRc a).clearRc (a + 4) else t.clearRc a
      answer t (if size = 8 then hi ++ lo else lo.setWidth 64)

/-- READ_CLEAR (R8, R56): a read, which clears the RC fields it returns. -/
def execReadClear (cls : Cls) (addr : BitVec 26) (size : Nat) (s : State) : Res := .next (readAccess s cls addr.toNat size)

/-- LO_READ (R10, R58): a read of _LO, which captures _HI into the class's latch; a 64-bit read returns both halves. -/
def execLoRead (cls : Cls) (addr : BitVec 26) (size : Nat) (s : State) : Res := .next (readAccess s cls addr.toNat size)

/-- The base of page number `page`. -/
def pageBase (page : BitVec 10) : Nat := page.toNat * 0x10000

/-- SOFT_RESET (R43, R44): a write of PAGE_CTRL with SOFT_RESET = 1 and ENABLE as it is. -/
def execSoftReset (cls : Cls) (page : BitVec 10) (s : State) : Res :=
  .next (regWrite s cls (pageBase page + 0x10) 4 (2 + s.fget (pageBase page) PAGE_CTRL_ENABLE)).2

/-- IRQ_SET (R46): each written 1 sets the cause as the hardware would. -/
def execIrqSet (cls : Cls) (page : BitVec 10) (value : BitVec 32) (s : State) : Res :=
  .next (regWrite s cls (pageBase page + 0x20) 4 value.toNat).2

/-- ERR_CLR (R47): bit 0 clears ERR_CODE and ERR_INFO. -/
def execErrClr (cls : Cls) (page : BitVec 10) (value : BitVec 32) (s : State) : Res :=
  .next (regWrite s cls (pageBase page + 0x2C) 4 value.toNat).2

/-- ACCESS_MASK_WRITE (R51, R53): only FWP. -/
def execAccessMaskWrite (cls : Cls) (page : BitVec 10) (value : BitVec 32) (s : State) : Res :=
  .next (regWrite s cls (pageBase page + 0x30) 4 value.toNat).2

/-- STRICT_SET (R61): a write of GEN_MODE with STRICT = 1. -/
def execStrictSet (cls : Cls) (s : State) : Res := .next (regWrite s cls (pGEN + 0x104) 4 1).2

/-- STRICT_CLEAR (R62): a write of GEN_MODE with STRICT = 0 and the four mode bits as given. -/
def execStrictClear (cls : Cls) (bits : BitVec 4) (s : State) : Res :=
  .next (regWrite s cls (pGEN + 0x104) 4 (bits.toNat * 2)).2

/-- MODE_BIT_WRITE (R200): a write of the four mode bits with STRICT as it is. -/
def execModeBitWrite (cls : Cls) (bits : BitVec 4) (s : State) : Res :=
  .next (regWrite s cls (pGEN + 0x104) 4 (bits.toNat * 2 + s.fget pGEN GEN_MODE_STRICT)).2

/-- CLK_KRM_LIMIT_WRITE (R31): FWP sets the ceiling of the KRM step; a value above CEIL is dropped and latches LIMIT. -/
def execClkKrmLimitWrite (cls : Cls) (value : BitVec 32) (s : State) : Res :=
  .next (regWrite s cls (pCLK + 0x104) 4 value.toNat).2

end Sys2Proof.Machine
end

