-- ==== Sys2Proof/Machine/Branches.lean ====
section
/-! DEFINITION. Carapace's branches (R349-R366): states, ramp and power good, the curve, trips, retries and lockout, shutdown
and re-enable. -/

namespace Sys2Proof.Machine

/-! ### Shared -/

/-- Branch `b` beyond its page. -/
def State.branch (s : State) (b : Nat) : BranchSt := Tab.get s.crp.branches b {}

/-- Changes it. -/
def State.modBranch (s : State) (b : Nat) (f : BranchSt → BranchSt) : State :=
  { s with crp.branches := Tab.set s.crp.branches b (f (s.branch b)) {} }

/-- CB_STAT.STATE: 0 OFF, 1 WAIT, 2 RAMP, 3 ON, 4 SHUTTING, 5 BACKOFF, 6 LOCKOUT, 7 GATE_FAULT. -/
def State.branchState (s : State) (b : Nat) : Nat := s.fget (pCRPBR b) CB_STAT_STATE

/-- Sets it. -/
def State.setBranch (s : State) (b st : Nat) : State := s.fset (pCRPBR b) CB_STAT_STATE st

/-- Drive is applied: RAMP or ON. -/
def State.driven (s : State) (b : Nat) : Bool := s.branchState b = 2 || s.branchState b = 3

/-- ACC0-ACC7 and AUXN, the branches of R366. -/
def shdnSet (b : Nat) : Bool := b < 8 || b = 11

/-- The twelve branches. -/
def branchList : List Nat := List.range 12

/-- V_BUS of the latest sample, 10 mV. -/
def State.busVolts (s : State) : Nat := s.fget pCRPFEED CF_VBUS_VBUS

/-- The bus is good: a feed is CLOSED and V_BUS is at least 54 V. -/
def State.busGood (s : State) : Bool := s.fget pCRPFEED CF_STAT_ON != 0 && 5400 ≤ s.busVolts

/-! ### The curve (R356-R358) -/

/-- The standard shape: current in hundredths of the rating, time in us. -/
def standardShape : List (Nat × Nat) :=
  [(110, 60000000), (125, 10000000), (150, 2000000), (200, 500000), (250, 100000), (300, 20000), (400, 5000), (500, 1000)]

/-- The shape scaled to a rating in A: currents in 0.1 A. -/
def scaledShape (rating : Nat) : List (Nat × Nat) := standardShape.map fun p => (p.1 * rating / 10, p.2)

/-- The live curve of a branch. -/
def State.liveCurve (s : State) (b : Nat) : List (Nat × Nat) :=
  let k := s.branch b
  if k.liveI.isEmpty then scaledShape (s.rating b) else k.liveI.zip k.liveT

/-- The shadow curve in the registers. -/
def State.shadowCurve (s : State) (b : Nat) : List (Nat × Nat) :=
  (List.range 8).map fun k =>
    let w := s.rd (pCRPBR b + 0x110 + k / 2 * 4)
    ((if k % 2 = 0 then w.toNat % 65536 else w.toNat / 65536), (s.rd (pCRPBR b + 0x120 + 4 * k)).toNat)

/-- One sample of a curve accumulator: `decay` where the current lies below the first point. -/
def curveStep (pts : List (Nat × Nat)) (decay acc i : Nat) : Nat :=
  match (pts.filter fun p => p.1 ≤ i).getLast? with
  | some p => min 0xFFFFFFFF (acc + (0x2000000 + p.2 - 1) / p.2)
  | none => acc - min acc decay

/-- Whether a curve passes the checks of R357. -/
def curveValid (l : List (Nat × Nat)) (iinst : Nat) : Bool :=
  ((l.zip l.tail).all fun p => p.1.1 < p.2.1 && p.2.2 < p.1.2) &&
    (l.getLast?.elim false fun p => 10 ≤ p.2 && p.1 < iinst)

/-- CURVE_LOAD's effect: the shadow becomes live in one step, or CURVE_INVALID latches. -/
def State.loadCurve (s : State) (b req : Nat) : State :=
  let l := s.shadowCurve b
  if curveValid l (s.fget (pCRPBR b) CB_IINST_IINST) then
    s.modBranch b fun k => { k with liveI := l.map (·.1), liveT := l.map (·.2) }
  else s.latch (pCRPBR b) 0x0105 req 0x100

/-! ### Leaving drive (R359, R362, R364) -/

/-- Power good of a branch (R354). -/
def State.setPg (s : State) (b : Nat) (on : Bool) : State :=
  if s.flag (pCRPBR b) CB_STAT_PG = on then s else (s.fset (pCRPBR b) CB_STAT_PG (bit on)).raise (pCRPBR b) 6

/-- The gate is pulled: SHUTTING, with what it leads to; CB_TRIPS counts every cause (R372). -/
def State.shutBranch (s : State) (b cause : Nat) (after : AfterShut) : State :=
  ((((s.count (pCRPBR b) CB_TRIPS).setPg b false).setBranch b 4).fset (pCRPBR b) CB_STAT_CAUSE cause).modBranch b fun k =>
    { k with after := after }

/-- Shows the retry timer, in ms left. -/
def State.showTimer (s : State) (b : Nat) : State := s.fset (pCRPBR b) CB_TMR (((s.branch b).tmr + 999) / 1000)

/-- What a branch that this sample has already tripped or switched off was before; none for a driven one (R371). -/
def State.metBefore (s : State) (b : Nat) : Option MetTrip := if s.driven b then none else (s.branch b).met

/-- The state of a branch that the events of this sample judge: its state before this sample's trip or EN = 0 (R371). -/
def State.judgedState (s : State) (b : Nat) : Nat := (s.metBefore b).elim (s.branchState b) (·.state)

/-- The first of this sample's events on a branch notes what it was (R371). -/
def State.noteMet (s : State) (b : Nat) (trip : Bool) : State :=
  let m := MetTrip.mk (s.judgedState b) (s.fget (pCRPBR b) CB_STAT_RETRIES) (s.branch b).tmr trip
  s.modBranch b fun k => { k with met := some m }

/-- A retriable trip acts on a driven branch, on one that shuts down with a restart latched (R494), and on one that this
sample has switched off (R371). -/
def State.tripable (s : State) (b : Nat) : Bool :=
  s.driven b || (s.branchState b = 4 && (s.metBefore b).isSome) ||
    (s.branchState b = 4 && s.flag (pCRPBR b) CB_STAT_RESTART_PEND && (s.branch b).after = .off)

/-- The cause of a second trip of one sample: the lower one stands, in CB_STAT and in the action reported (R371). -/
def State.lowerCause (s : State) (b cause : Nat) : State :=
  let c := min cause (s.fget (pCRPBR b) CB_STAT_CAUSE)
  let f (a : ActionRec) : ActionRec := if a.code = 1 && a.source = b && a.post.isEmpty then { a with cause := c } else a
  { s.fset (pCRPBR b) CB_STAT_CAUSE c with sep.actQ := s.sep.actQ.map f, crp.actBuf := s.crp.actBuf.map f }

/-- A retriable trip (R362); a second one of a sample only lowers the cause (R371). -/
def State.retriableTrip (s : State) (b cause : Nat) : State :=
  let p := pCRPBR b
  let r := s.fget p CB_STAT_RETRIES
  let cfg := (s.branch b).retry
  if (s.metBefore b).elim false (·.trip) then s.lowerCause b cause
  else
    let s := (s.noteMet b true).raise p 3
    if r < CB_RETRY_MAX_RETRY.get cfg then
      let s := (s.fset p CB_STAT_RETRIES (r + 1)).modBranch b fun k =>
        { k with tmr := CB_RETRY_BACKOFF.get cfg * 2 ^ r * 1000 }
      (s.showTimer b |>.crpAct 0x01 b cause (r + 1)).shutBranch b cause .backoff
    else (s.crpAct 0x01 b cause r).shutBranch b cause .lockout

/-- A gate fault (R353, R355): never retried. With a retriable trip of the same sample, RETRIES and the timer are as before
it, CAUSE is the lower one and the trip is counted once (R371, log 73). -/
def State.gateFault (s : State) (b : Nat) : State :=
  let p := pCRPBR b
  let met := s.metBefore b
  let s := (s.raise p 5).crpAct 0x03 b 6 (s.fget p CB_VOLT_V_OUT)
  let s := ((s.setPg b false).setBranch b 7).fset p CB_STAT_RESTART_PEND 0
  match met with
  | none => (s.count p CB_TRIPS).fset p CB_STAT_CAUSE 6
  | some m =>
    if m.trip then ((s.fset p CB_STAT_RETRIES m.retries).modBranch b fun k => { k with tmr := m.tmr }).showTimer b
    else s.fset p CB_STAT_CAUSE 6

/-- SHUTTING completes (R349, R364, R365). -/
def State.endShut (s : State) (b : Nat) (held : Bool) : State :=
  let p := pCRPBR b
  let pend := s.flag p CB_STAT_RESTART_PEND
  let s := (s.fset p CB_STAT_OUT_HELD (bit held)).fset p CB_STAT_RESTART_PEND 0
  match (s.branch b).after with
  | .lockout => ((s.setBranch b 6).raise p 4).crpAct 0x02 b (s.fget p CB_STAT_CAUSE) (s.fget p CB_TRIPS)
  | .backoff => s.setBranch b (if !s.flag p CB_CTRL_EN then 0 else if (s.branch b).tmr = 0 then 1 else 5)
  | .off => s.setBranch b (if pend then 1 else 0)

/-- A bus loss (R346): every branch in RAMP or ON shuts with its restart latched; a trip that R362 does not count. -/
def State.busLoss (s : State) : State :=
  let l := branchList.filter s.driven
  let s := s.each l fun s b => ((s.shutBranch b 7 .off).fset (pCRPBR b) CB_STAT_RESTART_PEND 1).raise (pCRPBR b) 3
  (s.crpAct 0x06 0xFF 0 l.length).raise pCRPFEED 5

/-- SYS_SHDN_N shuts the branches of R366; none of them restarts (R494), and the power core will enable again those with
EN = 1 (R413, log 73). -/
def State.shdnBranches (s : State) : State :=
  let s := { s with fwc.shdnDue := branchList.filter fun b => shdnSet b && s.flag (pCRPBR b) CB_CTRL_EN }
  s.each (branchList.filter shdnSet) fun s b =>
    let s := s.fset (pCRPBR b) CB_STAT_RESTART_PEND 0
    if s.driven b then s.shutBranch b 8 .off
    else if s.branchState b = 1 || s.branchState b = 5 then s.setBranch b 0
    else if s.branchState b = 4 && (s.branch b).after = .backoff then s.modBranch b fun k => { k with after := .off }
    else s

/-! ### CB_CTRL (R349, R350, R357, R365, R371) -/

/-- The error of R350 that refuses EN = 1; 0 for none. -/
def State.enableError (s : State) (b : Nat) : Nat :=
  if b != 8 && !s.flag pCRPGLOB CRP_GCTRL_PROFILE_OK then 0x0101
  else if shdnSet b && s.flag pHZDSENS HZ_SHDN_STAT_ASSERTED then 0x0102
  else if 6 ≤ s.branchState b then 0x0103
  else 0

/-- EN = 1, accepted or refused; one that SYS_SHDN_N refuses the power core comes again after the release (R489). -/
def State.enableBranch (s : State) (b req was : Nat) : State :=
  let e := s.enableError b
  if e != 0 then
    let s := if e = 0x0102 && req = clsCode .fwp then { s with fwc.shdnDue := setAdd s.fwc.shdnDue b } else s
    (s.fset (pCRPBR b) CB_CTRL_EN was).latch (pCRPBR b) e req 0x100
  else if s.branchState b = 0 then s.setBranch b 1
  else if s.branchState b = 4 then s.fset (pCRPBR b) CB_STAT_RESTART_PEND 1
  else s

/-- EN = 0. -/
def State.disableBranch (s : State) (b : Nat) : State :=
  let s := { s.fset (pCRPBR b) CB_STAT_RESTART_PEND 0 with fwc.shdnDue := s.fwc.shdnDue.filter (· != b) }
  if s.driven b then (s.noteMet b false).shutBranch b 9 .off
  else if s.branchState b = 1 || s.branchState b = 5 then s.setBranch b 0 else s

/-- What a write of CB_CTRL does, `was` being EN before it: the curve loads, CLEAR applies, then EN is judged. -/
def branchCtrl (b req was v : Nat) (s : State) : State :=
  let s := if v / 4 % 2 = 1 then s.loadCurve b req else s
  let clr := v / 2 % 2 = 1 && 6 ≤ s.branchState b
  let s := if clr then s.setBranch b 0 else s
  if v % 2 = 1 then s.enableBranch b req (if clr then 0 else was) else s.disableBranch b

/-- A write of CB_CTRL. -/
def State.branchWrite (s : State) (cls : Cls) (b v : Nat) : State :=
  writeThen s cls (pCRPBR b + 0x100) v (branchCtrl b (clsCode cls) (s.fget (pCRPBR b) CB_CTRL_EN) v)

/-- BRANCH_EN (R350, R365). -/
def execBranchEn (cls : Cls) (branch : Branch) (en : Bool) (s : State) : Res :=
  .next (s.branchWrite cls branch.val (bit en))

/-- BRANCH_CLEAR (R349): the write leaves EN as it stands, but for a branch that CLEAR takes to OFF with EN cleared. -/
def execBranchClear (cls : Cls) (branch : Branch) (s : State) : Res :=
  let b := branch.val
  .next (s.branchWrite cls b (2 + if 6 ≤ s.branchState b then 0 else s.fget (pCRPBR b) CB_CTRL_EN))

/-- CURVE_LOAD (R357). -/
def execCurveLoad (cls : Cls) (branch : Branch) (s : State) : Res :=
  .next (s.branchWrite cls branch.val (4 + s.fget (pCRPBR branch.val) CB_CTRL_EN))

/-! ### Events: a level is checked against the latest sample; how long it has held, the command says (log 32) -/

/-- The order in which waiting branches take ramp slots (R352). -/
def rampOrder : List Nat := [9, 10, 8, 11, 0, 1, 2, 3, 4, 5, 6, 7]

/-- T_FET of the latest sample, 1/16 C. -/
def State.tFet (s : State) (b : Nat) : Int := toSigned 16 (s.fget (pCRPBR b) CB_TFET_T_FET)

/-- A branch in WAIT meets every condition to ramp but the slot (R349, R361). -/
def State.mayRamp (s : State) (b : Nat) : Bool :=
  s.branchState b = 1 && s.busGood && (s.branch b).tmr = 0 &&
    s.tFet b < ((s.fget (pCRPBR b) CB_THERM_T_TRIP : Nat) : Int) * 16 - 320

/-- RAMP_START (R352): the first branch in order takes a free slot; its settings take effect (R351). -/
def execRampStart (branch : Branch) (s : State) : Res :=
  let b := branch.val
  let busy := (branchList.filter fun c => s.branchState c = 2).length
  if rampOrder.find? s.mayRamp = some b && busy < s.fget pCRPGLOB CRP_GCTRL_MAX_RAMP then
    .next ((s.setBranch b 2).modBranch b fun k =>
      { k with
        cfg := s.rd (pCRPBR b + 0x108), retry := s.rd (pCRPBR b + 0x10C), cool := s.fget (pCRPBR b) CB_COOL_COOL, met := none })
  else .next s

/-- GATE_STUCK (R353). -/
def execGateStuck (branch : Branch) (s : State) : Res :=
  let b := branch.val
  .next (if s.judgedState b = 2 && s.fget (pCRPBR b) CB_VOLT_V_GS < 10 * CB_CFG_VGS_MIN.get (s.branch b).cfg then
    s.gateFault b else s)

/-- RAMP_LAG (R353). -/
def execRampLag (branch : Branch) (s : State) : Res :=
  .next (if s.judgedState branch.val = 2 then s.retriableTrip branch.val 4 else s)

/-- RAMP_TIMEOUT (R353). -/
def execRampTimeout (branch : Branch) (s : State) : Res :=
  .next (if s.judgedState branch.val = 2 then s.retriableTrip branch.val 5 else s)

/-- POWER_GOOD (R354). -/
def execPowerGood (branch : Branch) (s : State) : Res :=
  let b := branch.val
  if s.driven b && 900 ≤ s.fget (pCRPBR b) CB_VOLT_V_GS && s.fget (pCRPBR b) CB_MEAS_V_DS < 100 then
    .next ((s.setPg b true).setBranch b 3)
  else .next s

/-- POWER_GOOD_LOSS (R354): the branch stays ON. -/
def execPowerGoodLoss (branch : Branch) (s : State) : Res :=
  let b := branch.val
  if s.branchState b = 3 && (s.fget (pCRPBR b) CB_VOLT_V_GS < 850 || 250 ≤ s.fget (pCRPBR b) CB_MEAS_V_DS) then
    .next (s.setPg b false)
  else .next s

/-- GATE_COLLAPSE (R355). -/
def execGateCollapse (branch : Branch) (s : State) : Res :=
  let b := branch.val
  .next (if s.judgedState b = 3 && s.fget (pCRPBR b) CB_VOLT_V_GS < 300 then s.gateFault b else s)

/-- BRANCH_INST (R359): the comparator acts on its own. -/
def execBranchInst (branch : Branch) (s : State) : Res :=
  .next (if s.tripable branch.val then s.retriableTrip branch.val 1 else s)

/-- BACKOFF_EXPIRY (R362): the retry timer is at zero. -/
def execBackoffExpiry (branch : Branch) (s : State) : Res :=
  let b := branch.val
  let s := (s.modBranch b fun k => { k with tmr := 0 }).showTimer b
  .next (if s.branchState b = 5 then s.setBranch b 1 else s)

/-- RETRY_RESET (R362): the branch has been ON for RESET_S seconds. -/
def execRetryReset (branch : Branch) (s : State) : Res :=
  .next (if s.branchState branch.val = 3 then s.fset (pCRPBR branch.val) CB_STAT_RETRIES 0 else s)

/-- SHUTDOWN_COMPLETE (R364): V_GS has fallen below 1 V, and V_OUT below 5 V unless 500 ms have passed. -/
def execShutdownComplete (branch : Branch) (held : Bool) (s : State) : Res :=
  let b := branch.val
  let down := s.fget (pCRPBR b) CB_VOLT_V_OUT < 500
  .next (if s.branchState b = 4 && s.fget (pCRPBR b) CB_VOLT_V_GS < 100 && (down != held) then s.endShut b held else s)

end Sys2Proof.Machine
end

