-- ==== Sys2Proof/Machine/Mailbox.lean ====
section
/-! DEFINITION. The mailbox (R318-R323): requests, their header checks, and responses. -/

namespace Sys2Proof.Machine

/-- Index of the power, climate, link and ledger core (R419). -/
def coreIdx : FwCore → Nat
  | .power => 0
  | .climate => 1
  | .link => 2
  | .ledger => 3

/-- FWC_CORE_STAT.STATE of a core: 0 RESET, 1 LOADING, 2 RUNNING, 3 RESTARTING, 4 HALTED, 5 FAILED. -/
def State.coreState (s : State) (n : Nat) : Nat := s.fget pFWC (FWC_CORE_STAT_STATE.nth n 0x40)

/-- Whether a firmware core runs. -/
def State.runs (s : State) (n : Nat) : Bool := s.coreState n = 2

/-- The 1,024 bytes of a request slot. -/
def State.request (s : State) (i : Nat) : List Byte :=
  (List.range 256).flatMap fun k => natLe 4 (s.rd (pHST + 0x1000 + 0x400 * i + 4 * k)).toNat

/-- A field of a request's header or payload. -/
def State.reqField (s : State) (i off n : Nat) : Nat := fieldLe (s.request i) off n

/-- A field of a request's payload; bytes that were not sent read zero (R320). -/
def State.payload (s : State) (i off n : Nat) : Nat :=
  fieldLe ((s.request i).drop 16 |>.take (min 1008 (s.reqField i 6 2))) off n

/-- The firmware's minor version, and the features it offers: those of R321 (log 28). -/
def fwMinor : Nat := 0
/-- FEAT_FW. -/
def featFw : Nat := 0x1FF

/-- The opcodes: code, feature, shortest payload: up to its last field that is not reserved (R320, log 29). -/
def opcodes : List (Nat × Option Nat × Nat) :=
  [(0x0001, none, 10), (0x0002, none, 0), (0x0010, none, 0), (0x0020, some 5, 4), (0x0030, some 7, 8),
   (0x0031, some 7, 12), (0x0040, some 8, 12), (0x0050, some 6, 12), (0x0051, some 6, 1)]

/-- The status a request's header earns (R319, R320, R322): 0 where the operation may run. -/
def State.headerStatus (s : State) (i : Nat) : Nat :=
  let len := s.reqField i 6 2
  if s.reqField i 0 1 != 1 then 1
  else if 1008 < len then 5
  else
    match opcodes.find? fun o => o.1 = s.reqField i 2 2 with
    | none => 4
    | some (op, feat, low) =>
      if op != 1 && (s.hr.session = 0 || s.reqField i 12 4 != s.hr.session.toNat) then 2
      else if (feat.any fun f => s.pget pHST HST_FEAT / 2 ^ f % 2 = 0) then 3
      else if len < low then 5 else 0

/-- Writes words of a response slot. -/
def State.putSlot (s : State) (i : Nat) (bs : List Byte) : State :=
  (List.range 256).foldl (fun s k =>
    s.wr (pHST + 0x2000 + 0x400 * i + 4 * k) (BitVec.ofNat 32 (fieldLe bs (4 * k) 4))) s

/-- Posts a response of a session (R318, R319): header, payload, RSP_READY and MB_RSP. -/
def State.respondIn (s : State) (session i status : Nat) (body : List Byte) (minor : Nat := fwMinor) : State :=
  let r := s.request i
  let hdr := [1, BitVec.ofNat 8 minor] ++ slice r 2 4 ++ natLe 2 body.length ++ natLe 1 status ++ [0, 0, 0] ++
    natLe 4 session
  let s := { (s.putSlot i (hdr ++ body)) with hr.slotReq := setDel s.hr.slotReq i }
  (s.fset pHST HST_MB_STAT_RSP_READY (Nat.lor (s.fget pHST HST_MB_STAT_RSP_READY) (2 ^ i))).raise pHST 3

/-- The response of an operation, under the session of its request (R322). -/
def State.respond (s : State) (i status : Nat) (body : List Byte) : State := s.respondIn (s.reqField i 12 4) i status body

/-- The answer to a header that fails, under the current session (log 28). -/
def State.respondBad (s : State) (i status : Nat) : State := s.respondIn s.hr.session.toNat i status []

/-- A refusal by a latch or limit (R319). -/
def State.deny (s : State) (i detail : Nat) : State := s.respond i 7 (natLe 1 detail)

/-- What a write of HST_MB_DB does (R318): the slot is taken; a request whose header fails is answered with its status, any
other waits for its operation. A HELLO of another major version waits for its own row (R322). -/
def mbDoorbell (cls : Cls) (v : Nat) (s : State) : State :=
  let i := v % 4
  let free := s.fget pHST HST_MB_STAT_FREE
  if free / 2 ^ i % 2 = 0 then s.latch pHST 0x0101 (clsCode cls) 0x118
  else
    let s := s.fset pHST HST_MB_STAT_FREE (free - 2 ^ i)
    let st := s.headerStatus i
    let s := { s with hr.slotReq := setAdd s.hr.slotReq i }
    if st = 0 || (st = 1 && s.reqField i 2 2 = 1) || !s.runs 2 then s else s.respondBad i st

/-- MB_DOORBELL (R318). -/
def execMbDoorbell (cls : Cls) (slot : Fin 4) (s : State) : Res :=
  .next (writeThen s cls (pHST + 0x118) slot.val (mbDoorbell cls slot.val))

/-- What a write of HST_MB_ACK does (R318): a slot with a response is freed. -/
def mbAck (v : Nat) (s : State) : State :=
  let i := v % 4
  let r := s.fget pHST HST_MB_STAT_RSP_READY
  if r / 2 ^ i % 2 = 0 then s
  else (s.fset pHST HST_MB_STAT_RSP_READY (r - 2 ^ i)).fset pHST HST_MB_STAT_FREE
    (Nat.lor (s.fget pHST HST_MB_STAT_FREE) (2 ^ i))

/-- MB_ACK (R318). -/
def execMbAck (cls : Cls) (slot : Fin 4) (s : State) : Res :=
  .next (writeThen s cls (pHST + 0x11C) slot.val (mbAck slot.val))

/-- Runs an operation for a slot whose accepted request names its opcode, while the link core runs. -/
def mbRow (slot op : Nat) (act : State → State) (s : State) : State :=
  if s.hr.slotReq.contains slot && s.reqField slot 2 2 = op && s.runs 2 then act s else s

/-- The slots answered ABORTED when the link core runs again, after a restart or a halt (R323, R430): every request accepted
and not yet answered. -/
def State.abortRequests (s : State) : State :=
  s.hr.slotReq.foldl (fun s i => s.respond i 8 []) { s with hr.capSlots := [], fwc.wall := [] }

/-- Answers the SET_HOST_CAP requests after a loop tick (R377). -/
def State.answerCaps (s : State) : State :=
  s.hr.capSlots.foldl (fun s i => s.respond i 0
    (natLe 4 (s.fget pGOVGLOB GG_EFF_CAP) ++ natLe 1 (s.fget pGOVGLOB GG_STAT_SOURCE) ++
      natLe 1 (s.fget pGOVGLOB GG_STAT_DEFAULT) ++ [0, 0])) { s with hr.capSlots := [] }

end Sys2Proof.Machine
end

