-- ==== Sys2Proof/Machine/Sync.lean ====
section
/-! DEFINITION. The SYNC frame (R213, R214): its payload and CRC, the level it puts on a line, and what a receiver reads from
a line. -/

namespace Sys2Proof.Machine

/-- The fields of a frame's payload (R214); 18 reserved bits are 0. -/
structure SyncFrame where
  tick  : DWord
  flags : Byte
  seq   : Byte
  hop   : Byte
deriving DecidableEq, Repr

/-- Bits of a number, least significant first. -/
def bitsUp (n v : Nat) : List Bool := (List.range n).map v.testBit

/-- A number from its bits, least significant first. -/
def ofBitsUp (l : List Bool) : Nat := l.foldr (fun b n => b.toNat + 2 * n) 0

/-- One bit through the CRC register, most significant bit first. -/
def crcStep (r : BitVec 16) (b : Bool) : BitVec 16 :=
  if r.msb != b then (r <<< 1) ^^^ 0x1021 else r <<< 1

/-- CRC-16 of bits in order of transmission: polynomial 0x1021, initial value 0xFFFF, no final inversion. -/
def crcBits (l : List Bool) : BitVec 16 := l.foldl crcStep 0xFFFF

/-- The 106 bits before the CRC. -/
def SyncFrame.payload (f : SyncFrame) : List Bool :=
  bitsUp 64 f.tick.toNat ++ bitsUp 8 f.flags.toNat ++ bitsUp 8 f.seq.toNat ++ bitsUp 8 f.hop.toNat ++ List.replicate 18 false

/-- The 122 bits of a frame; the CRC goes most significant bit first. -/
def SyncFrame.bits (f : SyncFrame) : List Bool := f.payload ++ (bitsUp 16 (crcBits f.payload).toNat).reverse

/-- The eight ticks of one bit. -/
def manchester (b : Bool) : List Bool := List.replicate 4 (!b) ++ List.replicate 4 b

/-- The level of a line over the 1,024 ticks of a frame. -/
def SyncFrame.line (f : SyncFrame) : List Bool :=
  List.replicate 24 true ++ List.replicate 24 false ++ f.bits.flatMap manchester

/-- The line from its reference edge on: the first fall after at least 16 ticks of high level that at least 16 ticks of low
level follow. `high` counts the high ticks just before. -/
def fromEdge (high : Nat) : List Bool → Option (List Bool)
  | [] => none
  | true :: t => fromEdge (high + 1) t
  | false :: t =>
    if 16 ≤ high && 15 ≤ t.length && (t.take 15).all (!·) then some (false :: t) else fromEdge 0 t

/-- The 122 bits that follow a reference edge: each as its first half shows. -/
def lineBits (l : List Bool) : List Bool := (List.range 122).map fun i => !(l.getD (24 + 8 * i + 2) true)

/-- The frame that bits spell, and whether their CRC is right. -/
def readBits (b : List Bool) : SyncFrame × Bool :=
  let field (at_ n : Nat) : Nat := ofBitsUp ((b.drop at_).take n)
  (⟨BitVec.ofNat 64 (field 0 64), BitVec.ofNat 8 (field 64 8), BitVec.ofNat 8 (field 72 8), BitVec.ofNat 8 (field 80 8)⟩,
    (crcBits (b.take 106)).toNat = ofBitsUp ((b.drop 106).take 16).reverse)

/-- What a receiver reads from a line, if it holds a reference edge. -/
def receive (l : List Bool) : Option (SyncFrame × Bool) := (fromEdge 0 l).map fun r => readBits (lineBits r)

end Sys2Proof.Machine
end

