-- ==== Sys2Proof/Machine/Keccak.lean ====
section
/-! DEFINITION. SHAKE256 (FIPS 202), which the digests of 07_witness_receipts_replay.md name (R238, R249). The rotation
offsets and the round constants are not tables here: they come from the standard's walk over the lanes and from its shift
register. -/

namespace Sys2Proof.Machine

/-- The state: lane (x, y) at place x + 5 y. -/
abbrev Lanes := List (BitVec 64)

/-- The lane at column `x`, row `y`. -/
def Lanes.at (a : Lanes) (x y : Nat) : BitVec 64 := a.getD (x + 5 * y) 0

/-- A state given lane by lane. -/
def lanesOfPos (f : Nat → Nat → BitVec 64) : Lanes := [0, 1, 2, 3, 4].flatMap fun y => [0, 1, 2, 3, 4].map fun x => f x y

/-- The parity of a column. -/
def Lanes.parity (a : Lanes) (x : Nat) : BitVec 64 := [0, 1, 2, 3, 4].foldl (fun p y => p ^^^ a.at x y) 0

/-- Step theta. -/
def theta (a : Lanes) : Lanes :=
  let p := [0, 1, 2, 3, 4].map a.parity
  lanesOfPos fun x y => a.at x y ^^^ p.getD ((x + 4) % 5) 0 ^^^ (p.getD ((x + 1) % 5) 0).rotateLeft 1

/-- Steps rho and pi in one walk: from (1, 0) on, the lane at (x, y), rotated by the next triangular number, goes to
(y, 2 x + 3 y), which is the next place of the walk. `t` counts the lanes moved, `n` those to go, `out` is the result. -/
def rhoPi (a : Lanes) (x y t : Nat) (out : Lanes) : Nat → Lanes
  | 0 => out
  | n + 1 =>
    let y' := (2 * x + 3 * y) % 5
    rhoPi a y y' (t + 1) (out.set (y + 5 * y') ((a.at x y).rotateLeft ((t + 1) * (t + 2) / 2 % 64))) n

/-- Step chi. -/
def chi (a : Lanes) : Lanes := lanesOfPos fun x y => a.at x y ^^^ (~~~a.at ((x + 1) % 5) y &&& a.at ((x + 2) % 5) y)

/-- One step of the register that makes the round constants: times x modulo x^8 + x^6 + x^5 + x^4 + 1. -/
def shiftReg (r : BitVec 8) : BitVec 8 := if r.msb then (r <<< 1) ^^^ 0x71 else r <<< 1

/-- The constant of a round and the register after it: its seven bits stand at places 2^j - 1. -/
def roundConst (r : BitVec 8) : BitVec 64 × BitVec 8 :=
  [0, 1, 3, 7, 15, 31, 63].foldl (fun p j => (if p.2.getLsbD 0 then p.1 ||| (1#64 <<< j) else p.1, shiftReg p.2)) (0, r)

/-- `n` rounds, the last step of each adding its constant to lane (0, 0). -/
def keccakRounds (a : Lanes) (r : BitVec 8) : Nat → Lanes
  | 0 => a
  | n + 1 =>
    let t := theta a
    let c := roundConst r
    let b := chi (rhoPi t 1 0 0 t 24)
    keccakRounds (b.set 0 (b.at 0 0 ^^^ c.1)) c.2 n

/-- The permutation: 24 rounds. -/
def keccakF (a : Lanes) : Lanes := keccakRounds a 1 24

/-- The rate of SHAKE256 in bytes. -/
def shakeRate : Nat := 136

/-- Adds a block to the first lanes of the state, eight bytes to a lane. -/
def addBlock : Lanes → List Byte → Lanes
  | [], _ => []
  | x :: t, l => if l = [] then x :: t else (x ^^^ BitVec.ofNat 64 (fieldLe l 0 8)) :: addBlock t (l.drop 8)

/-- Takes in `n` whole blocks of a padded message. -/
def absorb (a : Lanes) (msg : List Byte) : Nat → Lanes
  | 0 => a
  | n + 1 => absorb (keccakF (addBlock a (msg.take shakeRate))) (msg.drop shakeRate) n

/-- The message with the suffix 1111 of SHAKE, the bits 1 0* 1, to whole blocks. -/
def shakePad (msg : List Byte) : List Byte :=
  let room := shakeRate - msg.length % shakeRate
  if room = 1 then msg ++ [0x9F] else msg ++ [0x1F] ++ List.replicate (room - 2) 0 ++ [0x80]

/-- The first 32 bytes of SHAKE256 of a message (R249). -/
def shake256 (msg : List Byte) : List Byte :=
  let m := shakePad msg
  ((absorb (List.replicate 25 0) m (m.length / shakeRate)).take 4).flatMap fun x => natLe 8 x.toNat

/-- The bytes of an ASCII string (R238). -/
def ascii (s : String) : List Byte := s.toList.map fun c => BitVec.ofNat 8 c.toNat

end Sys2Proof.Machine
end

