-- ==== Sys2Proof/Machine/Xmss.lean ====
section
/-! DEFINITION. The signature schemes that the spec names by their parameter sets (R4, R255, R422): XMSS-SHAKE256_20_256 and
XMSSMT-SHAKE256_40/4_256 of NIST SP 800-208, in the layout of RFC 8391. n = 32, w = 16, 67 chains. PRESUMED from these
standards (log 15). -/

namespace Sys2Proof.Machine

/-- The `n` low bytes of a number, most significant first. -/
def natBe (n v : Nat) : List Byte := (natLe n v).reverse

/-- Bytes added bit by bit. -/
def xorBytes (a b : List Byte) : List Byte := List.zipWith (· ^^^ ·) a b

/-- The keyed hash of a purpose: 0 F, 1 H, 2 H_msg, 3 PRF, 4 PRF_keygen. -/
def keyedHash (purpose : Nat) (key msg : List Byte) : List Byte := shake256 (natBe 32 purpose ++ key ++ msg)

/-- A hash address: layer, tree, type, and the four words its type gives a meaning. -/
structure HashAddr where
  layer : Nat := 0
  tree  : Nat := 0
  typ   : Nat := 0
  w4    : Nat := 0
  w5    : Nat := 0
  w6    : Nat := 0
deriving DecidableEq, Repr

/-- Its 32 bytes under a key-and-mask word. -/
def HashAddr.bytes (a : HashAddr) (mask : Nat) : List Byte :=
  natBe 4 a.layer ++ natBe 8 a.tree ++ natBe 4 a.typ ++ natBe 4 a.w4 ++ natBe 4 a.w5 ++ natBe 4 a.w6 ++ natBe 4 mask

/-- `n` steps of a chain from step `i` on; word 6 is the step. -/
def chainSteps (seed : List Byte) (a : HashAddr) (x : List Byte) (i : Nat) : Nat → List Byte
  | 0 => x
  | n + 1 =>
    let b := { a with w6 := i }
    chainSteps seed a (keyedHash 0 (keyedHash 3 seed (b.bytes 0)) (xorBytes x (keyedHash 3 seed (b.bytes 1)))) (i + 1) n

/-- Two nodes combined under an address. -/
def nodeHash (seed : List Byte) (a : HashAddr) (l r : List Byte) : List Byte :=
  keyedHash 1 (keyedHash 3 seed (a.bytes 0)) (xorBytes l (keyedHash 3 seed (a.bytes 1)) ++ xorBytes r (keyedHash 3 seed (a.bytes 2)))

/-- The 67 digits of a 32-byte message: its 64 hexadecimal digits and the three of their checksum. -/
def wotsDigits (m : List Byte) : List Nat :=
  let d := (slice m 0 32).flatMap fun b => [b.toNat / 16, b.toNat % 16]
  let c := d.foldl (fun s x => s + (15 - x)) 0
  d ++ [c / 256 % 16, c / 16 % 16, c % 16]

/-- The `i`-th 32 bytes of a string. -/
def node32 (l : List Byte) (i : Nat) : List Byte := slice l (32 * i) 32

/-- One level of an L-tree; `i` counts its nodes. -/
def ltreeLevel (seed : List Byte) (a : HashAddr) (i : Nat) : List (List Byte) → List (List Byte)
  | [] => []
  | [x] => [x]
  | x :: y :: t => nodeHash seed { a with w6 := i } x y :: ltreeLevel seed a (i + 1) t

/-- The L-tree over the ends of the chains of leaf `w4`; seven levels take 67 nodes to one. -/
def ltree (seed : List Byte) (a : HashAddr) (height : Nat) (l : List (List Byte)) : Nat → List Byte
  | 0 => l.headD []
  | n + 1 => ltree seed a (height + 1) (ltreeLevel seed { a with w5 := height } 0 l) n

/-- The leaf that the ends of the chains make. -/
def leafOf (seed : List Byte) (a : HashAddr) (i : Nat) (ends : List (List Byte)) : List Byte :=
  ltree seed { a with typ := 1, w4 := i, w5 := 0, w6 := 0 } 0 ends 7

/-- Climbs from a leaf with its authentication nodes. -/
def climb (seed : List Byte) (a : HashAddr) (i : Nat) (node : List Byte) (height : Nat) : List (List Byte) → List Byte
  | [] => node
  | p :: t =>
    let b := { a with typ := 2, w4 := 0, w5 := height, w6 := i / 2 ^ (height + 1) }
    climb seed a i (if i / 2 ^ height % 2 = 0 then nodeHash seed b node p else nodeHash seed b p node) (height + 1) t

/-- The root that a tree's part of a signature gives: 67 chain values, then `h` authentication nodes. -/
def rootFrom (seed : List Byte) (a : HashAddr) (i h : Nat) (m sig : List Byte) : List Byte :=
  let ends := ((wotsDigits m).zipIdx).map fun d =>
    chainSteps seed { a with typ := 0, w4 := i, w5 := d.2 } (node32 sig d.2) d.1 (15 - d.1)
  climb seed a i (leafOf seed a i ends) 0 ((List.range h).map fun k => node32 sig (67 + k))

/-- The digest that the lowest tree signs. -/
def msgDigest (r root : List Byte) (idx : Nat) (m : List Byte) : List Byte := keyedHash 2 (r ++ root ++ natBe 32 idx) m

/-- Climbs through `d` layers of trees of height `h`, from layer `j` on. -/
def layersRoot (seed : List Byte) (h j idx : Nat) (m sig : List Byte) : Nat → List Byte
  | 0 => m
  | d + 1 =>
    layersRoot seed h (j + 1) (idx / 2 ^ h)
      (rootFrom seed { layer := j, tree := idx / 2 ^ h } (idx % 2 ^ h) h m (sig.take (32 * (67 + h)))) (sig.drop (32 * (67 + h))) d

/-- Whether a signature with an index of `ib` bytes over `d` layers of height `h` verifies under a public key of 68 bytes:
OID, root, seed. -/
def treeSigOk (ib h d oid : Nat) (pub m sig : List Byte) : Bool :=
  let idx := leNat (sig.take ib).reverse
  let root := slice pub 4 32
  pub.length = 68 && pub.take 4 = natBe 4 oid && sig.length = ib + 32 + d * 32 * (67 + h) && idx < 2 ^ (h * d) &&
    layersRoot (slice pub 36 32) h 0 idx (msgDigest (slice sig ib 32) root idx m) (sig.drop (ib + 32)) d = root

/-- XMSS-SHAKE256_20_256: its OID in NIST SP 800-208 is 0x00000012. -/
def xmssOk (pub m sig : List Byte) : Bool := treeSigOk 4 20 1 0x12 pub m sig

/-- XMSSMT-SHAKE256_40/4_256: its OID in NIST SP 800-208 is 0x0000002C. -/
def xmssMtOk (pub m sig : List Byte) : Bool := treeSigOk 5 10 4 0x2C pub m sig

/-! ### Signing -/

/-- The secret start of a chain. -/
def chainStart (seed : List Byte) (a : HashAddr) : List Byte :=
  keyedHash 4 (natBe 32 Config.identitySeed.toNat) (seed ++ a.bytes 0)

/-- The address of chain `c` of leaf `i`. -/
def chainAddr (a : HashAddr) (i c : Nat) : HashAddr := { a with typ := 0, w4 := i, w5 := c, w6 := 0 }

/-- The node at a height of a tree of the identity key. -/
def keyNode (seed : List Byte) (a : HashAddr) : Nat → Nat → List Byte
  | 0, i => leafOf seed a i ((List.range 67).map fun c => chainSteps seed (chainAddr a i c) (chainStart seed (chainAddr a i c)) 0 15)
  | h + 1, i =>
    nodeHash seed { a with typ := 2, w4 := 0, w5 := h, w6 := i } (keyNode seed a h (2 * i)) (keyNode seed a h (2 * i + 1))

/-- A tree's part of a signature: the chains at the message's digits, and the authentication nodes. -/
def treeSig (seed : List Byte) (a : HashAddr) (i h : Nat) (m : List Byte) : List Byte :=
  (((wotsDigits m).zipIdx).flatMap fun d => chainSteps seed (chainAddr a i d.2) (chainStart seed (chainAddr a i d.2)) 0 d.1) ++
    (List.range h).flatMap fun k => keyNode seed a k (Nat.xor (i / 2 ^ k) 1)

/-- The layers of a signature, from layer `j` on. -/
def layersSig (seed : List Byte) (h j idx : Nat) (m : List Byte) : Nat → List Byte
  | 0 => []
  | d + 1 =>
    let a : HashAddr := { layer := j, tree := idx / 2 ^ h }
    treeSig seed a (idx % 2 ^ h) h m ++ layersSig seed h (j + 1) (idx / 2 ^ h) (keyNode seed a h 0) d

/-- The signature of a message under the identity key at a state index (R255): the 5-byte index, the randomness, four layers
of chains and authentication nodes. `pub` is the public key. -/
def signature (pub m : List Byte) (idx : Nat) : List Byte :=
  let r := keyedHash 3 (natBe 32 Config.identityPrf.toNat) (natBe 32 idx)
  natBe 5 idx ++ r ++ layersSig (slice pub 36 32) 10 0 idx (msgDigest r (slice pub 4 32) idx m) 4

end Sys2Proof.Machine
end

