-- ==== Sys2Proof/Machine/Flash.lean ====
section
/-! DEFINITION. The boot flash (R420): its checksums, the boot control record (R424), and firmware images (R421-R423). -/

namespace Sys2Proof.Machine

/-! ### Checksums -/

/-- One bit of CRC-32 (IEEE 802.3), least significant bit first. -/
def crc32Bit (c : BitVec 32) : BitVec 32 := if c.getLsbD 0 then (c >>> 1) ^^^ 0xEDB88320#32 else c >>> 1

/-- One byte of CRC-32. -/
def crc32Byte (c : BitVec 32) (b : Byte) : BitVec 32 :=
  crc32Bit <| crc32Bit <| crc32Bit <| crc32Bit <| crc32Bit <| crc32Bit <| crc32Bit <| crc32Bit (c ^^^ b.setWidth 32)

/-- CRC-32 (IEEE 802.3) of a byte string. -/
def crc32 (l : List Byte) : BitVec 32 := ~~~(l.foldl crc32Byte 0xFFFFFFFF#32)

/-- CRC-16 of R214 over bytes, each least significant bit first (log 30). -/
def crc16 (l : List Byte) : BitVec 16 := crcBits (l.flatMap fun b => bitsUp 8 b.toNat)

/-! ### The boot control record (R424) -/

/-- The fields of the boot control record. -/
structure Bcr where
  seq    : Nat
  active : Nat
  stateA : Nat
  stateB : Nat
  tries  : Nat
deriving DecidableEq, Repr

/-- The bytes 0x00-0x3B of a record. -/
def Bcr.body (b : Bcr) : List Byte :=
  natLe 4 0x4C524342 ++ natLe 4 b.seq ++ natLe 1 b.active ++ natLe 1 b.stateA ++ natLe 1 b.stateB ++ natLe 1 b.tries ++
    List.replicate 48 0

/-- The copy in half `k` of the control area, where its CRC is right. -/
def State.bcrCopy (s : State) (k : Nat) : Option Bcr :=
  let l := s.flashAt (0x20000 * k) 64
  if (crc32 (l.take 60)).toNat = fieldLe l 0x3C 4 then
    some ⟨fieldLe l 4 4, fieldLe l 8 1, fieldLe l 9 1, fieldLe l 10 1, fieldLe l 11 1⟩
  else none

/-- The record ROM takes, with the half it lies in; where no copy is right, both slots are empty. -/
def State.bcr (s : State) : Nat × Bcr :=
  match s.bcrCopy 0, s.bcrCopy 1 with
  | some a, some b => if a.seq < b.seq then (1, b) else (0, a)
  | some a, none => (0, a)
  | none, some b => (1, b)
  | none, none => (1, ⟨0, 0, 0, 0, 0⟩)

/-- Writes a change into the other copy with SEQ + 1. -/
def State.putBcr (s : State) (f : Bcr → Bcr) : State :=
  let r := s.bcr
  let b := { f r.2 with seq := r.2.seq + 1 }
  let l := b.body
  s.putFlash (0x20000 * (1 - r.1)) (l ++ natLe 4 (crc32 l).toNat)

/-- The state of a slot: 0 EMPTY, 1 STAGED, 2 TRIAL, 3 COMMITTED, 4 REJECTED. -/
def Bcr.slot (b : Bcr) (i : Nat) : Nat := if i = 0 then b.stateA else b.stateB

/-- The record with a slot's state replaced. -/
def Bcr.setSlot (b : Bcr) (i st : Nat) : Bcr := if i = 0 then { b with stateA := st } else { b with stateB := st }

/-! ### The identity-key mirror (R257, R420) -/

/-- The committed end of the reserved indexes, where the mirror is readable: 8 bytes and their CRC-32. The spec gives the mirror
its place and no layout (DESIGN CHOICE, log 61). -/
def State.keyMirror (s : State) : Option Nat :=
  let l := s.flashAt 0x40000 12
  if (crc32 (l.take 8)).toNat = fieldLe l 8 4 then some (fieldLe l 0 8) else none

/-- Commits an end to the mirror. -/
def State.putKeyMirror (s : State) (n : Nat) : State :=
  s.putFlash 0x40000 (natLe 8 n ++ natLe 4 (crc32 (natLe 8 n)).toNat)

/-! ### Images (R421-R423) -/

/-- First byte of an image slot, and its size. -/
def slotBase (i : Nat) : Nat := 0x500000 + 0x400000 * i
/-- 4 MiB. -/
def slotSize : Nat := 0x400000

/-- A field of the header of the image in a slot. -/
def State.imgField (s : State) (i off n : Nat) : Nat := leNat (s.flashAt (slotBase i + off) n)

/-- BODY_LEN. -/
def State.bodyLen (s : State) (i : Nat) : Nat := s.imgField i 0x18 4

/-- OFFSET, LENGTH, LOAD of section `n`. -/
def State.section (s : State) (i n : Nat) : Nat × Nat × Nat :=
  (s.imgField i (0x20 + 48 * n) 4, s.imgField i (0x24 + 48 * n) 4, s.imgField i (0x28 + 48 * n) 4)

/-- DIGEST of section `n` in the header. -/
def State.sectionDigest (s : State) (i n : Nat) : List Byte := s.flashAt (slotBase i + 0x30 + 48 * n) 32

/-- The bytes of section `n`. -/
def State.sectionBytes (s : State) (i n : Nat) : List Byte :=
  s.flashAt (slotBase i + 256 + (s.section i n).1) (s.section i n).2.1

/-- The image digest. -/
def State.imageDigest (s : State) (i : Nat) : List Byte :=
  shake256 (ascii "FX9-FWIM" ++ s.flashAt (slotBase i) (256 + s.bodyLen i))

/-- The sections and the trace map, where there is one, lie within the body and the slot, and the load ranges in their part of shared SRAM,
apart from each other. -/
def State.layoutOk (s : State) (i : Nat) : Bool :=
  let len := s.bodyLen i
  let t := s.imgField i 0xE0 4
  let tl := s.imgField i 0xE4 4
  let secs := [0, 1, 2, 3].map (s.section i)
  len ≤ 3153920 && (tl = 0 || tl = 8192 && t + tl ≤ len) &&
    secs.all (fun x => x.1 + x.2.1 ≤ len && x.2.2 + x.2.1 ≤ 0x300000) &&
    [(0, 1), (0, 2), (0, 3), (1, 2), (1, 3), (2, 3)].all fun p =>
      let a := s.section i p.1
      let b := s.section i p.2
      a.2.2 + a.2.1 ≤ b.2.2 || b.2.2 + b.2.1 ≤ a.2.2 || a.2.1 = 0 || b.2.1 = 0

/-- The first failure of R423 as the code of R435: 1 HEADER, 2 MEMBER, 3 ROLLBACK, 4 LAYOUT, 5 SIGNATURE, 6 SECTION; 0 for
a valid image. -/
def State.checkImage (s : State) (i : Nat) : Nat :=
  if s.imgField i 0 4 != 0x4D495746 || s.imgField i 4 2 != 1 then 1
  else if s.imgField i 6 1 != 9 then 2
  else if s.imgField i 0x0C 1 < s.fuses.floor then 3
  else if !s.layoutOk i then 4
  else if !xmssOk s.fuses.romImageKey (s.imageDigest i) (s.flashAt (slotBase i + 256 + s.bodyLen i) 2820) then 5
  else if [0, 1, 2, 3].any fun n => shake256 (ascii "FX9-FWSC" ++ s.sectionBytes i n) != s.sectionDigest i n then 6
  else 0

end Sys2Proof.Machine
end

