-- ==== Sys2Proof/Machine/Records.lean ====
section
/-! DEFINITION. The two records of the profile area (R476): repairs (R194) and commissioning (R405). -/

namespace Sys2Proof.Machine

/-- The VALID word of the profile area. -/
def validMark : Nat := 0x5AA5A55A

/-- Bytes of a range of the profile area. -/
def rangeSize : Nat := 0x100000

/-- Writes a record: its range is erased, header and entries are written, the VALID word last. -/
def State.putRecord (s : State) (base : Nat) (magic : List Byte) (entries : List (List Byte)) : State :=
  let h := magic ++ natLe 4 entries.length ++ List.replicate 52 0
  let e := entries.flatten
  ((s.eraseFlash base rangeSize).putFlash base (h ++ natLe 4 (crc32 (h ++ e)).toNat ++ e)).putFlash
    (base + rangeSize - 4) (natLe 4 validMark)

/-- The entries of a record of 16-byte entries; none where its MAGIC, VALID word or CRC is wrong. -/
def State.getRecord (s : State) (base : Nat) (magic : List Byte) : List (List Byte) :=
  let h := s.flashAt base 64
  let n := fieldLe h 4 4
  if h.take 4 != magic || leNat (s.flashAt (base + rangeSize - 4) 4) != validMark || rangeSize < 64 + 16 * n + 4 then []
  else
    let e := s.flashAt (base + 64) (16 * n)
    if (crc32 (h.take 60 ++ e)).toNat != fieldLe h 60 4 then []
    else (List.range n).map fun i => slice e (16 * i) 16

/-! ### Repairs -/

/-- Base of the repair record. -/
def repairBase : Nat := 0x300000

/-- Spares of a bank that the fuse map uses. -/
def State.fuseSpares (s : State) (c b : Nat) : Nat := (s.fuses.spareMap.filter fun r => r.core = c && r.bank = b).length

/-- The entries of the spare assignments, in the order made. -/
def State.spareEntries (s : State) (before : List SpareRow) : List SpareRow → List (List Byte)
  | [] => []
  | r :: t =>
    let k := s.fuseSpares r.core r.bank + (before.filter fun q => q.core = r.core && q.bank = r.bank).length
    ([0] ++ natLe 1 r.core ++ natLe 1 r.bank ++ [0] ++ natLe 4 r.row ++ natLe 4 k ++ [0, 0, 0, 0]) ::
      s.spareEntries (before ++ [r]) t

/-- The entries of the remaps. -/
def remapEntries (before : List (Nat × Nat)) : List (Nat × Nat) → List (List Byte)
  | [] => []
  | r :: t =>
    let k := (before.filter fun q => q.1 = r.1).length
    ([1] ++ natLe 1 r.1 ++ [0, 0] ++ natLe 4 r.2 ++ natLe 4 k ++ [0, 0, 0, 0]) :: remapEntries (before ++ [r]) t

/-- The ledger core keeps the repair record (R194): at once while it runs and the record has been read, else when both are
so. -/
def State.saveRepair (s : State) (ledger : Bool) : State :=
  if ledger && s.integ.repRead then
    { s with integ.repDirty := false }.putRecord repairBase (ascii "RPRC")
      (s.spareEntries [] s.integ.spares ++ remapEntries [] s.integ.remaps)
  else { s with integ.repDirty := true }

/-- Whether the repair record in flash is valid (R476). -/
def State.repairValid (s : State) : Bool :=
  let h := s.flashAt repairBase 64
  let n := fieldLe h 4 4
  h.take 4 == ascii "RPRC" && leNat (s.flashAt (repairBase + rangeSize - 4) 4) = validMark && 64 + 16 * n + 4 ≤ rangeSize &&
    (crc32 (h.take 60 ++ s.flashAt (repairBase + 64) (16 * n))).toNat = fieldLe h 60 4

/-- Entries the repair record holds of SRAM spares (R194). -/
def recordCap : Nat := 256

/-- INT_STAT.REC_FULL: the record holds no further spare (R194). -/
def State.showRecFull (s : State) : State := s.fset pINT INT_STAT_REC_FULL (bit (recordCap ≤ s.integ.spares.length))

/-- Reads the repair record (R473): its assignments come first, those made since follow. -/
def State.readRepair (s : State) : State :=
  let l := s.getRecord repairBase (ascii "RPRC")
  let sp := (l.filter fun e => fieldLe e 0 1 = 0).map fun e => (⟨fieldLe e 1 1, fieldLe e 2 1, fieldLe e 4 4⟩ : SpareRow)
  let rm := (l.filter fun e => fieldLe e 0 1 = 1).map fun e => (fieldLe e 1 1, fieldLe e 4 4)
  { s with
    integ.repRead := true
    integ.spares := sp ++ s.integ.spares.filter fun r => !sp.contains r
    integ.remaps := rm ++ s.integ.remaps.filter fun r => !rm.contains r }

/-! ### Commissioning -/

/-- Base of the commissioning record. -/
def commisBase : Nat := 0x400000

/-- The entry of a channel; VALID_CH is 0 where it has none. -/
def State.commisEntry (s : State) (n : Nat) : List Byte :=
  match s.lcw.commis.find? fun r => r.chan = n with
  | some r => natLe 2 r.sMax ++ natLe 2 r.d25 ++ natLe 2 r.d50 ++ natLe 2 r.d75 ++ natLe 2 1000 ++
      natLe 2 (ofSigned 16 r.tc) ++ [1, 0, 0, 0]
  | none => List.replicate 16 0

/-- The climate core stores the commissioning record (R405). -/
def State.saveCommis (s : State) : State :=
  s.putRecord commisBase (ascii "CMRC") ((List.range 16).map s.commisEntry)

/-- Reads the commissioning record (R473). -/
def State.readCommis (s : State) : State :=
  let l := (s.getRecord commisBase (ascii "CMRC")).zipIdx.filter fun e => fieldLe e.1 12 1 = 1
  { s with lcw.commis := l.map fun e =>
      ⟨e.2, fieldLe e.1 0 2, fieldLe e.1 2 2, fieldLe e.1 4 2, fieldLe e.1 6 2, toSigned 16 (fieldLe e.1 10 2)⟩ }

end Sys2Proof.Machine
end

