-- ==== Sys2Proof/Machine/Fans.lean ====
section
/-! DEFINITION. Lacewing (R397-R406, R415-R417): duties, channel states, commissioning and ageing, autonomous table mode. -/

namespace Sys2Proof.Machine

/-! ### Temperatures (R407, R409) -/

/-- The thermistors. -/
def thermList : List Nat := List.range 32

/-- CLASS of a thermistor: 0 OK, 1 OPEN, 2 SHORT, 3 RATE, 4 STUCK. -/
def State.thClass (s : State) (i : Nat) : Nat := s.fget pHZDSENS (HZ_TH_CLASS.nth i 4)

/-- Its reading, 1/16 C. -/
def State.thTemp (s : State) (i : Nat) : Int := toSigned 16 (s.fget pHZDSENS (HZ_TH_TEMP.nth i 4))

/-- The thermistors of a zone. -/
def State.zoneTherms (s : State) (z : Nat) : List Nat :=
  thermList.filter fun i => s.fget pHZDSENS (HZ_THCFG_ZONE.nth i 4) = z

/-- The highest OK reading of a zone, if it has one. -/
def State.zoneTemp (s : State) (z : Nat) : Option Int :=
  ((s.zoneTherms z).filter fun i => s.thClass i = 0).foldl (fun m i =>
    match m with
    | none => some (s.thTemp i)
    | some t => some (max t (s.thTemp i))) none

/-- T_in, 1/16 C: the mean of the OK inlet readings, rounded down; 45 C without one. -/
def State.inletTemp (s : State) : Int :=
  let l := thermList.filter fun i => s.thClass i = 0 && s.flag pHZDSENS (HZ_THCFG_INLET.nth i 4)
  if l.isEmpty then 720 else (l.map s.thTemp).foldl (· + ·) 0 / (l.length : Int)

/-! ### The table (R416) -/

/-- The table at reset: degrees and 0.1%. -/
def resetTable : List (Nat × Nat) :=
  [(25, 300), (30, 350), (35, 420), (40, 500), (45, 600), (50, 720), (55, 860), (60, 1000)]

/-- The live table. -/
def State.liveTable (s : State) : List (Nat × Nat) := if s.lcw.table.isEmpty then resetTable else s.lcw.table

/-- The shadow table in the registers. -/
def State.shadowTable (s : State) : List (Nat × Nat) :=
  (List.range 8).map fun k => (s.fget pLCWGLOB (LCW_TBL_T.nth k 4), s.fget pLCWGLOB (LCW_TBL_D.nth k 4))

/-- The table duty at a temperature: on a segment, rounded up to 0.1%. -/
def tableAt : List (Nat × Nat) → Int → Nat
  | [], _ => 0
  | [p], _ => p.2
  | p :: q :: t, x =>
    if x < (p.1 : Int) * 16 then p.2
    else if x < (q.1 : Int) * 16 then
      let w := (q.1 - p.1) * 16
      p.2 + ((q.2 - p.2) * (x - (p.1 : Int) * 16).toNat + w - 1) / w
    else tableAt (q :: t) x

/-- D_7. -/
def lastDuty (l : List (Nat × Nat)) : Nat := (l.getLast?.getD (0, 0)).2

/-- The table duty of a zone: without an OK reading, the greater of D_7 and FAN_SAFE (R409). -/
def State.tableDuty (s : State) (z : Nat) : Nat :=
  match s.zoneTemp z with
  | some t => tableAt s.liveTable t
  | none => max (lastDuty s.liveTable) s.fanSafe

/-! ### Channels -/

/-- The channels. -/
def fanList : List Nat := List.range 16

/-- A channel beyond its page. -/
def State.fan (s : State) (n : Nat) : FanSt := Tab.get s.lcw.fans n {}

/-- Changes it. -/
def State.modFan (s : State) (n : Nat) (f : FanSt → FanSt) : State :=
  { s with lcw.fans := Tab.set s.lcw.fans n (f (s.fan n)) {} }

/-- A field of a channel. -/
def State.ch (s : State) (n : Nat) (f : Fld) : Nat := s.fget pLCWCHAN (f.nth n 0x20)

/-- Writes it. -/
def State.chSet (s : State) (n : Nat) (f : Fld) (x : Nat) : State := s.fset pLCWCHAN (f.nth n 0x20) x

/-- STATE of a channel: 0 OFF, 1 SPINUP, 2 PROBE, 3 RUN, 4 RETRY_WAIT, 5 STALLED, 6 STOPPING. -/
def State.fanState (s : State) (n : Nat) : Nat := s.ch n LCW_CH_STAT_STATE

/-- Whether a channel is enabled. -/
def State.fanOn (s : State) (n : Nat) : Bool := s.ch n LCW_CH_CTRL_EN = 1

/-- SYS_SHDN_N is asserted. -/
def State.shdn (s : State) : Bool := s.flag pHZDSENS HZ_SHDN_STAT_ASSERTED

/-- The duty a channel's state makes of the composed one (R398, R402): a PROBE switches at 50%, and a shutdown drives an
enabled channel that no stall holds off at 100%, started or not (R5, log 75). -/
def State.fanDuty (s : State) (n : Nat) : Nat :=
  match s.fanState n with
  | 0 => if s.shdn && s.fanOn n then 1000 else 0
  | 1 => 1000
  | 2 => 500
  | 3 => if s.shdn then 1000 else min 1000 (max (s.fan n).composed ((s.fan n).fall / 10))
  | _ => 0

/-- The duty in force at Carapace: FAN_SAFE from its power-on until the climate core commands one (R368). -/
def State.heldDuty (s : State) (n : Nat) : Nat := (s.crp.heldDuty[n]?).getD s.fanSafe

/-- Carapace takes a channel's duty. -/
def State.setDuty (s : State) (n d : Nat) : State :=
  let l := fanList.map fun k => if k = n then d else s.heldDuty k
  { s with crp.heldDuty := l }.chSet n LCW_CH_STAT_APPLIED d

/-- Sends a channel's duty; in silence only the 100% of a shutdown takes effect (R417). -/
def State.driveFan (s : State) (n : Nat) : State :=
  if s.crpDeaf && !(s.shdn && s.fanDuty n = 1000) then s else s.setDuty n (s.fanDuty n)

/-- The power core sets GG_FAN_CAP by the count of degraded channels the climate core reports (R403, R477). -/
def State.fanCap (s : State) : State :=
  let n := (fanList.filter fun c =>
    s.fanState c = 5 || s.ch c LCW_CH_STAT_TACH_LOST = 1 || s.ch c LCW_CH_STAT_AGEING = 1).length
  let cap := if n = 0 then 0 else nth s.fwc.fanCaps (min 4 n - 1)
  if s.runs 0 && s.runs 1 && s.fwc.profValid && s.fget pGOVGLOB GG_FAN_CAP != cap then
    (regWrite s .fwp (pGOVGLOB + GG_FAN_CAP.off) 4 cap).2
  else s

/-- Sets bit `n` of a mask field. -/
def State.maskBit (s : State) (base : Nat) (f : Fld) (n : Nat) (on : Bool) : State :=
  let m := s.fget base f
  s.fset base f (if on then Nat.lor m (2 ^ n) else m - Nat.land m (2 ^ n))

/-- A channel enters a state: commissioning aborts when it leaves RUN (R405). -/
def State.setFan (s : State) (n st : Nat) : State :=
  let was := s.fanState n
  if was = st then s
  else
    let s := (s.chSet n LCW_CH_STAT_STATE st).raise pLCWCHAN 3
    let s := if was = 3 then s.fset pLCWGLOB LCW_STAT_COMMISSIONING 0 else s
    let s := s.maskBit pLCWGLOB LCW_FAULTS_STALLED n (st = 5)
    (s.driveFan n).fanCap

/-- TACH_LOST of a channel. -/
def State.setTachLost (s : State) (n : Nat) (on : Bool) : State :=
  if (s.ch n LCW_CH_STAT_TACH_LOST = 1) = on then s
  else
    let s := ((s.chSet n LCW_CH_STAT_TACH_LOST (bit on)).maskBit pLCWGLOB LCW_FAULTS_TACH_LOST n on).fanCap
    if on then s.raise pLCWGLOB 5 else s

/-- A start (R402, R404): a spin-up from OFF; latched while STOPPING. -/
def State.startFan (s : State) (n : Nat) : State :=
  if s.fanState n = 0 then s.setFan n 1
  else if s.fanState n = 6 then s.chSet n LCW_CH_STAT_RESTART_PEND 1 else s

/-- A stop (R404). -/
def State.stopFan (s : State) (n : Nat) : State :=
  if 1 ≤ s.fanState n && s.fanState n ≤ 4 then s.setFan n 6 else s

/-! ### Duties (R398, R400) -/

/-- The composed duty of a channel, before its state acts. -/
def State.compose (s : State) (n : Nat) : Nat :=
  let z := s.ch n LCW_CH_CFG_ZONE
  let base := if s.flag pLCWGLOB LCW_STAT_AUTO then s.tableDuty z else s.ch n LCW_CH_DUTY_DUTY
  let d := if base = 0 then 0 else max base (s.fget pLCWGLOB LCW_CFG_MIN_DUTY)
  let bad := (s.zoneTherms z).any (fun i => s.thClass i != 0) || s.ch n LCW_CH_STAT_TACH_LOST = 1
  let d := if bad then max d s.fanSafe else d
  let boosts := (fanList.filter fun k => s.fanState k = 5 && s.ch k LCW_CH_CFG_NBR / 2 ^ n % 2 = 1).length
  if s.shdn then 1000 else min 1000 (d + 150 * boosts)

/-- The stretch of a running channel whose tach is in use (R400): N and the stretched on-time in us; (0, 0) without one. -/
def State.stretch (s : State) (n : Nat) : Nat × Nat :=
  let d := s.fanDuty n
  let f := s.fget pLCWGLOB LCW_CFG_FSW
  let on := 2000 * d
  let need := (4000 + 3 * (s.fan n).tLast) * f
  if s.fanState n = 3 && s.ch n LCW_CH_STAT_TACH_LOST = 0 && 0 < d && d < 1000 && on < need then
    (max (s.fget pLCWGLOB LCW_CFG_STRETCH_N) (1 + (need - on + on - 1) / on), (4000 + 3 * (s.fan n).tLast) / 2)
  else (0, 0)

/-- One 10 ms step of a channel: the new composed duty starts or stops it, and its duty is sent. -/
def State.composeFan (s : State) (d : Nat → Nat) (n : Nat) : State :=
  let was := (s.fan n).composed
  let new := d n
  let s := s.modFan n fun k =>
    { k with composed := new, fall := if k.fall ≤ new * 10 + 2 then 0 else k.fall - 2 }
  let s :=
    if !s.fanOn n then s
    else if was = 0 && new != 0 then s.startFan n
    else if new = 0 then s.stopFan n else s
  let s := s.driveFan n
  let t := s.stretch n
  (s.modFan n fun k => { k with stretchN := t.1, onTime := t.2 }).chSet n LCW_CH_STAT_STRETCH (bit (t.1 != 0))

/-- DUTY_COMPOSE (R398): every channel's duty, from the states before the step, and the rail's readings of the 10 ms, 10 mV
and 10 mA. Duties commanded end CRP_GSTAT.SAFE_DUTY once Carapace takes them (R368). While the conductor die is silent to
Carapace the step waits, and no reading arrives (R5). -/
def execDutyCompose (vRail iRail : Nat) (s : State) : Res :=
  if s.crp.silent then .next s
  else
    let d := s.compose
    let s := (s.fset pLCWGLOB LCW_RAIL_V_RAIL (min 0xFFFF vRail)).fset pLCWGLOB LCW_RAIL_I_RAIL (min 0xFFFF iRail)
    let s := s.each fanList fun s n => s.composeFan d n
    .next (if s.crpDeaf then s else s.fset pCRPGLOB CRP_GSTAT_SAFE_DUTY 0)

/-! ### Switching (R397, R400, R401) -/

/-- The level of FAN_DRVn, true where the switch is on: FSW periods a second, the n-th channel's n/16 of a period after the
first one's; one on-time in every N stretched, the others shortened; the pattern of a probe. A duty of 100% holds it on, one
of 0 off. Times are in units of 1/10^6 of a period. -/
def State.fanDrv (s : State) (n : Nat) : Bool :=
  let d := s.heldDuty n
  let k := s.fan n
  let f := s.fget pLCWGLOB LCW_CFG_FSW
  let t := s.crp.switchUs * f + 1000000 - 62500 * n
  let at_ := t % 1000000
  let on := 1000 * d
  s.crp.on && if d = 0 then false
    else if 1000 ≤ d then true
    else if s.fanState n = 2 then Config.probeOn n (s.crp.switchUs / 20000)
    else if k.stretchN < 2 then at_ < on
    else if t / 1000000 % k.stretchN = 0 then at_ < k.onTime * f
    else at_ * (k.stretchN - 1) + (k.onTime * f - on) < on * (k.stretchN - 1)

/-! ### Start, stall, stop (R399-R404) -/

/-- What a write of LCW_CHn_CTRL does, `was` being EN before it: CLEAR takes STALLED to OFF, with ATTEMPT at 0 (log 34). -/
def fanCtrl (n was v : Nat) (s : State) : State :=
  let clr := v / 2 % 2 = 1 && s.fanState n = 5
  let s := if clr then (s.setFan n 0).chSet n LCW_CH_STAT_ATTEMPT 0 else s
  if v % 2 = 1 then (if clr || was = 0 then s.startFan n else s)
  else (s.chSet n LCW_CH_STAT_RESTART_PEND 0).stopFan n

/-- A write of LCW_CHn_CTRL. -/
def State.fanWrite (s : State) (cls : Cls) (n v : Nat) : State :=
  writeThen s cls (pLCWCHAN + 0x100 + 0x20 * n) v (fanCtrl n (s.ch n LCW_CH_CTRL_EN) v)

/-- FAN_EN (R404). -/
def execFanEn (cls : Cls) (chan : FanChan) (en : Bool) (s : State) : Res := .next (s.fanWrite cls chan.val (bit en))

/-- FAN_CLEAR (R402): EN stays as it is. -/
def execFanClear (cls : Cls) (chan : FanChan) (s : State) : Res :=
  .next (s.fanWrite cls chan.val (2 + s.ch chan.val LCW_CH_CTRL_EN))

/-- A channel is in a state, and its sequence runs: it pauses while the conductor die is silent to Carapace (R5). -/
def State.fanRuns (s : State) (n st : Nat) : Bool := s.fanState n = st && !s.crp.silent

/-- SPINUP_END (R402): without a valid tach period so far. -/
def execSpinupEnd (chan : FanChan) (s : State) : Res :=
  .next (if s.fanRuns chan.val 1 then s.setFan chan.val 2 else s)

/-- PROBE_END (R401, R402): the difference of the RMS currents, in mA, against LCW_RIPPLE_THR. -/
def execProbeEnd (chan : FanChan) (ripple : Nat) (s : State) : Res :=
  let n := chan.val
  if !s.fanRuns n 2 then .next s
  else if s.fget pLCWGLOB LCW_RIPPLE_THR_THR ≤ ripple then
    .next ((s.setTachLost n true).modFan n (fun k => { k with validRun := 0 }) |>.setFan n 3)
  else if s.ch n LCW_CH_STAT_ATTEMPT < 3 then .next (s.setFan n 4)
  else .next (((s.setFan n 5).raise pLCWGLOB 4).act 0x0B n 0 (s.ch n LCW_CH_CFG_NBR))

/-- RETRY_WAIT_END (R402). -/
def execRetryWaitEnd (chan : FanChan) (s : State) : Res :=
  let n := chan.val
  .next (if s.fanRuns n 4 then (s.chSet n LCW_CH_STAT_ATTEMPT (s.ch n LCW_CH_STAT_ATTEMPT + 1)).setFan n 1 else s)

/-- TACH_TIMEOUT (R402, R403): a channel whose tach is lost stays in RUN. -/
def execTachTimeout (chan : FanChan) (s : State) : Res :=
  let n := chan.val
  if !s.fanRuns n 3 then .next s
  else if s.ch n LCW_CH_STAT_TACH_LOST = 1 then .next (s.modFan n fun k => { k with validRun := 0 })
  else .next (s.setFan n 2)

/-- TACH_PERIOD (R399, R400, R402): the speed in rpm, T_last, and RUN from SPINUP. -/
def execTachPeriod (chan : FanChan) (periodUs : Nat) (s : State) : Res :=
  let n := chan.val
  if periodUs = 0 then .next s
  else
    let rpm := 60000000 / ((s.ch n LCW_CH_CFG_PPR + 1) * periodUs)
    let s := (s.chSet n LCW_CH_SPEED_RPM (min 0xFFFF rpm)).modFan n fun k =>
      { k with tLast := periodUs, validRun := k.validRun + 1 }
    .next (if s.fanRuns n 1 then s.setFan n 3 else s)

/-- TACH_RECOVERED (R403). -/
def execTachRecovered (chan : FanChan) (s : State) : Res :=
  let n := chan.val
  if s.fanState n = 3 && s.ch n LCW_CH_STAT_TACH_LOST = 1 && 10 ≤ (s.fan n).validRun then
    .next ((s.setTachLost n false).chSet n LCW_CH_STAT_ATTEMPT 0)
  else .next s

/-- STOPPING_END (R404). -/
def execStoppingEnd (chan : FanChan) (s : State) : Res :=
  let n := chan.val
  if !s.fanRuns n 6 then .next s
  else if s.ch n LCW_CH_STAT_RESTART_PEND = 1 then .next ((s.chSet n LCW_CH_STAT_RESTART_PEND 0).setFan n 1)
  else .next (s.setFan n 0)

/-! ### Commissioning and ageing (R405, R406) -/

/-- Whether a cause of table mode holds (R415). -/
def State.tableCause (s : State) : Bool :=
  (readWord s .fwp (pLCWGLOB + 0x104)).toNat / 2 % 8 != 0

/-- Table mode changes (R415): entering it aborts commissioning; leaving it, no duty falls faster than 2 points a second. -/
def State.setAuto (s : State) (on : Bool) : State :=
  if s.flag pLCWGLOB LCW_STAT_AUTO = on then s
  else
    let s := (s.fset pLCWGLOB LCW_STAT_AUTO (bit on)).raise pLCWGLOB 3
    if on then
      (s.each fanList fun s n => s.modFan n fun k => { k with fall := 0 }).fset pLCWGLOB LCW_STAT_COMMISSIONING 0
    else s.each fanList fun s n => s.modFan n fun k => { k with fall := 10 * s.ch n LCW_CH_STAT_APPLIED }

/-- The table passes the checks of R416. -/
def State.tableValid (s : State) (l : List (Nat × Nat)) : Bool :=
  (l.zip l.tail).all (fun p => p.1.1 < p.2.1 && p.1.2 ≤ p.2.2) && s.fanSafe ≤ lastDuty l

/-- The actions of a write of LCW_CTRL. -/
def lcwCtrl (req v : Nat) (s : State) : State :=
  let s := if v % 2 = 1 && !s.tableCause then s.setAuto false else s
  let s := if v / 2 % 2 = 1 && !s.flag pLCWGLOB LCW_STAT_AUTO then s.fset pLCWGLOB LCW_STAT_COMMISSIONING 1 else s
  if v / 8 % 2 = 1 then
    if s.tableValid s.shadowTable then { s with lcw.table := s.shadowTable } else s.latch pLCWGLOB 0x0101 req 0x100
  else s

/-- A write of LCW_CTRL with one action, TABLE_FORCE as it stands. -/
def State.lcwWrite (s : State) (cls : Cls) (v : Nat) : State :=
  let w := v + 4 * s.fget pLCWGLOB LCW_CTRL_TABLE_FORCE
  writeThen s cls (pLCWGLOB + 0x100) w (lcwCtrl (clsCode cls) w)

/-- COMMISSION (R405). -/
def execCommission (cls : Cls) (s : State) : Res := .next (s.lcwWrite cls 2)

/-- COMMISS_DONE (R405): the climate core stores the record of every enabled channel in RUN, which also ends their
AGEING. -/
def execCommissDone (points : List CommissPoint) (s : State) : Res :=
  if !s.flag pLCWGLOB LCW_STAT_COMMISSIONING then .next s
  else
    let l := fanList.filter fun n => s.fanOn n && s.fanState n = 3
    let new := (points.filter fun (p : CommissPoint) => l.contains p.chan.val).map fun p =>
      (⟨p.chan.val, p.sMax, p.d25, p.d50, p.d75, s.inletTemp⟩ : CommissRec)
    let kept := s.lcw.commis.filter fun r => !new.any fun q => q.chan = r.chan
    let s := { s with lcw.commis := kept ++ new }.saveCommis
    let s := s.each l fun s n =>
      (((s.modFan n fun k => { k with ageRun := 0 }).chSet n LCW_CH_STAT_AGEING 0).maskBit pLCWGLOB LCW_AGEING_AGEING n false)
    .next ((s.fset pLCWGLOB LCW_STAT_COMMISSIONING 0).raise pLCWGLOB 7).fanCap

/-- The recorded points of a channel, by rising speed: four times the rpm, and the duty. -/
def CommissRec.points (r : CommissRec) : List (Nat × Nat) :=
  [(r.sMax, r.d25), (2 * r.sMax, r.d50), (3 * r.sMax, r.d75), (4 * r.sMax, 1000)]

/-- D_base(S) as a fraction: linear between the recorded points around S. -/
def baseAt : List (Nat × Nat) → Nat → Option (Nat × Nat)
  | p :: q :: t, x =>
    if p.1 ≤ x && x ≤ q.1 && p.1 < q.1 then
      some (p.2 * (q.1 - p.1) + (x - p.1) * q.2 - (x - p.1) * p.2, q.1 - p.1)
    else baseAt (q :: t) x
  | _, _ => none

/-- A temperature above absolute zero, 1/1,600 K. -/
def kelvin (t : Int) : Nat := (437040 + 100 * t).toNat

/-- AGEING_EVALUATION (R406): D_adj and the ratio are rounded down in the register; the third ratio above 1.15 in a row sets
AGEING. -/
def execAgeingEvaluation (chan : FanChan) (s : State) : Res :=
  let n := chan.val
  let r := s.lcw.commis.find? fun r => r.chan = n
  match r.bind fun r => (baseAt r.points (4 * s.ch n LCW_CH_SPEED_RPM)).map fun q => (r.tc, q) with
  | none => .next s
  | some (t, num, den) =>
    let now := s.ch n LCW_CH_STAT_APPLIED
    let tc := kelvin t
    let ti := kelvin s.inletTemp
    if !s.runs 1 || s.fanState n != 3 || num * tc = 0 then .next s
    else
      let s := s.chSet n LCW_CH_AGE_D_BASE (min 1023 (num * tc / (den * ti)))
      let s := s.chSet n LCW_CH_AGE_RATIO (min 0xFFFF (1024 * now * den * ti / (num * tc)))
      let run := if 115 * num * tc < 100 * now * den * ti then (s.fan n).ageRun + 1 else 0
      let s := s.modFan n fun k => { k with ageRun := run }
      if 3 ≤ run && s.ch n LCW_CH_STAT_AGEING = 0 then
        .next (((s.chSet n LCW_CH_STAT_AGEING 1).maskBit pLCWGLOB LCW_AGEING_AGEING n true).raise pLCWGLOB 6).fanCap
      else .next s

/-! ### Table mode (R415, R416) -/

/-- TABLE_MODE_ENTRY (R415). -/
def execTableModeEntry (s : State) : Res := .next (if s.tableCause then s.setAuto true else s)

/-- RESUME (R415): ignored while a cause remains. -/
def execResume (cls : Cls) (s : State) : Res := .next (s.lcwWrite cls 1)

/-- TBL_LOAD (R416). -/
def execTblLoad (cls : Cls) (s : State) : Res := .next (s.lcwWrite cls 8)

end Sys2Proof.Machine
end

