-- ==== Sys2Proof/Machine/Feeds.lean ====
section
/-! DEFINITION. Carapace's feeds (R342-R348). -/

namespace Sys2Proof.Machine

/-- 0 for feed A, 1 for feed B. -/
def feedIdx : Feed → Nat
  | .a => 0
  | .b => 1

/-- A feed beyond the page. -/
def State.feed (s : State) (i : Nat) : FeedSt := Tab.get s.crp.feeds i {}

/-- Changes it. -/
def State.modFeed (s : State) (i : Nat) (f : FeedSt → FeedSt) : State :=
  { s with crp.feeds := Tab.set s.crp.feeds i (f (s.feed i)) {} }

/-- The fields of a feed in CF_STAT and its reading in CF_VIN. -/
def stateFld (i : Nat) : Fld := if i = 0 then CF_STAT_STATE_A else CF_STAT_STATE_B
/-- OV. -/
def ovFld (i : Nat) : Fld := if i = 0 then CF_STAT_OV_A else CF_STAT_OV_B
/-- V_IN. -/
def vinFld (i : Nat) : Fld := if i = 0 then CF_VIN_VIN_A else CF_VIN_VIN_B

/-- STATE of a feed: 0 OPEN, 1 QUAL, 2 READY, 3 CLOSING, 4 CLOSED, 5 TRIPPED. -/
def State.feedState (s : State) (i : Nat) : Nat := s.fget pCRPFEED (stateFld i)

/-- V_IN of a feed in the latest sample, 10 mV. -/
def State.vin (s : State) (i : Nat) : Nat := s.fget pCRPFEED (vinFld i)

/-- The CLOSED feed. -/
def State.closedFeed (s : State) : Option Nat := [0, 1].find? fun i => s.feedState i = 4

/-- CF_STAT.ON and SINGLE (R348). -/
def State.showFeeds (s : State) : State :=
  let c := s.closedFeed
  let single := s.feedOrder.length = 1 || c.elim false fun i => s.feedState (1 - i) != 2
  (s.fset pCRPFEED CF_STAT_ON (c.elim 0 (· + 1))).fset pCRPFEED CF_STAT_SINGLE (bit single)

/-- A feed changes its state; READY_CHG where it becomes READY or ceases to be. -/
def State.setFeed (s : State) (i st : Nat) : State :=
  let was := s.feedState i
  let t := (s.fset pCRPFEED (stateFld i) st).showFeeds
  if (was = 2) != (st = 2) then t.raise pCRPFEED 6 else t

/-- A feed's gate is pulled, with the cause of CF_STAT. -/
def State.openFeed (s : State) (i st cause : Nat) : State := (s.setFeed i st).fset pCRPFEED CF_STAT_CAUSE cause

/-- A feed's gate is driven (R344): hard above 50 V, the comparator blanked for 20 us; otherwise soft, with a bus loss
(R346). -/
def State.driveFeed (s : State) (i : Nat) : State :=
  let s := { s.setFeed i 3 with crp.closing := none }
  if 5000 < s.busVolts then s.modFeed i fun k => { k with blank := 10 } else s.busLoss

/-- Whether feed `j` may be closed in place of another. -/
def State.spareFeed (s : State) (j : Nat) : Bool :=
  s.flag pCRPFEED CF_CTRL_EN && s.feedOrder.contains j && s.feedState j = 2 && s.feedState (1 - j) != 5

/-- Break before make (R343): the gate that a transfer waits to close is driven once the other feed's V_GS lies below 1 V;
one that may no longer close ends the transfer. -/
def State.makeFeed (s : State) : State :=
  match s.crp.closing with
  | none => s
  | some j =>
    if !s.spareFeed j then { s with crp.closing := none, crp.gap := none }
    else if (s.feed (1 - j)).vgs < 100 then s.driveFeed j
    else s

/-- The CLOSED feed opens and the other, when READY, is driven as soon as the first one's gate is down (R344). -/
def State.transfer (s : State) (i cause : Nat) : State :=
  let j := 1 - i
  let go := s.spareFeed j
  let s := s.openFeed i 0 cause
  if go then { s with crp.gap := some 0, crp.closing := some j }.makeFeed else s

/-- No transfer is under way. -/
def State.endTransfer (s : State) : State := { s with crp.gap := none, crp.closing := none }

/-- A feed trips (R347). -/
def State.feedTrip (s : State) (i cause peak : Nat) : State :=
  let s := (s.openFeed i 5 cause).endTransfer
  (s.raise pCRPFEED 4).crpAct 0x05 i cause peak

/-- What a write of CF_CTRL does, `was` being EN before it (R343, R345, R347). -/
def feedCtrl (req was v : Nat) (s : State) : State :=
  let s := if v / 8 % 2 = 1 then s.each [0, 1] fun s i => if s.feedState i = 5 then s.setFeed i 0 else s else s
  let s :=
    if was = 1 && v % 2 = 0 then
      (s.each [0, 1] fun s i => if s.feedState i = 3 || s.feedState i = 4 then s.openFeed i 0 6 else s).endTransfer
    else s
  if v / 4 % 2 = 1 then
    match s.closedFeed with
    | some i => if s.spareFeed (1 - i) then s.transfer i 7 else s.latch pCRPFEED 0x0101 req 0x100
    | none => s.latch pCRPFEED 0x0101 req 0x100
  else s

/-- A write of CF_CTRL. -/
def State.feedWrite (s : State) (cls : Cls) (v : Nat) : State :=
  writeThen s cls (pCRPFEED + 0x100) v (feedCtrl (clsCode cls) (s.fget pCRPFEED CF_CTRL_EN) v)

/-- EN and RETURN as they stand. -/
def State.feedBits (s : State) : Nat := s.fget pCRPFEED CF_CTRL_EN + 2 * s.fget pCRPFEED CF_CTRL_RETURN

/-- FEED_QUAL (R342). -/
def execFeedQual (feed : Feed) (s : State) : Res :=
  let i := feedIdx feed
  .next (if s.feedState i = 0 && 5400 ≤ s.vin i && s.vin i ≤ 6200 then s.setFeed i 1 else s)

/-- FEED_READY (R342): V_IN has stayed in range for QUAL. -/
def execFeedReady (feed : Feed) (s : State) : Res :=
  let i := feedIdx feed
  .next (if s.feedState i = 1 && 5400 ≤ s.vin i && s.vin i ≤ 6200 then s.setFeed i 2 else s)

/-- FEED_OV (R342): QUAL and READY leave for OPEN; a CLOSED feed is transferred away when the other is READY. -/
def execFeedOv (feed : Feed) (s : State) : Res :=
  let i := feedIdx feed
  if s.vin i ≤ 6600 then .next s
  else
    let s := s.fset pCRPFEED (ovFld i) 1
    if s.feedState i = 1 || s.feedState i = 2 then .next (s.setFeed i 0)
    else if s.feedState i = 4 && s.spareFeed (1 - i) then .next (s.transfer i 3)
    else .next s

/-- FEED_EN (R343): RETURN stays as it is. -/
def execFeedEn (cls : Cls) (en : Bool) (s : State) : Res :=
  .next (s.feedWrite cls (bit en + 2 * s.fget pCRPFEED CF_CTRL_RETURN))

/-- FEED_CLOSE (R343): the primary, otherwise the other, once the other feed's V_GS is below 1 V. A transfer under way
completes first (R371). -/
def execFeedClose (s : State) : Res :=
  if s.crp.closing.isSome then .next s.makeFeed
  else if s.flag pCRPFEED CF_CTRL_EN && [0, 1].all (fun i => s.feedState i < 3) then
    match s.feedOrder.find? fun i => s.feedState i = 2 with
    | some i => .next (if (s.feed (1 - i)).vgs < 100 then s.driveFeed i else s)
    | none => .next s
  else .next s

/-- FEED_UV (R344). -/
def execFeedUv (feed : Feed) (s : State) : Res :=
  let i := feedIdx feed
  .next (if s.feedState i = 4 && s.vin i < 25 * s.fget pCRPFEED CF_CFG_UV then s.transfer i 1 else s)

/-- FEED_REVERSE (R344): the comparator acts on its own. -/
def execFeedReverse (feed : Feed) (s : State) : Res :=
  .next (if s.feedState (feedIdx feed) = 4 then s.transfer (feedIdx feed) 2 else s)

/-- FEED_RETURN (R345): the primary READY and the other CLOSED have held together for QUAL. -/
def execFeedReturn (s : State) : Res :=
  if s.flag pCRPFEED CF_CTRL_RETURN && s.feedState 1 = 4 && s.spareFeed 0 then .next (s.transfer 1 7) else .next s

/-- FEED_SWITCH (R345). -/
def execFeedSwitch (cls : Cls) (s : State) : Res := .next (s.feedWrite cls (s.feedBits + 4))

/-- FEED_CLEAR (R347). -/
def execFeedClear (cls : Cls) (s : State) : Res := .next (s.feedWrite cls (s.feedBits + 8))

/-- FEED_INST (R347): the comparator acts on its own while it is not blanked; `peak` is the current, 0.1 A. -/
def execFeedInst (feed : Feed) (peak : Nat) (s : State) : Res :=
  let i := feedIdx feed
  .next (if (s.feedState i = 3 || s.feedState i = 4) && (s.feed i).blank = 0 then s.feedTrip i 4 peak else s)

/-- BUS_LOSS (R346): no feed has been CLOSED for 40 us; one loss for each time the bus is left. -/
def execBusLoss (s : State) : Res :=
  .next (if s.closedFeed = none && !s.crp.busLost then { s with crp.busLost := true }.busLoss else s)

end Sys2Proof.Machine
end

