-- ==== Sys2Proof/Machine/CrpLink.lean ====
section
/-! DEFINITION. Carapace's power-on and its straps (R32-R35, R473), its link, and the keeper (R367-R369, R431). -/

namespace Sys2Proof.Machine

/-- CRP_STRAPS of the strap pins (R33, R34). -/
def strapWord (p : StrapPins) : BitVec 32 :=
  BitVec.ofNat 32 <|
    4 * p.shdn.toNat + 16 * p.fan.toNat + 64 * p.hostc.toNat + 256 * p.feed.toNat + 1024 * p.crit.toNat +
    4096 * p.i3c.toNat + 16384 * bit p.xspi + 32768 * bit p.tap + 65536 * bit (p.feed = 3)

/-- The curve registers of HOST take its class rating (R357-R359): the standard shape, and six times the rating. -/
def State.hostCurve (s : State) : State :=
  let l := scaledCurve s.hostRating
  let s := s.each [0, 1, 2, 3] fun s k =>
    s.wr (pCRPBR 8 + 0x110 + 4 * k) (BitVec.ofNat 32 (nth l (2 * k) + 65536 * nth l (2 * k + 1)))
  s.fset (pCRPBR 8) CB_IINST_IINST (60 * s.hostRating)
where
  /-- The eight currents of the standard shape at a rating, 0.1 A. -/
  scaledCurve (rating : Nat) : List Nat := [110, 125, 150, 200, 250, 300, 400, 500].map fun p => p * rating / 10

/-- CARAPACE_POWER_ON (R32, R473): the straps are sampled, every gate is off, every channel is at FAN_SAFE, and
CRP_ALERT_N is low (R369). -/
def execCarapacePowerOn (pins : StrapPins) (s : State) : Res :=
  if s.crp.on then .next s
  else
    let s := s.wr (pCRPGLOB + 0x100) (strapWord pins)
    let s := { s with crp.on := true, crp.silent := true, crp.silentFrom := s.nowNs, crp.heldDuty := []
                      pins.tapConnected := pins.tap && s.fuses.debugFuse }
    let s := s.wr (pCRPGLOB + 0x108) 6
    let s := (s.wr (pHZDSENS + 0x100) (BitVec.ofNat 32 s.strapCrit)).fset pHZDSENS HZ_SHDN_CFG_THR s.strapThr
    .next s.hostCurve.showFeeds

/-- A valid frame reaches Carapace (R367-R369): the first one ends the silence, and Carapace sends its state and its
buffered actions; `ack`: the power core acknowledges that state. -/
def State.linkFrame (s : State) (ack : Bool) : State :=
  if !s.crp.on then s
  else if s.crp.silent then
    let buf := s.crp.actBuf
    let ms := min 0xFFFF ((s.nowNs - s.crp.silentFrom) / 1000000)
    let s := { s with
      crp.silent := false, crp.ackWait := !ack, crp.actBuf := [], crp.lostAct := 0, crp.keeperActed := false
      sep.lostSince := s.sep.lostSince + s.crp.lostAct }
    let s := ((s.fset pCRPGLOB CRP_GSTAT_SILENCE_MS ms).fset pCRPGLOB CRP_GSTAT_ALERT_OUT 0).raise pCRPGLOB 3
    let s := buf.foldl State.queueAction s
    s.each fanList fun s n => s.chSet n LCW_CH_STAT_APPLIED (s.heldDuty n)
  else if ack then { s with crp.ackWait := false } else s

/-- CARAPACE_FRAME (R367, R368): a frame of the power core; one that fails its check is rejected and counted (R372). -/
def execCarapaceFrame (valid ack : Bool) (s : State) : Res :=
  .next (
    if !s.runs 0 then s
    else if valid then s.linkFrame ack
    else if s.crp.on then s.count pCRPGLOB CRP_LINK_ERR else s)

/-- HOLD_FRAME (R431): while the power core is RESTARTING or LOADING. -/
def execHoldFrame (s : State) : Res :=
  .next (if s.coreState 0 = 3 || s.coreState 0 = 1 then s.linkFrame false else s)

/-- LINK_SILENCE (R367, R369): 1 ms without a valid frame. -/
def execLinkSilence (s : State) : Res :=
  .next (if s.crp.on && !s.crp.silent then
    { s with crp.silent := true, crp.silentFrom := s.nowNs, crp.ackWait := false }.fset pCRPGLOB CRP_GSTAT_ALERT_OUT 1
  else s)

/-- KEEPER_SAFE_DUTY (R367): after 5 s of silence every duty is at least FAN_SAFE. -/
def execKeeperSafeDuty (s : State) : Res :=
  if !(s.crp.on && s.crp.silent) || s.crp.keeperActed then .next s
  else
    let l := fanList.map fun n => max (s.heldDuty n) s.fanSafe
    .next (({ s with crp.heldDuty := l, crp.keeperActed := true }.fset pCRPGLOB CRP_GSTAT_SAFE_DUTY 1).crpAct 0x0A 0xFF 0 (s.fanSafe / 10))

end Sys2Proof.Machine
end

