-- ==== Sys2Proof/Machine/CrpSample.lean ====
section
/-! DEFINITION. One Carapace sample (R341): readings, feed checks and curve (R342, R347), branch curve, thermal model and
their trips (R356, R360, R361), and the 10 us windows of the governor. -/

namespace Sys2Proof.Machine

/-- A reading of 16 bits, saturating. -/
def sat16 (n : Nat) : Nat := min 0xFFFF n

/-- Readings of a branch that the sample does not list. -/
def noReading : BranchSample := ⟨0, 0, 0, 0, some 0⟩

/-! ### Branches -/

/-- CB_POLEi_R and CB_POLEi_TAU. -/
def State.pole (s : State) (b i : Nat) : Nat × Nat :=
  (s.fget (pCRPBR b) (CB_POLE0_R_R.nth i 8), s.fget (pCRPBR b) (CB_POLE0_TAU.nth i 8))

/-- The temperature a pole settles at, 2^-40 K, for a current in 0.1 A and a voltage in mV through R / 1024 K/W. -/
def poleTarget (i vds r : Nat) : Int := ((i * vds * r * 2 ^ 30 / 10000 : Nat) : Int)

/-- The poles of a branch: at power-on their steady state for P = I_0 x 100 mV (R363). -/
def State.poles (s : State) (b : Nat) : List Int :=
  let d := (s.branch b).d
  if d.isEmpty then [0, 1, 2].map fun i => poleTarget ((scaledShape (s.rating b)).headD (0, 0)).1 100 (s.pole b i).1
  else d.map Int.ofNat

/-- One step of the three-pole model (R360), rounded down to 2^-40 K (log 33). -/
def State.poleStep (s : State) (b i vds : Nat) : List Int :=
  (s.poles b).zipIdx.map fun p =>
    let q := s.pole b p.2
    p.1 + (poleTarget i vds q.1 - p.1) * 2 / (max 20 q.2 : Nat)

/-- T_REF, 1/16 C: 85 C where the thermistor is in a fault class. -/
def State.tRef (s : State) (b : Nat) : Int :=
  let w := s.rd (pHZDSENS + 0x200 + 4 * s.fget (pCRPBR b) CB_THERM_REF_TH)
  if HZ_TH_CLASS.get w = 0 then toSigned 16 (HZ_TH_TEMP.get w) else 1360

/-- The sample of one branch: its readings, NTC_FAULT, T_FET, ACC, the retry timer and the current window. The model's power
is that of a gate driven, or still being pulled in (R360). -/
def State.branchReading (s : State) (b : Nat) (r : BranchSample) : State :=
  let p := pCRPBR b
  let on := s.driven b || (s.branchState b = 4 && 100 ≤ r.vgs)
  let d := if on then s.poleStep b r.i r.vds else s.poleStep b 0 0
  let model := s.tRef b + (d.foldl (· + ·) 0) / 2 ^ 36
  let t := if s.flag p CB_THERM_MODE then r.ntc.getD model else model
  let acc := curveStep (s.liveCurve b) (0x2000000 / (1000 * max 1 (s.branch b).cool)) (s.fget p CB_ACCUM) r.i
  let k := s.branch b
  let win := r.i :: k.win
  let full := 5 ≤ win.length
  let s := ((s.fset p CB_MEAS_I (sat16 r.i)).fset p CB_MEAS_V_DS (sat16 r.vds)).fset p CB_VOLT_V_OUT (sat16 r.vout)
  let s := ((s.fset p CB_VOLT_V_GS (sat16 r.vgs)).fset p CB_STAT_NTC_FAULT (bit (r.ntc = none))).fset p CB_ACCUM acc
  let s := (s.fset p CB_TFET_T_FET (ofSigned 16 t)).modBranch b fun k => { k with
    d := d.map Int.toNat
    met := none
    tmr := k.tmr - 2
    win := if full then [] else win
    mean10 := if full then win.foldl (· + ·) 0 else k.mean10
    mean10P := if full then r.vout else k.mean10P }
  s.showTimer b

/-- The trips a sample finds on a branch, the lowest cause (R356, R361, R371). -/
def State.branchTrips (s : State) (b : Nat) : State :=
  if !s.tripable b then s
  else if 0x1000000 ≤ s.fget (pCRPBR b) CB_ACCUM then s.retriableTrip b 2
  else if ((s.fget (pCRPBR b) CB_THERM_T_TRIP : Nat) : Int) * 16 ≤ s.tFet b then s.retriableTrip b 3
  else s

/-! ### Feeds -/

/-- The points of a feed's curve below IINST (R347), 0.1 A. -/
def State.feedCurve (s : State) : List (Nat × Nat) :=
  (standardShape.map fun p => (p.1 * s.fget pCRPFEED CF_LIMIT_RATING / 100, p.2)).filter fun p =>
    p.1 < s.fget pCRPFEED CF_LIMIT_IINST

/-- A transfer's gap ends when V_GS of the closing feed reaches 9 V (R344): `us` is what lies outside the 2 us between its
samples. -/
def State.gapStep (s : State) (i vgs us : Nat) : State :=
  match s.crp.gap with
  | none => s
  | some k =>
    if vgs < 900 then { s with crp.gap := some (k + 1) }
    else
      let g := 2 * (k - 1) + us
      let n := s.fget pCRPFEED CF_XFER_COUNT
      let g8 := min 255 g
      let s := (s.fset pCRPFEED CF_XFER_COUNT (min 0xFFFF (n + 1))).fset pCRPFEED CF_XFER_LAST_GAP g8
      let s := { (s.fset pCRPFEED CF_XFER_GAP_MAX (max g8 (s.fget pCRPFEED CF_XFER_GAP_MAX))) with crp.gap := none }
      (s.crpAct 0x04 i (s.fget pCRPFEED CF_STAT_CAUSE) g).raise pCRPFEED 3

/-- The sample of one feed: OV, range, closing, curve. -/
def State.feedReading (s : State) (i : Nat) (r : FeedSample) (us : Nat) : State :=
  let acc := curveStep s.feedCurve 3 (s.feed i).acc r.i
  let s := s.modFeed i fun k => { k with acc := acc, vgs := r.vgs, blank := k.blank - 1 }
  let s := if r.vin ≤ 6600 then s.fset pCRPFEED (ovFld i) 0 else s
  let st := s.feedState i
  let s := if (st = 1 || st = 2) && (r.vin < 5400 || 6200 < r.vin) then s.setFeed i 0 else s
  let s := if st = 3 then s.gapStep i r.vgs us else s
  let s := if st = 3 && 900 ≤ r.vgs && r.vin < s.busVolts + 10 then s.setFeed i 4 else s
  if (st = 3 || st = 4) && 0x1000000 ≤ acc then s.feedTrip i 5 r.i else s

/-- The current window of the CLOSED feed (R373). -/
def State.feedWindow (s : State) (a b : FeedSample) : State :=
  let i :=
    match s.closedFeed with
    | some 0 => a.i
    | some _ => b.i
    | none => 0
  let win := i :: s.crp.feedWin
  if 5 ≤ win.length then { s with crp.feedWin := [], crp.feedMean := win.foldl (· + ·) 0 }
  else { s with crp.feedWin := win }

/-- Puts an action in order among those of one sample: by code, then by SOURCE (R466). -/
def actInsert (a : ActionRec) : List ActionRec → List ActionRec
  | [] => [a]
  | b :: t => if a.code < b.code || (a.code = b.code && a.source ≤ b.source) then a :: b :: t else b :: actInsert a t

/-- The actions that one sample added to a list that held `n`, in order. -/
def actSort (n : Nat) (l : List ActionRec) : List ActionRec := l.take n ++ (l.drop n).foldr actInsert []

/-- A transfer that waits for V_GS of the opened feed: a sample of its gap, and its drive (R343, R344). -/
def State.makeStep (s : State) : State :=
  if s.crp.closing.isSome then { s with crp.gap := s.crp.gap.map (· + 1) }.makeFeed else s

/-- A sample joins the readings kept, 2 us after the one before, and those that the actions of earlier samples wait for (R370, R459). -/
def State.keepSample (s : State) (x : CrpSample) : State :=
  let f (a : ActionRec) : ActionRec :=
    if crpCode a.code && a.post.length < 40 then { a with post := a.post ++ [crpReading a.code a.source x] } else a
  { s with
    crp.switchUs := s.crp.switchUs + 2, crp.past := (x :: s.crp.past).take 40, sep.actQ := s.sep.actQ.map f, crp.actBuf := s.crp.actBuf.map f }

/-- CARAPACE_SAMPLE (R341): 2 us on Carapace's clock. -/
def execCarapaceSample (sample : CrpSample) (s : State) : Res :=
  if !s.crp.on then .next s
  else
    let n := s.sep.actQ.length
    let m := s.crp.actBuf.length
    let a := sample.feedA
    let b := sample.feedB
    let us := sample.gapUs.val
    let s := s.keepSample sample
    let s := s.wr (pCRPFEED + CF_VIN_VIN_A.off) (BitVec.ofNat 32 (sat16 a.vin + 65536 * sat16 b.vin))
    let s := s.wr (pCRPFEED + CF_I_IA.off) (BitVec.ofNat 32 (sat16 a.i + 65536 * sat16 b.i))
    let s := s.fset pCRPFEED CF_VBUS_VBUS (sat16 sample.vbus)
    let s := ((s.feedReading 0 a us).feedReading 1 b us).makeStep.feedWindow a b |>.showFeeds
    let s := s.each branchList fun s i => s.branchReading i (sample.branches.getD i noReading)
    let s := s.each branchList State.branchTrips
    let s := { s with sep.actQ := actSort n s.sep.actQ, crp.actBuf := actSort m s.crp.actBuf }
    .next (if s.closedFeed.isSome then { s with crp.busLost := false } else s)

end Sys2Proof.Machine
end

