-- ==== Sys2Proof/Machine/Flags.lean ====
section
/-! DEFINITION. The arithmetic status word of a core (R108, R109): its flags as numbers, their union, and setting them. -/

namespace Sys2Proof.Machine

/-- A NaN was produced from operands none of which was NaN, or converted to an integer. -/
def flagINVALID : Nat := 1
/-- An operand element, scale, lane or group was NaN. -/
def flagNANIN : Nat := 2
/-- VRCP or VRSQRT received a zero. -/
def flagDIV0 : Nat := 4
/-- A strict contribution or readout exceeded the window. -/
def flagOVF : Nat := 8
/-- A strict contribution lost bits below its window. -/
def flagULF : Nat := 16
/-- A result or element was saturated. -/
def flagSAT : Nat := 32
/-- A finite computation overflowed to infinity. -/
def flagINFOUT : Nat := 64

/-- The OR of several flag sets (R109). -/
def orFlags (l : List Nat) : Nat := l.foldl Nat.lor 0

/-- Sets flags in the status word of physical core `c`; they stay until cleared (R108). -/
def State.setArith (s : State) (c fl : Nat) : State :=
  if fl = 0 then s
  else s.wr (pKRMCORE c + KCORE_ARITH.off) (s.rd (pKRMCORE c + KCORE_ARITH.off) ||| BitVec.ofNat 32 fl)

end Sys2Proof.Machine
end

