-- ==== Sys2Proof/Machine/Fp.lean ====
section
/-! DEFINITION. The number formats of Kermes (03_kermes_arithmetic.md, R69-R71), exact values, rounding to a format (R90,
R91) and the binary32 operations of the vector unit (R96-R99). Bit patterns and flags are numbers; a result comes with the
flags it sets. -/

namespace Sys2Proof.Machine

/-- An exact value: a sign, a magnitude `m` times `2^e`, an infinity, or NaN. -/
inductive FVal where
  | fin (neg : Bool) (m : Nat) (e : Int)
  | inf (neg : Bool)
  | nan
deriving DecidableEq, Repr

/-- Which encodings of a format are special (R69). -/
inductive Special where
  | ieee | e4m3 | none
deriving DecidableEq, Repr

/-- A floating format: exponent and mantissa bits, bias, special encodings, the code of its largest finite magnitude. -/
structure Fmt where
  eb   : Nat
  mb   : Nat
  bias : Nat
  spec : Special
  top  : Nat
deriving DecidableEq, Repr

def fmtE4M3 : Fmt := ⟨4, 3, 7, .e4m3, 0x7E⟩
def fmtE5M2 : Fmt := ⟨5, 2, 15, .ieee, 0x7B⟩
def fmtE3M2 : Fmt := ⟨3, 2, 3, .none, 0x1F⟩
def fmtE2M3 : Fmt := ⟨2, 3, 1, .none, 0x1F⟩
def fmtE2M1 : Fmt := ⟨2, 1, 1, .none, 0x7⟩
def fmtBF16 : Fmt := ⟨8, 7, 127, .ieee, 0x7F7F⟩
def fmtF16 : Fmt := ⟨5, 10, 15, .ieee, 0x7BFF⟩
def fmtF32 : Fmt := ⟨8, 23, 127, .ieee, 0x7F7FFFFF⟩

/-- The weight of the sign bit. -/
def Fmt.signBit (f : Fmt) : Nat := 2 ^ (f.eb + f.mb)

/-- The code of infinity (formats of IEEE layout). -/
def Fmt.infCode (f : Fmt) : Nat := (2 ^ f.eb - 1) * 2 ^ f.mb

/-- The canonical NaN (R92). -/
def Fmt.nanCode (f : Fmt) : Nat := f.infCode + 2 ^ (f.mb - 1)

/-- The value of an encoding (R70). -/
def Fmt.decode (f : Fmt) (code : Nat) : FVal :=
  let neg := code / f.signBit % 2 = 1
  let ex := code / 2 ^ f.mb % 2 ^ f.eb
  let ma := code % 2 ^ f.mb
  let allOnes := ex = 2 ^ f.eb - 1
  if f.spec = .ieee && allOnes then (if ma = 0 then .inf neg else .nan)
  else if f.spec = .e4m3 && allOnes && ma = 2 ^ f.mb - 1 then .nan
  else if ex = 0 then .fin neg ma (1 - f.bias - f.mb)
  else .fin neg (2 ^ f.mb + ma) ((ex : Int) - f.bias - f.mb)

/-- A magnitude `m * 2^e` rounded to nearest, ties to even, to an integer multiple of `2^q` (R90). `sticky` says that a
nonzero part below `m` was cut off. -/
def roundTo (m : Nat) (e q : Int) (sticky : Bool) : Nat :=
  if q ≤ e then m * 2 ^ (e - q).toNat
  else
    let sh := (q - e).toNat
    let n := m / 2 ^ sh
    let rem := m % 2 ^ sh
    let half := 2 ^ (sh - 1)
    if rem > half || (rem = half && (sticky || n % 2 = 1)) then n + 1 else n

/-- The code, without sign, of a magnitude rounded to a format whose exponent is extended without bound (R90). -/
def Fmt.roundMag (f : Fmt) (m : Nat) (e : Int) (sticky : Bool) : Nat :=
  if m = 0 then 0
  else
    let q0 : Int := 1 - f.bias - f.mb
    let q := max ((Nat.log2 m : Int) + e - f.mb) q0
    (q - q0).toNat * 2 ^ f.mb + roundTo m e q sticky

/-- A value encoded in a format, with the flags it sets (R90, R91, R92). -/
def Fmt.encode (f : Fmt) (sat : Bool) (v : FVal) (sticky : Bool := false) : Nat × Nat :=
  match v with
  | .nan => (f.nanCode, 0)
  | .inf neg => (bit neg * f.signBit + f.infCode, 0)
  | .fin neg m e =>
    let c := f.roundMag m e sticky
    let sg := bit neg * f.signBit
    if c ≤ f.top then (sg + c, 0)
    else if sat || f.spec != .ieee then (sg + f.top, flagSAT)
    else (sg + f.infCode, flagINFOUT)

/-- RNE32 of a signed dyadic (R101). -/
def rne32 (neg : Bool) (m : Nat) (e : Int) : Nat × Nat := fmtF32.encode false (.fin neg m e)

/-! ### binary32 lanes -/

/-- The sign bit of binary32. -/
def sign32 : Nat := 0x80000000
/-- The canonical NaN. -/
def nan32 : Nat := 0x7FC00000
/-- Plus infinity. -/
def inf32 : Nat := 0x7F800000
/-- 1.0. -/
def one32 : Nat := 0x3F800000

/-- Whether a binary32 pattern is a NaN. -/
def isNan32 (a : Nat) : Bool := a % sign32 > inf32

/-- The sign of a binary32 pattern. -/
def neg32 (a : Nat) : Bool := a / sign32 % 2 = 1

/-- The signed integer of a sign and a magnitude. -/
def signedInt (neg : Bool) (m : Nat) : Int := if neg then -(m : Int) else m

/-- The exact sum of two values; NaN for infinities of opposite sign. A zero sum is +0 unless both are -0 (R93). -/
def FVal.add : FVal → FVal → FVal
  | .nan, _ => .nan
  | _, .nan => .nan
  | .inf a, .inf b => if a = b then .inf a else .nan
  | .inf a, .fin _ _ _ => .inf a
  | .fin _ _ _, .inf b => .inf b
  | .fin na ma ea, .fin nb mb eb =>
    let e := min ea eb
    let x := signedInt na (ma * 2 ^ (ea - e).toNat) + signedInt nb (mb * 2 ^ (eb - e).toNat)
    if x = 0 then .fin (ma = 0 && mb = 0 && na && nb) 0 e else .fin (x < 0) x.natAbs e

/-- The exact product; NaN for an infinity times zero. -/
def FVal.mul : FVal → FVal → FVal
  | .nan, _ => .nan
  | _, .nan => .nan
  | .inf a, .inf b => .inf (a != b)
  | .inf a, .fin nb mb _ => if mb = 0 then .nan else .inf (a != nb)
  | .fin na ma _, .inf b => if ma = 0 then .nan else .inf (na != b)
  | .fin na ma ea, .fin nb mb eb => .fin (na != nb) (ma * mb) (ea + eb)

/-- A value with its sign inverted. -/
def FVal.negate : FVal → FVal
  | .nan => .nan
  | .inf a => .inf (!a)
  | .fin n m e => .fin (!n) m e

/-- Rounds the exact result of an operation on operands that are no NaN; a NaN made there is invalid (R96, R108). -/
def finish32 (v : FVal) : Nat × Nat :=
  match v with
  | .nan => (nan32, flagINVALID)
  | v => fmtF32.encode false v

/-- VADD on one lane (R96). -/
def fadd (a b : Nat) : Nat × Nat :=
  if isNan32 a || isNan32 b then (nan32, flagNANIN)
  else finish32 ((fmtF32.decode a).add (fmtF32.decode b))

/-- VSUB on one lane (R96). -/
def fsub (a b : Nat) : Nat × Nat :=
  if isNan32 a || isNan32 b then (nan32, flagNANIN)
  else finish32 ((fmtF32.decode a).add (fmtF32.decode b).negate)

/-- VMUL on one lane (R96). -/
def fmul (a b : Nat) : Nat × Nat :=
  if isNan32 a || isNan32 b then (nan32, flagNANIN)
  else finish32 ((fmtF32.decode a).mul (fmtF32.decode b))

/-- VFMA on one lane: one rounding (R96). -/
def ffma (a b c : Nat) : Nat × Nat :=
  if isNan32 a || isNan32 b || isNan32 c then (nan32, flagNANIN)
  else finish32 (((fmtF32.decode a).mul (fmtF32.decode b)).add (fmtF32.decode c))

/-- The order key of a binary32 pattern that is no NaN: both zeros have key 0. -/
def key32 (a : Nat) : Int := signedInt (neg32 a) (a % sign32)

/-- VMAX on one lane (R97). -/
def fmax (a b : Nat) : Nat × Nat :=
  if isNan32 a || isNan32 b then (nan32, flagNANIN)
  else if key32 a = key32 b then (Nat.land a b, 0)
  else (if key32 a > key32 b then a else b, 0)

/-- VMIN on one lane (R97). -/
def fmin (a b : Nat) : Nat × Nat :=
  if isNan32 a || isNan32 b then (nan32, flagNANIN)
  else if key32 a = key32 b then (Nat.lor a b, 0)
  else (if key32 a < key32 b then a else b, 0)

/-- A compare of one lane: 1.0 or +0; false with a NaN (R97, R119). -/
def fcmp (p : Int → Int → Bool) (a b : Nat) : Nat × Nat :=
  if isNan32 a || isNan32 b then (0, flagNANIN)
  else (if p (key32 a) (key32 b) then one32 else 0, 0)

/-- VABS on one lane (R119). -/
def fabs (a : Nat) : Nat × Nat := if isNan32 a then (nan32, flagNANIN) else (a % sign32, 0)

/-- VNEG on one lane (R119). -/
def fneg (a : Nat) : Nat × Nat :=
  if isNan32 a then (nan32, flagNANIN) else (if neg32 a then a % sign32 else a % sign32 + sign32, 0)

/-- VCVTI on one lane (R98). -/
def fcvti (a : Nat) : Nat × Nat :=
  match fmtF32.decode a with
  | .nan => (0, Nat.lor flagINVALID flagNANIN)
  | .inf neg => (if neg then 0x80000000 else 0x7FFFFFFF, flagSAT)
  | .fin neg m e =>
    let n := roundTo m e 0 false
    if neg then
      if n > 0x80000000 then (0x80000000, flagSAT) else ((0x100000000 - n) % 0x100000000, 0)
    else if n > 0x7FFFFFFF then (0x7FFFFFFF, flagSAT) else (n, 0)

/-- VCVTF on one lane (R98). -/
def fcvtf (a : Nat) : Nat × Nat :=
  if neg32 a then rne32 true (0x100000000 - a % 0x100000000) 0 else rne32 false a 0

/-- FP32 to a 16-bit format (R98). -/
def fto16 (f : Fmt) (sat : Bool) (a : Nat) : Nat × Nat :=
  match fmtF32.decode a with
  | .nan => (f.nanCode, flagNANIN)
  | v => f.encode sat v

/-- A 16-bit format to FP32, exact (R98). -/
def from16 (f : Fmt) (h : Nat) : Nat × Nat :=
  match f.decode h with
  | .nan => (nan32, flagNANIN)
  | v => fmtF32.encode false v

/-! ### Reductions over lanes -/

/-- One level: 2j with 2j + 1; an unpaired last passes up (R89, R99). -/
def pairLevel (op : Nat → Nat → Nat × Nat) : List Nat → List Nat × Nat
  | [] => ([], 0)
  | [x] => ([x], 0)
  | x :: y :: t =>
    let r := op x y
    let q := pairLevel op t
    (r.1 :: q.1, Nat.lor r.2 q.2)

/-- Levels repeat until one value remains; `fuel` bounds their number. -/
def treeReduce (op : Nat → Nat → Nat × Nat) : Nat → List Nat → Nat × Nat
  | 0, l => (l.getD 0 0, 0)
  | fuel + 1, l =>
    if l.length ≤ 1 then (l.getD 0 0, 0)
    else
      let q := pairLevel op l
      let r := treeReduce op fuel q.1
      (r.1, Nat.lor q.2 r.2)

/-! ### The nonlinear functions -/

/-- The largest `r` with `p r`, searched over `bits` bits from the top, for a downward-closed `p`. -/
def bitSearch (p : Nat → Bool) : Nat → Nat → Nat
  | 0, acc => acc
  | n + 1, acc => bitSearch p n (if p (acc + 2 ^ n) then acc + 2 ^ n else acc)

/-- TE[j] of R102: 2^30 * 2^(j/64), halves upward. -/
def tabE (j : Nat) : Nat := (bitSearch (fun r => r ^ 64 ≤ 2 ^ (1984 + j)) 33 0 + 1) / 2

/-- TR[j] of R102: 2^30 * 128 / (128 + j), halves upward. -/
def tabR (j : Nat) : Nat := (2 ^ 38 + (128 + j)) / (2 * (128 + j))

/-- TS[j] of R102: 2^30 / sqrt(c_j), halves upward, with 64 c_j = 64 + j below 64 and 2 j from 64. -/
def tabS (j : Nat) : Nat :=
  let n := if j < 64 then 64 + j else 2 * j
  (bitSearch (fun r => r * r * n ≤ 2 ^ 68) 33 0 + 1) / 2

/-- A nonzero finite operand normalised: sign, M from 2^23 to 2^24 - 1, e (R101). -/
def norm32 (a : Nat) : Bool × Nat × Int :=
  match fmtF32.decode a with
  | .fin neg m e => (neg, m * 2 ^ (23 - Nat.log2 m), e + (Nat.log2 m : Int))
  | _ => (false, 0, 0)

/-- VEXP on one lane (R103). -/
def fexp (a : Nat) : Nat × Nat :=
  if isNan32 a then (nan32, flagNANIN)
  else if a = inf32 then (inf32, 0)
  else if a = inf32 + sign32 then (0, 0)
  else if !neg32 a && a > 0x42B20000 then (inf32, flagINFOUT)
  else if neg32 a && a % sign32 > 0x42D00000 then (0, 0)
  else
    let (s, m, e) := if a % sign32 = 0 then (false, 0, (0 : Int)) else norm32 a
    let ymag : Nat := m * 0x5C551D95 / 2 ^ (23 - e).toNat
    let y := signedInt s ymag
    let k := Int.fdiv y (2 ^ 30)
    let f := (y - k * 2 ^ 30).toNat
    let j := f / 2 ^ 24
    let r := f % 2 ^ 24
    let u := r * 0x2C5C85FE / 2 ^ 30
    let u2 := u * u / 2 ^ 30
    let u3 := u2 * u / 2 ^ 30
    let p := 2 ^ 30 + u + u2 / 2 + u3 * 0x0AAAAAAB / 2 ^ 30
    rne32 false (tabE j * p / 2 ^ 30) (k - 30)

/-- VRCP on one lane (R104). -/
def frcp (a : Nat) : Nat × Nat :=
  let sg := bit (neg32 a) * sign32
  if isNan32 a then (nan32, flagNANIN)
  else if a % sign32 = 0 then (sg + inf32, flagDIV0)
  else if a % sign32 = inf32 then (sg, 0)
  else
    let (s, m, e) := norm32 a
    let t := tabR (m / 2 ^ 16 - 128)
    let dl := m % 2 ^ 16 * t / 2 ^ 23
    let d2 := dl * dl / 2 ^ 30
    let d3 := d2 * dl / 2 ^ 30
    let p := 2 ^ 30 - dl + d2 - d3
    rne32 s (t * p / 2 ^ 30) (-30 - e)

/-- VRSQRT on one lane (R105). -/
def frsqrt (a : Nat) : Nat × Nat :=
  if isNan32 a then (nan32, flagNANIN)
  else if a % sign32 = 0 then (bit (neg32 a) * sign32 + inf32, flagDIV0)
  else if neg32 a then (nan32, flagINVALID)
  else if a = inf32 then (0, 0)
  else
    let (_, m, e) := norm32 a
    let h := Int.fdiv e 2
    let odd := (e - 2 * h).toNat
    let t := tabS (odd * 64 + (m / 2 ^ 17 - 64))
    let d := m % 2 ^ 17 * 2 ^ odd
    let w := t * t / 2 ^ 30
    let dl := d * w / 2 ^ 23
    let d2 := dl * dl / 2 ^ 30
    let d3 := d2 * dl / 2 ^ 30
    let p := 2 ^ 30 - dl / 2 + 3 * d2 / 8 - 5 * d3 / 16
    rne32 false (t * p / 2 ^ 30) (-30 - h)

/-- RNE32 of a quotient: 80 fraction bits and a sticky bit. -/
def rneQuot (neg : Bool) (num den : Nat) : Nat :=
  (fmtF32.encode false (.fin neg (num * 2 ^ 80 / den) (-80)) (num * 2 ^ 80 % den != 0)).1

/-- VTANH on one lane (R106). -/
def ftanh (a : Nat) : Nat × Nat :=
  let mag := a % sign32
  if isNan32 a then (nan32, flagNANIN)
  else if mag < 0x39800000 then (a, 0)
  else if mag ≥ 0x41200000 then (bit (neg32 a) * sign32 + one32, 0)
  else if mag < 0x3E800000 then
    let s := fmul a a
    let p := ffma (rneQuot true 1382 155925) s.1 (rneQuot false 62 2835)
    let p1 := ffma p.1 s.1 (rneQuot true 17 315)
    let p2 := ffma p1.1 s.1 (rneQuot false 2 15)
    let p3 := ffma p2.1 s.1 (rneQuot true 1 3)
    let v := fmul s.1 a
    let r := ffma p3.1 v.1 a
    (r.1, orFlags [s.2, p.2, p1.2, p2.2, p3.2, v.2, r.2])
  else
    let t := fexp (mag + 0x00800000 + sign32)
    let n := fsub one32 t.1
    let d := fadd one32 t.1
    let r := frcp d.1
    let y := fmul n.1 r.1
    (bit (neg32 a) * sign32 + y.1 % sign32, orFlags [t.2, n.2, d.2, r.2, y.2])

/-! ### Scaled formats -/

/-- Element width of a scaled format (R69). -/
def scaledWidth : ScaledFmt → Nat
  | .e4m3 => 8
  | .e5m2 => 8
  | .e3m2 => 6
  | .e2m3 => 6
  | .e2m1 => 4
  | .int8 => 8

/-- Bytes of a block of 32 elements (R72). -/
def scaledBytes (f : ScaledFmt) : Nat := 4 * scaledWidth f

/-- The exponent of the largest binade (R69). -/
def scaledEmax : ScaledFmt → Int
  | .e4m3 => 8
  | .e5m2 => 15
  | .e3m2 => 4
  | .e2m3 => 2
  | .e2m1 => 2
  | .int8 => 6

/-- The floating layout of a scaled format; INT8 has none. -/
def scaledFloat : ScaledFmt → Option Fmt
  | .e4m3 => some fmtE4M3
  | .e5m2 => some fmtE5M2
  | .e3m2 => some fmtE3M2
  | .e2m3 => some fmtE2M3
  | .e2m1 => some fmtE2M1
  | .int8 => none

/-- The value of an element (R70). -/
def scaledDecode (f : ScaledFmt) (code : Nat) : FVal :=
  match scaledFloat f with
  | some g => g.decode code
  | none => .fin (code / 128 % 2 = 1) (toSigned 8 code).natAbs 0

/-- The scaled format of a code of R69. -/
def scaledOf (code : Nat) : Option ScaledFmt :=
  match code with
  | 0 => some .e4m3
  | 1 => some .e5m2
  | 2 => some .e3m2
  | 3 => some .e2m3
  | 4 => some .e2m1
  | 5 => some .int8
  | _ => none

/-- The 16-bit format of a code of R69. -/
def halfOf (code : Nat) : Option Fmt :=
  match code with
  | 8 => some fmtBF16
  | 9 => some fmtF16
  | _ => none

/-- The layout of an LDH or STH format. -/
def halfFmt : HalfFmt → Fmt
  | .bf16 => fmtBF16
  | .binary16 => fmtF16

/-- Element `i` of a block given as a number (R72). -/
def blockElem (w block i : Nat) : Nat := block / 2 ^ (w * i) % 2 ^ w

/-- One finite lane quantised: the rounding of `m * 2^(e - X)`, an overflow at the largest finite element (R94 step 4). -/
def quantLane (f : ScaledFmt) (neg : Bool) (m : Nat) (e : Int) : Nat × Nat :=
  match scaledFloat f with
  | some g => g.encode true (.fin neg m e)
  | none =>
    let n := roundTo m e 0 false
    let c := min n 127
    ((if neg then (256 - c) % 256 else c), if n > 127 then flagSAT else 0)

/-- VQUANT of 32 FP32 lanes (R94): the elements, the scale byte, the flags. -/
def quantBlock (f : ScaledFmt) (sat : Bool) (lanes : List Nat) : List Nat × Nat × Nat :=
  let vs := lanes.map fmtF32.decode
  let infFl := if f = ScaledFmt.e5m2 then 0 else if sat then flagSAT else flagINVALID
  if vs.any (· = .nan) then (lanes.map fun _ => 0, 0xFF, flagNANIN)
  else if vs.any (fun v => match v with | .inf _ => true | _ => false) && f != .e5m2 && !sat then
    (lanes.map fun _ => 0, 0xFF, flagINVALID)
  else
    let amax := vs.foldl (fun a v => match v with
      | .fin _ m e => if m = 0 then a else max a ((Nat.log2 m : Int) + e + 1000)
      | _ => a) (-1 : Int)
    let x : Int := if amax < 0 then -127 else max (amax - 1000 - scaledEmax f) (-127)
    let enc := vs.map fun v => match v with
      | .fin neg m e => quantLane f neg m (e - x)
      | .inf neg =>
        if f = ScaledFmt.e5m2 then (bit neg * 0x80 + 0x7C, 0)
        else match scaledFloat f with
          | some g => (bit neg * g.signBit + g.top, infFl)
          | none => (if neg then 129 else 127, infFl)
      | .nan => (0, 0)
    (enc.map (·.1), (x + 127).toNat, orFlags (enc.map (·.2)))

/-- VDEQUANT of one element under scale byte `sc` (R95). -/
def dequantElem (f : ScaledFmt) (sc code : Nat) : Nat × Nat :=
  if sc = 0xFF then (nan32, flagNANIN)
  else
    match scaledDecode f code with
    | .nan => (nan32, flagNANIN)
    | .inf neg => (bit neg * sign32 + inf32, 0)
    | .fin neg m e => rne32 neg m (e + sc - 127)

end Sys2Proof.Machine
end

