-- ==== Sys2Proof/Machine/Codes.lean ====
section
/-! DEFINITION. The codes of stored data as decoders of an error pattern (R174, R176-R179, R185): every code here is linear,
so what its decoder does depends only on which stored bits differ from what was written, data and check bits alike. -/

namespace Sys2Proof.Machine

/-! ### Kermes SRAM: rows and columns (R174) -/

/-- The number of one bits of a byte. -/
def ones (v : Nat) : Nat :=
  v % 2 + v / 2 % 2 + v / 4 % 2 + v / 8 % 2 + v / 16 % 2 + v / 32 % 2 + v / 64 % 2 + v / 128 % 2

/-- Byte `r` of the data flips of a block. -/
def rowFlips (u : BitVec 80) (r : Nat) : Byte := u.extractLsb' (8 * r) 8

/-- The row syndrome the flips make: bit r is the parity of byte r's flips and of P_r's. -/
def rowSyndrome (u : BitVec 80) : Byte :=
  (List.range 8).foldl (fun m r =>
    if (ones (rowFlips u r).toNat + (u.getLsbD (64 + r)).toNat) % 2 = 1 then m ||| (1#8 <<< r) else m) 0

/-- The column syndrome: the sum of the bytes' flips and of Q's. -/
def colSyndrome (u : BitVec 80) : Byte :=
  (List.range 8).foldl (fun m r => m ^^^ rowFlips u r) (u.extractLsb' 72 8)

/-- What the SRAM decoder makes of a syndrome pair (R174, R185). -/
inductive SramOutcome where
  | clean | corrected | poisoned | uncorrectable
deriving DecidableEq, Repr

/-- The table of R174; a stale block has SR only (R185). -/
def sramOutcome (stale : Bool) (sr sc : Byte) : SramOutcome :=
  if stale then (if sr = 0 then .clean else .uncorrectable)
  else if sr = 0 && sc = 0 then .clean
  else if ones sr.toNat ≤ 1 && ones sc.toNat ≤ 1 then .corrected
  else if sr = 0xFF && sc = 0xFF then .poisoned
  else .uncorrectable

/-- A decoded block: the outcome, its SR, and which data bits as delivered differ from what was written. -/
structure SramRead where
  outcome : SramOutcome
  sr      : Byte
  flips   : BitVec 64
deriving DecidableEq, Repr

/-- Decodes a block whose stored bits differ by `u` from what was written: the poison signature inverts every check bit
(R186); a corrected data bit is the one at the row and column of the syndromes. -/
def sramDecode (stale poisoned : Bool) (u : BitVec 80) : SramRead :=
  let base : Byte := if poisoned then 0xFF else 0
  let sr := rowSyndrome u ^^^ base
  let sc := colSyndrome u ^^^ base
  let data : BitVec 64 := u.extractLsb' 0 64
  let out := sramOutcome stale sr sc
  let fix : BitVec 64 :=
    if out = .corrected then
      (List.range 8).foldl (fun m r => if sr.getLsbD r then m ||| (sc.setWidth 64 <<< (8 * r)) else m) 0
    else 0
  ⟨out, sr, data ^^^ fix⟩

/-! ### Reed-Solomon RS(10,8) over GF(2^8) (R176-R178) -/

/-- Symbol `j` of codeword `k` of a line's pattern. -/
def symbolOf (u : BitVec 640) (k j : Nat) : Byte := u.extractLsb' (80 * k + 8 * j) 8

/-- What the decoder makes of one codeword: clean, one symbol to correct by a value, or beyond correction. -/
inductive RsRead where
  | clean
  | names (pos : Nat) (fix : Byte)
  | beyond
deriving DecidableEq, Repr

/-- The positions at which a codeword is wrong. -/
def wrongSymbols (u : BitVec 640) (k : Nat) : List Nat := (List.range 10).filter fun j => symbolOf u k j != 0

/-- One of the positions not in `l`, by a free number. -/
def otherPos (l : List Nat) (n : Nat) : Nat :=
  let r := (List.range 10).filter fun j => !l.contains j
  r.getD (n % r.length) 0

/-- Decodes a codeword. Its distance of 3 fixes what one wrong symbol gives, and that two are never taken for none nor for an
error at one of the two. Which of the rest occurs depends on the code's field and points, which the spec does not state:
free (log 95). -/
def rsDecode (u : BitVec 640) (k : Nat) : RsRead :=
  match wrongSymbols u k with
  | [] => .clean
  | [j] => .names j (symbolOf u k j)
  | l =>
    let w := Config.rsFree (u.extractLsb' (80 * k) 80)
    if w.getLsbD 0 then .beyond
    else if l.length ≠ 2 && w.getLsbD 1 then .clean
    else .names (if l.length = 2 then otherPos l (w.toNat / 4) else w.toNat / 4 % 10) (w.extractLsb' 16 8)

/-- Decodes a codeword with an erasure at position `m`: it is corrected there, and a further error is beyond correction
(R179). -/
def rsErase (m : Nat) (u : BitVec 640) (k : Nat) : RsRead :=
  match wrongSymbols u k with
  | [] => .clean
  | l => if l.all (· = m) then .names m (symbolOf u k m) else .beyond

/-- A decoded line (R178): clean; corrected at one position; or uncorrectable, with the index of the first codeword that is
not clean, whether codewords named different positions, and the position named if one was. -/
inductive LineOutcome where
  | clean
  | corrected (pos : Nat)
  | uncorrectable (codeword : Nat) (agreement : Bool) (pos : Nat)
deriving DecidableEq, Repr

/-- A line's outcome, and its pattern as delivered. -/
structure LineRead where
  outcome : LineOutcome
  bits    : BitVec 640
deriving DecidableEq, Repr

/-- The position a codeword names. -/
def RsRead.pos? : RsRead → Option Nat
  | .names p _ => some p
  | _ => none

/-- A codeword's correction, in place. -/
def RsRead.fixAt (k : Nat) : RsRead → BitVec 640
  | .names p v => v.setWidth 640 <<< (80 * k + 8 * p)
  | _ => 0

/-- Decodes a line, with the marked position of its channel where there is one on this part of it (R178, R179). -/
def lineDecode (marked : Option Nat) (u : BitVec 640) : LineRead :=
  let rs := (List.range 8).map fun k => match marked with | some m => rsErase m u k | none => rsDecode u k
  let first := rs.findIdx (· != .clean)
  match (rs.filterMap RsRead.pos?).eraseDups, rs.contains .beyond with
  | [], false => ⟨.clean, u⟩
  | [p], false => ⟨.corrected p, rs.zipIdx.foldl (fun x r => x ^^^ r.1.fixAt r.2) u⟩
  | _, false => ⟨.uncorrectable first true 0xFF, u⟩
  | ps, true => ⟨.uncorrectable first false (match ps with | [p] => p | _ => 0xFF), u⟩

/-- The flips of byte `i` of a near line: beat i / 8 is a codeword, its byte lanes the first eight symbols (R176). -/
def nearByte (u : BitVec 640) (i : Nat) : Byte := symbolOf u (i / 8) (i % 8)

/-- The flips of byte `i` of a bulk line: beat b carries bytes 4b to 4b + 3, four bits to a device; the symbol of a device in
codeword k has its bits of beat 2k low and those of beat 2k + 1 high (R177, log 95). -/
def bulkByte (u : BitVec 640) (i : Nat) : Byte :=
  let b := i / 4
  let nib (j : Nat) : Byte := (symbolOf u (b / 2) j >>> (4 * (b % 2))) &&& 0xF
  nib (2 * (i % 4)) ||| (nib (2 * (i % 4) + 1) <<< 4)

end Sys2Proof.Machine
end

