-- ==== Sys2Proof/Machine/Integrity.lean ====
section
/-! DEFINITION. Device memory as the fabric and the cores see it (05_memory_integrity.md): the address map (R164-R168),
poison and stale marks (R182-R188), error records, the watch on weight ranges (R241), and reads and writes over lines. -/

namespace Sys2Proof.Machine

/-! ### The address map -/

/-- End of the near tier, 384 GiB. -/
def nearEnd : Nat := 0x006000000000
/-- Start of the bulk tier. -/
def bulkBase : Nat := 0x010000000000
/-- End of the bulk tier, 1,536 GiB. -/
def bulkEnd : Nat := 0x028000000000
/-- Start of the Kermes SRAM aperture. -/
def sramBase : Nat := 0x030000000000
/-- Bytes of one core's SRAM. -/
def sramSize : Nat := 0x2000000
/-- End of the aperture, 36 cores. -/
def sramEnd : Nat := sramBase + 36 * sramSize

/-- Whether an address is in the near tier. -/
def inNear (a : Nat) : Bool := a < nearEnd
/-- Whether an address is in the bulk tier. -/
def inBulk (a : Nat) : Bool := bulkBase ≤ a && a < bulkEnd
/-- Whether an address is in the SRAM aperture. -/
def inSram (a : Nat) : Bool := sramBase ≤ a && a < sramEnd
/-- Whether an address is mapped (R164). -/
def mapped (a : Nat) : Bool := inNear a || inBulk a || inSram a

/-- The stack of a near address (R165). -/
def nearStack (a : Nat) : Nat := a / 4096 % 6
/-- The channel of a bulk address (R166). -/
def bulkChan (a : Nat) : Nat := (a - bulkBase) / 4096 % 24
/-- The physical core of an aperture address (R167). -/
def sramCore (a : Nat) : Nat := (a - sramBase) / sramSize

/-- The page of the channel that holds a tier address. -/
def tierPage (a : Nat) : Nat := if inNear a then pNTRCHAN (nearStack a) else pBLKCHAN (bulkChan a)

/-- The page of a tier channel. -/
def chanPage : TierChan → Nat
  | .near s => pNTRCHAN s.val
  | .bulk c => pBLKCHAN c.val

/-- The key of a tier channel in the integrity state: near stacks 0-5, bulk channels 8-31. -/
def chanKey : TierChan → Nat
  | .near s => s.val
  | .bulk c => 8 + c.val

/-- The channel of a tier address. -/
def chanOf (a : Nat) : TierChan :=
  if inNear a then .near (Fin.ofNat 6 (nearStack a)) else .bulk (Fin.ofNat 24 (bulkChan a))

/-! ### Marks -/

/-- The granule of a poison mark: an 8-byte block of SRAM, a line of a tier (R186). -/
def granule (a : Nat) : Nat := if sramBase ≤ a then 8 else 64

/-- The granules that the `n` bytes at `a` touch, by address; `fuel` bounds their number. -/
def granulesFrom (g a last : Nat) : Nat → List Nat
  | 0 => []
  | fuel + 1 => if a > last then [] else a :: granulesFrom g (a + g) last fuel

/-- The granules that the `n` bytes at `a` touch. -/
def granules (a n : Nat) : List Nat :=
  if n = 0 then [] else
    let g := granule a
    granulesFrom g (a / g * g) (a + n - 1) (n / g + 2)

/-- The lines an access touches. -/
def linesOf (a n : Nat) : List Nat := if n = 0 then [] else granulesFrom 64 (a / 64 * 64) (a + n - 1) (n / 64 + 2)

/-- Whether any of the `n` bytes at `a` carries a poison mark. -/
def State.poisonedAt (s : State) (a n : Nat) : Bool :=
  (granules a n).any s.poison.contains

/-- Whether a granule lies wholly in the `n` bytes at `a`. -/
def covered (a n p : Nat) : Bool := a ≤ p && p + granule p ≤ a + n

/-- Writes bytes of device memory with their marks: a granule written whole takes the mark given and loses its stale mark
and its upsets, a granule written in part keeps its mark (R187), and every granule written poisoned is marked. -/
def State.store (s : State) (a : Nat) (bs : List Byte) (poisoned : Bool) : State :=
  let n := bs.length
  let kept := s.poison.filter fun p => !(covered a n p)
  let marks := if poisoned then (granules a n).foldl setAdd kept else kept
  { (s.putBytes a bs) with
    poison := marks
    stale := s.stale.filter fun p => !(covered a n p)
    integ.sramUps := s.integ.sramUps.filter fun e => !(covered a n e.1)
    integ.lineUps := s.integ.lineUps.filter fun e => !(covered a n e.1) }

/-! ### Upsets, and data as delivered (R174-R178) -/

/-- Flips bits of stored data: a fault outside the machine. -/
def State.upset (s : State) : Upset → State
  | .sram core block bits =>
    let b := sramBase + core.val * sramSize + block.toNat * 8
    let u := Tab.get s.integ.sramUps b {}
    { s with integ.sramUps := Tab.set s.integ.sramUps b { u with bits := u.bits ^^^ bits } {} }
  | .line line bits =>
    let l := line.toNat * 64
    if inNear l || inBulk l then
      let u := Tab.get s.integ.lineUps l {}
      { s with integ.lineUps := Tab.set s.integ.lineUps l { u with bits := u.bits ^^^ bits } {} }
    else s

/-- The upsets that a command finds on the storage. -/
def State.upsets (s : State) (us : List Upset) : State := us.foldl State.upset s

/-- Block `b` as the SRAM decoder reads it. -/
def State.readBlock (s : State) (b : Nat) : SramRead :=
  sramDecode (s.stale.contains b) (s.poison.contains b) (Tab.get s.integ.sramUps b {}).bits

/-- The position of a channel's marked lane or device on a line: the bulk tier has two subchannels of ten devices (R166,
R179). -/
def State.markOn (s : State) (l : Nat) : Option Nat :=
  let pg := tierPage l
  if s.flag pg TC_STAT_MARKED && (inNear l || s.fget pg TC_TEMP_DEV_SUB = l / 64 % 2) then some (s.fget pg TC_STAT_POS) else none

/-- Line `l` as its tier's decoder reads it. Where the channel's marked position lies on its other subchannel, a correction is
one at a second position and counts as uncorrectable (R179). -/
def State.readLine (s : State) (l : Nat) : LineRead :=
  let u := (Tab.get s.integ.lineUps l {}).bits
  let r := lineDecode (s.markOn l) u
  match r.outcome with
  | .corrected pos =>
    if s.flag (tierPage l) TC_STAT_MARKED && s.markOn l = none then
      ⟨.uncorrectable ((List.range 8).findIdx fun k => wrongSymbols u k != []) false pos, u⟩
    else r
  | _ => r

/-- One byte as the memory delivers it: corrected where the code corrects it, otherwise as read. -/
def State.delivered (s : State) (a : Nat) : Byte :=
  if inSram a then
    if (Tab.get s.integ.sramUps (a / 8 * 8) {}).bits = 0 then s.byteAt a
    else s.byteAt a ^^^ (s.readBlock (a / 8 * 8)).flips.extractLsb' (8 * (a % 8)) 8
  else if (Tab.get s.integ.lineUps (a / 64 * 64) {}).bits = 0 then s.byteAt a
  else
    let u := (s.readLine (a / 64 * 64)).bits
    s.byteAt a ^^^ (if inNear a then nearByte u (a % 64) else bulkByte u (a % 64))

/-- `n` bytes as delivered. -/
def State.deliver (s : State) (a : Nat) : Nat → List Byte
  | 0 => []
  | n + 1 => s.delivered a :: s.deliver (a + 1) n

/-- A granule rewritten as its reads deliver it: what it held wrong and uncorrected stands, its upset is gone. -/
def State.settle (s : State) (b : Nat) : State :=
  { (s.putBytes b (s.deliver b (granule b))) with
    integ.sramUps := Tab.erase s.integ.sramUps b
    integ.lineUps := Tab.erase s.integ.lineUps b }

/-! ### Error records -/

/-- Records an uncorrectable or unmapped event in the INT page (R168, R198). -/
def State.lastEvent (s : State) (addr source typ pos syn : Nat) : State :=
  let s := s.pset pINT INT_LAST_ADDR (addr / 64 * 64)
  s.wr (pINT + INT_LAST_INFO_SOURCE.off) (BitVec.ofNat 32 (syn % 256 * 0x10000 + pos % 256 * 0x100 + typ * 16 + source))

/-- The corrected-error counter of a source: 0 SRAM, 1 near, 2 bulk, 3 control memories. -/
def ceCount (source : Nat) : Fld := ⟨INT_CE_CNT.off + 4 * source, 0, 32⟩
/-- The uncorrectable-error counter of a source. -/
def ueCount (source : Nat) : Fld := ⟨INT_UE_CNT.off + 4 * source, 0, 32⟩

/-- Counts a corrected error and raises CE. -/
def State.corrected (s : State) (source : Nat) : State := (s.count pINT (ceCount source)).raise pINT 3

/-- Counts an uncorrectable error, records it and raises UE. -/
def State.uncorrectable (s : State) (source addr typ pos syn : Nat) : State :=
  ((s.count pINT (ueCount source)).lastEvent addr source typ pos syn).raise pINT 4

/-- A poison bite (R188). -/
def State.bite (s : State) : State := (s.count pINT INT_POISON_CNT).raise pINT 5

/-! ### The watch on weight ranges (R241) -/

/-- The address of a witness slot's entry. -/
def State.slotAddr (s : State) (i : Nat) : Nat := s.pget pWIT WIT_SLOT_BASE + 128 * i

/-- Whether `n` bytes at `a` touch a slot's watched ranges. -/
def SlotWatch.touched (w : SlotWatch) (a n : Nat) : Bool :=
  (a < w.nearHi && w.nearLo < a + n) || (a < w.bulkHi && w.bulkLo < a + n)

/-! ### SRAM reads of a core (R174, R185) -/

/-- The bank of an SRAM address (R127). -/
def sramBank (a : Nat) : Nat := a / 128 % 16
/-- The row of an SRAM address within its bank. -/
def sramRow (a : Nat) : Nat := a / 2048 % 16384

/-- A bank of a core. -/
def State.bank (s : State) (c b : Nat) : BankState := Tab.get (Tab.get s.krm.cores c {}).banks b {}

/-- Replaces a bank of a core. -/
def State.setBank (s : State) (c b : Nat) (k : BankState) : State :=
  let core := Tab.get s.krm.cores c {}
  { s with krm.cores := Tab.set s.krm.cores c { core with banks := Tab.set core.banks b k {} } {} }

/-- Changes an upset's note that it has been found. -/
def State.markSeen (s : State) (b : Nat) : State :=
  let u := Tab.get s.integ.sramUps b {}
  { s with integ.sramUps := Tab.set s.integ.sramUps b { u with seen := true } {} }

/-- What a read of an upset block does (R174, R179, R180, R185, R192, R196): a correction is counted and attributed to its
row once until its write-back, which is queued while the bank's queue has room; an uncorrectable block is recorded, keeps
what was read, is marked poisoned and queued for its rewrite. `queue` is false where the slot that finds it rewrites the row
itself. -/
def State.seeBlock (s : State) (b : Nat) (queue : Bool := true) : State :=
  let u := Tab.get s.integ.sramUps b {}
  if u.bits = 0 then s
  else
    let c := sramCore b
    let addr := (b - sramBase) % sramSize
    let bank := sramBank addr
    let row := sramRow addr
    let r := s.readBlock b
    let k := s.bank c bank
    match r.outcome with
    | .corrected =>
      let wb := if queue && !(k.writeBacks.contains row) && k.writeBacks.length < 4 then k.writeBacks ++ [row] else k.writeBacks
      if u.seen then s.setBank c bank { k with writeBacks := wb }
      else
        let n := Tab.get k.rowCe row 0 + 1
        ((s.setBank c bank { k with
          writeBacks := wb
          rowCe := Tab.set k.rowCe row n 0
          candidates := if n ≥ max 1 (s.fget pINT INT_CTRL_CE_THR) then setAdd k.candidates row else k.candidates }).markSeen
          b).corrected 0
    | .uncorrectable =>
      let stale := s.stale.contains b
      let s := s.setBank c bank { k with
        ueRewrites := if queue && !(k.ueRewrites.contains (addr / 8)) then k.ueRewrites ++ [addr / 8] else k.ueRewrites
        candidates := if stale then k.candidates else setAdd k.candidates row }
      let s := s.settle b
      ({ s with poison := setAdd s.poison b } : State).uncorrectable 0 b (if stale then 2 else 1) (addr / 8 % 16) r.sr.toNat
    | _ => s

/-- The global page of a tier channel's page. -/
def tierGlobal (pg : Nat) : Nat := if pg < pNTRGLOB then pNTRGLOB else pBLKGLOB

/-- Raises a cause on a tier channel's page and on its tier's global page (R198, log 23). -/
def State.raiseTier (s : State) (pg b : Nat) : State := (s.raise pg b).raise (tierGlobal pg) b

/-! ### Tier findings (R178, R179, R181) -/

/-- The integrity state of the channel of a line. -/
def State.chan (s : State) (l : Nat) : TierChanSt := Tab.get s.integ.chans (chanKey (chanOf l)) {}

/-- Replaces it. -/
def State.setChan (s : State) (l : Nat) (st : TierChanSt) : State :=
  { s with integ.chans := Tab.set s.integ.chans (chanKey (chanOf l)) st {} }

/-- An uncorrectable line: it keeps what was read, is marked poisoned, counted, recorded, and awaits its rewrite. `typ` and
`pos` as INT_LAST_INFO has them, `cw` the first codeword that failed. -/
def State.lineLost (s : State) (l typ pos cw : Nat) : State :=
  let st := s.chan l
  let s := (s.setChan l { st with writeBacks := st.writeBacks ++ [(l, true)] }).settle l
  let s := { s with poison := setAdd s.poison l }
  ((s.count (tierPage l) TC_UE_CNT).raiseTier (tierPage l) 4).uncorrectable (if inNear l then 1 else 2) l typ pos cw

/-- What a read of an upset tier line does: a correction is counted and attributed to its position, once until its
write-back; the 64th at one position marks it. Devices of the second subchannel count from 16. A line that is poisoned
already is delivered so. -/
def State.seeLine (s : State) (l : Nat) : State :=
  let u := Tab.get s.integ.lineUps l {}
  let pg := tierPage l
  if u.bits = 0 || s.poison.contains l then s
  else
    match (s.readLine l).outcome with
    | .clean => s
    | .uncorrectable cw agr pos => s.lineLost l (if agr then 3 else 1) pos cw
    | .corrected pos =>
      if u.seen then s
      else
        let sub := if inNear l then 0 else l / 64 % 2
        let p := pos + 16 * sub
        let st := s.chan l
        let n := Tab.get st.marks p 0 + 1
        let s := s.setChan l { st with marks := Tab.set st.marks p n 0, writeBacks := st.writeBacks ++ [(l, false)] }
        let s := { s with integ.lineUps := Tab.set s.integ.lineUps l { u with seen := true } {} }
        let s := ((s.count pg TC_CE_CNT).raiseTier pg 3).corrected (if inNear l then 1 else 2)
        if n = 64 && !s.flag pg TC_STAT_MARKED then
          (((s.fset pg TC_STAT_MARKED 1).fset pg TC_STAT_POS pos).fset pg TC_TEMP_DEV_SUB sub).raiseTier pg 5
        else s

/-- What a read of `n` bytes at `a` finds in the storage under it. -/
def State.see (s : State) (a n : Nat) : State :=
  if inSram a then (granules a n).foldl (fun s b => s.seeBlock b) s else (linesOf a n).foldl State.seeLine s

/-! ### Fabric accesses, line by line (R168, R169, R197) -/

/-- Whether the fabric reaches the line at `a`: not in an unmapped range, a fenced channel, or the SRAM of a core that is
fenced or in K3. -/
def State.reachable (s : State) (a : Nat) : Bool :=
  if inSram a then
    !(s.flag (pKRMCORE (sramCore a)) PAGE_STAT_FENCED) && s.fget (pKRMCORE (sramCore a)) KCORE_STAT_PSTATE != 3
  else if mapped a then !(s.flag (tierPage a) PAGE_STAT_FENCED)
  else false

/-- Records an access that touches an unmapped line (once, R168) or a fenced channel (R197). -/
def State.noteRange (s : State) (a n : Nat) : State :=
  match (linesOf a n).find? (fun l => !mapped l) with
  | some l => s.lastEvent l 4 4 0xFF 0
  | none =>
    match (linesOf a n).find? (fun l => !inSram l && s.flag (tierPage l) PAGE_STAT_FENCED) with
    | some l => s.lastEvent l (if inNear l then 1 else 2) 5 0xFF 0
    | none => s

/-- What a fabric read of `n` bytes at `a` records: lines out of reach, and what the decoders find in the others. -/
def State.noteAccess (s : State) (a n : Nat) : State :=
  (linesOf a n).foldl (fun s l => if s.reachable l then s.see l 64 else s) (s.noteRange a n)

/-- One byte of a fabric read: zero where the line is out of reach. -/
def State.fabByte (s : State) (a : Nat) : Byte := if s.reachable (a / 64 * 64) then s.delivered a else 0

/-- The bytes of a fabric read. -/
def State.fabBytes (s : State) (a : Nat) : Nat → List Byte
  | 0 => []
  | n + 1 => s.fabByte a :: s.fabBytes (a + 1) n

/-- A number read through the fabric. -/
def State.fabLe (s : State) (a n : Nat) : Nat := leNat (s.fabBytes a n)

/-- Whether a fabric read is poisoned: the fabric carries one mark for a line (R186), and a line out of reach reads as zeros
marked poisoned. -/
def State.fabPoison (s : State) (a n : Nat) : Bool :=
  (linesOf a n).any fun l => !s.reachable l || s.poisonedAt l 64

/-- A fabric read of `n` bytes at `a`: the bytes, whether they are poisoned, and what it records. -/
def State.fabRead (s : State) (a n : Nat) : List Byte × Bool × State :=
  let t := s.noteAccess a n
  (t.fabBytes a n, t.fabPoison a n, t)

/-- The part of a byte string written at `a` that falls in the line at `l`: address and bytes. -/
def linePart (a : Nat) (bs : List Byte) (l : Nat) : Nat × List Byte :=
  let lo := max a l
  let hi := min (a + bs.length) (l + 64)
  (lo, (bs.drop (lo - a)).take (hi - lo))

/-- Bits of a stale mask that a store of `n` bytes at `a` (within one row) covers whole. -/
def coverBits (a n : Nat) : BitVec 16 :=
  (List.range 16).foldl (fun m i =>
    if a % 128 ≤ 8 * i && 8 * i + 8 ≤ a % 128 + n then m ||| (1#16 <<< i) else m) 0

/-- Drops the pending rebuilds of blocks that a store covers whole (R185, R196). -/
def State.dropRebuilds (s : State) (c a n : Nat) : State :=
  let b := sramBank a
  let k := s.bank c b
  if k.stale = [] then s
  else
    let st := k.stale.map fun e => if e.row = sramRow a then { e with mask := e.mask &&& ~~~coverBits a n } else e
    s.setBank c b { k with stale := st.filter fun e => e.mask != 0 }

/-- A write to one line that is reached. What it covers in part is read, corrected and merged first; an SRAM block merged is
written with all its check bits, is stale no longer and needs no rebuild (R183, R187, R196); poisoned data marks the whole
line (R186, R312). -/
def State.writeLine (s : State) (l a : Nat) (bs : List Byte) (poisoned : Bool) : State :=
  let s := s.see a bs.length
  let s := ((granules a bs.length).filter fun g => !(covered a bs.length g)).foldl State.settle s
  let s := s.store a bs poisoned
  let s := if poisoned then { s with poison := (granules l 64).foldl setAdd s.poison } else s
  if inSram l then
    let s := { s with stale := s.stale.filter fun b => !(b < a + bs.length && a < b + 8) }
    (granules a bs.length).foldl (fun s g => s.dropRebuilds (sramCore l) ((g - sramBase) % sramSize) 8) s
  else s

/-- A write of a byte string within one line by a block of the machine itself: dropped where the line is out of reach. -/
def State.putLine (s : State) (a : Nat) (bs : List Byte) : State :=
  if s.reachable (a / 64 * 64) then s.writeLine (a / 64 * 64) a bs false else s

/-- What a write does to the slots whose weights it touches: a HASHING or VALID slot becomes STALE, SLOT_STALE is raised, and
a witness job of that slot in Kermes is marked (R241, R269). -/
def State.watchWrite (s : State) (a n : Nat) : State :=
  s.qw.watch.foldl (fun s e =>
    let i := e.1
    let st := (s.fabByte (s.slotAddr i)).toNat
    if e.2.touched a n then
      let s := { s with
        qw.inKermes := s.qw.inKermes.map fun (r : WitReceipt) =>
          if fieldLe r.bytes 4 2 = i then { r with slotDirty := true } else r }
      if st = 1 || st = 2 then (s.putLine (s.slotAddr i) [3]).raise pWIT 8 else s
    else s) s

/-- A fabric write: each reachable line takes its part, others drop it; the access is recorded and the weight watch sees
what was written. -/
def State.fabWrite (s : State) (a : Nat) (bs : List Byte) (poisoned : Bool) : State :=
  let t := (linesOf a bs.length).foldl (fun t l =>
    if t.reachable l then t.writeLine l (linePart a bs l).1 (linePart a bs l).2 poisoned else t) (s.noteRange a bs.length)
  t.watchWrite a bs.length

/-- Zeros written over a range: the lines in reach take them, and what they cover whole loses its marks (R187, R197). -/
def State.zeroRange (s : State) (a n : Nat) : State :=
  let hit (p : Nat) : Bool := covered a n p && s.reachable (p / 64 * 64)
  { s with
    mem := s.mem.filter fun c => !(a ≤ c.1 && c.1 < a + n && s.reachable (c.1 / 64 * 64))
    poison := s.poison.filter fun p => !hit p
    stale := s.stale.filter fun p => !hit p
    integ.sramUps := s.integ.sramUps.filter fun e => !hit e.1
    integ.lineUps := s.integ.lineUps.filter fun e => !hit e.1 }

end Sys2Proof.Machine
end

