-- ==== Sys2Proof/Machine/Operands.lean ====
section
/-! DEFINITION. The operand forms of a Kermes bundle: vector registers, accumulator rows, address generators (R124, R125),
core SRAM accesses with their banks and alignment (R126, R127), and the marks that travel with data (R186, R187). -/

namespace Sys2Proof.Machine

/-! ### Cores -/

/-- A physical core. -/
def State.core (s : State) (c : Nat) : Core1 := Tab.get s.krm.cores c {}

/-- Replaces a physical core. -/
def State.setCore (s : State) (c : Nat) (k : Core1) : State := { s with krm.cores := Tab.set s.krm.cores c k {} }

/-- Changes a physical core. -/
def State.modCore (s : State) (c : Nat) (f : Core1 → Core1) : State := s.setCore c (f (s.core c))

/-- Whether core `c` is issuing bundles: it takes part in the running job, its ramp delay has expired, it has not retired,
and no barrier or hold stops it. -/
def State.issuing (s : State) (c : Nat) : Bool :=
  let k := s.core c
  (match s.krm.job with
    | some j => j.phase = .running
    | none => false) &&
    k.logical.isSome && k.started && !k.retired && k.waitBar = none && k.held = none

/-! ### Vector registers -/

/-- The lanes of a vector register, lane 0 first. -/
def lanesOf (v : BitVec 1024) : List Nat := (List.range 32).map fun i => (v >>> (32 * i)).toNat % 2 ^ 32

/-- A register from its lanes. -/
def ofLanes (l : List Nat) : BitVec 1024 :=
  BitVec.ofNat 1024 (l.foldr (fun x acc => x % 2 ^ 32 + 2 ^ 32 * acc) 0)

/-- The 128 bytes of a register, lane 0 lowest. -/
def vecBytes (v : BitVec 1024) : List Byte := natLe 128 v.toNat

/-- A register from 128 bytes. -/
def ofVecBytes (l : List Byte) : BitVec 1024 := BitVec.ofNat 1024 (leNat l)

/-- A vector register of a core. -/
def Core1.vreg (k : Core1) (r : Nat) : VReg1 := Tab.get k.vregs r {}

/-- An accumulator row of a core. -/
def Core1.accRow (k : Core1) (r : Nat) : AccRow1 := Tab.get k.accs r {}

/-- Reads a source register: its value, and the read noted for the interlock (R114). -/
def Core1.useV (k : Core1) (r : Nat) : Core1 := { k with rdV := k.rdV ++ [r] }

/-! ### Address generators -/

/-- The address of a generator (R124). -/
def AddrGen.addr (g : AddrGen) : Nat :=
  (((g.base.toNat : Int) + g.i0 * g.s0.toInt + g.i1 * g.s1.toInt + g.i2 * g.s2.toInt) % 0x2000000).toNat

/-- One step of a generator (R124). -/
def AddrGen.step (g : AddrGen) : AddrGen :=
  if g.i0 + 1 = g.n0 then
    if g.i1 + 1 = g.n1 then
      { g with i0 := 0, i1 := 0, i2 := if g.i2 + 1 = g.n2 then 0 else g.i2 + 1 }
    else { g with i0 := 0, i1 := g.i1 + 1 }
  else { g with i0 := g.i0 + 1 }

/-- The generator of an AG_INIT entry (R143). -/
def agOf (e : BitVec 256) : AddrGen :=
  { base := e.extractLsb' 0 32, s0 := e.extractLsb' 32 32, s1 := e.extractLsb' 64 32, s2 := e.extractLsb' 96 32,
    n0 := (e.extractLsb' 128 16).toNat + 1, n1 := (e.extractLsb' 144 16).toNat + 1,
    n2 := (e.extractLsb' 160 16).toNat + 1 }

/-- The address a generator gives an access of this bundle (R125). -/
def Core1.agAddr (k : Core1) (r : AgRef) : Nat := (Tab.get k.ags r.ag.val {}).addr

/-! ### Core SRAM -/

/-- The device address of byte `a` of a core's SRAM. -/
def sramAddr (c a : Nat) : Nat := sramBase + c * sramSize + a % sramSize

/-- The pieces of an access, one per 128-byte row, wrapping at the end of the SRAM (log 16). -/
def pieces (a n : Nat) : List (Nat × Nat) :=
  (List.range ((a % 128 + n + 127) / 128)).map fun i =>
    let lo := if i = 0 then a else (a / 128 + i) * 128
    let hi := min (a + n) ((a / 128 + i + 1) * 128)
    (lo % sramSize, hi - lo)

/-- The banks an access uses (R127). -/
def banksOf (a n : Nat) : List Nat := (pieces a n).map fun p => sramBank p.1

/-- The bytes of an access to a core's SRAM, as its decoder delivers them. -/
def State.coreRead (s : State) (c a n : Nat) : List Byte :=
  (pieces a n).flatMap fun p => s.deliver (sramAddr c p.1) p.2

/-- Whether any block of an access is poisoned. -/
def State.corePoison (s : State) (c a n : Nat) : Bool := (pieces a n).any fun p => s.poisonedAt (sramAddr c p.1) p.2

/-- An access through a generator: its banks join the bundle's accesses, and its step is noted. -/
def State.access (s : State) (c : Nat) (r : AgRef) (n : Nat) : State :=
  s.modCore c fun k => { k with
    accesses := k.accesses ++ banksOf (k.agAddr r) n
    steps := if r.step then k.steps ++ [r.ag.val] else k.steps }

/-- What the decoder finds in an access of `n` bytes (R174, R175). -/
def State.seeCore (s : State) (c a n : Nat) : State := (pieces a n).foldl (fun s p => s.see (sramAddr c p.1) p.2) s

/-- The machine as the slots of core `c` find it: upsets strike, then the decoder reads each range of its SRAM (R174). -/
def State.look (s : State) (c : Nat) (found : List Upset) (ranges : List (Nat × Nat)) : State :=
  ranges.foldl (fun s r => s.seeCore c r.1 r.2) (s.upsets found)

/-- Whether any of several ranges is poisoned. -/
def State.poisonIn (s : State) (c : Nat) (ranges : List (Nat × Nat)) : Bool := ranges.any fun r => s.corePoison c r.1 r.2

/-- Whether a store of `n` bytes at device address `a` touches the byte range [lo, lo + len). -/
def overlaps (a n lo len : Nat) : Bool := a < lo + len && lo < a + n

/-- Bytes of the scale plane of a tensor entry: one per block (R72, R142). -/
def scaleLen (fmt bytes : Nat) : Nat :=
  match fmt with
  | 0 => bytes / 32
  | 1 => bytes / 32
  | 2 => bytes / 24
  | 3 => bytes / 24
  | 4 => bytes / 16
  | 5 => bytes / 32
  | _ => 0

/-- Field of a tensor map entry: byte offset and length (R142). -/
def tensorField (t : BitVec 512) (off n : Nat) : Nat := (t >>> (8 * off)).toNat % 2 ^ (8 * n)

/-- Device address of offset `off` of a tensor's location, for the physical core `phys` where it is core SRAM. -/
def tensorBase (sub : JobSub) (t : BitVec 512) (phys off : Nat) : Nat :=
  match tensorField t 4 1 with
  | 0 => sramBase + phys * sramSize + off
  | 1 => sub.nbase + off
  | _ => sub.bbase + off

/-- The physical cores on which a tensor in core SRAM lies; [0] for a tensor in a window. -/
def tensorCores (j : Job) (t : BitVec 512) : List Nat :=
  if tensorField t 4 1 = 0 then
    if tensorField t 6 1 = 0xFF then j.phys
    else ((j.parts.zip j.phys).filter fun p => p.1 = tensorField t 6 1).map (·.2)
  else [0]

/-- Whether a store touches a tensor of ROLE OUTPUT, its elements or its scale plane (R188). -/
def Job.outputAt (j : Job) (a n : Nat) : Bool :=
  j.tensors.any fun t =>
    tensorField t 2 1 = 3 && (tensorCores j t).any fun p =>
      overlaps a n (tensorBase j.sub t p (tensorField t 8 8)) (tensorField t 16 8) ||
        (tensorField t 5 1 = 1 && overlaps a n (tensorBase j.sub t p (tensorField t 24 8))
          (scaleLen (tensorField t 3 1) (tensorField t 16 8)))

/-- A poisoned Kermes store into an OUTPUT tensor bites (R188). -/
def State.outputBite (s : State) (a n : Nat) (poisoned : Bool) : State :=
  match s.krm.job with
  | some j => if poisoned && j.outputAt a n then { s.bite with krm.job := some { j with poisoned := true } } else s
  | none => s

/-- A program store of whole blocks into a core's SRAM. -/
def State.coreWrite (s : State) (c a : Nat) (bs : List Byte) (poisoned : Bool) : State :=
  let t := (pieces a bs.length).foldl (fun (t : State × Nat) p =>
    (((t.1.store (sramAddr c p.1) ((bs.drop t.2).take p.2) poisoned).dropRebuilds c p.1 p.2), t.2 + p.2)) (s, 0)
  t.1.outputBite (sramAddr c a) bs.length poisoned

/-- The bits of an upset that a store of byte `r` of its block and of its own P_r leaves. -/
def otherRows (r : Nat) (u : BitVec 80) : BitVec 80 := u &&& ~~~((0xFF#80 <<< (8 * r)) ||| (1#80 <<< (64 + r)))

/-- A program store of one byte: the byte and its row parity only, so that its block becomes stale (R182). -/
def State.narrowWrite (s : State) (c a : Nat) (v : Byte) (poisoned : Bool) : State :=
  let dev := sramAddr c a
  let b := dev / 8 * 8
  let s := s.store dev [v] poisoned
  let u := Tab.get s.integ.sramUps b {}
  ({ s with
    stale := setAdd s.stale b
    integ.sramUps := Tab.set s.integ.sramUps b { u with bits := otherRows (dev % 8) u.bits } {} } : State).outputBite dev 1 poisoned

/-- A store of the bundle in progress, made as it issues. -/
def State.note (s : State) (c a : Nat) (bs : List Byte) (poisoned narrow : Bool) : State :=
  s.modCore c fun k => { k with stores := k.stores ++ [⟨a, bs, poisoned, narrow⟩] }

/-! ### Alignment (R126) -/

/-- Whether an access lies within one 128-byte row. -/
def oneRow (a n : Nat) : Bool := a % 128 + n ≤ 128

/-- The alignment of B data and of an LDQ or STQ block. -/
def blockAligned (a n : Nat) : Bool := a % 8 = 0 && oneRow a n

end Sys2Proof.Machine
end

