-- ==== Sys2Proof/Machine/Acc.lean ====
section
/-! DEFINITION. Dot products and accumulators of Kermes (R74-R89): exact dots of scaled blocks, 16-bit groups, strict and
fast contributions, readout, reduction across cores. -/

namespace Sys2Proof.Machine

/-! ### Classes (R76) -/

/-- Two classes combined. -/
def AccClass.combine : AccClass → AccClass → AccClass
  | .nan, _ => .nan
  | _, .nan => .nan
  | .finite, b => b
  | a, .finite => a
  | .posInf, .posInf => .posInf
  | .negInf, .negInf => .negInf
  | .posInf, .negInf => .nan
  | .negInf, .posInf => .nan

/-- The class of one exact value. -/
def FVal.cls : FVal → AccClass
  | .fin _ _ _ => .finite
  | .inf neg => if neg then .negInf else .posInf
  | .nan => .nan

/-- The INVALID flag where two classes, neither a NaN, make one. -/
def combineFlag (a b : AccClass) : Nat :=
  if a.combine b = .nan && a != .nan && b != .nan then flagINVALID else 0

/-! ### Contributions -/

/-- What enters an accumulator: a class, an exact value `v * 2^e`, the sticky bit T, and the flags of its making. -/
structure Contrib where
  cls    : AccClass
  v      : Int
  e      : Int
  sticky : Bool
  flags  : Nat
deriving DecidableEq, Repr

/-- The class and flags of a set of products (R76, R80, R108): `nanIn` says that an operand or scale was a NaN. -/
def productClass (ps : List FVal) (nanIn : Bool) : AccClass × Nat :=
  if nanIn then (.nan, flagNANIN)
  else
    let c := ps.foldl (fun c p => c.combine p.cls) .finite
    (c, if c = .nan then flagINVALID else 0)

/-- A finite product as an integer multiple of `2^q`, exact when the product is such a multiple. -/
def scaledTo (q : Int) : FVal → Int
  | .fin neg m e => signedInt neg (if q ≤ e then m * 2 ^ (e - q).toNat else m / 2 ^ (q - e).toNat)
  | _ => 0

/-- The dot of two scaled blocks of 32 elements, given as numbers, under their scales (R75). -/
def dotScaled (fa fb : ScaledFmt) (sa sb a b : Nat) : Contrib :=
  let idx := List.range 32
  let as := idx.map fun i => scaledDecode fa (blockElem (scaledWidth fa) a i)
  let bs := idx.map fun i => scaledDecode fb (blockElem (scaledWidth fb) b i)
  let ps := (as.zip bs).map fun p => p.1.mul p.2
  let c := productClass ps (sa = 0xFF || sb = 0xFF || as.any (· = .nan) || bs.any (· = .nan))
  let d := ps.foldl (fun x p => x + scaledTo (-32) p) 0
  ⟨c.1, d, (sa : Int) + sb - 286, false, c.2⟩

/-- The result of a 16-bit group of 32 products (R78, R79): the window below E_top and its sticky bit. -/
def dotGroup (fa fb : Fmt) (as bs : List Nat) : Contrib :=
  let av := as.map fa.decode
  let bv := bs.map fb.decode
  let ps := (av.zip bv).map fun p => p.1.mul p.2
  let c := productClass ps (av.any (· = .nan) || bv.any (· = .nan))
  let top := ps.foldl (fun (t : Option Int) p =>
    match p with
    | .fin _ m e =>
      if m = 0 then t
      else
        let x := (Nat.log2 m : Int) + e
        some (match t with | some y => max x y | none => x)
    | _ => t) none
  match top with
  | none => ⟨c.1, 0, 0, false, c.2⟩
  | some t =>
    let q := t - 121
    let lost := ps.any fun p => match p with
      | .fin _ m e => e < q && m % 2 ^ (q - e).toNat != 0
      | _ => false
    ⟨c.1, ps.foldl (fun x p => x + scaledTo q p) 0, q, lost, c.2⟩

/-- An FP32 lane as a contribution (R100). -/
def laneContrib (a : Nat) : Contrib :=
  match fmtF32.decode a with
  | .nan => ⟨.nan, 0, 0, false, flagNANIN⟩
  | .inf neg => ⟨if neg then .negInf else .posInf, 0, 0, false, 0⟩
  | .fin neg m e => ⟨.finite, signedInt neg m, e, false, 0⟩

/-! ### Strict accumulation (R82, R83) -/

/-- The bound of one contribution, 2^191. -/
def accBound : Nat := 2 ^ 191

/-- A contribution entering a long accumulator with window exponent `w`; the flags of the status word. A group result with
T = 1 sets ULF whatever its class. -/
def enterStrict (w : Int) (a : Acc1) (c : Contrib) : Acc1 × Nat :=
  let fl := Nat.lor c.flags (combineFlag a.cls c.cls)
  let a := { a with cls := a.cls.combine c.cls }
  if c.cls != .finite then ({ a with ulf := a.ulf || c.sticky }, Nat.lor fl (if c.sticky then flagULF else 0))
  else
    let m := c.v.natAbs
    let t := if w ≤ c.e then m * 2 ^ (c.e - w).toNat else m / 2 ^ (w - c.e).toNat
    let lost := c.sticky || (c.e < w && m % 2 ^ (w - c.e).toNat != 0)
    let out := accBound ≤ t
    let t := if out then accBound - 1 else t
    ({ a with sum := a.sum + signedInt (c.v < 0) t, ulf := a.ulf || lost, ovf := a.ovf || out },
      orFlags [fl, if lost then flagULF else 0, if out then flagOVF else 0])

/-- A chunk rounded to FP32 (R87). -/
def chunk32 (c : Contrib) : Nat × Nat :=
  match c.cls with
  | .nan => (nan32, c.flags)
  | .posInf => (inf32, c.flags)
  | .negInf => (inf32 + sign32, c.flags)
  | .finite =>
    if c.v = 0 then (0, c.flags)
    else
      let r := fmtF32.encode false (.fin (c.v < 0) c.v.natAbs c.e) c.sticky
      (r.1, Nat.lor r.2 c.flags)

/-- A contribution entering a fast accumulator: INIT sets the chunk, ADD adds it (R118). -/
def enterFast (init : Bool) (a : Acc1) (c : Contrib) : Acc1 × Nat :=
  let r := chunk32 c
  if init then ({ a with fast := BitVec.ofNat 32 r.1 }, r.2)
  else
    let q := fadd a.fast.toNat r.1
    ({ a with fast := BitVec.ofNat 32 q.1 }, Nat.lor q.2 r.2)

/-- Whether a row works in fast mode in a job that runs with `fastOk` (R81, R118). -/
def AccRow1.isFast (r : AccRow1) (fastOk : Bool) : Bool := r.fastMode && fastOk

/-- One contribution to one accumulator, counted (R149). -/
def enterAcc (r : AccRow1) (fastOk init : Bool) (a : Acc1) (c : Contrib) : Acc1 × Nat :=
  let a : Acc1 := if init then {} else a
  let q := if r.isFast fastOk then enterFast init a c else enterStrict r.w a c
  ({ q.1 with count := a.count + 1 }, q.2)

/-- The contributions of one operation to one accumulator: INIT clears it before the first only (R117). -/
def enterAll (r : AccRow1) (fastOk init : Bool) (a : Acc1) : List Contrib → Acc1 × Nat
  | [] => (a, 0)
  | c :: t =>
    let p := enterAcc r fastOk init a c
    let q := enterAll r fastOk false p.1 t
    (q.1, Nat.lor p.2 q.2)

/-- One accumulator of a row. -/
def AccRow1.acc (r : AccRow1) (d : Nat) : Acc1 := Tab.get r.accs d {}

/-- A row with its 32 accumulators replaced. -/
def AccRow1.withAccs (r : AccRow1) (l : List Acc1) : AccRow1 :=
  { r with accs := tabOf {} ((List.range 32).zip l) }

/-- A row cleared: sums, classes, flags, counts, and its poison mark (R82, R187). -/
def AccRow1.cleared (r : AccRow1) : AccRow1 := { r with accs := [], poison := false }

/-- The configuration of an ACC_CFG entry (R143). -/
def rowOf (e : BitVec 32) : AccRow1 :=
  { fastMode := e.getLsbD 0, sat := e.getLsbD 1, w := toSigned 10 ((e >>> 2).toNat % 1024) }

/-! ### Readout (R85, R120) -/

/-- Readout of one accumulator to FP32, with the flags of the status word. -/
def readAcc (r : AccRow1) (fastOk : Bool) (a : Acc1) : Nat × Nat :=
  if r.isFast fastOk then (a.fast.toNat, 0)
  else
    let own := Nat.lor (if a.ovf then flagOVF else 0) (if a.ulf then flagULF else 0)
    match a.cls with
    | .nan => (nan32, own)
    | .posInf => (inf32, own)
    | .negInf => (inf32 + sign32, own)
    | .finite =>
      if a.ovf || a.sum < -(accBound : Int) || (accBound : Int) ≤ a.sum then
        let neg := bit (a.sum < 0) * sign32
        if r.sat then (neg + fmtF32.top, orFlags [own, flagOVF, flagSAT])
        else (neg + inf32, orFlags [own, flagOVF, flagINFOUT])
      else
        let q := fmtF32.encode r.sat (.fin (a.sum < 0) a.sum.natAbs r.w)
        (q.1, Nat.lor q.2 own)

/-- Readout of a row: 32 lanes and flags. -/
def readRow (r : AccRow1) (fastOk : Bool) : List Nat × Nat :=
  let qs := (List.range 32).map fun d => readAcc r fastOk (r.acc d)
  (qs.map (·.1), orFlags (qs.map (·.2)))

/-! ### Reductions across cores (R86, R89, R133) -/

/-- Partial accumulators combined exactly: sums added, classes combined, flags ORed, counts added. -/
def combineAcc (p : Acc1 × Nat) (b : Acc1) : Acc1 × Nat :=
  let a := p.1
  ({ sum := a.sum + b.sum, cls := a.cls.combine b.cls, ulf := a.ulf || b.ulf, ovf := a.ovf || b.ovf,
     fast := a.fast, count := a.count + b.count }, Nat.lor p.2 (combineFlag a.cls b.cls))

/-- One accumulator of the result: the contributors' values in ascending logical index. In fast mode one that has received
nothing is an empty partition and takes no part in the tree (R89). -/
def reduceAcc (fast : Bool) (l : List Acc1) : Acc1 × Nat :=
  let n := (l.map (·.count)).foldl (· + ·) 0
  if fast then
    let q := treeReduce fadd 6 ((l.filter (·.count != 0)).map fun a => a.fast.toNat)
    ({ fast := BitVec.ofNat 32 q.1, count := n }, q.2)
  else l.foldl combineAcc ({}, 0)

/-- The row that replaces the root's: its configuration, the combined accumulators, the poison of any contributor. -/
def reduceRows (root : AccRow1) (fastOk : Bool) (rows : List AccRow1) : AccRow1 × Nat :=
  let qs := (List.range 32).map fun d => reduceAcc (root.isFast fastOk) (rows.map fun r => r.acc d)
  ({ root.withAccs (qs.map (·.1)) with poison := rows.any (·.poison) }, orFlags (qs.map (·.2)))

/-! ### Softmax (R107) -/

/-- The softmax of a row, and its flags: every output NaN with INVALID where the row holds a NaN or its maximum is infinite;
otherwise exp(x - m), summed exactly with W = -149, times the reciprocal of the sum read out. -/
def softmax (xs : List Nat) : List Nat × Nat :=
  let m := xs.foldl (fun m x => (fmax m x).1) (xs.getD 0 0)
  if xs.any isNan32 || m % sign32 = inf32 then (xs.map fun _ => nan32, flagINVALID)
  else
    let es := xs.map fun x => fexp (fsub x m).1
    let row : AccRow1 := { w := -149 }
    let q := es.foldl (fun (q : Acc1 × Nat) e =>
      let r := enterStrict row.w q.1 (laneContrib e.1)
      (r.1, Nat.lor q.2 r.2)) ({}, 0)
    let total := readAcc row false q.1
    let r := frcp total.1
    let ys := es.map fun e => fmul e.1 r.1
    (ys.map (·.1), orFlags ([q.2, total.2, r.2] ++ es.map (·.2) ++ ys.map (·.2)))

end Sys2Proof.Machine
end

