-- ==== Sys2Proof/Machine/KrmCore.lean ====
section
/-! DEFINITION. The bundle of a Kermes core (R114, R115, R125, R128-R131): slots that wait for it to be free to issue, the
stalls, bank service, the writes it makes, and the end of a job. A slot command reads its operands at once unless its bundle
may yet be held (a busy DMA tag, an unfinished reduction); then it waits in the latch until the bundle issues (log 17). What
the slots write, to registers, rows, SRAM and the status word, is noted and done as the bundle issues. -/

namespace Sys2Proof.Machine

/-- Sets flags of an operation on core `c`: in its status word (R108) and in the job's own OR (R150). -/
def State.arithFlags (s : State) (c fl : Nat) : State :=
  if fl = 0 then s
  else (s.setArith c fl).modCore c fun k => { k with jobArith := Nat.lor k.jobArith fl }

/-- Whether the job runs with fast reduction in effect (R81). -/
def State.fastOk (s : State) : Bool :=
  match s.krm.job with
  | some j => j.fastOk
  | none => false

/-- Changes the job taken, if there is one. -/
def State.modJob (s : State) (f : Job → Job) : State := { s with krm.job := s.krm.job.map f }

/-! ### The end of a job -/

/-- The last cycle any participating core has reached (log 18). -/
def State.lastCycle (s : State) : Nat :=
  match s.krm.job with
  | some j => j.phys.foldl (fun m c => max m ((s.core c).now - 1)) 0
  | none => 0

/-- A core with nothing of a bundle in progress. -/
def Core1.idle (k : Core1) : Core1 :=
  { k with
    held := none, latch := [], pending := [], stores := [], flags := 0, accesses := [], carry := [], carryNext := [], steps := []
    setags := [], rdV := [], rdR := [], waitTags := [], dmaIssue := [], redIssue := [] }

/-- Stops a core: it issues nothing more, and what waited in its bundle is dropped. -/
def State.stopCore (s : State) (c : Nat) : State :=
  (s.modCore c fun k => { k.idle with waitBar := none }).fset (pKRMCORE c) KCORE_STAT_RUNNING 0

/-- Whether rank 0 of a job has started. -/
def State.rank0Ran (s : State) (j : Job) : Bool :=
  match j.phys with
  | c :: _ => (s.core c).started
  | [] => false

/-- A second event in the cycle in which a job ended (R152): an abort or fault beside an abort. Of two aborts the lower code
stands, and a fault stands over an abort; events at one tick are taken to meet (DESIGN CHOICE, log 97). -/
def Job.meet (j : Job) (status code : Nat) : Job :=
  if j.status != 2 then j
  else if status = 3 then { j with status := 3, code := code }
  else if status = 2 then { j with code := min j.code code }
  else j

/-- Whether a job that has ended may still meet another event. -/
def State.justEnded (s : State) (j : Job) : Bool := j.phase = .ended && j.endTick = s.tick

/-- Ends the job: status and code, end cycle and tick, every core stopped; the completion record follows (R150). -/
def State.endJob (s : State) (status code cycle : Nat) : State :=
  match s.krm.job with
  | none => s
  | some j =>
    if j.phase = .ended then (if s.justEnded j then { s with krm.job := some (j.meet status code) } else s)
    else
      let ran := j.phase = .running
      let count := ran && s.rank0Ran j
      let s := j.phys.foldl State.stopCore s
      let s := { s with krm.job := some { j with
        phase := .ended, status := status, code := code, endTick := s.tick, reds := []
        endCycle := if count then cycle + 1 else 0
        launchTick := if ran then j.launchTick else 0 }, krm.phase := 3 }
      let s := (s.fset pKRMGLOB KG_STAT_RUNNING 0).fset pKRMGLOB KG_STAT_LOADING 0
      [0, 1, 2, 3].foldl (fun s q => s.fset (pKRMQUAD q) KQ_BAR_ARRIVED 0) s

/-- A fault of the running job at a cycle (R150). -/
def State.jobFault (s : State) (code cycle : Nat) : State := s.endJob 3 code cycle

/-- An alignment fault at the bundle in progress on core `c` (R126). It and CONTRIB_RUN take effect in the core's next cycle,
before any stall the bundle would meet: the bundle never issues (R150; DESIGN CHOICE, log 98). -/
def State.alignFault (s : State) (c : Nat) : State := s.jobFault 1 (s.core c).now

/-! ### Contributions -/

/-- Contributions of one operation to a row (R117, R118, R149): `per` lists, for each accumulator, what it receives. A
count above MAX_CONTRIB faults before the excess is added. Adding to a row is not counted as a read of it for the result
interlock: the spec does not say (R114; DESIGN CHOICE, log 98). -/
def State.contribute (s : State) (c : Nat) (row : Nat) (aop : AccOp) (per : List (List Contrib)) (lat : Nat)
    (poisoned : Bool) : State :=
  match aop with
  | .none => s.modCore c fun k => { k with flags := Nat.lor k.flags (orFlags (per.map fun l => orFlags (l.map (·.flags)))) }
  | _ =>
    let init := aop = .init
    let fast := s.fastOk
    let r := (s.core c).accRow row
    let qs := ((List.range 32).zip per).map fun p => enterAll r fast init (r.acc p.1) p.2
    let maxC := match s.krm.job with | some j => j.maxContrib | none => 0
    if qs.any fun q => q.1.count > maxC then s.jobFault 2 (s.core c).now
    else
      let v := { r.withAccs (qs.map (·.1)) with poison := poisoned || (!init && r.poison) }
      let s := s.modJob fun j => { j with fastUsed := j.fastUsed || r.isFast fast }
      s.modCore c fun k => { k with
        flags := Nat.lor k.flags (orFlags (qs.map (·.2))), pending := k.pending ++ [.acc row v lat] }

/-! ### Holding -/

/-- The tag of a DMA_DESC entry (R131). -/
def descTag (d : BitVec 256) : Nat := (d >>> 248).toNat % 16

/-- A DMA_DESC entry of a core. -/
def Core1.desc (k : Core1) (e : Nat) : BitVec 256 := Tab.get k.dmaDesc e 0

/-- The DMA tags the bundle in progress waits on. -/
def Core1.needTags (k : Core1) : List Nat :=
  k.waitTags ++ k.dmaIssue.map (fun e => descTag (k.desc e)) ++
    k.latch.filterMap fun i => match i with
      | .dma _ e => some (descTag (k.desc e.val))
      | _ => none

/-- A RED_TABLE entry: contributor mask, row, chip scope, root (R133). -/
def redMask (e : BitVec 64) : Nat := e.toNat % 2 ^ 32
def redRow (e : BitVec 64) : Nat := e.toNat / 2 ^ 32 % 64
def redChip (e : BitVec 64) : Bool := e.getLsbD 38
def redRoot (e : BitVec 64) : Nat := e.toNat / 2 ^ 39 % 32

/-- The accumulator rows the bundle in progress reads. -/
def State.needRows (s : State) (c : Nat) : List Nat :=
  let k := s.core c
  k.rdR ++ k.latch.filterMap fun i => match i with
    | .rdacc _ _ r => some r.val
    | .red _ e => s.krm.job.map fun j => redRow (Tab.get j.redTab e.val 0)
    | _ => none

/-- Whether row `r` of logical core `l` awaits the result of a reduction to which that core has nothing more to give. -/
def Job.redPending (j : Job) (l r : Nat) : Bool :=
  j.reds.any fun d =>
    let e := Tab.get j.redTab d.entry 0
    redRoot e = l && redRow e = r && (d.got.any (·.1 = l) || redMask e / 2 ^ l % 2 = 0)

/-- Whether the bundle in progress on core `c` is held by a busy tag or an unfinished reduction (R114). -/
def State.mustHold (s : State) (c : Nat) : Bool :=
  let k := s.core c
  k.needTags.any (fun t => (Tab.get k.tags t {}).busy) ||
    match s.krm.job, k.logical with
    | some j, some l => (s.needRows c).any fun r => j.redPending l r
    | _, _ => false

/-- Whether a bundle now forming on core `c` may yet be held. -/
def State.mayHold (s : State) (c : Nat) : Bool :=
  let k := s.core c
  k.latch != [] || k.tags.any (fun e => e.2.busy) ||
    match s.krm.job, k.logical with
    | some j, some l => j.reds.any fun d => redRoot (Tab.get j.redTab d.entry 0) = l
    | _, _ => false

/-- A slot of a bundle: it acts at once, or waits in the latch where its bundle may yet be held; a core that is not issuing
takes no slot. -/
def State.slot (s : State) (c : Nat) (i : Instr) (act : State → State) : State :=
  if !s.issuing c then s
  else if s.mayHold c then s.modCore c fun k => { k with latch := k.latch ++ [i] }
  else act s

/-! ### Bank service (R128, R129) -/

/-- Whether cycle `t` is the repair slot of bank `b` on a core that started at `start`. -/
def inRepairSlot (start b t : Nat) : Bool := (t - start) % 64 = 4 * b

/-- The first cycle from `t` on that is no repair slot of bank `b`. -/
def freeFrom (start b t : Nat) : Nat := if inRepairSlot start b t then t + 1 else t

/-- The first repair slot of bank `b` from `t` on. -/
def nextSlot (start b t : Nat) : Nat := t + (64 + 4 * b - (t - start) % 64) % 64

/-- Serves accesses in order, each in the first free cycle of its bank from `from_`; `busy` lists, per bank, the first cycle
free of the accesses ahead. Answers the last cycle used. -/
def serve (start from_ : Nat) : Tab Nat → List Nat → Nat → Nat × Tab Nat
  | busy, [], last => (last, busy)
  | busy, b :: t, last =>
    let c := freeFrom start b (max from_ (Tab.get busy b 0))
    serve start from_ (Tab.set busy b (c + 1) 0) t (max last c)

/-- The issue cycle of a bundle: the second KiB of a DOTG is served from `t0`, the bundle's own accesses from `t1`. A repair
slot in the way of that second KiB delays the banks of this bundle alone, not the DOTG's own result (R128; DESIGN CHOICE,
log 98). -/
def issueCycle (k : Core1) (t0 t1 : Nat) : Nat :=
  let q := serve k.launchStart t0 [] k.carry t0
  (serve k.launchStart t1 q.2 k.accesses t1).1

/-! ### The stale tracker (R182, R184) -/

/-- The device address of a row of a bank of a core (R127). -/
def rowBase (c b row : Nat) : Nat := sramBase + c * sramSize + row % 16384 * 2048 + b * 128

/-- Rebuilds the stale blocks of a row: their stale marks go. -/
def State.rebuilt (s : State) (c b : Nat) (e : StaleRow) : State :=
  let base := rowBase c b e.row
  { s with stale := s.stale.filter fun p => !((base ≤ p && p < base + 128) && e.mask.getLsbD ((p - base) / 8)) }

/-- Enters a narrow write at SRAM address `a` in the tracker at cycle `t`; a full tracker stalls the core until the oldest
entry is rebuilt in the bank's next slot. Answers the cycle the core goes on from. -/
def State.track (s : State) (c a t : Nat) : State × Nat :=
  let b := sramBank a
  let row := sramRow a
  let m : BitVec 16 := 1#16 <<< (a / 8 % 16)
  let k := s.bank c b
  if k.stale.any (·.row = row) then
    (s.setBank c b { k with stale := k.stale.map fun e => if e.row = row then { e with mask := e.mask ||| m } else e }, t)
  else if k.stale.length < 32 then (s.setBank c b { k with stale := k.stale ++ [⟨row, m, t⟩] }, t)
  else
    match k.stale with
    | [] => (s, t)
    | old :: rest =>
      let u := nextSlot (s.core c).launchStart b t + 1
      ((s.rebuilt c b old).setBank c b { k with stale := rest ++ [⟨row, m, u⟩] }, u)

/-! ### Issue -/

/-- Applies the writes of a bundle issued at `t` (R114), in the order their slots were sent: of two slots that write one
register or row, the later stands (R115; DESIGN CHOICE, log 98). A write still outstanding is waited for as well. -/
def applyWrite (fast : Bool) (t : Nat) (k0 k : Core1) : PendWrite → Core1
  | .vreg r v lat => { k with vregs := Tab.set k.vregs r { v with land := max (k.vreg r).land (t + lat) } {} }
  | .acc r v lat => { k with accs := Tab.set k.accs r { v with land := max (k.accRow r).land (t + lat) } {} }
  | .readout r row =>
    let a := k0.accRow row
    { k with vregs := Tab.set k.vregs r ⟨ofLanes (readRow a fast).1, a.poison, max (k.vreg r).land (t + 4)⟩ {} }

/-- Makes a store of a bundle that would issue at `p.2`; a narrow one first finds room in its tracker (R182, R184). -/
def makeStore (c : Nat) (p : State × Nat) (x : CoreStore) : State × Nat :=
  if x.narrow then
    let q := p.1.track c (x.addr % sramSize) p.2
    (q.1.narrowWrite c x.addr (x.bytes.getD 0 0) x.poisoned, q.2)
  else (p.1.coreWrite c x.addr x.bytes x.poisoned, p.2)

/-- The flags of the readouts among a bundle's writes. -/
def readoutFlags (fast : Bool) (k : Core1) : Nat :=
  orFlags (k.pending.map fun w => match w with
    | .readout _ row => (readRow (k.accRow row) fast).2
    | _ => 0)

/-- Adds logical core `l`'s row to the first reduction of entry `e` that lacks it, or begins one. -/
def addRed (e l : Nat) (row : AccRow1) (t : Nat) : List RedState → List RedState
  | [] => [⟨e, [(l, row, t)]⟩]
  | d :: rest =>
    if d.entry = e && !(d.got.any (·.1 = l)) then { d with got := d.got ++ [(l, row, t)] } :: rest
    else d :: addRed e l row t rest

/-- A core's contribution to a reduction of the bundle, at cycle `t` (R133). -/
def giveRed (l : Nat) (k : Core1) (t : Nat) (j : Job) (e : Nat) : Job :=
  { j with reds := addRed e l (k.accRow (redRow (Tab.get j.redTab e 0))) t j.reds }

/-- What a bundle's synchronisation slot does to the loop stack and the program counter (R122). -/
def nextPc (pc : Nat) (op : SyncOp) (loops : List LoopLevel) : Nat × List LoopLevel :=
  match op, loops with
  | .loop n, l => (pc + 1, ⟨pc + 1, n - 1⟩ :: l)
  | .endl, x :: l => if x.left = 0 then (pc + 1, l) else (x.top, { x with left := x.left - 1 } :: l)
  | .endStream, l => (pc, l)
  | _, l => (pc + 1, l)

/-- The KQ_BAR word of quadrant `q`: the slots that wait at its barrier, and the identifier last arrived (R163). -/
def State.showBarrier (s : State) (q : Nat) (ident : Option Nat) : State :=
  match s.krm.job with
  | none => s
  | some j =>
    let m := (j.parts.zip j.phys).foldl (fun m p =>
      if p.1 / 8 = q && (match (s.core p.2).waitBar with | some b => !b.1 | none => false) then m + 2 ^ (p.1 % 8) else m) 0
    let s := s.fset (pKRMQUAD q) KQ_BAR_ARRIVED m
    match ident with
    | some i => s.fset (pKRMQUAD q) KQ_BAR_LAST_ID i
    | none => s

/-- The participants of a barrier: logical and physical indices (R136). -/
def Job.inScope (j : Job) (chip : Bool) (q : Nat) : List (Nat × Nat) :=
  (j.parts.zip j.phys).filter fun p => chip || p.1 / 8 = q

/-- A core arrives at a barrier at cycle `t`; identifiers that differ fault the job (R136). -/
def State.arrive (s : State) (c l : Nat) (chip : Bool) (ident t : Nat) : State :=
  match s.krm.job with
  | none => s
  | some j =>
    let others := (j.inScope chip (l / 8)).filter fun p => p.2 != c
    if others.any fun p => match (s.core p.2).waitBar with | some b => b.1 = chip && b.2 != ident | none => false then
      s.jobFault 4 t
    else
      let s := s.modCore c fun k => { k with waitBar := some (chip, ident) }
      if chip then s else s.showBarrier (l / 8) (some ident)

/-- The effect of the synchronisation slot of a bundle issued at `t`. -/
def State.syncEffect (s : State) (c l t : Nat) (op : SyncOp) : State :=
  match op with
  | .bar chip ident => s.arrive c l chip ident t
  | .phase ph =>
    match s.krm.job with
    | some j => if j.parts.head? = some l then { s with krm.phase := ph } else s
    | none => s
  | .mark arg => s.fset (pKRMCORE c) KCORE_MARK_MARK arg
  | .endStream =>
    let s := (s.modCore c fun k => { k with retired := true }).fset (pKRMCORE c) KCORE_STAT_RUNNING 0
    match s.krm.job with
    | some j =>
      if j.phys.all fun p => (s.core p).retired then
        s.endJob 0 0 (j.phys.foldl (fun m p => max m (s.core p).lastIssue) t)
      else s
    | none => s
  | _ => s

/-- Issues the bundle in progress: stalls, bank service, its stores, flags and writes, reductions, descriptors, generators, and
its synchronisation slot. Its slots have read their operands, so none sees a store of this bundle (R115; DESIGN CHOICE,
log 98). -/
def State.issueBundle (s : State) (c : Nat) (op : SyncOp) : State :=
  let k := s.core c
  let pg := pKRMCORE c
  let l := k.logical.getD 0
  let t0 := k.now
  let ti := (k.rdV.map fun r => (k.vreg r).land).foldl max ((k.rdR.map fun r => (k.accRow r).land).foldl max t0)
  let td := (k.needTags.map fun t => (Tab.get k.tags t {}).doneAt).foldl max t0
  let t1 := max ti td
  let ts := issueCycle k t0 t1
  let tr := k.stores.foldl (makeStore c) (s, ts)
  let t := tr.2
  let fast := s.fastOk
  let s := tr.1.arithFlags c (Nat.lor k.flags (readoutFlags fast k))
  let s := s.modJob fun j => k.redIssue.foldl (giveRed l k t) j
  let k1 := s.core c
  let k2 := k.pending.foldl (applyWrite fast t k) k1
  let ags := k.steps.eraseDups.foldl (fun m g => Tab.set m g (Tab.get m g {}).step {}) k2.ags
  let ags := k.setags.foldl (fun m p => Tab.set m p.1 (agOf (Tab.get k.agInit p.2 0)) {}) ags
  let tags := k.dmaIssue.foldl (fun m e =>
    let d := k.desc e
    Tab.set m (descTag d) { busy := true, desc := d, issued := t, doneAt := 0 } {}) k2.tags
  let np := nextPc (s.fget pg KCORE_PC_PC) op k.loops
  let s := s.setCore c { k2.idle with
    ags := ags, tags := tags, loops := np.2, now := t + 1, lastIssue := t, carry := k.carryNext }
  let s := s.fset pg KCORE_PC_PC np.1
  let s := s.fset pg KCORE_DSTALL (sat32 (s.fget pg KCORE_DSTALL + (td - t0)))
  let s := s.fset pg KCORE_BSTALL (sat32 (s.fget pg KCORE_BSTALL + (t1 - td) + (t - t1)))
  let s := s.pset pg KCORE_CYC (t + 1 - k.launchStart)
  s.syncEffect c l t op

end Sys2Proof.Machine
end

