-- ==== Sys2Proof/Machine/KrmDpu.lean ====
section
/-! DEFINITION. The DPU slot (R116, R117): NOP, DOT, DOT2, DOTG. -/

namespace Sys2Proof.Machine

/-- The codes of a DPU format table entry: A and B (R143). -/
def Core1.fmtPair (k : Core1) (f : Nat) : Nat × Nat :=
  let e := (Tab.get k.fmtTab f 0).toNat
  (e % 16, e / 16 % 16)

/-- The `i`-th group of `n` bytes of a byte string, as a number. -/
def chunkNat (l : List Byte) (n i : Nat) : Nat := leNat (slice l (i * n) n)

/-- The scale byte of block `i`. -/
def scaleByte (l : List Byte) (i : Nat) : Nat := (l.getD i 0).toNat

/-- The accesses `f` makes for the DPU slot: a bank serves them ahead of the move slot's, whichever slot was sent first
(R128). -/
def State.ahead (s : State) (c : Nat) (f : State → State) : State :=
  let moves := (s.core c).accesses
  (f (s.modCore c fun k => { k with accesses := [] })).modCore c fun k => { k with accesses := k.accesses ++ moves }

/-- What a scaled dot reads, `per` blocks for each DPU: A data, A scales, B data, B scales (R117). -/
def Core1.dotRanges (k : Core1) (op : DpuOp) (fa fb : ScaledFmt) (per : Nat) : List (Nat × Nat) :=
  [(k.agAddr op.a.data, 32 * per * scaledBytes fa), (k.agAddr op.a.scale, 32 * per),
   (k.agAddr op.b.data, per * scaledBytes fb), (k.agAddr op.b.scale, per)]

/-- Whether the operands of a scaled dot lie as R126 asks. -/
def Core1.dotAligned (k : Core1) (op : DpuOp) (fb : ScaledFmt) (per : Nat) : Bool :=
  k.agAddr op.a.data % 128 = 0 && oneRow (k.agAddr op.a.scale) (32 * per) &&
    blockAligned (k.agAddr op.b.data) (per * scaledBytes fb) && oneRow (k.agAddr op.b.scale) per

/-- The dots of each DPU: its A blocks with the B blocks, under their scales (R117). -/
def State.dots (s : State) (c : Nat) (op : DpuOp) (fa fb : ScaledFmt) (per : Nat) : List (List Contrib) :=
  let k := s.core c
  let ad := s.coreRead c (k.agAddr op.a.data) (32 * per * scaledBytes fa)
  let asc := s.coreRead c (k.agAddr op.a.scale) (32 * per)
  let bd := s.coreRead c (k.agAddr op.b.data) (per * scaledBytes fb)
  let bsc := s.coreRead c (k.agAddr op.b.scale) per
  (List.range 32).map fun d => (List.range per).map fun j =>
    dotScaled fa fb (scaleByte asc (d * per + j)) (scaleByte bsc j) (chunkNat ad (scaledBytes fa) (d * per + j))
      (chunkNat bd (scaledBytes fb) j)

/-- The scaled dots of one bundle: `per` of them for each DPU (R117). -/
def dotScaledRun (c : Nat) (op : DpuOp) (fa fb : ScaledFmt) (per : Nat) (found : List Upset) (s : State) : State :=
  let k := s.core c
  if !(k.dotAligned op fb per) then s.alignFault c
  else
    let s := s.look c found (k.dotRanges op fa fb per)
    let s := s.ahead c fun s => (((s.access c op.a.data (32 * per * scaledBytes fa)).access c op.a.scale (32 * per)).access c
      op.b.data (per * scaledBytes fb)).access c op.b.scale per
    s.contribute c op.row.val op.aop (s.dots c op fa fb per) 6 (s.poisonIn c (k.dotRanges op fa fb per))

/-- Whether a scaled format is among codes 0x2-0x4 (R74). -/
def isNarrow : ScaledFmt → Bool
  | .e3m2 => true
  | .e2m3 => true
  | .e2m1 => true
  | _ => false

/-- DOT on a scaled pair; any other pair is refused at load (R123), so that nothing is contributed (log 19). -/
def dotRun (c : Nat) (op : DpuOp) (found : List Upset) (s : State) : State :=
  let p := (s.core c).fmtPair op.fmt.val
  match scaledOf p.1, scaledOf p.2 with
  | some fa, some fb => dotScaledRun c op fa fb 1 found s
  | _, _ => s

/-- DOT2: both formats among 0x2, 0x3 and 0x4. -/
def dot2Run (c : Nat) (op : DpuOp) (found : List Upset) (s : State) : State :=
  let p := (s.core c).fmtPair op.fmt.val
  match scaledOf p.1, scaledOf p.2 with
  | some fa, some fb => if isNarrow fa && isNarrow fb then dotScaledRun c op fa fb 2 found s else s
  | _, _ => s

/-- The 32 elements of a 16-bit group. -/
def groupElems (l : List Byte) (i : Nat) : List Nat := (List.range 32).map fun j => chunkNat l 2 (32 * i + j)

/-- What a DOTG reads: 32 groups of A and one of B. -/
def Core1.groupRanges (k : Core1) (op : DpuOp) : List (Nat × Nat) := [(k.agAddr op.a.data, 2048), (k.agAddr op.b.data, 64)]

/-- The group dots of a DOTG (R117). -/
def State.groupDots (s : State) (c : Nat) (op : DpuOp) (fa fb : Fmt) : List (List Contrib) :=
  let ad := s.coreRead c ((s.core c).agAddr op.a.data) 2048
  let bg := groupElems (s.coreRead c ((s.core c).agAddr op.b.data) 64) 0
  (List.range 32).map fun d => [dotGroup fa fb (groupElems ad d) bg]

/-- DOTG: the second KiB of A is read in the following cycle. -/
def dotgRun (c : Nat) (op : DpuOp) (found : List Upset) (s : State) : State :=
  let k := s.core c
  let p := k.fmtPair op.fmt.val
  match halfOf p.1, halfOf p.2 with
  | some fa, some fb =>
    let aa := k.agAddr op.a.data
    if aa % 128 != 0 || !(blockAligned (k.agAddr op.b.data) 64) then s.alignFault c
    else
      let s := s.look c found (k.groupRanges op)
      let s := s.ahead c fun s => (s.access c op.a.data 1024).access c op.b.data 64
      let s := s.modCore c fun k => { k with carryNext := banksOf (aa + 1024) 1024 }
      s.contribute c op.row.val op.aop (s.groupDots c op fa fb) 7 (s.poisonIn c (k.groupRanges op))
  | _, _ => s

/-- NOP (R116): the DPU slot does nothing. -/
def execNop (_core : PhysCore) (s : State) : Res := .next s

/-- DOT (R117). -/
def execDot (core : PhysCore) (op : DpuOp) (found : List Upset) (s : State) : Res :=
  .next (s.slot core.val (.dot core op found) (dotRun core.val op found))

/-- DOT2 (R117). -/
def execDot2 (core : PhysCore) (op : DpuOp) (found : List Upset) (s : State) : Res :=
  .next (s.slot core.val (.dot2 core op found) (dot2Run core.val op found))

/-- DOTG (R117). -/
def execDotg (core : PhysCore) (op : DpuOp) (found : List Upset) (s : State) : Res :=
  .next (s.slot core.val (.dotg core op found) (dotgRun core.val op found))

end Sys2Proof.Machine
end

