-- ==== Sys2Proof/Machine/KrmVector.lean ====
section
/-! DEFINITION. The vector slot (R119): each operation on the 32 lanes of its sources, its latency (R114), flags and poison
(R187). -/

namespace Sys2Proof.Machine

/-- Notes a result for VD: lanes, flags, poison of the sources, and the reads. -/
def vecResult (c : Nat) (srcs : List Nat) (vd lat : Nat) (r : List Nat × Nat) (s : State) : State :=
  let k := s.core c
  let bad := srcs.any fun v => (k.vreg v).poison
  s.modCore c fun k => { k with
    flags := Nat.lor k.flags r.2, rdV := k.rdV ++ srcs, pending := k.pending ++ [.vreg vd ⟨ofLanes r.1, bad, 0⟩ lat] }

/-- Lanes and flags from a list of lane results. -/
def laneResults (l : List (Nat × Nat)) : List Nat × Nat := (l.map (·.1), orFlags (l.map (·.2)))

/-- An operation of one source, lane by lane. -/
def vec1 (c vd va lat : Nat) (f : Nat → Nat × Nat) (s : State) : State :=
  vecResult c [va] vd lat (laneResults ((lanesOf ((s.core c).vreg va).bits).map f)) s

/-- An operation of two sources, lane by lane. -/
def vec2 (c vd va vb lat : Nat) (f : Nat → Nat → Nat × Nat) (s : State) : State :=
  let k := s.core c
  vecResult c [va, vb] vd lat
    (laneResults (((lanesOf (k.vreg va).bits).zip (lanesOf (k.vreg vb).bits)).map fun p => f p.1 p.2)) s

/-- An operation of three sources, lane by lane. -/
def vec3 (c vd va vb vc lat : Nat) (f : Nat → Nat → Nat → Nat × Nat) (s : State) : State :=
  let k := s.core c
  vecResult c [va, vb, vc] vd lat
    (laneResults ((((lanesOf (k.vreg va).bits).zip (lanesOf (k.vreg vb).bits)).zip (lanesOf (k.vreg vc).bits)).map
      fun p => f p.1.1 p.1.2 p.2)) s

/-- VRSUM and VRMAX: five levels into lane 0, the others +0 (R99). -/
def vecTree (c vd va : Nat) (f : Nat → Nat → Nat × Nat) (s : State) : State :=
  let q := treeReduce f 5 (lanesOf ((s.core c).vreg va).bits)
  vecResult c [va] vd 8 (q.1 :: List.replicate 31 0, q.2) s

/-- The element codes of a block held in lanes 0-7. -/
def blockOfLanes (f : ScaledFmt) (l : List Nat) : List Nat :=
  let n := (l.take 8).foldr (fun x acc => x + 2 ^ 32 * acc) 0
  (List.range 32).map fun i => blockElem (scaledWidth f) n i

/-- A block and its scale byte in the VQUANT layout (R119). -/
def quantLanes (f : ScaledFmt) (elems : List Nat) (scale : Nat) : List Nat :=
  let n := elems.foldr (fun x acc => x + 2 ^ scaledWidth f * acc) 0
  ((List.range 31).map fun i => if i < 8 then n / 2 ^ (32 * i) % 2 ^ 32 else 0) ++ [scale]

def vaddRun (c vd va vb : Nat) : State → State := vec2 c vd va vb 4 fadd
def vsubRun (c vd va vb : Nat) : State → State := vec2 c vd va vb 4 fsub
def vmulRun (c vd va vb : Nat) : State → State := vec2 c vd va vb 4 fmul
def vfmaRun (c vd va vb vc : Nat) : State → State := vec3 c vd va vb vc 5 ffma
def vmaxRun (c vd va vb : Nat) : State → State := vec2 c vd va vb 4 fmax
def vminRun (c vd va vb : Nat) : State → State := vec2 c vd va vb 4 fmin
def vcmpltRun (c vd va vb : Nat) : State → State := vec2 c vd va vb 4 (fcmp fun x y => x < y)
def vcmpleRun (c vd va vb : Nat) : State → State := vec2 c vd va vb 4 (fcmp fun x y => x ≤ y)
def vcmpeqRun (c vd va vb : Nat) : State → State := vec2 c vd va vb 4 (fcmp fun x y => x = y)
/-- A copy of bits is no arithmetic: VSEL, VMOV and VBCAST set no NAN_IN on a NaN lane (R108, R119; DESIGN CHOICE, log 96). -/
def vselRun (c vd va vb vc : Nat) : State → State :=
  vec3 c vd va vb vc 4 fun a b d => (if a != 0 then b else d, 0)
def vmovRun (c vd va : Nat) : State → State := vec1 c vd va 4 fun a => (a, 0)
def vabsRun (c vd va : Nat) : State → State := vec1 c vd va 4 fabs
def vnegRun (c vd va : Nat) : State → State := vec1 c vd va 4 fneg
def vbcastRun (c vd va lane : Nat) (s : State) : State :=
  vecResult c [va] vd 4 (List.replicate 32 ((lanesOf ((s.core c).vreg va).bits).getD lane 0), 0) s
def vexpRun (c vd va : Nat) : State → State := vec1 c vd va 9 fexp
def vrcpRun (c vd va : Nat) : State → State := vec1 c vd va 9 frcp
def vrsqrtRun (c vd va : Nat) : State → State := vec1 c vd va 9 frsqrt
def vtanhRun (c vd va : Nat) : State → State := vec1 c vd va 22 ftanh
def vrsumRun (c vd va : Nat) : State → State := vecTree c vd va fadd
def vrmaxRun (c vd va : Nat) : State → State := vecTree c vd va fmax
def vcvtiRun (c vd va : Nat) : State → State := vec1 c vd va 5 fcvti
def vcvtfRun (c vd va : Nat) : State → State := vec1 c vd va 5 fcvtf
def vquantRun (c vd va : Nat) (fmt : ScaledFmt) (sat : Bool) (s : State) : State :=
  let q := quantBlock fmt sat (lanesOf ((s.core c).vreg va).bits)
  vecResult c [va] vd 6 (quantLanes fmt q.1 q.2.1, q.2.2) s
def vdequantRun (c vd va : Nat) (fmt : ScaledFmt) (s : State) : State :=
  let l := lanesOf ((s.core c).vreg va).bits
  vecResult c [va] vd 6 (laneResults ((blockOfLanes fmt l).map (dequantElem fmt (l.getD 31 0 % 256)))) s

/-- VACC: lane d contributes to accumulator (ROW, d); a poisoned source poisons the row (R100, R187). -/
def vaccRun (c va : Nat) (aop : AccOp) (row : Nat) (s : State) : State :=
  let v := (s.core c).vreg va
  (s.modCore c fun k => k.useV va).contribute c row aop ((lanesOf v.bits).map fun a => [laneContrib a]) 6 v.poison

/-- VNOP (R119): VD unchanged. -/
def execVnop (_core : PhysCore) (s : State) : Res := .next s
/-- VADD (R96). -/
def execVadd (core : PhysCore) (vd va vb : VReg) (s : State) : Res :=
  .next (s.slot core.val (.vadd core vd va vb) (vaddRun core.val vd.val va.val vb.val))
/-- VSUB (R96). -/
def execVsub (core : PhysCore) (vd va vb : VReg) (s : State) : Res :=
  .next (s.slot core.val (.vsub core vd va vb) (vsubRun core.val vd.val va.val vb.val))
/-- VMUL (R96). -/
def execVmul (core : PhysCore) (vd va vb : VReg) (s : State) : Res :=
  .next (s.slot core.val (.vmul core vd va vb) (vmulRun core.val vd.val va.val vb.val))
/-- VFMA (R96). -/
def execVfma (core : PhysCore) (vd va vb vc : VReg) (s : State) : Res :=
  .next (s.slot core.val (.vfma core vd va vb vc) (vfmaRun core.val vd.val va.val vb.val vc.val))
/-- VMAX (R97). -/
def execVmax (core : PhysCore) (vd va vb : VReg) (s : State) : Res :=
  .next (s.slot core.val (.vmax core vd va vb) (vmaxRun core.val vd.val va.val vb.val))
/-- VMIN (R97). -/
def execVmin (core : PhysCore) (vd va vb : VReg) (s : State) : Res :=
  .next (s.slot core.val (.vmin core vd va vb) (vminRun core.val vd.val va.val vb.val))
/-- VCMPLT (R97). -/
def execVcmplt (core : PhysCore) (vd va vb : VReg) (s : State) : Res :=
  .next (s.slot core.val (.vcmplt core vd va vb) (vcmpltRun core.val vd.val va.val vb.val))
/-- VCMPLE (R97). -/
def execVcmple (core : PhysCore) (vd va vb : VReg) (s : State) : Res :=
  .next (s.slot core.val (.vcmple core vd va vb) (vcmpleRun core.val vd.val va.val vb.val))
/-- VCMPEQ (R97). -/
def execVcmpeq (core : PhysCore) (vd va vb : VReg) (s : State) : Res :=
  .next (s.slot core.val (.vcmpeq core vd va vb) (vcmpeqRun core.val vd.val va.val vb.val))
/-- VSEL (R119). -/
def execVsel (core : PhysCore) (vd va vb vc : VReg) (s : State) : Res :=
  .next (s.slot core.val (.vsel core vd va vb vc) (vselRun core.val vd.val va.val vb.val vc.val))
/-- VMOV (R119). -/
def execVmov (core : PhysCore) (vd va : VReg) (s : State) : Res :=
  .next (s.slot core.val (.vmov core vd va) (vmovRun core.val vd.val va.val))
/-- VABS (R119). -/
def execVabs (core : PhysCore) (vd va : VReg) (s : State) : Res :=
  .next (s.slot core.val (.vabs core vd va) (vabsRun core.val vd.val va.val))
/-- VNEG (R119). -/
def execVneg (core : PhysCore) (vd va : VReg) (s : State) : Res :=
  .next (s.slot core.val (.vneg core vd va) (vnegRun core.val vd.val va.val))
/-- VBCAST (R119). -/
def execVbcast (core : PhysCore) (vd va : VReg) (lane : Fin 32) (s : State) : Res :=
  .next (s.slot core.val (.vbcast core vd va lane) (vbcastRun core.val vd.val va.val lane.val))
/-- VEXP (R103). -/
def execVexp (core : PhysCore) (vd va : VReg) (s : State) : Res :=
  .next (s.slot core.val (.vexp core vd va) (vexpRun core.val vd.val va.val))
/-- VRCP (R104). -/
def execVrcp (core : PhysCore) (vd va : VReg) (s : State) : Res :=
  .next (s.slot core.val (.vrcp core vd va) (vrcpRun core.val vd.val va.val))
/-- VRSQRT (R105). -/
def execVrsqrt (core : PhysCore) (vd va : VReg) (s : State) : Res :=
  .next (s.slot core.val (.vrsqrt core vd va) (vrsqrtRun core.val vd.val va.val))
/-- VTANH (R106). -/
def execVtanh (core : PhysCore) (vd va : VReg) (s : State) : Res :=
  .next (s.slot core.val (.vtanh core vd va) (vtanhRun core.val vd.val va.val))
/-- VRSUM (R99). -/
def execVrsum (core : PhysCore) (vd va : VReg) (s : State) : Res :=
  .next (s.slot core.val (.vrsum core vd va) (vrsumRun core.val vd.val va.val))
/-- VRMAX (R99). -/
def execVrmax (core : PhysCore) (vd va : VReg) (s : State) : Res :=
  .next (s.slot core.val (.vrmax core vd va) (vrmaxRun core.val vd.val va.val))
/-- VCVTI (R98). -/
def execVcvti (core : PhysCore) (vd va : VReg) (s : State) : Res :=
  .next (s.slot core.val (.vcvti core vd va) (vcvtiRun core.val vd.val va.val))
/-- VCVTF (R98). -/
def execVcvtf (core : PhysCore) (vd va : VReg) (s : State) : Res :=
  .next (s.slot core.val (.vcvtf core vd va) (vcvtfRun core.val vd.val va.val))
/-- VQUANT (R94). -/
def execVquant (core : PhysCore) (vd va : VReg) (fmt : ScaledFmt) (sat : Bool) (s : State) : Res :=
  .next (s.slot core.val (.vquant core vd va fmt sat) (vquantRun core.val vd.val va.val fmt sat))
/-- VDEQUANT (R95). -/
def execVdequant (core : PhysCore) (vd va : VReg) (fmt : ScaledFmt) (s : State) : Res :=
  .next (s.slot core.val (.vdequant core vd va fmt) (vdequantRun core.val vd.val va.val fmt))
/-- VACC (R100). -/
def execVacc (core : PhysCore) (va : VReg) (aop : AccOp) (row : AccRow) (s : State) : Res :=
  .next (s.slot core.val (.vacc core va aop row) (vaccRun core.val va.val aop row.val))

end Sys2Proof.Machine
end

