-- ==== Sys2Proof/Machine/KrmMove.lean ====
section
/-! DEFINITION. The move slot (R120): loads and stores of core SRAM, accumulator moves, generators, constants, and the
issue of DMA descriptors (R131) and reductions (R133). -/

namespace Sys2Proof.Machine

/-- Notes a loaded value for a vector register; every load lands after 3 cycles (R114). -/
def loadResult (c r : Nat) (v : BitVec 1024) (poisoned : Bool) (fl : Nat) (s : State) : State :=
  s.modCore c fun k => { k with flags := Nat.lor k.flags fl, pending := k.pending ++ [.vreg r ⟨v, poisoned, 0⟩ 3] }

/-- LDV. -/
def ldvRun (c r : Nat) (ag : AgRef) (found : List Upset) (s : State) : State :=
  let a := (s.core c).agAddr ag
  if a % 128 != 0 then s.alignFault c
  else
    let s := (s.look c found [(a, 128)]).access c ag 128
    loadResult c r (ofVecBytes (s.coreRead c a 128)) (s.corePoison c a 128) 0 s

/-- STV. -/
def stvRun (c r : Nat) (ag : AgRef) (s : State) : State :=
  let k := s.core c
  let a := k.agAddr ag
  if a % 128 != 0 then s.alignFault c
  else
    let v := k.vreg r
    ((s.access c ag 128).modCore c fun k => k.useV r).note c a (vecBytes v.bits) v.poison false

/-- LDH: 32 elements converted exactly to FP32 (R98). -/
def ldhRun (c r : Nat) (ag : AgRef) (fmt : HalfFmt) (found : List Upset) (s : State) : State :=
  let a := (s.core c).agAddr ag
  if a % 64 != 0 then s.alignFault c
  else
    let s := (s.look c found [(a, 64)]).access c ag 64
    let q := laneResults ((groupElems (s.coreRead c a 64) 0).map (from16 (halfFmt fmt)))
    loadResult c r (ofLanes q.1) (s.corePoison c a 64) q.2 s

/-- STH: a register converted to a 16-bit format (R98). -/
def sthRun (c r : Nat) (ag : AgRef) (fmt : HalfFmt) (sat : Bool) (s : State) : State :=
  let k := s.core c
  let a := k.agAddr ag
  if a % 64 != 0 then s.alignFault c
  else
    let v := k.vreg r
    let q := laneResults ((lanesOf v.bits).map (fto16 (halfFmt fmt) sat))
    ((s.access c ag 64).modCore c fun k => { k.useV r with flags := Nat.lor k.flags q.2 }).note c a
      (q.1.flatMap fun h => natLe 2 h) v.poison false

/-- LDQ: a scaled block and its scale byte, in the VQUANT layout. -/
def ldqRun (c r : Nat) (ag : AgRef) (fmt : ScaledFmt) (sag : AgRef) (found : List Upset) (s : State) : State :=
  let k := s.core c
  let a := k.agAddr ag
  let sa := k.agAddr sag
  let n := scaledBytes fmt
  if !(blockAligned a n) then s.alignFault c
  else
    let s := ((s.look c found [(a, n), (sa, 1)]).access c ag n).access c sag 1
    let b := leNat (s.coreRead c a n)
    let sc := leNat (s.coreRead c sa 1)
    loadResult c r (BitVec.ofNat 1024 (b + sc * 2 ^ 992)) (s.poisonIn c [(a, n), (sa, 1)]) 0 s

/-- STQ: the block bytes and the scale byte of a register in the VQUANT layout; the scale byte is a narrow write (R182). -/
def stqRun (c r : Nat) (ag : AgRef) (fmt : ScaledFmt) (sag : AgRef) (s : State) : State :=
  let k := s.core c
  let a := k.agAddr ag
  let sa := k.agAddr sag
  let n := scaledBytes fmt
  if !(blockAligned a n) then s.alignFault c
  else
    let v := k.vreg r
    let s := ((s.access c ag n).access c sag 1).modCore c fun k => k.useV r
    (s.note c a (natLe n v.bits.toNat) v.poison false).note c sa [BitVec.ofNat 8 (v.bits.toNat / 2 ^ 992)] v.poison true

/-- RDACC: the readout is taken as the bundle issues. -/
def rdaccRun (c r row : Nat) (s : State) : State :=
  s.modCore c fun k => { k with rdR := k.rdR ++ [row], pending := k.pending ++ [.readout r row] }

/-- CLRACC. -/
def clraccRun (c row : Nat) (s : State) : State :=
  s.modCore c fun k => { k with pending := k.pending ++ [.acc row (k.accRow row).cleared 0] }

/-- ACFG: the row takes an ACC_CFG entry, cleared. -/
def acfgRun (c row e : Nat) (s : State) : State :=
  s.modCore c fun k => { k with pending := k.pending ++ [.acc row (rowOf (Tab.get k.accCfg e 0)) 0] }

/-- SETAG: after the bundle's steps (R125). -/
def setagRun (c g e : Nat) (s : State) : State := s.modCore c fun k => { k with setags := k.setags ++ [(g, e)] }

/-- LDC. -/
def ldcRun (c r e : Nat) (s : State) : State := loadResult c r (Tab.get (s.core c).consts e 0) false 0 s

/-- DMA: the descriptor is issued with the bundle. -/
def dmaRun (c e : Nat) (s : State) : State := s.modCore c fun k => { k with dmaIssue := k.dmaIssue ++ [e] }

/-- RED: the row is given with the bundle. -/
def redRun (c e : Nat) (s : State) : State :=
  let row := match s.krm.job with | some j => redRow (Tab.get j.redTab e 0) | none => 0
  s.modCore c fun k => { k with rdR := k.rdR ++ [row], redIssue := k.redIssue ++ [e] }

/-! ### Transfers -/

/-- The physical core of a logical index of the job. -/
def Job.physOf (j : Job) (l : Nat) : Option Nat := ((j.parts.zip j.phys).find? fun p => p.1 = l).map (·.2)

/-- The device address of an address word for a job, seen from core `c` (R131). -/
def addrWord (j : Job) (c : Nat) (w : Nat) : Nat :=
  let off := w % 2 ^ 56
  let lc := w / 2 ^ 56 % 64
  match w / 2 ^ 62 % 4 with
  | 0 => sramBase + (if lc = 0x3F then c else (j.physOf lc).getD c) * sramSize + off
  | 1 => j.sub.nbase + off
  | _ => j.sub.bbase + off

/-- Fields of a DMA descriptor. -/
def descSrc (d : BitVec 256) : Nat := d.toNat % 2 ^ 64
def descDst (d : BitVec 256) : Nat := d.toNat / 2 ^ 64 % 2 ^ 64
def descRowBytes (d : BitVec 256) : Nat := d.toNat / 2 ^ 128 % 2 ^ 32
def descRows (d : BitVec 256) : Nat := d.toNat / 2 ^ 160 % 2 ^ 32
def descSrcStride (d : BitVec 256) : Nat := d.toNat / 2 ^ 192 % 2 ^ 32
def descDstStride (d : BitVec 256) : Nat := d.toNat / 2 ^ 224 % 2 ^ 24

/-- Source and destination of line `i` of a transfer. -/
def dmaLine (j : Job) (c : Nat) (d : BitVec 256) (i : Nat) : Nat × Nat :=
  let per := descRowBytes d / 64
  let r := i / per
  let o := i % per * 64
  (addrWord j c (descSrc d) + r * descSrcStride d + o, addrWord j c (descDst d) + r * descDstStride d + o)

/-- Whether line `i` of a transfer meets an error (R132, R168): an unmapped line at either end, or a source line that the
decoder finds uncorrectable; one that was marked poisoned before arrives so and is no error. -/
def State.dmaFails (s : State) (j : Job) (c : Nat) (d : BitVec 256) (i : Nat) : Bool :=
  let p := dmaLine j c d i
  !(mapped p.1) || !(mapped p.2) ||
    (s.reachable p.1 && !(s.poisonedAt p.1 64) && (s.noteAccess p.1 64).poisonedAt p.1 64)

/-- Moves one line, with its poison mark (R187). -/
def dmaMove (j : Job) (c : Nat) (d : BitVec 256) (s : State) (i : Nat) : State :=
  let p := dmaLine j c d i
  let r := s.fabRead p.1 64
  (r.2.2.fabWrite p.2 r.1 r.2.1).outputBite p.2 64 r.2.1

/-- KRM frequency in MHz (R31). -/
def State.krmMHz (s : State) : Nat := 800 + 25 * s.fget pCLK CLK_KRM_STEP

/-- The fixed latency L of R205. -/
def dmaFixed (mhz bytes : Nat) : Nat := 128 + (bytes * mhz + 76799) / 76800

/-- The latency of a transfer (R205): L in an ON_CHIP job, L and a bounded free part between two cores' SRAM, otherwise
free (log 1). -/
def State.dmaLatency (s : State) (j : Job) (d : BitVec 256) : Nat :=
  let l := dmaFixed s.krmMHz (descRows d * descRowBytes d)
  if j.flags.getLsbD 1 then l
  else if descSrc d / 2 ^ 62 = 0 && descDst d / 2 ^ 62 = 0 then l + Config.freeCycles s.free % (s.krmMHz * 12 / 10 + 1)
  else Config.freeCycles s.free

/-- The transfer of tag `t` of core `c` completes, or stops at the line at which it meets an error: `err` where a link or
memory outside fails it (R131, R132). -/
def dmaEnd (c t : Nat) (err : Option Nat) (found : List Upset) (s : State) : State :=
  let tag := Tab.get (s.core c).tags t {}
  match s.krm.job with
  | none => s
  | some j =>
    if !tag.busy then s
    else
      let d := tag.desc
      let n := descRows d * (descRowBytes d / 64)
      let s := s.upsets found
      let stop := (List.range n).find? fun i => s.dmaFails j c d i || err = some i
      let s := (List.range (stop.getD n)).foldl (dmaMove j c d) s
      let s := match stop with
        | some i => (s.noteAccess (dmaLine j c d i).1 64).noteRange (dmaLine j c d i).2 64
        | none => s
      let done := tag.issued + s.dmaLatency j d
      let s := { s with free := s.free + 1 }
      let s := s.modCore c fun k => { k with tags := Tab.set k.tags t { tag with busy := false, doneAt := done } {} }
      if stop.isSome then s.jobFault 3 done else s

/-- Whether every contributor of a reduction has issued it. -/
def redFull (e : BitVec 64) (d : RedState) : Bool :=
  (List.range 32).all fun l => redMask e / 2 ^ l % 2 = 0 || d.got.any (·.1 = l)

/-- The first complete reduction of an entry, and the rest. -/
def takeRed (e : Nat) (w : BitVec 64) : List RedState → Option (RedState × List RedState)
  | [] => none
  | d :: rest =>
    if d.entry = e && redFull w d then some (d, rest)
    else (takeRed e w rest).map fun p => (p.1, d :: p.2)

/-- A reduction completes 16 or 48 cycles after its last contributor: the result replaces the root's row, unless a count
exceeds MAX_CONTRIB (R133, R149). Flags that the combination raises are the root's core's: the spec names no core (R86, R108;
DESIGN CHOICE, log 96). -/
def redEnd (e : Nat) (s : State) : State :=
  match s.krm.job with
  | none => s
  | some j =>
    let w := Tab.get j.redTab e 0
    match takeRed e w j.reds with
    | none => s
    | some (d, rest) =>
      let at_ := d.got.foldl (fun m g => max m g.2.2) 0 + (if redChip w then 48 else 16)
      let c := (j.physOf (redRoot w)).getD 0
      let rows := (List.range 32).filterMap fun l => (d.got.find? (·.1 = l)).map (·.2.1)
      let r := reduceRows ((s.core c).accRow (redRow w)) j.fastOk rows
      let s := { s with krm.job := some { j with reds := rest } }
      if r.1.accs.any fun a => a.2.count > j.maxContrib then s.jobFault 2 at_
      else
        (s.arithFlags c r.2).modCore c fun k => { k with
          accs := Tab.set k.accs (redRow w) { r.1 with land := max (k.accRow (redRow w)).land at_ } {} }

/-! ### The commands -/

/-- MNOP (R120). -/
def execMnop (_core : PhysCore) (s : State) : Res := .next s
/-- LDV (R120). -/
def execLdv (core : PhysCore) (vreg : VReg) (ag : AgRef) (found : List Upset) (s : State) : Res :=
  .next (s.slot core.val (.ldv core vreg ag found) (ldvRun core.val vreg.val ag found))
/-- STV (R120). -/
def execStv (core : PhysCore) (vreg : VReg) (ag : AgRef) (s : State) : Res :=
  .next (s.slot core.val (.stv core vreg ag) (stvRun core.val vreg.val ag))
/-- LDH (R120). -/
def execLdh (core : PhysCore) (vreg : VReg) (ag : AgRef) (fmt : HalfFmt) (found : List Upset) (s : State) : Res :=
  .next (s.slot core.val (.ldh core vreg ag fmt found) (ldhRun core.val vreg.val ag fmt found))
/-- STH (R98, R120). -/
def execSth (core : PhysCore) (vreg : VReg) (ag : AgRef) (fmt : HalfFmt) (sat : Bool) (s : State) : Res :=
  .next (s.slot core.val (.sth core vreg ag fmt sat) (sthRun core.val vreg.val ag fmt sat))
/-- LDQ (R120). -/
def execLdq (core : PhysCore) (vreg : VReg) (ag : AgRef) (fmt : ScaledFmt) (sag : AgRef) (found : List Upset) (s : State) : Res :=
  .next (s.slot core.val (.ldq core vreg ag fmt sag found) (ldqRun core.val vreg.val ag fmt sag found))
/-- STQ (R120). -/
def execStq (core : PhysCore) (vreg : VReg) (ag : AgRef) (fmt : ScaledFmt) (sag : AgRef) (s : State) : Res :=
  .next (s.slot core.val (.stq core vreg ag fmt sag) (stqRun core.val vreg.val ag fmt sag))
/-- RDACC (R85). -/
def execRdacc (core : PhysCore) (vreg : VReg) (row : AccRow) (s : State) : Res :=
  .next (s.slot core.val (.rdacc core vreg row) (rdaccRun core.val vreg.val row.val))
/-- CLRACC (R120). -/
def execClracc (core : PhysCore) (row : AccRow) (s : State) : Res :=
  .next (s.slot core.val (.clracc core row) (clraccRun core.val row.val))
/-- ACFG (R120). -/
def execAcfg (core : PhysCore) (row : AccRow) (entry : Fin 512) (s : State) : Res :=
  .next (s.slot core.val (.acfg core row entry) (acfgRun core.val row.val entry.val))
/-- SETAG (R125). -/
def execSetag (core : PhysCore) (ag : Fin 8) (entry : Fin 32768) (s : State) : Res :=
  .next (s.slot core.val (.setag core ag entry) (setagRun core.val ag.val entry.val))
/-- LDC (R120). -/
def execLdc (core : PhysCore) (vreg : VReg) (entry : Fin 32768) (s : State) : Res :=
  .next (s.slot core.val (.ldc core vreg entry) (ldcRun core.val vreg.val entry.val))
/-- DMA (R131). -/
def execDma (core : PhysCore) (entry : Fin 4096) (s : State) : Res :=
  .next (s.slot core.val (.dma core entry) (dmaRun core.val entry.val))
/-- RED (R133). -/
def execRed (core : PhysCore) (entry : Fin 512) (s : State) : Res :=
  .next (s.slot core.val (.red core entry) (redRun core.val entry.val))

end Sys2Proof.Machine
end

