-- ==== Sys2Proof/Machine/Bundle.lean ====
section
/-! DEFINITION. The encoding of a bundle (R115, R116, R119-R121): its slots as the commands they stand for, and back. Slot
values are numbered from the slot's lowest bit. -/

namespace Sys2Proof.Machine

/-- Bits hi..lo of a number. -/
def bf (b hi lo : Nat) : Nat := b / 2 ^ lo % 2 ^ (hi - lo + 1)

/-- The slots of a bundle, by the layout of R115. -/
structure Slots where
  dpu  : Nat
  a    : Nat
  b    : Nat
  acc  : Nat
  vec  : Nat
  mov  : Nat
  sync : Nat
deriving DecidableEq, Repr

/-- The slots of a bundle. -/
def slotsOf (x : BitVec 128) : Slots :=
  let n := x.toNat
  ⟨bf n 127 120, bf n 119 104, bf n 103 88, bf n 87 76, bf n 75 44, bf n 43 16, bf n 15 0⟩

/-- The bundle of its slots. -/
def Slots.bundle (s : Slots) : BitVec 128 :=
  BitVec.ofNat 128 (s.dpu * 2 ^ 120 + s.a * 2 ^ 104 + s.b * 2 ^ 88 + s.acc * 2 ^ 76 + s.vec * 2 ^ 44 + s.mov * 2 ^ 16 + s.sync)

/-! ### Operands -/

/-- A source slot that reads core SRAM; `none` where SRC is not 1 or a reserved bit is set. -/
def decodeSrc (x : Nat) : Option DpuSrc :=
  if bf x 15 14 = 1 && bf x 5 0 = 0 then
    some ⟨⟨Fin.ofNat 8 (bf x 13 11), bf x 10 10 = 1⟩, ⟨Fin.ofNat 8 (bf x 9 7), bf x 6 6 = 1⟩⟩
  else none

/-- A source slot whose SRC is none, its reserved bits zero. -/
def emptySrc (x : Nat) : Bool := bf x 15 14 = 0 && bf x 5 0 = 0

/-- A source slot. -/
def encodeSrc (s : DpuSrc) : Nat :=
  2 ^ 14 + s.data.ag.val * 2 ^ 11 + bit s.data.step * 2 ^ 10 + s.scale.ag.val * 2 ^ 7 + bit s.scale.step * 2 ^ 6

/-- The accumulate target: AOP and ROW. -/
def decodeAcc (x : Nat) : Option (AccOp × AccRow) :=
  if bf x 3 0 = 0 then
    match bf x 11 10 with
    | 0 => some (.none, Fin.ofNat 64 (bf x 9 4))
    | 1 => some (.init, Fin.ofNat 64 (bf x 9 4))
    | 2 => some (.add, Fin.ofNat 64 (bf x 9 4))
    | _ => none
  else none

/-- The code of AOP. -/
def accCode : AccOp → Nat
  | .none => 0
  | .init => 1
  | .add => 2

/-- The accumulate target slot. -/
def encodeAcc (op : AccOp) (row : AccRow) : Nat := accCode op * 2 ^ 10 + row.val * 2 ^ 4

/-- The code of a scaled format (R69). -/
def scaledCode : ScaledFmt → Nat
  | .e4m3 => 0
  | .e5m2 => 1
  | .e3m2 => 2
  | .e2m3 => 3
  | .e2m1 => 4
  | .int8 => 5

/-- A 16-bit format of LDH and STH, by its code. -/
def halfOfCode : Nat → Option HalfFmt
  | 8 => some .bf16
  | 9 => some .binary16
  | _ => none

/-- The code of a 16-bit format. -/
def halfCode : HalfFmt → Nat
  | .bf16 => 8
  | .binary16 => 9

/-! ### The slots -/

/-- The DPU slot with its sources and target. -/
def decodeDpu (core : PhysCore) (s : Slots) : Option Instr :=
  if bf s.dpu 1 0 != 0 then none
  else if bf s.dpu 7 5 = 0 then (if emptySrc s.a && emptySrc s.b then some (.nop core) else none)
  else
    match decodeSrc s.a, decodeSrc s.b, decodeAcc s.acc with
    | some a, some b, some t =>
      let op : DpuOp := ⟨Fin.ofNat 8 (bf s.dpu 4 2), a, b, t.1, t.2⟩
      match bf s.dpu 7 5 with
      | 1 => some (.dot core op [])
      | 2 => some (.dot2 core op [])
      | 3 => some (.dotg core op [])
      | _ => none
    | _, _, _ => none

/-- The vector slot, with the target slot for VACC. -/
def decodeVec (core : PhysCore) (x acc : Nat) : Option Instr :=
  let d : VReg := Fin.ofNat 32 (bf x 25 21)
  let a : VReg := Fin.ofNat 32 (bf x 20 16)
  let b : VReg := Fin.ofNat 32 (bf x 15 11)
  let c : VReg := Fin.ofNat 32 (bf x 10 6)
  if bf x 0 0 != 0 then none
  else
    match bf x 31 26 with
    | 0x00 => some (.vnop core)
    | 0x01 => some (.vadd core d a b)
    | 0x02 => some (.vsub core d a b)
    | 0x03 => some (.vmul core d a b)
    | 0x04 => some (.vfma core d a b c)
    | 0x05 => some (.vmax core d a b)
    | 0x06 => some (.vmin core d a b)
    | 0x07 => some (.vcmplt core d a b)
    | 0x08 => some (.vcmple core d a b)
    | 0x09 => some (.vcmpeq core d a b)
    | 0x0A => some (.vsel core d a b c)
    | 0x0B => some (.vmov core d a)
    | 0x0C => some (.vabs core d a)
    | 0x0D => some (.vneg core d a)
    | 0x0E => some (.vbcast core d a b)
    | 0x10 => some (.vexp core d a)
    | 0x11 => some (.vrcp core d a)
    | 0x12 => some (.vrsqrt core d a)
    | 0x13 => some (.vtanh core d a)
    | 0x14 => some (.vrsum core d a)
    | 0x15 => some (.vrmax core d a)
    | 0x18 => some (.vcvti core d a)
    | 0x19 => some (.vcvtf core d a)
    | 0x1C => (scaledOf (bf x 4 1)).map fun f => .vquant core d a f (bf x 5 5 = 1)
    | 0x1D => (scaledOf (bf x 4 1)).map fun f => .vdequant core d a f
    | 0x1E => (decodeAcc acc).map fun t => .vacc core a t.1 t.2
    | _ => none

/-- A vector slot from its code and register fields. -/
def vecSlot (op d a b c : Nat) : Nat := op * 2 ^ 26 + d * 2 ^ 21 + a * 2 ^ 16 + b * 2 ^ 11 + c * 2 ^ 6

/-- The vector slot of a vector command, fields it does not use zero. -/
def encodeVec : Instr → Nat
  | .vadd _ d a b => vecSlot 1 d.val a.val b.val 0
  | .vsub _ d a b => vecSlot 2 d.val a.val b.val 0
  | .vmul _ d a b => vecSlot 3 d.val a.val b.val 0
  | .vfma _ d a b c => vecSlot 4 d.val a.val b.val c.val
  | .vmax _ d a b => vecSlot 5 d.val a.val b.val 0
  | .vmin _ d a b => vecSlot 6 d.val a.val b.val 0
  | .vcmplt _ d a b => vecSlot 7 d.val a.val b.val 0
  | .vcmple _ d a b => vecSlot 8 d.val a.val b.val 0
  | .vcmpeq _ d a b => vecSlot 9 d.val a.val b.val 0
  | .vsel _ d a b c => vecSlot 0xA d.val a.val b.val c.val
  | .vmov _ d a => vecSlot 0xB d.val a.val 0 0
  | .vabs _ d a => vecSlot 0xC d.val a.val 0 0
  | .vneg _ d a => vecSlot 0xD d.val a.val 0 0
  | .vbcast _ d a l => vecSlot 0xE d.val a.val l.val 0
  | .vexp _ d a => vecSlot 0x10 d.val a.val 0 0
  | .vrcp _ d a => vecSlot 0x11 d.val a.val 0 0
  | .vrsqrt _ d a => vecSlot 0x12 d.val a.val 0 0
  | .vtanh _ d a => vecSlot 0x13 d.val a.val 0 0
  | .vrsum _ d a => vecSlot 0x14 d.val a.val 0 0
  | .vrmax _ d a => vecSlot 0x15 d.val a.val 0 0
  | .vcvti _ d a => vecSlot 0x18 d.val a.val 0 0
  | .vcvtf _ d a => vecSlot 0x19 d.val a.val 0 0
  | .vquant _ d a f t => vecSlot 0x1C d.val a.val 0 0 + bit t * 2 ^ 5 + scaledCode f * 2
  | .vdequant _ d a f => vecSlot 0x1D d.val a.val 0 0 + scaledCode f * 2
  | .vacc _ a _ _ => vecSlot 0x1E 0 a.val 0 0
  | _ => 0

/-- The move slot. -/
def decodeMov (core : PhysCore) (x : Nat) : Option Instr :=
  let r : VReg := Fin.ofNat 32 (bf x 23 19)
  let g : AgRef := ⟨Fin.ofNat 8 (bf x 18 16), bf x 15 15 = 1⟩
  let sg : AgRef := ⟨Fin.ofNat 8 (bf x 14 12), bf x 11 11 = 1⟩
  let row : AccRow := Fin.ofNat 64 (bf x 5 0)
  match bf x 27 24 with
  | 0x0 => some (.mnop core)
  | 0x1 => some (.ldv core r g [])
  | 0x2 => some (.stv core r g)
  | 0x3 => (halfOfCode (bf x 3 0)).map fun f => .ldh core r g f []
  | 0x4 => (halfOfCode (bf x 3 0)).map fun f => .sth core r g f (bf x 4 4 = 1)
  | 0x5 => (scaledOf (bf x 3 0)).map fun f => .ldq core r g f sg []
  | 0x6 => (scaledOf (bf x 3 0)).map fun f => .stq core r g f sg
  | 0x7 => some (.rdacc core r row)
  | 0x8 => some (.clracc core row)
  | 0x9 => some (.acfg core row (Fin.ofNat 512 (bf x 14 6)))
  | 0xA => some (.setag core g.ag (Fin.ofNat 32768 (bf x 14 0)))
  | 0xB => some (.ldc core r (Fin.ofNat 32768 (bf x 14 0)))
  | 0xC => some (.dma core (Fin.ofNat 4096 (bf x 11 0)))
  | 0xD => some (.red core (Fin.ofNat 512 (bf x 8 0)))
  | _ => none

/-- A move slot from its code, register, generator and IMM. -/
def movSlot (op r : Nat) (g : AgRef) (imm : Nat) : Nat :=
  op * 2 ^ 24 + r * 2 ^ 19 + g.ag.val * 2 ^ 16 + bit g.step * 2 ^ 15 + imm

/-- The IMM bits of a scale generator. -/
def scaleImm (sg : AgRef) : Nat := sg.ag.val * 2 ^ 12 + bit sg.step * 2 ^ 11

/-- The move slot of a move command, fields it does not use zero. -/
def encodeMov : Instr → Nat
  | .ldv _ r g _ => movSlot 1 r.val g 0
  | .stv _ r g => movSlot 2 r.val g 0
  | .ldh _ r g f _ => movSlot 3 r.val g (halfCode f)
  | .sth _ r g f t => movSlot 4 r.val g (bit t * 2 ^ 4 + halfCode f)
  | .ldq _ r g f sg _ => movSlot 5 r.val g (scaleImm sg + scaledCode f)
  | .stq _ r g f sg => movSlot 6 r.val g (scaleImm sg + scaledCode f)
  | .rdacc _ r a => movSlot 7 r.val ⟨0, false⟩ a.val
  | .clracc _ a => movSlot 8 0 ⟨0, false⟩ a.val
  | .acfg _ a e => movSlot 9 0 ⟨0, false⟩ (e.val * 2 ^ 6 + a.val)
  | .setag _ g e => movSlot 0xA 0 ⟨g, false⟩ e.val
  | .ldc _ r e => movSlot 0xB r.val ⟨0, false⟩ e.val
  | .dma _ e => movSlot 0xC 0 ⟨0, false⟩ e.val
  | .red _ e => movSlot 0xD 0 ⟨0, false⟩ e.val
  | _ => 0

/-- The synchronisation slot. -/
def decodeSync (core : PhysCore) (x : Nat) : Option Instr :=
  match bf x 15 12 with
  | 0x0 => some (.snop core)
  | 0x1 => some (.loop core (Fin.ofNat 4096 (bf x 11 0)))
  | 0x2 => some (.loopc core (Fin.ofNat 4096 (bf x 11 0)))
  | 0x3 => some (.endl core)
  | 0x4 => some (.barq core (BitVec.ofNat 8 (bf x 7 0)))
  | 0x5 => some (.barc core (BitVec.ofNat 8 (bf x 7 0)))
  | 0x6 => some (.waitd core (Fin.ofNat 16 (bf x 3 0)))
  | 0x7 => some (.phase core (Fin.ofNat 8 (bf x 2 0)))
  | 0x8 => some (.mark core (BitVec.ofNat 12 (bf x 11 0)))
  | 0x9 => some (.endStream core)
  | _ => none

/-- The synchronisation slot of its command. -/
def encodeSync : Instr → Nat
  | .loop _ n => 0x1000 + n.val
  | .loopc _ n => 0x2000 + n.val
  | .endl _ => 0x3000
  | .barq _ i => 0x4000 + i.toNat
  | .barc _ i => 0x5000 + i.toNat
  | .waitd _ t => 0x6000 + t.val
  | .phase _ p => 0x7000 + p.val
  | .mark _ a => 0x8000 + a.toNat
  | .endStream _ => 0x9000
  | _ => 0

/-! ### Bundles -/

/-- The command in one slot of a bundle: 0 DPU, 1 vector, 2 move, 3 synchronisation. -/
def decodeSlot (core : PhysCore) (k : Nat) (s : Slots) : Option Instr :=
  match k with
  | 0 => decodeDpu core s
  | 1 => decodeVec core s.vec s.acc
  | 2 => decodeMov core s.mov
  | _ => decodeSync core s.sync

/-- The commands of a bundle, in the order DPU, vector, move, synchronisation; none where a code is reserved, a reserved
field is not zero, or a source or format does not suit its operation (R123). -/
def decodeBundle (core : PhysCore) (x : BitVec 128) : Option (List Instr) :=
  let s := slotsOf x
  match decodeAcc s.acc, decodeSlot core 0 s, decodeSlot core 1 s, decodeSlot core 2 s, decodeSlot core 3 s with
  | some _, some d, some v, some m, some y => some [d, v, m, y]
  | _, _, _, _, _ => none

/-- A DPU command as the slots it fills. -/
def encodeDpu (op : Nat) (d : DpuOp) : Slots :=
  ⟨op * 2 ^ 5 + d.fmt.val * 2 ^ 2, encodeSrc d.a, encodeSrc d.b, encodeAcc d.aop d.row, 0, 0, 0⟩

/-- The slots a command fills. -/
def encodeSlot : Instr → Slots
  | .dot _ op _ => encodeDpu 1 op
  | .dot2 _ op _ => encodeDpu 2 op
  | .dotg _ op _ => encodeDpu 3 op
  | .vacc c a op row => ⟨0, 0, 0, encodeAcc op row, encodeVec (.vacc c a op row), 0, 0⟩
  | i => ⟨0, 0, 0, 0, encodeVec i, encodeMov i, encodeSync i⟩

/-- The commands that the bundle at a core's program counter stands for (R113, R116). -/
def State.nextBundle (s : State) (core : PhysCore) : Option (List Instr) :=
  decodeBundle core (Tab.get (s.core core.val).store (s.fget (pKRMCORE core.val) KCORE_PC_PC) 0)

end Sys2Proof.Machine
end

