-- ==== Sys2Proof/Machine/Container.lean ====
section
/-! DEFINITION. The program container and the loader's checks of it (R122, R123, R131-R133, R138-R143, R146, R501): parsing
at an address, the structural checks in the order of R146, and the footprint checks. -/

namespace Sys2Proof.Machine

/-! ### Parsing -/

/-- A section table entry (R139). -/
structure Sect where
  typ : Nat
  idx : Nat
  len : Nat
  off : Nat
deriving DecidableEq, Repr

/-- A container at an address, under the window sizes and PARAM words of its job. -/
structure Cont where
  base   : Nat
  total  : Nat
  count  : Nat
  tabOff : Nat
  sects  : List Sect
  sub    : JobSub
deriving DecidableEq, Repr

/-- Reads the header and the section table. -/
def readCont (s : State) (sub : JobSub) : Cont :=
  let a := sub.addr
  let n := s.fabLe (a + 0x10) 4
  let o := s.fabLe (a + 0x14) 4
  { base := a, total := s.fabLe (a + 8) 8, count := n, tabOff := o, sub := sub
    sects := if n ≤ 4096 then (List.range n).map fun i =>
        let e := a + o + 16 * i
        ⟨s.fabLe e 2, s.fabLe (e + 2) 2, s.fabLe (e + 4) 4, s.fabLe (e + 8) 8⟩
      else [] }

/-- The section of a type that applies to logical core `l`: its own before the shared one (R139). -/
def Cont.table (c : Cont) (typ l : Nat) : Option Sect :=
  match c.sects.find? (fun x => x.typ = typ && x.idx = l) with
  | some x => some x
  | none => c.sects.find? fun x => x.typ = typ && x.idx = 0xFFFF

/-- The entry size of a section type. -/
def entrySize (typ : Nat) : Nat := [1, 64, 64, 16, 128, 64, 16, 4, 4, 32, 32, 4, 8, 1].getD typ 1

/-- The number of entries of a table for a core. -/
def Cont.entries (c : Cont) (typ l : Nat) : Nat :=
  match c.table typ l with
  | some x => x.len / entrySize typ
  | none => 0

/-- Entry `i` of a table for a core. -/
def Cont.entry (c : Cont) (s : State) (typ l i : Nat) : Nat :=
  match c.table typ l with
  | some x => s.fabLe (c.base + x.off + i * entrySize typ) (entrySize typ)
  | none => 0

/-- The logical indices with a stream, ascending. -/
def Cont.parts (c : Cont) : List Nat := (List.range 32).filter fun l => c.sects.any fun x => x.typ = 3 && x.idx = l

/-- The physical core bound to a logical index (R141). -/
def Cont.phys (c : Cont) (s : State) (l : Nat) : Nat :=
  match c.table 2 0xFFFF with
  | some x => s.fabLe (c.base + x.off + l) 1
  | none => 0xFF

/-- The entries of the tensor map. -/
def Cont.tensors (c : Cont) (s : State) : List (BitVec 512) :=
  (List.range (c.entries 5 0xFFFF)).map fun i => BitVec.ofNat 512 (c.entry s 5 0xFFFF i)

/-- A field of the FOOTPRINT (R140). -/
def Cont.foot (c : Cont) (s : State) (off n : Nat) : Nat :=
  match c.table 1 0xFFFF with
  | some x => s.fabLe (c.base + x.off + off) n
  | none => 0

/-- The count of a LOOP_COUNTS entry, after PARAM has replaced entries 0-3 (R242). -/
def Cont.loopCount (c : Cont) (s : State) (l i : Nat) : Nat :=
  match c.sub.params[i]? with
  | some w => w.toNat
  | none => c.entry s 11 l i

/-- The bundles of a core. -/
def Cont.bundles (c : Cont) (s : State) (l : Nat) : List Nat :=
  (List.range (c.entries 3 l)).map fun i => c.entry s 3 l i

/-! ### Layout (R131-R133, R139, R141, R142, R501) -/

/-- The number of entries a section of a type may hold (R139). -/
def maxEntries (typ : Nat) : Nat :=
  match typ with
  | 1 => 1
  | 2 => 1
  | 7 => 8
  | 8 => 512
  | 10 => 4096
  | 12 => 512
  | 13 => 33554432
  | _ => 0x100000000

/-- The number of entries a section of a type must hold. -/
def minEntries (typ : Nat) : Nat :=
  match typ with
  | 1 => 1
  | 2 => 1
  | 9 => 8
  | _ => 0

/-- Whether a section index suits its type: shared only, per core only, or either (R139). -/
def indexOk (typ idx : Nat) : Bool :=
  if [1, 2, 5, 6, 12].contains typ then idx = 0xFFFF
  else if typ = 3 || typ = 13 then idx < 32
  else idx < 32 || idx = 0xFFFF

/-- One section by itself. -/
def sectOk (c : Cont) (x : Sect) : Bool :=
  1 ≤ x.typ && x.typ ≤ 13 && indexOk x.typ x.idx && x.off % 64 = 0 && x.off + x.len ≤ c.total &&
    x.len % entrySize x.typ = 0 && minEntries x.typ ≤ x.len / entrySize x.typ &&
    x.len / entrySize x.typ ≤ maxEntries x.typ && (x.idx = 0xFFFF || c.parts.contains x.idx)

/-- Two sections neither overlap nor share type and index. -/
def sectsApart (x y : Sect) : Bool :=
  !(x.typ = y.typ && x.idx = y.idx) && (x.len = 0 || y.len = 0 || x.off + x.len ≤ y.off || y.off + y.len ≤ x.off)

/-- Every pair of a list meets `p`. -/
def allPairs {α : Type} (p : α → α → Bool) : List α → Bool
  | [] => true
  | x :: t => t.all (p x) && allPairs p t

/-- The section table (R138, R139) and the agreement of streams with CORE_MAP (R141). -/
def sectsOk (s : State) (c : Cont) : Bool :=
  3 ≤ c.count && c.count ≤ 4096 && c.tabOff % 64 = 0 && c.tabOff + 16 * c.count ≤ c.total &&
    c.sects.all (sectOk c) && allPairs sectsApart c.sects &&
    [1, 2, 5].all (fun t => c.sects.any (·.typ = t)) &&
    (List.range 32).all fun l => c.parts.contains l = (c.phys s l != 0xFF)

/-- One side of a descriptor stays inside its space (R131, R132). -/
def sideOk (c : Cont) (w rows rowBytes stride : Nat) : Bool :=
  let core := w / 2 ^ 56 % 64
  let last := w % 2 ^ 56 + (rows - 1) * stride + rowBytes
  match w / 2 ^ 62 with
  | 0 => (core = 0x3F || c.parts.contains core) && last ≤ sramSize
  | 1 => last ≤ c.sub.nsize
  | 2 => last ≤ c.sub.bsize
  | _ => false

/-- A DMA descriptor. -/
def descOk (c : Cont) (n : Nat) : Bool :=
  let d := BitVec.ofNat 256 n
  descRowBytes d % 64 = 0 && 1 ≤ descRows d &&
    sideOk c (descSrc d) (descRows d) (descRowBytes d) (descSrcStride d) &&
    sideOk c (descDst d) (descRows d) (descRowBytes d) (descDstStride d)

/-- A RED_TABLE entry: contributors and root have streams; a quadrant mask lies in one quadrant (R133). -/
def redOk (c : Cont) (n : Nat) : Bool :=
  let e := BitVec.ofNat 64 n
  let ms := (List.range 32).filter fun l => redMask e / 2 ^ l % 2 = 1
  ms.all (fun l => c.parts.contains l) && c.parts.contains (redRoot e) &&
    (redChip e || ms.all fun l => ms.all fun k => l / 8 = k / 8)

/-- A tensor map entry with a scale plane: a scaled format, whole blocks (R142). -/
def tensorOk (t : BitVec 512) : Bool :=
  tensorField t 5 1 != 1 ||
    match tensorField t 3 1 with
    | 8 => false
    | 9 => false
    | 10 => false
    | f =>
      match scaledOf f with
      | some g => tensorField t 16 8 % scaledBytes g = 0
      | none => true

/-- The table entries a bundle names exist, and a RED names a reduction of its core (R133, R501). -/
def refsOk (s : State) (c : Cont) (l b : Nat) : Bool :=
  let dop := bf b 127 125
  let mop := bf b 43 40
  let imm := bf b 30 16
  (dop = 0 || 3 < dop || bf b 124 122 < c.entries 7 l) &&
    (match mop with
      | 0xC => imm % 4096 < c.entries 10 l
      | 0xD => imm % 512 < c.entries 12 0xFFFF && c.entry s 12 0xFFFF (imm % 512) / 2 ^ l % 2 = 1
      | 0xB => imm < c.entries 4 l
      | 0xA => imm < c.entries 9 l
      | 0x9 => imm / 64 < c.entries 8 l
      | _ => true) &&
    (bf b 15 12 != 2 || bf b 11 0 < c.entries 11 l)

/-- Code LAYOUT's checks. -/
def layoutOk (s : State) (c : Cont) : Bool :=
  sectsOk s c &&
    c.parts.all (fun l => (List.range (c.entries 10 l)).all fun i => descOk c (c.entry s 10 l i)) &&
    (List.range (c.entries 12 0xFFFF)).all (fun i => redOk c (c.entry s 12 0xFFFF i)) &&
    (c.tensors s).all tensorOk && allPairs (fun x y => tensorField x 0 2 != tensorField y 0 2) (c.tensors s) &&
    c.parts.all fun l => (c.bundles s l).all (refsOk s c l)

/-- Codes 0x01-0x04, the first that fails; 0 for none. -/
def structCode (s : State) (sub : JobSub) : Nat :=
  let c := readCont s sub
  if s.fabLe sub.addr 4 != 0x504D524B then 1
  else if s.fabLe (sub.addr + 4) 2 != 1 then 2
  else if s.fabLe (sub.addr + 0x18) 1 != 9 then 3
  else if !(layoutOk s c) then 4
  else 0

/-! ### Formats, bundles and loops (R69, R74, R122, R123, R143) -/

/-- Whether a format code is defined (R69). -/
def fmtDefined (f : Nat) : Bool := f ≤ 5 || (8 ≤ f && f ≤ 10)

/-- The format codes a bundle's vector and move slots name. -/
def fmtUses (b : Nat) : List Nat :=
  let vop := bf b 75 70
  let mop := bf b 43 40
  (if vop = 0x1C || vop = 0x1D then [bf b 48 45] else []) ++ (if 3 ≤ mop && mop ≤ 6 then [bf b 19 16] else [])

/-- Whether a format code is scaled. -/
def isScaled (f : Nat) : Bool := f ≤ 5
/-- Whether a format code is BF16 or binary16. -/
def isHalf (f : Nat) : Bool := f = 8 || f = 9

/-- The pair of an FMT_TABLE entry. -/
def pairOf (n : Nat) : Nat × Nat := (n % 16, n / 16 % 16)

/-- Every FMT_TABLE entry of the container. -/
def Cont.allPairs (c : Cont) (s : State) : List (Nat × Nat) :=
  (c.sects.filter (·.typ = 7)).flatMap fun x =>
    (List.range (x.len / 4)).map fun i => pairOf (s.fabLe (c.base + x.off + 4 * i) 4)

/-- Whether a DPU operation permits a pair (R74, R117). -/
def pairPermits (dop : Nat) (p : Nat × Nat) : Bool :=
  match dop with
  | 1 => isScaled p.1 && isScaled p.2
  | 2 => 2 ≤ p.1 && p.1 ≤ 4 && 2 ≤ p.2 && p.2 ≤ 4
  | _ => isHalf p.1 && isHalf p.2

/-- One bundle, with the one after it (R123): its slots decode, and what they are suits each other. -/
def bundleOk (s : State) (c : Cont) (l b next : Nat) : Bool :=
  let dop := bf b 127 125
  let aop := bf b 87 86
  let vacc := bf b 75 70 = 0x1E
  (decodeBundle 0 (BitVec.ofNat 128 b)).isSome &&
    (dop = 0 || (!vacc && pairPermits dop (pairOf (c.entry s 7 l (bf b 124 122))))) &&
    (aop = 0 || dop != 0 || vacc) && !(vacc && aop = 0) &&
    (dop != 3 || (bf next 127 125 = 0 && bf next 119 118 = 0 && bf next 103 102 = 0))

/-- A stream's bundles in turn. -/
def bundlesOk (s : State) (c : Cont) (l : Nat) : List Nat → Bool
  | [] => true
  | [b] => bundleOk s c l b 0
  | b :: n :: t => bundleOk s c l b n && bundlesOk s c l (n :: t)

/-- Loops of a stream: depth at most 8, every ENDL closes one, none open at END (R122), no count of zero (R501). -/
def loopsOk (s : State) (c : Cont) (l depth : Nat) : List Nat → Bool
  | [] => true
  | b :: t =>
    match bf b 15 12 with
    | 1 => depth < 8 && loopsOk s c l (depth + 1) t
    | 2 => depth < 8 && c.loopCount s l (bf b 11 0) != 0 && loopsOk s c l (depth + 1) t
    | 3 => 0 < depth && loopsOk s c l (depth - 1) t
    | 9 => depth = 0 && loopsOk s c l depth t
    | _ => loopsOk s c l depth t

/-- Codes 0x10-0x13, the first that fails; 0 for none. -/
def formatCode (s : State) (sub : JobSub) : Nat :=
  let c := readCont s sub
  let ps := c.allPairs s
  if !(ps.all (fun p => fmtDefined p.1 && fmtDefined p.2) &&
      (c.tensors s).all (fun t => fmtDefined (tensorField t 3 1)) &&
      c.parts.all fun l => (c.bundles s l).all fun b => (fmtUses b).all fmtDefined) then 0x10
  else if !(ps.all fun p => (isScaled p.1 && isScaled p.2) || (isHalf p.1 && isHalf p.2)) then 0x11
  else if !(c.parts.all fun l =>
      let bs := c.bundles s l
      bs.length ≤ 16384 && bs.any (fun b => bf b 15 12 = 9) && bundlesOk s c l bs) then 0x12
  else if !(c.parts.all fun l => loopsOk s c l 0 (c.bundles s l)) then 0x13
  else 0

/-! ### The footprint (R146) -/

/-- The physical core that holds a logical slot, 0xF for none. -/
def State.slotCore (s : State) (l : Nat) : Nat :=
  let n := (s.rd (pKRMQUAD (l / 8) + 0x100)).toNat / 2 ^ (4 * (l % 8)) % 16
  if n = 15 then 0xFF else 9 * (l / 8) + n

/-- Bytes over a limit. -/
def excess (n limit : Nat) : Nat := n - limit

/-- The footprint checks, all run: code, shortfall and mask bit of each that fails, in order. -/
def footFails (s : State) (sub : JobSub) (free : Nat) : List (Nat × Nat × Nat) :=
  let c := readCont s sub
  let miss := (c.parts.filter fun l => s.slotCore l != c.phys s l).length
  [(0x20, excess (c.foot s 0 4) sramSize, 0),
   (0x21, excess (c.foot s 4 2) (s.fget pGEN GEN_FAMILY_ACT_CORES), 1),
   (0x22, miss, 2),
   (0x23, excess (c.foot s 8 8) sub.nsize, 3),
   (0x24, excess (c.foot s 0x10 8) sub.bsize, 4),
   (0x25, excess (c.foot s 0x18 8) free, 5)].filter fun f => f.2.1 != 0

/-- The whole check of a head entry: code, shortfall and mask; code 0 for a container that passes (R146). -/
def loadCheck (s : State) (sub : JobSub) (free : Nat) : Nat × Nat × Nat :=
  let c := readCont s sub
  let st := structCode s sub
  if st != 0 then (st, 0, 0)
  else if s.fabPoison sub.addr c.total then (5, 0, 0)
  else
    let fc := formatCode s sub
    if fc != 0 then (fc, 0, 0)
    else
      let mc := c.foot s 0x20 4
      if mc > 16777216 then (0x14, mc - 16777216, 0)
      else if s.fabLe (sub.addr + 0x19) 1 % 2 = 1 && !(s.flag pGEN GEN_MODE_STRICT_ACT) then (0x15, 0, 0)
      else
        match footFails s sub free with
        | [] => (0, 0, 0)
        | f :: t => (f.1, f.2.1, (f :: t).foldl (fun m x => m + 2 ^ x.2.2) 0)

end Sys2Proof.Machine
end

