-- ==== Sys2Proof/Machine/Journal.lean ====
section
/-! DEFINITION. The replay journal (R258-R263): segments and entries in the bulk tier, sealing, pinning, and the commands
JOURNAL_ENABLE, JOURNAL_DISABLE, SEGMENT_SEAL, PIN, UNPIN. -/

namespace Sys2Proof.Machine

/-- Bytes of a segment. -/
def segSize : Nat := 0x40000000

/-- The address of journal slot `i`. -/
def State.segAddr (s : State) (i : Nat) : Nat := s.pget pJRN JRN_BASE + i * segSize

/-- The open slot. -/
def State.segOpen (s : State) : Nat := s.fget pJRN JRN_OPEN

/-- Whether the journal is on. -/
def State.jrnOn (s : State) : Bool := s.flag pJRN JRN_CTRL_EN

/-- Free journal space (R261). -/
def State.jrnFree (s : State) : Nat :=
  if s.jrnOn then
    let slots := (List.range (s.fget pJRN JRN_SEGS)).filter fun i =>
      !(s.jrn.pins.contains i) && !(s.jrn.isOpen && i = s.segOpen)
    (if s.jrn.isOpen then segSize - s.jrn.used else 0) + slots.length * (segSize - 128)
  else 0

/-- Shows the free space in JRN_FREE. -/
def State.showFree (s : State) : State := s.pset pJRN JRN_FREE s.jrnFree

/-- A write of the journal into its ring. -/
def State.jrnWrite (s : State) (a : Nat) (bs : List Byte) : State := s.fabWrite a bs false

/-- Opens slot `i` (R259, R263). -/
def State.openSeg (s : State) (i : Nat) : State :=
  let n := s.pget pJRN JRN_USE_NO + 1
  let s := (s.fset pJRN JRN_OPEN i).pset pJRN JRN_USE_NO n
  let s := { s with jrn.isOpen := true, jrn.used := 0x80, jrn.entries := 0 }
  let s := s.jrnWrite (s.segAddr i) (natLe 4 0x4745534A ++ natLe 2 1 ++ [1, 0] ++ natLe 8 n ++ List.replicate 112 0)
  (s.fset pJRN JRN_STAT_FULL 0).showFree

/-- The next slot after the last open one, ascending and wrapping, that is not pinned (R260). -/
def State.nextSeg (s : State) : Option Nat :=
  let n := s.fget pJRN JRN_SEGS
  ((List.range n).map fun i => (s.segOpen + 1 + i) % n).find? fun i => !(s.jrn.pins.contains i)

/-- Opens the next slot, or sets FULL where none is left (R260). -/
def State.openNext (s : State) : State :=
  match s.nextSeg with
  | some i => s.openSeg i
  | none =>
    if s.flag pJRN JRN_STAT_FULL then s.showFree
    else ((s.fset pJRN JRN_STAT_FULL 1).raise pJRN 4).showFree

/-- Records a pin of slot `i` (R262). -/
def State.setPin (s : State) (i : Nat) : State :=
  let s := { s with jrn.pins := setAdd s.jrn.pins i }
  ((s.fset pJRN JRN_PINNED s.jrn.pins.length).jrnWrite (s.segAddr i + 7) [1]).showFree

/-- Clears a pin of slot `i` (R262). -/
def State.clearPin (s : State) (i : Nat) : State :=
  let s := { s with jrn.pins := setDel s.jrn.pins i }
  (((s.fset pJRN JRN_PINNED s.jrn.pins.length).jrnWrite (s.segAddr i + 7) [0]).fset pJRN JRN_STAT_FULL 0).showFree

/-- Seals the open segment and applies a pending pin (R259, R262, R263). -/
def State.sealSeg (s : State) : State :=
  if !s.jrn.isOpen then s
  else
    let i := s.segOpen
    let a := s.segAddr i
    let d := shake256 (ascii "FX9-JSEG" ++ s.fabBytes (a + 0x80) (s.jrn.used - 0x80))
    let s := s.jrnWrite (a + 6) [2]
    let s := s.jrnWrite (a + 0x18) (natLe 8 s.jrn.lastTick.toNat ++ natLe 4 s.jrn.entries ++ natLe 4 s.jrn.used)
    let s := s.jrnWrite (a + 0x40) d
    let s := { s with jrn.isOpen := false, jrn.sealPend := false }
    let s := if s.flag pJRN JRN_STAT_PIN_PEND then (s.fset pJRN JRN_STAT_PIN_PEND 0).setPin i else s
    (s.raise pJRN 3).showFree

/-- Adds the entry with header bytes 0x00-0x1F `head` and bytes from 0x40 `body`, `elen` bytes in all, at the end of the
open segment. -/
def State.addEntry (s : State) (head body : List Byte) (elen : Nat) : State :=
  let a := s.segAddr s.segOpen + s.jrn.used
  let pad := List.replicate (elen - 0x40 - body.length) (0 : Byte)
  let d := shake256 (ascii "FX9-JENT" ++ head ++ body ++ pad)
  let s := if s.jrn.entries = 0 then s.jrnWrite (s.segAddr s.segOpen + 0x10) (natLe 8 s.tick.toNat) else s
  let s := (s.zeroRange a elen).jrnWrite a (head ++ d ++ body)
  { s with jrn.used := s.jrn.used + elen, jrn.entries := s.jrn.entries + 1, jrn.lastTick := s.tick }.showFree

/-- The first 32 bytes of an entry (R259). -/
def entryHead (elen kind flags queue inBytes seq : Nat) (tick : DWord) : List Byte :=
  natLe 4 elen ++ natLe 1 kind ++ natLe 1 flags ++ [0, 0] ++ natLe 4 queue ++ natLe 4 inBytes ++ natLe 8 seq ++
    natLe 8 tick.toNat

/-- A multiple of 64 from `n` up. -/
def up64 (n : Nat) : Nat := (n + 63) / 64 * 64

/-- Makes room for `elen` bytes: pads and seals the open segment and opens the next (R260). -/
def State.makeRoom (s : State) (elen : Nat) : State :=
  if !s.jrn.isOpen then s.openNext
  else if s.jrn.used + elen ≤ segSize then s
  else
    let rem := segSize - s.jrn.used
    let s := if rem = 0 then s else s.addEntry (entryHead rem 0xFF 0 0 0 0 s.tick) [] rem
    s.sealSeg.openNext

/-- Appends an entry (R259, R260): whether it was written. -/
def State.journal (s : State) (kind flags queue seq : Nat) (record input : List Byte) : Bool × State :=
  let elen := up64 (0xC0 + input.length)
  if !s.jrnOn || 0x80 + elen > segSize then (false, s)
  else
    let s := s.makeRoom elen
    if !s.jrn.isOpen then (false, s)
    else (true, s.addEntry (entryHead elen kind flags queue input.length seq s.tick)
      (record ++ List.replicate (128 - record.length) 0 ++ input) elen)

/-- A receipt was not journaled (R260). -/
def State.jrnFailed (s : State) : State := (s.count pJRN JRN_FAIL_CNT).raise pJRN 5

/-- A rise of JRN_CTRL.EN (R263). -/
def jrnRise (s : State) : State :=
  let s := if s.jrn.sealPend then s.sealSeg else s
  if s.jrn.firstRise then
    { s with jrn.firstRise := false, jrn.relaid := false }.openSeg 0
  else if s.jrn.relaid then
    ({ s with jrn.relaid := false, jrn.pins := [] }.fset pJRN JRN_PINNED 0).openSeg 0
  else s.openNext

/-- A fall of JRN_CTRL.EN: the open segment awaits its seal (R263). -/
def jrnFall (s : State) : State := { s with jrn.sealPend := s.jrn.isOpen, jrn.relaid := false }.showFree

/-- What a write of JRN_CTRL does, `was` being EN before it. -/
def jrnCtrl (was : Bool) (s : State) : State :=
  if s.jrnOn && !was then jrnRise s else if !s.jrnOn && was then jrnFall s else s

/-- PIN or UNPIN of a slot (R262). -/
def jrnPin (cls : Cls) (op slot : Nat) (s : State) : State :=
  let bad := s.latch pJRN 0x0102 (clsCode cls) 0x120
  let isOpen := s.jrn.isOpen && s.segOpen = slot
  let pend := isOpen && s.flag pJRN JRN_STAT_PIN_PEND
  let pinned := s.jrn.pins.contains slot
  if op != 1 && op != 2 then s
  else if slot ≥ s.fget pJRN JRN_SEGS then bad
  else if op = 1 then
    if pinned || pend then bad
    else if isOpen then s.fset pJRN JRN_STAT_PIN_PEND 1
    else if s.fabByte (s.segAddr slot + 6) = 2 then s.setPin slot
    else bad
  else if pend then s.fset pJRN JRN_STAT_PIN_PEND 0
  else if pinned then s.clearPin slot
  else bad

/-- JOURNAL_ENABLE (R263). -/
def execJournalEnable (cls : Cls) (s : State) : Res :=
  .next (writeThen s cls (pJRN + 0x100) 1 (jrnCtrl s.jrnOn))

/-- JOURNAL_DISABLE (R263). -/
def execJournalDisable (cls : Cls) (s : State) : Res :=
  .next (writeThen s cls (pJRN + 0x100) 0 (jrnCtrl s.jrnOn))

/-- SEGMENT_SEAL (R263): the open segment is sealed within 1 ms of a fall of EN. -/
def execSegmentSeal (s : State) : Res := .next (if s.jrn.sealPend then s.sealSeg else s)

/-- PIN (R262). -/
def execPin (cls : Cls) (slot : BitVec 10) (s : State) : Res :=
  .next (writeThen s cls (pJRN + 0x120) (0x10000 + slot.toNat) (jrnPin cls 1 slot.toNat))

/-- UNPIN (R262). -/
def execUnpin (cls : Cls) (slot : BitVec 10) (s : State) : Res :=
  .next (writeThen s cls (pJRN + 0x120) (0x20000 + slot.toNat) (jrnPin cls 2 slot.toNat))

end Sys2Proof.Machine
end

