-- ==== Sys2Proof/Machine/Digest.lean ====
section
/-! DEFINITION. Digests, digest records and attestation batches (R248-R257), and the commands OUTPUT_DIGEST,
DIGEST_RECORD_WRITE, BATCH_CLOSE, BATCH_TIMEOUT, BATCH_SIGN. -/

namespace Sys2Proof.Machine

/-! ### Images (R248) -/

/-- Inserts a tensor by ascending TENSOR_ID. -/
def insertTensor (t : BitVec 512) : List (BitVec 512) → List (BitVec 512)
  | [] => [t]
  | u :: r => if tensorField t 0 2 < tensorField u 0 2 then t :: u :: r else u :: insertTensor t r

/-- The address ranges of the image of one ROLE. -/
def imageRanges (j : Job) (role : Nat) : List (Nat × Nat) :=
  let ts := (j.tensors.filter fun t => tensorField t 2 1 = role).foldl (fun l t => insertTensor t l) []
  ts.flatMap fun t => (tensorCores j t).flatMap fun p =>
    (tensorBase j.sub t p (tensorField t 8 8), tensorField t 16 8) ::
      (if tensorField t 5 1 = 1 then
        [(tensorBase j.sub t p (tensorField t 24 8), scaleLen (tensorField t 3 1) (tensorField t 16 8))] else [])

/-- The bytes of a list of ranges. -/
def State.rangeBytes (s : State) (rs : List (Nat × Nat)) : List Byte := rs.flatMap fun r => s.fabBytes r.1 r.2

/-- What reading a list of ranges records and finds. -/
def State.rangeSee (s : State) (rs : List (Nat × Nat)) : State := rs.foldl (fun s r => s.noteAccess r.1 r.2) s

/-- Whether any byte of a list of ranges is poisoned. -/
def State.rangePoison (s : State) (rs : List (Nat × Nat)) : Bool := rs.any fun r => s.fabPoison r.1 r.2

/-- The bytes of a list of ranges together. -/
def rangeLen (rs : List (Nat × Nat)) : Nat := rs.foldl (fun n r => n + r.2) 0

/-! ### Digests (R249, R252) -/

/-- PROGRAM of the container at `a`. -/
def State.programDigest (s : State) (a : Nat) : List Byte :=
  shake256 (ascii "FX9-PROG" ++ s.fabBytes a (s.fabLe (a + 8) 8))

/-- Leaves of 1 MiB; `fuel` bounds their number. -/
def weightLeaves (i : Nat) (img : List Byte) : Nat → List (List Byte)
  | 0 => []
  | fuel + 1 =>
    if img = [] then []
    else shake256 (ascii "FX9-WCHK" ++ [0] ++ natLe 8 i ++ img.take 1048576) :: weightLeaves (i + 1) (img.drop 1048576) fuel

/-- One level of a Merkle tree under a domain string. -/
def merkleLevel (dom : List Byte) : List (List Byte) → List (List Byte)
  | [] => []
  | [x] => [x]
  | x :: y :: t => shake256 (dom ++ x ++ y) :: merkleLevel dom t

/-- Levels repeat until one node remains. -/
def merkleRoot (dom : List Byte) : Nat → List (List Byte) → List Byte
  | 0, l => l.headD []
  | fuel + 1, l => if l.length ≤ 1 then l.headD (List.replicate 32 0) else merkleRoot dom fuel (merkleLevel dom l)

/-- WEIGHTS of a weight image. -/
def weightsDigest (img : List Byte) : List Byte :=
  let t := merkleRoot (ascii "FX9-WCHK" ++ [1]) 64 (weightLeaves 0 img (img.length / 1048576 + 1))
  shake256 (ascii "FX9-WCHK" ++ [3] ++ natLe 8 img.length ++ t)

/-- INPUT of an input image and the PARAM bytes. -/
def inputDigest (img param : List Byte) : List Byte := shake256 (ascii "FX9-INPT" ++ img ++ param)

/-- OUTPUT of an output image. -/
def outputImageDigest (img : List Byte) : List Byte := shake256 (ascii "FX9-OUTP" ++ img)

/-- The configuration word of a job (R250). -/
def State.cfgWord (s : State) (j : Job) : Nat :=
  9 * 2 ^ 56 + bit j.fastUsed * 2 ^ 49 + bit j.strict * 2 ^ 48 + s.fuses.stepLtr.toNat * 2 ^ 44 +
    s.fuses.stepNum.toNat * 2 ^ 40 + j.actMap.toNat % 2 ^ 36

/-- RESULT of a job (R249). -/
def State.resultDigest (s : State) (j : Job) : List Byte :=
  shake256 (ascii "FX9-RSLT" ++ j.progDigest ++ j.weightDigest ++ j.inputDigest ++ j.outputDigest ++ natLe 8 (s.cfgWord j))

/-! ### Batches (R254, R255) -/

/-- Shows the open batch and the closed ones in the page. -/
def State.showBatch (s : State) : State :=
  let s := s.fset pDGT DGT_BATCH_LEAVES s.dgt.openB.leaves.length
  let s := s.pset pDGT DGT_BATCH_NO s.dgt.openB.no
  s.fset pDGT DGT_STAT_CLOSED_WAIT s.dgt.closed.length

/-- Closes the open batch; one with no leaf stays open. -/
def State.closeBatch (s : State) : State :=
  if s.dgt.openB.leaves = [] then s
  else
    { s with
      dgt.closed := s.dgt.closed ++ [{ s.dgt.openB with closeTick := s.tick }]
      dgt.openB := { no := s.dgt.openB.no + 1 } }.showBatch

/-- A DIGESTED record's place: its batch and leaf, or none while eight closed batches wait (R254). -/
def State.takeLeaf (s : State) (result : List Byte) (endTick : DWord) : Option (Nat × Nat) × State :=
  if !s.flag pDGT DGT_CTRL_BATCH_EN then (none, s)
  else if 8 ≤ s.dgt.closed.length then (none, (s.count pDGT DGT_UNBATCHED).raise pDGT 6)
  else
    let b := s.dgt.openB
    let n := b.leaves.length
    let b' := { b with leaves := b.leaves ++ [result], firstTick := if n = 0 then endTick else b.firstTick }
    let s := { s with dgt.openB := b' }.showBatch
    (some (b.no, n), if n + 1 = 65536 then s.closeBatch else s)

/-! ### Digest records (R253) -/

/-- Whether the digest ring is full. -/
def State.ringFull (s : State) : Bool :=
  (s.fget pDGT DGT_RING_WR + 0x100000000 - s.fget pDGT DGT_RING_RD) % 0x100000000 =
    2 ^ s.fget pDGT DGT_RING_CTRL_LOG2_ENTRIES

/-- Makes the digest record of a job that has ended; it waits for room in the ring. `status`: 0 DIGESTED, 1 POISONED, 2
NOT_DIGESTED. -/
def State.makeRecord (s : State) (j : Job) (status : Nat) : State :=
  let res := s.resultDigest j
  let q := if status = 0 then s.takeLeaf res j.endTick else (none, s)
  let z := List.replicate 32 (0 : Byte)
  let d (x : List Byte) : List Byte := if status = 0 then x else z
  let place := match q.1 with
    | some p => natLe 4 p.1 ++ natLe 4 p.2
    | none => natLe 4 0xFFFFFFFF ++ natLe 4 0
  let rec' := natLe 4 j.sub.jobId.toNat ++ natLe 1 (bit j.sub.witness) ++ natLe 1 status ++
    natLe 2 (bit j.wcached + 2 * bit q.1.isSome) ++ natLe 8 (s.cfgWord j) ++ d j.progDigest ++ d j.weightDigest ++
    d j.inputDigest ++ d j.outputDigest ++ d res ++ place ++ natLe 8 j.endTick.toNat
  let s := if q.2.ringFull then q.2.raise pDGT 5 else q.2
  { s with dgt.held := s.dgt.held ++ [rec'] }

/-- Whether the job that ended writes a digest record. -/
def State.wantsRecord (s : State) (j : Job) : Bool :=
  j.digest && (!j.sub.witness || s.flag pWIT WIT_CTRL_BATCH_WIT)

/-- OUTPUT_DIGEST (R251): after a digested job ends COMPLETE its OUTPUT and RESULT digests are made; a poisoned byte bites
and leaves none. -/
def execOutputDigest (s : State) : Res :=
  match s.krm.lastDone with
  | none => .next s
  | some j =>
    if j.status != 0 || !j.digest || j.digDone then .next s
    else
      let rs := imageRanges j 3
      let s := s.rangeSee rs
      let bad := s.rangePoison rs
      let s := if bad then s.bite else s
      let j := { j with
        digDone := true, digPoison := j.digPoison || bad
        outputDigest := if bad then [] else outputImageDigest (s.rangeBytes rs) }
      let s := if s.wantsRecord j then s.makeRecord j (if j.digPoison then 1 else 0) else s
      .next { s with krm.lastDone := if j.sub.witness then some j else none }

/-- DIGEST_RECORD_WRITE (R253): a record held is written once the ring has room. -/
def execDigestRecordWrite (s : State) : Res :=
  match s.dgt.held with
  | [] => .next s
  | r :: t =>
    if s.ringFull then .next s
    else
      let wr := s.fget pDGT DGT_RING_WR
      let a := s.pget pDGT DGT_RING_BASE + 192 * (wr % 2 ^ s.fget pDGT DGT_RING_CTRL_LOG2_ENTRIES)
      let s := { (s.fabWrite a r false) with dgt.held := t }
      .next ((s.fset pDGT DGT_RING_WR (wr + 1)).raise pDGT 3)

/-- What a write of DGT_BATCH_CLOSE does. -/
def batchCloseAct (v : Nat) (s : State) : State := if v % 2 = 1 then s.closeBatch else s

/-- BATCH_CLOSE (R254). -/
def execBatchClose (cls : Cls) (s : State) : Res := .next (writeThen s cls (pDGT + 0x120) 1 (batchCloseAct 1))

/-- BATCH_TIMEOUT (R254): DGT_BATCH_TIMEOUT ms after the first leaf. -/
def execBatchTimeout (s : State) : Res :=
  .next (if s.fget pDGT DGT_BATCH_TIMEOUT = 0 then s else s.closeBatch)

/-- The root of a batch (R255). -/
def batchRoot (leaves : List (List Byte)) : List Byte :=
  merkleRoot (ascii "FX9-BNOD") 20 ((leaves.zipIdx).map fun p => shake256 (ascii "FX9-BLEF" ++ natLe 4 p.2 ++ p.1))

/-- The 128-byte batch header. -/
def State.batchHeader (s : State) (b : Batch) (idx : Nat) : List Byte :=
  natLe 4 0x54414241 ++ natLe 2 1 ++ natLe 2 9893 ++ natLe 8 b.no ++ natLe 4 b.leaves.length ++ natLe 4 0 ++
    natLe 8 b.firstTick.toNat ++ natLe 8 b.closeTick.toNat ++ natLe 8 s.fuses.uid.toNat ++ batchRoot b.leaves ++
    natLe 8 idx ++ List.replicate 40 0

/-- State indices of the identity key. -/
def keyTotal : Nat := 2 ^ 40

/-- The state index moves to `n` (R257): a fuse burns where it passes a multiple of 2^30; KEY_LOW is raised as fewer than 2^30
remain, KEY_EXHAUSTED set when none does. -/
def State.setKeyIdx (s : State) (n : Nat) : State :=
  let low (i : Nat) : Bool := keyTotal < i + 2 ^ 30
  let was := low (s.pget pDGT DGT_KEY_IDX)
  let s := { s with fuses.keyCtr := max s.fuses.keyCtr (n / 2 ^ 30) }.pset pDGT DGT_KEY_IDX n
  let s := if low n && !was then s.raise pDGT 7 else s
  if keyTotal ≤ n then s.fset pDGT DGT_STAT_KEY_EXHAUSTED 1 else s

/-- Takes the next state index (R257): the end of its block of 4,096 is committed before the block's first index is used. -/
def State.useKey (s : State) : Nat × State :=
  let i := s.pget pDGT DGT_KEY_IDX
  let held := match s.keyMirror with
    | some e => decide (i < e)
    | none => false
  (i, (if held then s else s.putKeyMirror (i + 4096)).setKeyIdx (i + 1))

/-- At each start of the ledger core the index resumes at the committed end; where the mirror is unreadable, at the next
multiple of 2^30, whose fuse it burns (R257). -/
def State.resumeKey (s : State) : State :=
  match s.keyMirror with
  | some n => s.setKeyIdx n
  | none => s.setKeyIdx ((s.fuses.keyCtr + 1) * 2 ^ 30)

/-- Whether the ledger core runs (R432). -/
def State.ledgerRuns (s : State) : Bool := s.fget pFWC (FWC_CORE_STAT_STATE.nth 3 0x40) = 2

/-- Whether the batch ring is full. -/
def State.bringFull (s : State) : Bool :=
  (s.fget pDGT DGT_BRING_WR + 0x100000000 - s.fget pDGT DGT_BRING_RD) % 0x100000000 =
    2 ^ s.fget pDGT DGT_BRING_CTRL_LOG2_ENTRIES

/-- Signs the first batch of a list that has no signature. -/
def signFirst (s : State) : List Batch → State × List Batch
  | [] => (s, [])
  | b :: t =>
    match b.signed with
    | some _ => let r := signFirst s t; (r.1, b :: r.2)
    | none =>
      let k := s.useKey
      let h := s.batchHeader b k.1
      (k.2, { b with signed := some (h ++ signature s.fuses.pubKey h k.1 ++ List.replicate 219 0) } :: t)

/-- Signs the first closed batch that awaits a signature. -/
def State.signNext (s : State) : State :=
  if s.flag pDGT DGT_STAT_KEY_EXHAUSTED then s
  else
    let r := signFirst s s.dgt.closed
    { r.1 with dgt.closed := r.2 }

/-- BATCH_SIGN (R256): the ledger core signs the next closed batch; the oldest signed record goes to the batch ring when it
has room. -/
def execBatchSign (s : State) : Res :=
  if !s.ledgerRuns then .next s
  else
    let s := s.signNext
    match s.dgt.closed with
    | [] => .next s
    | b :: t =>
      match b.signed with
      | none => .next s
      | some r =>
        if s.bringFull || !s.pins.mainPwrGood then .next s
        else
          let wr := s.fget pDGT DGT_BRING_WR
          let a := s.pget pDGT DGT_BRING_BASE + 10240 * (wr % 2 ^ s.fget pDGT DGT_BRING_CTRL_LOG2_ENTRIES)
          let s := { (s.fabWrite a r false) with dgt.closed := t }
          .next (((s.fset pDGT DGT_BRING_WR (wr + 1)).showBatch).raise pDGT 4)

end Sys2Proof.Machine
end

