-- ==== Sys2Proof/Machine/Firefly.lean ====
section
/-! DEFINITION. Firefly (06_determinism_firefly.md): loading the counter, SYNC frames sent and received, holdover, the echo
calibration, TRAY_SYNC, and the loss and return of the timebase. -/

namespace Sys2Proof.Machine

/-! ### Loads and the control register -/

/-- A calibration counts as lost (R221). -/
def State.loseCal (s : State) : State := s.fset pFFY FFY_STAT_CALIBRATED 0

/-- What a write of FFY_SET_GO does (R209, R227): the load captures FFY_SET on a slot boundary. -/
def ffyGo (cls : Cls) (v : Nat) (s : State) : State :=
  if v % 2 = 1 then
    { s with ffy.load := some (clsCode cls, BitVec.ofNat 64 (s.pget pFFY FFY_SET / 1024 * 1024)) }
  else s

/-- FFY_LOAD (R209). -/
def execFfyLoad (cls : Cls) (s : State) : Res := .next (writeThen s cls (pFFY + 0x118) 1 (ffyGo cls 1))

/-- What a write of FFY_CTRL does (R220, R221), `was` being the word before it: a cleared OUT_EN or a change of ROLE loses
the calibration; ECHO_GO starts one, or latches ECHO_BUSY. -/
def ffyCtrl (cls : Cls) (was : BitVec 32) (v : Nat) (s : State) : State :=
  let out := s.flag pFFY FFY_CTRL_OUT_EN
  let s :=
    if (FFY_CTRL_OUT_EN.get was = 1 && !out) || FFY_CTRL_ROLE.get was != s.fget pFFY FFY_CTRL_ROLE then s.loseCal
    else s
  if v / 8 % 2 = 0 then s
  else if s.flag pFFY FFY_STAT_CAL_BUSY || !out then s.latch pFFY 0x0102 (clsCode cls) 0x100
  else
    { (s.fset pFFY FFY_STAT_CAL_BUSY 1) with
      ffy.echoNext := false, ffy.echoPairs := 0, ffy.echoSum := 0, ffy.echoMiss := false }

/-- ECHO_GO (R220): a write of FFY_CTRL with ECHO_GO = 1 and its other fields as they are. -/
def execEchoGo (cls : Cls) (s : State) : Res :=
  let was := s.rd (pFFY + 0x100)
  .next (writeThen s cls (pFFY + 0x100) (Nat.lor was.toNat 8) (ffyCtrl cls was 8))

/-! ### Slots (R209, R213-R215, R219, R220, R226) -/

/-- Sets the counter to a value that it had, or has, `frac` eighths of a tick from now (R209, R217). -/
def Ffy.setTime (f : Ffy) (v : DWord) (frac : Fin 8) : Ffy :=
  { f with counter := v, phase := 0 - frac, hold := if frac = 0 then 0 else 1, disc := 0x1FF }

/-- The load that a slot boundary judges, against the ROLE in effect from it (R209, R226). -/
def State.applyLoad (s : State) : State :=
  match s.ffy.load with
  | none => s
  | some (req, v) =>
    let s := { s with ffy.load := none }
    if s.ffy.role then s.latch pFFY 0x0101 req 0x118
    else (({ s with ffy := s.ffy.setTime v 0 } : State).fset pFFY FFY_STAT_VALID 1).raise pFFY 3

/-- The frame that an output sends in the slot that starts now, with an echo request and UNCAL where it carries them (R214,
R215). -/
def State.frameOf (s : State) (output : Nat) (echo uncal : Bool) : SyncFrame :=
  { tick := s.ffy.counter + 24, seq := BitVec.ofNat 8 (s.ffy.counter.toNat / 1024), hop := BitVec.ofNat 8 (s.fget pFFY FFY_STAT_HOP)
    flags := BitVec.ofNat 8 (s.fget pFFY FFY_STAT_VALID + 2 * bit (s.ffy.disc.getLsbD output) + 4 * bit echo + 8 * bit uncal) }

/-- Sends the frame of the slot that starts now on an output, early by a path delay; DISC is told once on each (R213-R215,
R217). -/
def State.sendFrame (s : State) (output early : Nat) (echo uncal : Bool) : State :=
  let t := s.emit (.sync output early s.ffy.counter (s.frameOf output echo uncal).line)
  { t with ffy.disc := s.ffy.disc &&& ~~~(1#9 <<< output) }

/-- The frames of the Silk SYNC sidebands: while MAIN is on, on every enabled port (R215, R301). -/
def State.silkFrames (s : State) : State :=
  if s.pins.mainPwrGood then
    ([0, 1, 2, 3, 4, 5, 6, 7].filter fun p => s.ffy.portEn.getLsbD p).foldl
      (fun s p => s.sendFrame p (s.ffy.pdly.getD p 0).toNat false false) s
  else s

/-- Times the reflection of an echo slot: a step at slot tick 64, accepted up to slot tick 512, in eighths of a tick. -/
def State.timeEcho (s : State) (reflection : Option Nat) : State :=
  let s := { s with ffy.echoNext := false, ffy.echoPairs := s.ffy.echoPairs + 1 }
  match reflection with
  | some t => if t ≤ 3584 then { s with ffy.echoSum := s.ffy.echoSum + t } else { s with ffy.echoMiss := true }
  | none => { s with ffy.echoMiss := true }

/-- FFY_SYNC_OUT in the slot that starts now (R219, R220, R226): an echo slot of the calibration holds it low but for the
step at slot tick 64; a slot in which an upstream echo is served pauses the calibration. -/
def State.chainFrame (s : State) (reflection : Option Nat) : State :=
  let out := s.flag pFFY FFY_CTRL_OUT_EN
  let busy := s.flag pFFY FFY_STAT_CAL_BUSY
  let uncal := busy || !s.flag pFFY FFY_STAT_CALIBRATED
  let early := s.fget pFFY FFY_CABLE_DELAY
  let asked := busy && s.ffy.echoNext
  if s.ffy.termOff then
    let t := { s with ffy.echoNext := false }
    if out && !asked then t.sendFrame 8 early false uncal else t
  else if asked then (if out then s.emit (.echoStep (s.ffy.counter + 64)) else s).timeEcho (if out then reflection else none)
  else
    let ask := busy && s.ffy.echoPairs < 64
    let t := if out then s.sendFrame 8 early ask uncal else s
    { t with ffy.echoNext := ask }

/-- What a slot boundary puts into effect: ROLE, PORT_EN and the path delays (R219, R226, R227). -/
def State.slotSettings (s : State) : State :=
  let role := s.flag pFFY FFY_CTRL_ROLE
  let t := { s with
    ffy.role := role
    ffy.portEn := BitVec.ofNat 8 (s.fget pFFY FFY_CTRL_PORT_EN)
    ffy.pdly := (List.range 8).map fun p => BitVec.ofNat 12 (s.fget pFFY (FFY_PDLY_DELAY.nth p 4)) }
  if role = s.ffy.role then t
  else
    { ((((t.fset pFFY FFY_STAT_HOP 0).fset pFFY FFY_STAT_UPSTREAM_OK 0).fset pFFY FFY_STAT_HOLDOVER 0).fset pFFY
        FFY_STAT_CHAIN_LONG 0) with
      ffy.lastTick := none, ffy.everAccepted := false, ffy.missed := 0, ffy.silent := 0, ffy.got := false
      ffy.gotSync := false, ffy.heard := false }

/-- Moves the phase of the counter by eighths of a tick: it waits a tick where it would run backwards, and passes the tick
that comes early (R217). -/
def Ffy.slewBy (f : Ffy) (d : Int) : Ffy :=
  let p := (f.phase.val : Int) + d
  let g := { f with phase := Fin.ofNat 8 (p % 8).toNat }
  if p < 0 then { g with hold := f.hold + 1 }
  else if p < 8 then g
  else if f.hold = 0 then { g with counter := f.counter + 1 }
  else { g with hold := f.hold - 1 }

/-- What a follower makes of the slot that ends: slots without an accepted frame, echo slots apart, and slots without one
that counts, of which 32 end the synchronisation; in holdover the last correction goes on (R216, R218). -/
def State.slotEnds (s : State) : State :=
  if !s.ffy.role then s
  else
    let missed := if s.ffy.gotSync then 0 else s.ffy.missed + 1
    let t := { s with
      ffy.heard := s.ffy.got, ffy.got := false, ffy.gotSync := false, ffy.missed := missed
      ffy.silent := if s.ffy.got then 0 else if s.ffy.termOff then s.ffy.silent else s.ffy.silent + 1 }
    let t := if s.flag pFFY FFY_STAT_HOLDOVER then { t with ffy := t.ffy.slewBy s.ffy.slew } else t
    if 32 ≤ missed then { (t.fset pFFY FFY_STAT_UPSTREAM_OK 0) with ffy.lastTick := none } else t

/-- FRAME_SLOT (R213): the counter reaches a multiple of 1,024; settings take effect, a load is judged, and the frame goes
out on every enabled output. -/
def execFrameSlot (reflection : Option Nat) (s : State) : Res :=
  if !s.flag pFFY FFY_STAT_LOCKED then .next s
  else
    let s := (((s.slotEnds.advance (s.slotEnds.untilBoundary 1024 s.ffy.slotAt)).slotSettings).applyLoad)
    let s := { s with ffy.termOff := s.ffy.echoServe, ffy.echoServe := false }
    let s := s.silkFrames.chainFrame reflection
    .next { s with ffy.slotAt := some s.ffy.counter }

/-- Half the mean round trip of 64 pairs less the pad delay, to the nearest eighth of a tick; between two, and below zero,
the spec names no value (log 1). -/
def State.cableDelay (s : State) : Nat × State :=
  let n := s.ffy.echoSum
  let pad := s.fuses.padDelay
  if n < 128 * pad && !(64 ≤ n % 128 && n / 128 + 1 = pad) then (s.freeWord.1.toNat % 65536, s.freeWord.2)
  else if n % 128 = 64 then (n / 128 + s.freeWord.1.toNat % 2 - pad, s.freeWord.2)
  else ((n + 64) / 128 - pad, s)

/-- CAL_DONE (R220): after 64 pairs the cable delay is set, or CAL_FAIL. -/
def execCalDone (s : State) : Res :=
  if !s.flag pFFY FFY_STAT_CAL_BUSY || s.ffy.echoPairs < 64 then .next s
  else
    let s := s.fset pFFY FFY_STAT_CAL_BUSY 0
    let s :=
      if s.ffy.echoMiss then s.fset pFFY FFY_STAT_CAL_FAIL 1
      else
        let r := s.cableDelay
        ((r.2.fset pFFY FFY_CABLE_DELAY r.1).fset pFFY FFY_STAT_CAL_FAIL 0).fset pFFY FFY_STAT_CALIBRATED 1
    .next (s.raise pFFY 6)

/-! ### Frames received (R216-R219) -/

/-- VALID falls, and with it the synchronisation. -/
def State.loseValid (s : State) : State :=
  let was := s.flag pFFY FFY_STAT_VALID
  let s := { ((s.fset pFFY FFY_STAT_VALID 0).fset pFFY FFY_STAT_UPSTREAM_OK 0) with ffy.lastTick := none }
  if was then s.raise pFFY 5 else s

/-- How far the counter is ahead of a tick, `frac` eighths of a tick from now, in eighths (R217). -/
def Ffy.ahead (f : Ffy) (v : DWord) (frac : Fin 8) : Int :=
  8 * (f.counter - v).toInt - 8 * f.hold + f.phase.val + frac.val

/-- Whether a reference edge now lies within 8 ticks of its place in a slot, the 24th tick (R214, R216). -/
def Ffy.inPosition (f : Ffy) (frac : Fin 8) : Bool := let r := f.ahead 24 frac % 8192; r ≤ 64 || 8128 ≤ r

/-- The offset as FFY_OFFSET shows it; one that the register cannot hold has no stated value (log 1). -/
def State.showOffset (s : State) (offset : Int) : State :=
  if -32768 ≤ offset && offset ≤ 32767 then s.fset pFFY FFY_OFFSET_OFFSET (ofSigned 16 offset)
  else s.freeWord.2.fset pFFY FFY_OFFSET_OFFSET s.freeWord.1.toNat

/-- Applies an accepted frame to the counter (R217, R225): a step, announced in the next frame of every output, or a slew of
at most two eighths. -/
def State.applyFrame (s : State) (f : SyncFrame) (frac : Fin 8) : State :=
  let offset := s.ffy.ahead f.tick frac
  if f.flags.getLsbD 1 || offset > 32 || offset < -32 || s.ffy.resync then
    { s with ffy := { s.ffy.setTime f.tick frac with slew := 0, resync := false } }.raise pFFY 3
  else
    let d := max (-2) (min 2 (-offset))
    { s with ffy := { s.ffy.slewBy d with slew := d } }

/-- HOP and CHAIN_LONG of a follower (R219). -/
def State.takeHop (s : State) (hop : Byte) : State :=
  let long := decide (63 ≤ hop.toNat)
  let was := s.flag pFFY FFY_STAT_CHAIN_LONG
  let s := (s.fset pFFY FFY_STAT_HOP (hop.toNat + 1)).fset pFFY FFY_STAT_CHAIN_LONG (bit long)
  if long && !was then s.raise pFFY 7 else s

/-- Synchronisation (R216): two consecutive accepted frames that count, 1,024 apart. -/
def State.countFrame (s : State) (f : SyncFrame) : State :=
  if f.flags.getLsbD 0 && !f.flags.getLsbD 3 then
    let sync := s.flag pFFY FFY_STAT_UPSTREAM_OK || s.ffy.lastTick = some (f.tick - 1024)
    let s := { s with ffy.lastTick := some f.tick, ffy.gotSync := true }
    if sync then
      let s := s.fset pFFY FFY_STAT_UPSTREAM_OK 1
      if 63 ≤ f.hop.toNat then s else s.fset pFFY FFY_STAT_VALID 1
    else s
  else { s with ffy.lastTick := none }

/-- FRAME_ACCEPT (R213, R216-R219): what a follower reads from FFY_SYNC_IN, its level tick by tick. A frame whose CRC is right
and whose reference edge, `frac` eighths of a tick from now, is in position is accepted; the first needs only the CRC. -/
def execFrameAccept (line : List Bool) (frac : Fin 8) (s : State) : Res :=
  if !s.ffy.role || !s.flag pFFY FFY_STAT_LOCKED then .next s
  else
    match receive line with
    | none => .next s
    | some (f, crcOk) =>
      if !crcOk || (s.ffy.everAccepted && !s.ffy.inPosition frac) then .next (s.count pFFY FFY_FRAME_ERR)
      else
        let s := { s with ffy.everAccepted := true, ffy.got := true, ffy.heard := true, ffy.echoServe := f.flags.getLsbD 2 }
        let s := ((s.fset pFFY FFY_STAT_HOLDOVER 0).showOffset (s.ffy.ahead f.tick frac)).takeHop f.hop
        .next ((s.applyFrame f frac).countFrame f)

/-- HOLDOVER (R218): a follower whose last slot brought no accepted frame keeps its last correction; VALID stays. -/
def execHoldover (s : State) : Res :=
  if s.ffy.role && s.ffy.everAccepted && !s.ffy.heard && s.flag pFFY FFY_STAT_LOCKED && !s.flag pFFY FFY_STAT_HOLDOVER then
    .next ((s.fset pFFY FFY_STAT_HOLDOVER 1).raise pFFY 4)
  else .next s

/-- VALID_LOST (R218): 32 slots have passed without an accepted frame, echo slots apart. -/
def execValidLost (s : State) : Res := if s.ffy.role && 32 ≤ s.ffy.silent then .next s.loseValid else .next s

/-! ### TRAY_SYNC and the timebase (R224, R225) -/

/-- Whether TRAY_SYNC is driven high (R224). -/
def traySyncHigh (s : State) : Bool :=
  s.flag pFFY FFY_STAT_VALID && s.flag pFFY FFY_CTRL_TSYNC_EN && s.ffy.counter.toNat % 1048576 < 16

/-- TRAY_SYNC_PULSE (R224): at a multiple of 2^20 the pin goes high for 16 ticks; otherwise it is held low. A second driver,
seen in a pulse or while the pin is held low, sets FAULT. -/
def execTraySyncPulse (contention : Bool) (s : State) : Res :=
  let s :=
    if s.flag pFFY FFY_STAT_VALID && s.flag pFFY FFY_CTRL_TSYNC_EN && s.flag pFFY FFY_STAT_LOCKED then
      let s := s.advance (s.untilBoundary 1048576 s.ffy.pulseAt)
      { (s.emit (.traySync s.ffy.counter)) with ffy.pulseAt := some s.ffy.counter }
    else s
  .next (if contention then s.setStat pFFY PAGE_STAT_FAULT true else s)

/-- A PLL lock bit fell (R31). -/
def State.lockLost (s : State) : State := (s.count pCLK CLK_LOSS_CNT).raise pCLK 3

/-- TIMEBASE_REF or the TB lock is lost (R225): the counter holds, LOCKED and VALID clear. -/
def State.loseTimebase (s : State) : State :=
  if s.flag pFFY FFY_STAT_LOCKED then ((s.fset pFFY FFY_STAT_LOCKED 0).lockLost).loseValid else s

/-- TIMEBASE_LOSS (R225). -/
def execTimebaseLoss (s : State) : Res := .next s.loseTimebase

/-- The TB lock returns (R225): a follower steps at the next frame it accepts; a master stays invalid until loaded. -/
def State.returnTimebase (s : State) : State :=
  if s.flag pFFY FFY_STAT_LOCKED then s
  else { (s.fset pFFY FFY_STAT_LOCKED 1) with ffy.resync := s.ffy.role, ffy.everAccepted := false }

/-- TIMEBASE_LOCK_RETURN (R225). -/
def execTimebaseLockReturn (s : State) : Res := .next s.returnTimebase

end Sys2Proof.Machine
end

