-- ==== Sys2Proof/Machine/Hazards.lean ====
section
/-! DEFINITION. Hazard sensing (R396, R407-R414): thermistors and their faults, drip ropes, SYS_SHDN_N, its release, and the
hazard latches. -/

namespace Sys2Proof.Machine

/-! ### Latches and the release condition -/

/-- The ropes. -/
def ropeList : List Nat := List.range 4

/-- STATE of a rope: 0 DRY, 1 WET, 2 OPEN, 3 disabled. -/
def State.rope (s : State) (r : Nat) : Nat := s.fget pHZDDRIP (HZ_DRIP_STATE.nth r 4)

/-- A rope named in DRIP_SHDN. -/
def State.dripShdn (s : State) (r : Nat) : Bool := s.fget pHZDSENS HZ_SHDN_CFG_DRIP_SHDN / 2 ^ r % 2 = 1

/-- A thermistor named in HZ_CRIT. -/
def State.critical (s : State) (i : Nat) : Bool := s.fget pHZDSENS HZ_CRIT / 2 ^ i % 2 = 1

/-- HZ_SHDN_CFG.THR, 1/16 C. -/
def State.shdnThr (s : State) : Int := ((s.fget pHZDSENS HZ_SHDN_CFG_THR : Nat) : Int) * 16

/-- The conditions of the latches (R414): WET, CRIT_FAULT, SHDN_SEEN. -/
def State.hazConds (s : State) : Nat :=
  bit (ropeList.any fun r => s.rope r = 1) +
  2 * bit (thermList.any fun i => s.critical i && 3 ≤ s.thClass i) + 4 * bit s.shdn

/-- Every latch whose condition holds is set; the first latch set raises the rack alert's emergency (R333, R414). -/
def State.hazLatch (s : State) : State :=
  let old := (s.rd (pHZDSENS + 0x110)).toNat
  let new := Nat.lor old s.hazConds
  if new = old then s
  else
    let s := (s.wr (pHZDSENS + 0x110) (BitVec.ofNat 32 new)).raise pHZDSENS 5
    if old % 8 = 0 then s.fset pRCK RCK_ALERT_SRC_EMERGENCY 1 else s

/-- The condition behind REL_OK (R413). -/
def State.relCond (s : State) : Bool :=
  (thermList.all fun i => !s.critical i || (s.thClass i = 0 && s.thTemp i ≤ s.shdnThr - 160)) &&
    ropeList.all fun r => !s.dripShdn r || s.rope r = 0

/-- The release sequence restarts, and REL_SEQ latches (R413). -/
def State.relBreak (s : State) (req : Nat) : State :=
  ({ s with hzd.relCls := none }.fset pHZDSENS HZ_SHDN_STAT_REL_STEP 0).latch pHZDSENS 0x0102 req 0x10C

/-- REL_OK falls with its condition, which breaks a sequence in progress. -/
def State.relCheck (s : State) : State :=
  if !s.flag pHZDSENS HZ_SHDN_STAT_REL_OK || s.relCond then s
  else
    let s := s.fset pHZDSENS HZ_SHDN_STAT_REL_OK 0
    if s.fget pHZDSENS HZ_SHDN_STAT_REL_STEP != 0 then s.relBreak (s.hzd.relCls.getD 0) else s

/-- GG_THERM_CAP as the power core sets it from T_in (R477), rounded down to whole watts. -/
def State.thermCap (s : State) : State :=
  let dt := s.inletTemp - ((s.fwc.thermT : Nat) : Int)
  let fall := ((((s.fwc.thermSlope : Nat) : Int) * dt + 15) / 16).toNat
  let cap := if 0 < dt && s.fwc.thermSlope != 0 then max s.fwc.thermMin (11000 - fall) else 0
  if s.runs 0 && s.fwc.profValid && s.fget pGOVGLOB GG_THERM_CAP != cap then
    (regWrite s .fwp (pGOVGLOB + GG_THERM_CAP.off) 4 cap).2
  else s

/-- What follows every change of a sensor. -/
def State.hazAfter (s : State) : State := s.hazLatch.relCheck

/-! ### Thermistors -/

/-- A thermistor beyond its page. -/
def State.therm (s : State) (i : Nat) : ThermSt := Tab.get s.hzd.therm i {}

/-- Changes it. -/
def State.modTherm (s : State) (i : Nat) (f : ThermSt → ThermSt) : State :=
  { s with hzd.therm := Tab.set s.hzd.therm i (f (s.therm i)) {} }

/-- Bit `i` of a fault mask. -/
def State.faultBit (s : State) (f : Fld) (i : Nat) : Bool := s.fget pHZDSENS f / 2 ^ i % 2 = 1

/-- The class the fault masks give, in the order of the table of R407. -/
def State.faultClass (s : State) (i : Nat) : Nat :=
  if s.faultBit HZ_FLT_OPEN i then 1
  else if s.faultBit HZ_FLT_SHORT i then 2
  else if s.faultBit HZ_FLT_RATE i then 3
  else if s.faultBit HZ_FLT_STUCK i then 4 else 0

/-- HZ_THi.CLASS follows the masks; entering a class raises SENSOR_FAULT. -/
def State.showClass (s : State) (i : Nat) : State :=
  let c := s.faultClass i
  let was := s.thClass i
  if c = was then s
  else
    let s := s.fset pHZDSENS (HZ_TH_CLASS.nth i 4) c
    if was = 0 then s.raise pHZDSENS 4 else s

/-- The class of a resistance (R407): r above 0.98 is OPEN, below 0.02 SHORT. -/
def rawClass (ohms : Nat) : Nat := if 490000 < ohms then 1 else if 49 * ohms < 10000 then 2 else 0

/-- A reading moved by more than HZ_RATE_LIM within the last second. -/
def State.rateBroken (s : State) (hist : List Int) (t : Int) : Bool :=
  hist.any fun h => ((s.fget pHZDSENS HZ_RATE_LIM_LIM * 16 : Nat) : Int) < max (t - h) (h - t)

/-- One conversion of one thermistor: OPEN while VSNS_1P8 is out (R396). -/
def State.convert (s : State) (r : ThReading) : State :=
  let i := r.th.val
  let c := if s.hzd.vsnsOut then 1 else rawClass r.ohms
  let hist := (s.therm i).hist
  let s := s.fset pHZDSENS (HZ_TH_TEMP.nth i 4) (ofSigned 16 r.temp)
  let s := s.modTherm i fun k => { k with raw := c, hist := if c = 0 then (r.temp :: hist).take 1000 else [] }
  let s :=
    if c = 1 then s.maskBit pHZDSENS HZ_FLT_OPEN i true
    else if c = 2 then s.maskBit pHZDSENS HZ_FLT_SHORT i true
    else if s.rateBroken hist r.temp then s.maskBit pHZDSENS HZ_FLT_RATE i true else s
  s.showClass i

/-- THERMISTOR_CONVERSION (R407), with Carapace's reading of VSNS_1P8: back in range, it no longer opens them (R396). -/
def execThermistorConversion (vsnsOk : Bool) (readings : List ThReading) (s : State) : Res :=
  .next (readings.foldl State.convert { s with hzd.vsnsOut := s.hzd.vsnsOut && !vsnsOk }).hazAfter.thermCap

/-- SENSOR_FAULT_CLEAR (R407): OPEN and SHORT clear in range; RATE where no such change stands in the last second. -/
def execSensorFaultClear (th : Therm) (s : State) : Res :=
  let i := th.val
  let k := s.therm i
  if k.raw != 0 then .next s
  else
    let s :=
      if s.thClass i = 1 || s.thClass i = 2 then
        (s.maskBit pHZDSENS HZ_FLT_OPEN i false).maskBit pHZDSENS HZ_FLT_SHORT i false
      else if s.thClass i = 3 && !(k.hist.any fun t => s.rateBroken k.hist t) then s.maskBit pHZDSENS HZ_FLT_RATE i false
      else s
    .next (s.showClass i).hazAfter.thermCap

/-- STUCK as the climate core writes it (R407). -/
def State.setStuck (s : State) (i : Nat) (on : Bool) : State :=
  let m := s.fget pHZDSENS HZ_FLT_STUCK
  let v := if on then Nat.lor m (2 ^ i) else m - Nat.land m (2 ^ i)
  ((regWrite s .fwc (pHZDSENS + HZ_FLT_STUCK.off) 4 v).2.showClass i).hazAfter

/-- POWER_STEP_CHECK (R407, R408): a step of `step` W of the associated branch's mean power, and the reading's move within
the window, 1/16 C. -/
def execPowerStepCheck (th : Therm) (step move : Int) (s : State) : Res :=
  let i := th.val
  let size := max step (-step)
  if !(s.runs 1 && s.fget pHZDSENS (HZ_THCFG_ASSOC.nth i 4) < 12 && ((s.fget pHZDSENS HZ_CORR_DP : Nat) : Int) ≤ size) then
    .next s
  else
    let answered := if 0 < step then 16 ≤ move else move ≤ -16
    let k := s.therm i
    let s := s.modTherm i fun k =>
      if answered then { k with missed := 0, answered := k.answered + 1 }
      else { k with missed := k.missed + 1, answered := 0 }
    if answered then .next (if s.faultBit HZ_FLT_STUCK i && 1 ≤ k.answered then s.setStuck i false else s)
    else .next (if !s.faultBit HZ_FLT_STUCK i && 2 ≤ k.missed then s.setStuck i true else s)

/-- VSNS_FAULT (R396): every thermistor is OPEN until a conversion finds VSNS_1P8 back and 1 s in range has passed. -/
def execVsnsFault (s : State) : Res :=
  let s := { s with hzd.vsnsOut := true }.each thermList fun s i =>
    ((s.modTherm i fun k => { k with raw := 1, hist := [] }).maskBit pHZDSENS HZ_FLT_OPEN i true).showClass i
  .next s.hazAfter.thermCap

/-! ### Drip ropes (R410) -/

/-- The class of a rope resistance, in 0.1 kilo-ohms. -/
def ropeClass (res : Nat) : Nat := if 1600 < res then 2 else if res < 500 then 1 else 0

/-- A rope is enabled. -/
def State.ropeOn (s : State) (r : Nat) : Bool := s.fget pHZDDRIP HZ_DRIP_EN_EN / 2 ^ r % 2 = 1

/-- DRIP_CLASSIFY (R410). -/
def execDripClassify (readings : List DripReading) (s : State) : Res :=
  .next (readings.foldl (fun s d =>
    let r := d.rope.val
    if s.ropeOn r then
      { s with hzd.dripNext := Tab.set s.hzd.dripNext r (ropeClass d.res) 0 }.fset pHZDDRIP (HZ_DRIP_RES.nth r 4)
        (min 0xFFFF d.res)
    else s) s)

/-- DRIP_CLASS_CHANGE (R410): the class a rope last read takes effect. -/
def execDripClassChange (rope : Rope) (s : State) : Res :=
  let r := rope.val
  let c := Tab.get s.hzd.dripNext r 0
  if !s.ropeOn r || s.rope r = c then .next s
  else
    let s := s.fset pHZDDRIP (HZ_DRIP_STATE.nth r 4) c
    let s := if c = 1 then s.raise pHZDDRIP 3 else if c = 2 then s.raise pHZDDRIP 4 else s
    .next s.hazAfter

/-- What a write of HZ_DRIP_EN does: a rope disabled reads so; one enabled again reads the class it last read. -/
def dripEn (s : State) : State :=
  (s.each ropeList fun s r =>
    if !s.ropeOn r then s.fset pHZDDRIP (HZ_DRIP_STATE.nth r 4) 3
    else if s.rope r = 3 then
      let c := Tab.get s.hzd.dripNext r 0
      let s := s.fset pHZDDRIP (HZ_DRIP_STATE.nth r 4) c
      if c = 1 then s.raise pHZDDRIP 3 else if c = 2 then s.raise pHZDDRIP 4 else s
    else s).hazAfter

/-! ### SYS_SHDN_N (R411-R413) -/

/-- The causes of an assertion as the latest readings show them, the lowest cause and index first: CAUSE and FIRST. -/
def State.shdnCauses (s : State) : List (Nat × Nat) :=
  let crit := thermList.filter s.critical
  ((crit.filter fun i => (s.therm i).raw = 0 && s.shdnThr ≤ s.thTemp i).map fun i => (0, i)) ++
  ((crit.filter fun i => (s.therm i).raw != 0).map fun i => (1, i)) ++
  ((ropeList.filter fun r => s.dripShdn r && s.rope r = 1).map fun r => (2, 32 + r))

/-- SHDN_ASSERT (R366, R411): nothing masks it. -/
def execShdnAssert (s : State) : Res :=
  match s.shdnCauses with
  | [] => .next s
  | (cause, first) :: _ =>
    if s.shdn then .next s
    else
      let p := pHZDSENS
      let s := ((s.fset p HZ_SHDN_STAT_ASSERTED 1).fset p HZ_SHDN_STAT_FIRST first).fset p HZ_SHDN_STAT_CAUSE cause
      let s := ((s.raise p 3).fset pCRPGLOB CRP_GSTAT_SHDN 1).raise pCRPGLOB 4
      let s := (s.fset pRCK RCK_ALERT_SRC_SHDN 1).crpAct 0x07 first cause (s.fget p HZ_SHDN_CFG_THR)
      let s := (s.shdnBranches).each fanList State.driveFan
      .next s.hazAfter

/-- REL_OK (R413): its condition has held for 1 s. -/
def execRelOk (s : State) : Res := .next (if s.relCond then s.fset pHZDSENS HZ_SHDN_STAT_REL_OK 1 else s)

/-- The power core enables again the branches that SYS_SHDN_N took down or refused, once it is released (R413, R489, R494). -/
def State.enableDue (s : State) : State :=
  if s.runs 0 && !s.crpDeaf && !s.flag pHZDSENS HZ_SHDN_STAT_ASSERTED then
    (s.fwc.shdnDue.filter fun b => s.branchState b < 6).foldl (fun s b => s.branchWrite .fwp b 1) { s with fwc.shdnDue := [] }
  else s

/-- What a write of HZ_SHDN_REL does (R413), ignored while SYS_SHDN_N is released: the step it advances, the release at the
third unless a cause stands (R417), after which the power core enables the branches again, or the restart of the sequence. -/
def relWrite (cls : Cls) (v : Nat) (s : State) : State :=
  let p := pHZDSENS
  let st := s.fget p HZ_SHDN_STAT_REL_STEP
  if !s.shdn then s
  else if !s.flag p HZ_SHDN_STAT_REL_OK || v != st + 1 ||
      (st != 0 && (s.hzd.relCls != some (clsCode cls) || 100000000 < s.nowNs - s.hzd.relTime)) then
    s.relBreak (clsCode cls)
  else if st < 2 then
    { s with hzd.relCls := some (clsCode cls), hzd.relTime := s.nowNs }.fset p HZ_SHDN_STAT_REL_STEP (st + 1)
  else
    let s := { s with hzd.relCls := none }.fset p HZ_SHDN_STAT_REL_STEP 0
    if !s.shdnCauses.isEmpty then s
    else
      let s := ((s.fset p HZ_SHDN_STAT_ASSERTED 0).fset pCRPGLOB CRP_GSTAT_SHDN 0).raise p 6
      (s.crpAct 0x08 (clsCode cls) 0 0).enableDue

/-- SHDN_RELEASE_WRITE (R413). -/
def execShdnReleaseWrite (cls : Cls) (value : BitVec 32) (s : State) : Res :=
  .next (writeThen s cls (pHZDSENS + HZ_SHDN_REL.off) value.toNat (relWrite cls value.toNat))

/-- REL_SEQ (R413): the gap after a release write has passed 100 ms. -/
def execRelSeq (s : State) : Res :=
  .next (if s.fget pHZDSENS HZ_SHDN_STAT_REL_STEP != 0 then s.relBreak (s.hzd.relCls.getD 0) else s)

end Sys2Proof.Machine
end

