-- ==== Sys2Proof/Machine/SilkLink.lean ====
section
/-! DEFINITION. Sending on a Silk port (08_silk_ports.md): unit classes, credits, the order of classes, and the sidebands. -/

namespace Sys2Proof.Machine

/-- A port beyond its page. -/
def State.port (s : State) (p : Nat) : SlkPort := Tab.get s.slk p {}

/-- Changes a port. -/
def State.modPort (s : State) (p : Nat) (f : SlkPort → SlkPort) : State :=
  { s with slk := Tab.set s.slk p (f (s.port p)) {} }

/-- SLK_STAT.STATE: 0 OFF, 1 WAIT_PWR, 2 RESET, 3 TRAINING, 4 INIT, 5 UP, 6 SHUTTING, 7 DOWN. -/
def State.portState (s : State) (p : Nat) : Nat := s.fget (pSLK p) SLK_STAT_STATE

/-- Whether a port is UP. -/
def State.portUp (s : State) (p : Nat) : Bool := s.portState p = 5

/-- The credit class of a unit type in the order of the credit table; 5 for the types that take no credit (R275, R276). -/
def unitClass (typ : Nat) : Nat :=
  if typ = 0x3E || typ = 0x3F then 5
  else if 0x30 ≤ typ then 0
  else if 0x20 ≤ typ then 3
  else if typ = 0x11 || typ = 0x12 then 4
  else if typ = 0x10 then 2
  else 1

/-- The credits a unit takes (R276). -/
def unitBlocks (u : SilkUnit) : Nat := (16 + u.len.toNat + 63) / 64

/-- A CONTROL unit: 16 bytes of payload. -/
def ctlUnit (typ : Nat) (payload : List Byte) : SilkUnit :=
  { typ := BitVec.ofNat 8 typ, flags := 0, len := 16, tag := 0, pmask := 0, rsv := 0, arg := 0
    payload := slice payload 0 16 }

/-- What the credits let through of a list of waiting units, in order within each class: sent, kept, credits left. -/
def drainUnits (cred blocked : List Nat) : List SilkUnit → List SilkUnit × List SilkUnit × List Nat
  | [] => ([], [], cred)
  | u :: t =>
    let c := unitClass u.typ.toNat
    if blocked.contains c || nth cred c < unitBlocks u then
      let r := drainUnits cred (c :: blocked) t
      (r.1, u :: r.2.1, r.2.2)
    else
      let r := drainUnits (setNth cred c (nth cred c - unitBlocks u)) blocked t
      (u :: r.1, r.2)

/-- Sends what waits on a port in L0 and has credits, CONTROL units first (R276, R278). -/
def State.flushPort (s : State) (p : Nat) : State :=
  let k := s.port p
  if !k.inL0 then s
  else
    let c := drainUnits k.cred [] k.waiting
    let r := drainUnits c.2.2 [] k.respWait
    let t := s.modPort p fun k => { k with waiting := c.2.1, respWait := r.2.1, cred := r.2.2 }
    (c.1 ++ r.1).foldl (fun s u => s.emit (.silk p u)) t

/-- Queues a unit and sends what can be sent; INIT and CREDIT take no credit. -/
def State.sendUnit (s : State) (p : Nat) (u : SilkUnit) : State :=
  match unitClass u.typ.toNat with
  | 5 => s.emit (.silk p u)
  | 0 => (s.modPort p fun k => { k with waiting := k.waiting ++ [u] }).flushPort p
  | _ => (s.modPort p fun k => { k with respWait := k.respWait ++ [u] }).flushPort p

/-- Sends HALT with a reason to an UP port (R295). -/
def State.sendHalt (s : State) (reason p : Nat) : State :=
  if s.portUp p then s.sendUnit p (ctlUnit 0x30 [BitVec.ofNat 8 reason]) else s

/-- The eight ports. -/
def portList : List Nat := [0, 1, 2, 3, 4, 5, 6, 7]

/-- Drives THROTTLE from its sources (R290). -/
def State.throttle (s : State) (p : Nat) : State :=
  let b := pSLK p
  let low := (s.port p).alertLow
  let src := s.fget b SLK_CTRL_THR + 2 * bit (s.pins.rackLimitLow && s.flag b SLK_CTRL_RACK_THR_EN) +
    4 * bit (low && s.fget b SLK_CTRL_ALERT_ACT != 0)
  ((s.fset b SLK_STAT_THR_SRC src).fset b SLK_STAT_THROTTLE (bit (src != 0))).fset b SLK_STAT_ALERT (bit low)

/-- Drives PG, RESET_N and HEART from the port's state (R287, R288, R291, R300): HEART goes on until step 2 of a shutdown. -/
def State.sidebands (s : State) (p : Nat) : State :=
  let b := pSLK p
  let st := s.portState p
  let off := st = 0 || st = 7
  let rst := off || (st = 2 && !s.flag b SLK_CTRL_ATTACH)
  let heart := (st = 5 || st = 6) && !s.flag b SLK_CTRL_HB_STOP
  let s := if heart then s else s.modPort p fun k => { k with heart := false }
  ((s.fset b SLK_STAT_PG (bit (!off && (s.port p).pgBranch))).fset b SLK_STAT_RESET (bit rst)).fset b SLK_STAT_HEART
    (bit heart)

/-- Takes a port to a state. -/
def State.setPort (s : State) (p st : Nat) : State := (s.fset (pSLK p) SLK_STAT_STATE st).sidebands p

end Sys2Proof.Machine
end

