-- ==== Sys2Proof/Machine/SetCap.lean ====
section
/-! DEFINITION. SET_CAP on the wire (R289, R383, R387): the unit, its generation and the slope budget it carries. -/

namespace Sys2Proof.Machine

/-- Governor state of accelerator `a`. -/
def State.govAcc (s : State) (a : Nat) : GovAcc := Tab.get s.gov.accs a {}

/-- Changes the governor state of an accelerator. -/
def State.modAcc (s : State) (a : Nat) (f : GovAcc → GovAcc) : State :=
  { s with gov.accs := Tab.set s.gov.accs a (f (s.govAcc a)) {} }

/-- Whether branch `b` is ON. -/
def State.branchOn (s : State) (b : Nat) : Bool := s.fget (pCRPBR b) CB_STAT_STATE = 3

/-- SERVICE of an accelerator (R382): 0 branch not ON, 1 fixed allowance, 2 in service. -/
def State.service (s : State) (a : Nat) : Nat :=
  if !s.branchOn a then 0 else if s.pins.mainPwrGood && s.portUp a then 2 else 1

/-- The slope budget s_a among the accelerators of `l`, in units of 0.25 W/us (R383). -/
def State.slopeOf (s : State) (l : List Nat) (a : Nat) : Nat :=
  let g := s.fget (pGOVACC a) GA_SLOPE
  let sum := (l.map fun b => s.fget (pGOVACC b) GA_SLOPE).foldl (· + ·) 0
  let tray := s.fget pGOVGLOB GG_SLOPE_TRAY * 4
  if sum ≤ tray then g else g * tray / sum

/-- Sends a SET_CAP (R289, R387): GEN rises by one with each. -/
def State.sendSetCap (s : State) (p cap thr fb slope : Nat) (release : Bool) : State :=
  let gen := (s.fget (pGOVACC p) GA_GEN_SENT + 1) % 65536
  let s := ((s.fset (pGOVACC p) GA_GEN_SENT gen).fset (pGOVACC p) GA_CAP_CAP cap).fset (pGOVACC p) GA_CAP_THR_CAP thr
  let s := s.modAcc p fun k => { k with
    sentCap := cap, thrCap := thr, fallback := fb, slope := slope, ackDue := some s.gov.tickN }
  let s := if release then s.modPort p fun k => { k with relTime := some s.gov.tickN } else s
  s.sendUnit p (ctlUnit 0x32
    (natLe 2 cap ++ natLe 2 thr ++ natLe 2 fb ++ natLe 2 slope ++ natLe 2 gen ++ natLe 1 (bit release)))

end Sys2Proof.Machine
end

