-- ==== Sys2Proof/Machine/Governor.lean ====
section
/-! DEFINITION. Tray power governance (11_tray_power_governance.md): the loop tick with its caps, budget, shares and Kermes
step, trust states, yield, and the rack's limit pin. Powers are integers in microwatts unless a unit is named. -/

namespace Sys2Proof.Machine

/-- Microwatts in a quarter of a watt. -/
def quarter : Int := 250000

/-- Microwatts in a watt. -/
def watt : Int := 1000000

/-- A value in the register's range, saturating. -/
def satReg (w : Nat) (x : Int) : Nat := min (2 ^ w - 1) x.toNat

/-! ### Measured quantities (R373) -/

/-- V_BUS as sampled, 10 mV. -/
def State.vBus (s : State) : Nat := s.fget pCRPFEED CF_VBUS_VBUS

/-- M_a: the mean of five samples of 0.1 A times V_OUT in 10 mV. -/
def State.measured (s : State) (a : Nat) : Int :=
  let b := Tab.get s.crp.branches a {}
  (b.mean10 * b.mean10P * 200 : Nat)

/-- P_TRAY. -/
def State.trayPower (s : State) : Int := (s.crp.feedMean * s.vBus * 200 : Nat)

/-- E_a: EST of the latest TELEMETRY, none while TEL_STALE (R293, R373, log 65). -/
def State.estimated (s : State) (a : Nat) : Option Int :=
  if (s.port a).telStale then none else some (s.fget (pSLK a) SLK_TEL_PWR_EST * quarter)

/-- K: zero without MAIN (R393). -/
def State.kermesPower (s : State) : Int := if s.pins.mainPwrGood then s.gov.k * watt else 0

/-- U of a tick: a rise at once, a fall with a time constant of 10 ms over the 10 us of the tick (log 27). -/
def filterU (old raw : Int) : Int := if old ≤ raw then raw else raw + (old - raw) * 9990004998 / 10000000000

/-! ### Caps (R374, R375) -/

/-- Whether the preset is in force: the pin is low, or returned high less than 1 ms ago (R332). -/
def State.presetOn (s : State) : Bool :=
  (s.pins.rackLimitLow || s.hr.presetTimer) && s.fget pRCK RCK_PRESET_CAP != 0

/-- GEN_STATE.EMERGENCY. -/
def State.emergency (s : State) : Bool := (genState s).getLsbD 3

/-- The FEED term: 0.95 of the rating times V_BUS, under GG_SF_CAP on a single feed; the last one while no feed is CLOSED. -/
def State.feedTerm (s : State) : Nat :=
  if s.fget pCRPFEED CF_STAT_ON = 0 then s.gov.feedCap
  else
    let v := 950 * s.fget pCRPFEED CF_LIMIT_RATING * s.vBus
    let sf := s.fget pGOVGLOB GG_SF_CAP * 1000000
    if s.flag pCRPFEED CF_STAT_SINGLE && sf != 0 then min v sf else v

/-- The rack term in watts. -/
def State.rackTerm (s : State) : Nat :=
  let c := s.fget pRCK RCK_CAP_CAP
  let p := s.fget pRCK RCK_PRESET_CAP
  if s.presetOn then (if c = 0 then p else min c p) else c

/-- The cap terms with their bits, in watts times 10^6; 0 is not in force. -/
def State.capTerms (s : State) (rack feed : Nat) : List (Nat × Nat) :=
  let g := fun f => s.fget pGOVGLOB f * 1000000
  [(0, rack * 1000000),
   (1, if s.fget pGOVGLOB GG_HOST_CAP != 0 then g GG_HOST_CAP else g GG_DEF_CAP),
   (2, g GG_THERM_CAP), (3, feed), (6, g GG_HARD_CAP), (7, g GG_FAN_CAP),
   (8, if s.emergency then g GG_EMERG_CAP else 0)]

/-- The lowest term in force and the lowest bit that has it (R375). -/
def lowestTerm (l : List (Nat × Nat)) : Nat × Nat :=
  (l.filter fun t => t.2 != 0).foldl (fun m t => if m.2 = 0 || t.2 < m.2 then t else m) (6, 0)

/-! ### Shares (R379-R381) -/

/-- One accelerator in service: index, floor, weight, demand. -/
structure Claim where
  acc    : Nat
  floor  : Int
  weight : Int
  demand : Int
deriving DecidableEq, Repr

/-- The share of an accelerator: its cap rounded down to a quarter watt, and whether it lies below the demand. -/
structure Share where
  acc   : Nat
  cap   : Nat
  below : Bool
deriving DecidableEq, Repr

/-- HARD_a: 0.95 of 24 A times V_BUS (R380). -/
def State.hardCap (s : State) : Int := (228000 * s.vBus : Nat)

/-- The OPP of an accelerator's phase, a quarter watt each (R389). -/
def State.oppOf (s : State) (a : Nat) : Nat :=
  let ph := s.fget (pGOVACC a) GA_CTRL_PHASE
  s.fget (pGOVACC a) ⟨0x118 + 4 * (ph / 2), 16 * (ph % 2), 16⟩

/-- W_a by trust state; an estimate that is missing leaves W_a of TRUST open (log 1). -/
def State.workingPower (s : State) (a : Nat) : Int × State :=
  let m := s.measured a
  match s.fget (pGOVACC a) GA_STAT_TRUST, s.estimated a with
  | 0, some e => (e, s)
  | 0, none => ((s.freeWord.1.toNat % 65536 : Nat) * quarter, s.freeWord.2)
  | 1, some e => (max e m, s)
  | 1, none => (m, s)
  | _, _ => (m * 11 / 10, s)

/-- The demand before HARD_a, from the working power (R380). -/
def State.softDemand (s : State) (a : Nat) (w : Int) : Int :=
  max (min (s.oppOf a * quarter) (w + s.fget pGOVGLOB GG_HEADROOM * watt)) (s.fget (pGOVACC a) GA_FLOOR * quarter)

/-- The claims of the accelerators in service; those whose demand HARD_a clamped. -/
def State.claims (s : State) : List Nat → List Claim × List Nat × State
  | [] => ([], [], s)
  | a :: t =>
    let w := s.workingPower a
    let d := w.2.softDemand a w.1
    let h := w.2.hardCap
    let r := w.2.claims t
    (⟨a, s.fget (pGOVACC a) GA_FLOOR * quarter, s.fget (pGOVACC a) GA_WEIGHT, min d h⟩ :: r.1,
      if h < d then a :: r.2.1 else r.2.1, r.2.2)

/-- A share as R381 leaves it: the cap rounded down to a quarter watt, never below zero, and whether that lies below the
demand (R390). -/
def Claim.share (c : Claim) (cap : Int) : Share := ⟨c.acc, cap.toNat, (cap.toNat : Int) * quarter < c.demand⟩

/-- The cap of a claim among those that have one. -/
def capOf (caps : List (Nat × Int)) (a : Nat) : Int := (caps.find? fun c => c.1 = a).elim 0 (·.2)

/-- The rounds of R381: `rem` is shared by weight among `open` above `caps`. -/
def shareRounds : Nat → Int → List Claim → List (Nat × Int) → List Claim → List Share
  | 0, _, _, caps, all => all.map fun c => c.share (capOf caps c.acc / quarter)
  | n + 1, rem, opn, caps, all =>
    let ws := (opn.map Claim.weight).foldl (· + ·) 0
    let sat := opn.filter fun c => capOf caps c.acc * ws + rem * c.weight ≥ c.demand * ws
    if sat = [] then
      all.map fun c =>
        if opn.any fun o => o.acc = c.acc then
          c.share ((capOf caps c.acc * ws + rem * c.weight) / (ws * quarter))
        else c.share (capOf caps c.acc / quarter)
    else
      let rem' := sat.foldl (fun r c => r - (c.demand - capOf caps c.acc)) rem
      let caps' := caps.map fun p => match sat.find? fun c => c.acc = p.1 with
        | some c => (p.1, c.demand)
        | none => p
      shareRounds n rem' (opn.filter fun o => !(sat.any fun c => c.acc = o.acc)) caps' all

/-- A floor scaled to a budget that the floors exceed (R381): none where the budget is below zero, or with it the floors'
sum (log 65). -/
def scaledFloor (budget sum : Int) (c : Claim) : Share := c.share (c.floor * budget / (sum * quarter))

/-- The division of R381: the shares and whether the floors exceed the budget. -/
def divide (budget : Int) (l : List Claim) : List Share × Bool :=
  let sum := (l.map Claim.floor).foldl (· + ·) 0
  if budget < sum then (l.map (scaledFloor budget sum), true)
  else (shareRounds 9 (budget - sum) l (l.map fun c => (c.acc, c.floor)) l, false)

/-- The share of an accelerator. -/
def shareOf (l : List Share) (a : Nat) : Share := (l.find? fun x => x.acc = a).getD ⟨a, 0, false⟩

/-! ### Kermes' step (R384-R386) -/

/-- Puts a KRM step into effect (R25, R31): a change counts, raises STEP_CHG and marks the running job. -/
def State.setStep (s : State) (n : Nat) : State :=
  let t := (s.fset pGOVGLOB GG_STAT_KRM_TARGET n).fset pCLK CLK_KRM_TARGET n
  if s.fget pCLK CLK_KRM_STEP = n then t
  else
    let t := (((t.fset pCLK CLK_KRM_STEP n).count pCLK CLK_STEP_CNT).raise pCLK 5)
    { t with krm.job := t.krm.job.map fun j => if j.phase = .running then { j with throttled := true } else j }

/-- The preferred step of Kermes' phase (R389). -/
def State.preferred (s : State) : Nat :=
  let ph := s.krm.phase
  min (s.fget pGOVGLOB ⟨if ph < 4 then 0x140 else 0x144, 8 * (ph % 4), 8⟩) (s.fget pCLK CLK_KRM_CEIL)

/-- MIN_STEP, under CLK_KRM_LIMIT. -/
def State.minStep (s : State) : Nat := min (s.fget pGOVGLOB GG_KRM_CFG_MIN_STEP) (s.fget pCLK CLK_KRM_LIMIT_LIMIT)

/-- The estimate of R384 for a step fits: K_STATIC + (K - K_STATIC) f(n) / f(cur) does not exceed K_ALLOW. -/
def stepFits (k kStatic allow : Int) (cur n : Nat) : Bool :=
  (k - kStatic) * (800 + 25 * n : Nat) ≤ (allow - kStatic) * (800 + 25 * cur : Nat)

/-- RACK_LIMIT_N forces MIN_STEP: it is low, or has not been high for 1 ms, PRESET_KRM is set, and there is a preset, without
which the pin drives THROTTLE only (R332, R386). -/
def State.krmForced (s : State) : Bool := s.presetOn && s.flag pGOVGLOB GG_CTRL_PRESET_KRM

/-- The hardware path of the pin to the step (R386); without readings no step is raised (R393). -/
def State.forceStep (s : State) : State :=
  if s.krmForced && s.pins.mainPwrGood then
    s.setStep (if s.flag pGOVGLOB GG_STAT_NO_MEAS then min (s.fget pCLK CLK_KRM_STEP) s.minStep else s.minStep)
  else s

/-- The step of a tick: MIN_STEP in an emergency or under the pin, a drop to what K_ALLOW permits, or no change; no rise
without readings (R393). -/
def State.tickStep (s : State) (k allow : Int) : Nat :=
  let cur := s.fget pCLK CLK_KRM_STEP
  let low := s.minStep
  let n :=
    if s.emergency || s.krmForced then low
    else if allow < k then
      ((List.range (cur + 1)).reverse.find? fun n =>
        low ≤ n && stepFits k (s.fget pGOVGLOB GG_KRM_STATIC * watt) allow cur n).getD low
    else max cur low
  min (if s.flag pGOVGLOB GG_STAT_NO_MEAS then min n cur else n) (s.fget pCLK CLK_KRM_LIMIT_LIMIT)

/-- The witness yield (R244, R385); WIT_STAT and GG_STAT show it. -/
def State.setYield (s : State) (b : Bool) : State :=
  if s.gov.yield = b then s else ({ s with gov.yield := b } : State).raise pGOVGLOB 4

/-- Adds 10 us to the duration counter of every reason set. -/
def State.addDurations (s : State) (base : Nat) (f : Fld) (reason : Nat) : State :=
  (List.range 10).foldl (fun s j =>
    if reason / 2 ^ j % 2 = 1 then s.pset base (f.nth j 8) ((s.pget base (f.nth j 8) + 10) % 2 ^ 64) else s) s

/-- The bits of the terms that equal P_EFF. -/
def boundBits (terms : List (Nat × Nat)) (pEff : Nat) : Nat :=
  ((terms.filter fun t => t.2 != 0 && t.2 = pEff).map fun t => 2 ^ t.1).foldl (· + ·) 0

/-! ### The tick (R373-R393) -/

/-- The accelerator enters or leaves service, and its counters of agreement move (R382, R388). -/
def State.checkTrust (s : State) (a : Nat) : State :=
  let svc := s.service a
  let s := s.fset (pGOVACC a) GA_STAT_SERVICE svc
  let m := s.measured a
  let off : Bool := match s.estimated a with
    | none => true
    | some e => (e - m).natAbs * 100 > 15 * (max m (50 * watt)).natAbs
  s.modAcc a fun k =>
    if off then { k with inService := svc = 2, disagree := k.disagree + 1, agree := 0 }
    else { k with inService := svc = 2, disagree := 0, agree := k.agree + 1 }

/-- What the tick found of one accelerator. -/
structure TickAcc where
  target : Nat
  thr    : Nat
  hold   : Bool
  below  : Bool
  hard   : Bool
deriving DecidableEq, Repr

/-- The cap of a tick: a fall at once, a rise paced, none where `hold` (R383, R392, R393); and whether it was clipped. -/
def State.paceCap (s : State) (l : List Nat) (a : Nat) (t : TickAcc) : Nat × Bool :=
  let old := (s.govAcc a).cap
  if t.target ≤ old then (t.target, false)
  else if t.hold then (old, false)
  else
    let g := s.fget (pGOVACC a) GA_SLOPE
    let sum := (l.map fun b => s.fget (pGOVACC b) GA_SLOPE).foldl (· + ·) 0
    let tray := s.fget pGOVGLOB GG_SLOPE_TRAY * 4
    let rise := if sum ≤ tray then 10 * g else 10 * g * tray / sum
    (min t.target (old + rise), old + rise < t.target)

/-- Sends SET_CAP where R387 asks for it. -/
def State.capWire (s : State) (l : List Nat) (a cap thr : Nat) : State :=
  let k := s.govAcc a
  let fb := s.fget (pGOVACC a) GA_FALLBACK
  let slope := s.slopeOf l a
  let inFb : Bool := s.fget (pSLK a) SLK_TEL_STATE_STATE / 2 % 2 = 1
  let due := inFb && s.flag (pSLK a) SLK_STAT_HEART && (match (s.port a).relTime with
    | some t => decide (t + 10 ≤ s.gov.tickN)
    | none => true)
  if cap < k.sentCap || k.sentCap + 4 * s.fget pGOVGLOB GG_DEADBAND ≤ cap || thr != k.thrCap || fb != k.fallback ||
      slope != k.slope || due then
    s.sendSetCap a cap thr fb slope inFb
  else s

/-- Sets an accelerator's cap, sends it and forms its reasons. -/
def State.tickAcc (s : State) (l : List Nat) (bound a : Nat) (t : TickAcc) : State :=
  let p := s.paceCap l a t
  let s := (s.modAcc a fun k => { k with cap := p.1 }).capWire l a p.1 t.thr
  let trust := s.fget (pGOVACC a) GA_STAT_TRUST
  let terms := if t.below then Nat.land bound 0xCF else 0
  let r := Nat.lor terms (16 * bit p.2 + 32 * bit (trust != 0) + 256 * bit s.emergency)
  s.fset (pGOVACC a) GA_REASON (if t.hard then Nat.lor r 64 else r)

/-- The readings of an accelerator's page. -/
def State.showAcc (s : State) (a : Nat) : State :=
  let g := pGOVACC a
  let s := ((s.fset g GA_MEAS_M (satReg 16 (s.measured a / quarter))).fset g GA_MEAS_E
    (satReg 16 ((s.estimated a).getD 0 / quarter))).fset g GA_HARD (satReg 16 (s.hardCap / quarter))
  let s := if s.service a = 2 then s
    else s.fset g GA_REASON (32 * bit (s.fget g GA_STAT_TRUST != 0) + 256 * bit s.emergency)
  s.addDurations g GA_DUR (s.fget g GA_REASON)

/-- P_EFF and its source take their values; a change raises CAP_CHG and queues the PLDM events (R375, R376). -/
def State.takeCap (s : State) (pEff source : Nat) : State :=
  let same := s.gov.pEff = pEff && s.fget pGOVGLOB GG_STAT_SOURCE = source
  let s := { ((s.fset pGOVGLOB GG_EFF_CAP (satReg 16 (pEff / 1000000 : Nat))).fset pGOVGLOB GG_STAT_SOURCE source).fset
    pGOVGLOB GG_STAT_DEFAULT (bit (s.fget pGOVGLOB GG_HOST_CAP = 0)) with gov.pEff := pEff }
  if same then s
  else
    let s := (s.raise pGOVGLOB 3).fset pRCK RCK_ALERT_SRC_EVENT 1
    { s with hr.events := s.hr.events ++ [⟨1, pEff / 1000000⟩, ⟨2, source⟩] }

/-- FLOOR_OVER follows the division. -/
def State.showFloor (s : State) (b : Bool) : State :=
  let was := s.flag pGOVGLOB GG_STAT_FLOOR_OVER
  let s := s.fset pGOVGLOB GG_STAT_FLOOR_OVER (bit b)
  if b && !was then s.raise pGOVGLOB 5 else s

/-- NO_MEAS follows the readings (R393). -/
def State.showMeas (s : State) (missing : Bool) : State :=
  let was := s.flag pGOVGLOB GG_STAT_NO_MEAS
  let s := s.fset pGOVGLOB GG_STAT_NO_MEAS (bit missing)
  if missing && !was then s.raise pGOVGLOB 6 else s

/-- Kermes' part of a tick: K_ALLOW, the step, the hold counters and the start of a yield (R384, R385). -/
def State.tickKermes (s : State) (allow : Int) : State :=
  let k := s.kermesPower
  let hyst := s.fget pGOVGLOB GG_KRM_CFG_HYST * watt
  let up := k < allow - hyst
  let s := ((s.fset pGOVGLOB GG_KRM_PWR_K_ALLOW (satReg 16 (allow / watt))).fset pGOVGLOB GG_KRM_PWR_K
    (satReg 16 (k / watt)))
  let s := if s.pins.mainPwrGood then s.setStep (s.tickStep k allow) else s
  let s := { s with
    gov.kAllow := allow
    gov.upN := if up then s.gov.upN + 1 else 0
    gov.yieldN := if hyst ≤ allow - k then s.gov.yieldN + 1 else 0 }
  if s.emergency || (s.fget pCLK CLK_KRM_STEP = s.minStep && allow < k) then s.setYield true else s

/-- The fixed allowances: branches ON whose ports are not UP (R382). -/
def State.fixedPower (s : State) : Int :=
  ((portList.filter fun a => s.service a = 1).map fun a =>
    max (s.fget (pGOVACC a) GA_FALLBACK * quarter) (s.measured a)).foldl (· + ·) 0

/-- What the budget takes off P_EFF beside the shares: U, the margin and the fixed allowances (R378). -/
def State.overhead (s : State) : Int := s.gov.u + s.fget pGOVGLOB GG_MARGIN * watt + s.fixedPower

/-- GG_KRM_FLOOR. -/
def State.floorK (s : State) : Int := s.fget pGOVGLOB GG_KRM_CFG_FLOOR * watt

/-- The shares with the rack term at RCK_PRESET.CAP and Kermes at its floor, for THR_CAP (R387); none without a preset. -/
def State.presetShares (s : State) (feed : Nat) (l : List Claim) : Option (List Share) :=
  let low := lowestTerm (s.capTerms (s.fget pRCK RCK_PRESET_CAP) feed)
  if s.fget pRCK RCK_PRESET_CAP = 0 then none else some (divide ((low.2 : Int) - s.overhead - s.floorK) l).1

/-- The first SET_CAP of a bring-up (R296, R382, R387): the cap at GA_FALLBACK, THR_CAP the share under the preset, RELEASE
set. -/
def State.firstSetCap (s : State) (p : Nat) : State :=
  let fb := s.fget (pGOVACC p) GA_FALLBACK
  let l := portList.filter fun a => s.service a = 2
  let q := s.claims l
  let thr := (s.presetShares s.feedTerm q.1).elim fb fun e => (shareOf e p).cap
  (q.2.2.modAcc p fun k => { k with cap := fb, inService := true }).sendSetCap p fb thr fb (s.slopeOf l p) true

/-- One accelerator's cap of a tick; without a preset THR_CAP is the cap. -/
def State.capStep (l hard : List Nat) (hold : Bool) (bound : Nat) (d : List Share) (e : Option (List Share)) (s : State)
    (a : Nat) : State :=
  let x := shareOf d a
  let t : TickAcc := ⟨x.cap, 0, hold, x.below, hard.contains a⟩
  match e with
  | none => s.tickAcc l bound a { t with thr := (s.paceCap l a t).1 }
  | some e => s.tickAcc l bound a { t with thr := (shareOf e a).cap }

/-- The shares of a tick put into force (R381, R383, R387); whether any lies below its demand, and K_ALLOW (R384). -/
def State.shareCaps (s : State) (hold : Bool) (feed pEff bound : Nat) (l : List Nat) : State × Bool × Int :=
  let q := s.claims l
  let d := divide ((pEff : Int) - s.overhead - s.floorK) q.1
  let t := l.foldl (State.capStep l q.2.1 hold bound d.1 (s.presetShares feed q.1)) (q.2.2.showFloor d.2)
  let caps := (l.map fun a => ((t.govAcc a).cap : Int) * quarter).foldl (· + ·) 0
  let allow := (pEff : Int) - s.overhead - caps
  (t, d.1.any Share.below, if d.2 then allow else max allow s.floorK)

/-- The tray's reasons of a tick. -/
def State.trayReason (s : State) (bound : Nat) (below : Bool) : Nat :=
  let short := below || (s.pins.mainPwrGood && s.fget pCLK CLK_KRM_STEP < s.preferred)
  let any := fun b => portList.any fun a => s.fget (pGOVACC a) GA_REASON / 2 ^ b % 2 = 1
  Nat.lor (if short then Nat.land bound 0xCF else 0)
    (16 * bit (any 4) + 32 * bit (any 5) + 256 * bit s.emergency + 512 * bit s.gov.yield)

/-- GOVERNOR_TICK (R373): the quantities, the caps, the shares and Kermes' step. `fresh` says whether Carapace's readings
arrived since the last tick. -/
def execGovernorTick (fresh : Bool) (s : State) : Res :=
  let noMeas := s.crp.silent || (s.flag pGOVGLOB GG_STAT_NO_MEAS && !fresh)
  let s := { s with gov.tickN := s.gov.tickN + 1 }.showMeas noMeas
  let s := portList.foldl State.checkTrust s
  let raw := s.trayPower - (portList.map s.measured).foldl (· + ·) 0 - s.kermesPower
  let s := { s with gov.u := filterU s.gov.u raw }
  let s := (s.fset pGOVGLOB GG_POWER_U (satReg 16 (s.gov.u / watt))).fset pGOVGLOB GG_POWER_P_TRAY
    (satReg 16 (s.trayPower / watt))
  let feed := s.feedTerm
  let terms := s.capTerms s.rackTerm feed
  let eff := lowestTerm terms
  let fell := decide (eff.2 < s.gov.pEff)
  let s := { s with gov.feedCap := feed }
  let s := (s.fset pGOVGLOB GG_FEED_CAP (satReg 16 (feed / 1000000 : Nat))).takeCap eff.2 eff.1
  let bound := boundBits terms eff.2
  let r := s.shareCaps (noMeas || fell) feed eff.2 bound (portList.filter fun a => s.service a = 2)
  let s := portList.foldl State.showAcc (r.1.tickKermes r.2.2)
  let reason := s.trayReason bound r.2.1
  .next ((s.fset pGOVGLOB GG_REASON_REASON reason).addDurations pGOVGLOB GG_DUR reason).answerCaps

/-- KRM_STEP_UP (R384): after ten ticks with headroom the step rises by one, to the preferred step at most. -/
def execKrmStepUp (s : State) : Res :=
  let n := s.fget pCLK CLK_KRM_STEP
  if s.gov.upN < 10 || s.flag pGOVGLOB GG_STAT_NO_MEAS || s.emergency || s.krmForced || !s.pins.mainPwrGood ||
      min s.preferred (s.fget pCLK CLK_KRM_LIMIT_LIMIT) ≤ n then .next s
  else .next { (s.setStep (n + 1)) with gov.upN := 0 }

/-- YIELD_END (R385): 1 ms, a hundred ticks, of headroom without emergency. -/
def execYieldEnd (s : State) : Res :=
  if 100 ≤ s.gov.yieldN && !s.emergency then .next (s.setYield false) else .next s

/-- AVSBUS_READ (R373): the output power of the MAIN rails, in watts. -/
def execAvsbusRead (watts : Nat) (s : State) : Res :=
  .next (if s.pins.mainPwrGood then { s with gov.k := watts } else s)

/-! ### Trust and acknowledgements (R387, R388) -/

/-- MISMATCH (R388). -/
def execMismatch (acc : Port) (s : State) : Res :=
  let g := pGOVACC acc.val
  if s.fget g GA_STAT_TRUST = 0 && 100 ≤ (s.govAcc acc.val).disagree then .next ((s.fset g GA_STAT_TRUST 1).raise g 3)
  else .next s

/-- DISTRUST (R388): counted from the first disagreeing tick. -/
def execDistrust (acc : Port) (s : State) : Res :=
  let g := pGOVACC acc.val
  if s.fget g GA_STAT_TRUST = 1 && 10000 ≤ (s.govAcc acc.val).disagree then .next ((s.fset g GA_STAT_TRUST 2).raise g 4)
  else .next s

/-- TRUST_RESTORED (R388). -/
def execTrustRestored (acc : Port) (s : State) : Res :=
  let g := pGOVACC acc.val
  let n := (s.govAcc acc.val).agree
  if (s.fget g GA_STAT_TRUST = 1 && 100 ≤ n) || (s.fget g GA_STAT_TRUST = 2 && 100000 ≤ n) then
    .next (s.fset g GA_STAT_TRUST 0)
  else .next s

/-- What a write of GA_CTRL does (R388): RETRUST takes DISTRUST to TRUST, from where disagreement counts anew. -/
def gaCtrl (a v : Nat) (s : State) : State :=
  if v / 8 % 2 = 1 && s.fget (pGOVACC a) GA_STAT_TRUST = 2 then
    (s.fset (pGOVACC a) GA_STAT_TRUST 0).modAcc a fun k => { k with disagree := 0, agree := 0 }
  else s

/-- RETRUST (R388): a write of GA_CTRL with RETRUST = 1 and PHASE as it is. -/
def execRetrust (cls : Cls) (acc : Port) (s : State) : Res :=
  let a := pGOVACC acc.val + 0x100
  .next (writeThen s cls a (Nat.lor (s.rd a).toNat 8) (gaCtrl acc.val 8))

/-- ACK_LATE (R387): 100 us without the acknowledgement of the latest SET_CAP. -/
def execAckLate (acc : Port) (s : State) : Res :=
  let p := acc.val
  let g := pGOVACC p
  if (s.govAcc p).ackDue.isNone || !s.portUp p || s.flag g GA_STAT_ACK_LATE then .next s
  else .next ((((s.fset g GA_STAT_ACK_LATE 1).hwSet (pSLK p) SLK_CTRL_THR 1).throttle p).raise g 5)

/-- NO_MEAS (R393): readings have been missing for 20 us. -/
def execNoMeas (s : State) : Res := .next (s.showMeas true)

/-! ### The rack's limit pin (R290, R332, R386) -/

/-- RCK_STAT.PRESET_ACT follows the pin and the preset. -/
def State.showPreset (s : State) : State := s.fset pRCK RCK_STAT_PRESET_ACT (bit s.presetOn)

/-- RACK_LIMIT_ASSERT (R332): THROTTLE on every port; with a preset, that is in force and Kermes at MIN_STEP (R386). -/
def execRackLimitAssert (s : State) : Res :=
  let was := s.presetOn
  let s := { s with pins.rackLimitLow := true, hr.presetTimer := false }
  let s := (portList.foldl State.throttle s).showPreset
  .next (if s.presetOn && !was then s.raise pRCK 4 else s).forceStep

/-- RACK_LIMIT_RELEASE (R290, R332): THROTTLE follows the pin; the preset stays for 1 ms. -/
def execRackLimitRelease (s : State) : Res :=
  if !s.pins.rackLimitLow then .next s
  else .next ((portList.foldl State.throttle { s with pins.rackLimitLow := false, hr.presetTimer := true }).showPreset)

/-- PRESET_WITHDRAW (R332, R386): 1 ms after the pin returned high. -/
def execPresetWithdraw (s : State) : Res :=
  if !s.hr.presetTimer then .next s
  else .next { s with hr.presetTimer := false }.showPreset

end Sys2Proof.Machine
end

