-- ==== Sys2Proof/Machine/KrmSync.lean ====
section
/-! DEFINITION. The synchronisation slot (R121, R122), which closes a bundle; barriers and the ramp (R135, R136); the
completion of DMA tags and reductions, which may free a held bundle; the watchdog (R150). -/

namespace Sys2Proof.Machine

/-- Runs a slot that waited in the latch of core `c`. -/
def runSlot (c : Nat) (s : State) (i : Instr) : State :=
  match i with
  | .dot _ op f => dotRun c op f s
  | .dot2 _ op f => dot2Run c op f s
  | .dotg _ op f => dotgRun c op f s
  | .vadd _ d a b => vaddRun c d.val a.val b.val s
  | .vsub _ d a b => vsubRun c d.val a.val b.val s
  | .vmul _ d a b => vmulRun c d.val a.val b.val s
  | .vfma _ d a b e => vfmaRun c d.val a.val b.val e.val s
  | .vmax _ d a b => vmaxRun c d.val a.val b.val s
  | .vmin _ d a b => vminRun c d.val a.val b.val s
  | .vcmplt _ d a b => vcmpltRun c d.val a.val b.val s
  | .vcmple _ d a b => vcmpleRun c d.val a.val b.val s
  | .vcmpeq _ d a b => vcmpeqRun c d.val a.val b.val s
  | .vsel _ d a b e => vselRun c d.val a.val b.val e.val s
  | .vmov _ d a => vmovRun c d.val a.val s
  | .vabs _ d a => vabsRun c d.val a.val s
  | .vneg _ d a => vnegRun c d.val a.val s
  | .vbcast _ d a l => vbcastRun c d.val a.val l.val s
  | .vexp _ d a => vexpRun c d.val a.val s
  | .vrcp _ d a => vrcpRun c d.val a.val s
  | .vrsqrt _ d a => vrsqrtRun c d.val a.val s
  | .vtanh _ d a => vtanhRun c d.val a.val s
  | .vrsum _ d a => vrsumRun c d.val a.val s
  | .vrmax _ d a => vrmaxRun c d.val a.val s
  | .vcvti _ d a => vcvtiRun c d.val a.val s
  | .vcvtf _ d a => vcvtfRun c d.val a.val s
  | .vquant _ d a f t => vquantRun c d.val a.val f t s
  | .vdequant _ d a f => vdequantRun c d.val a.val f s
  | .vacc _ a o r => vaccRun c a.val o r.val s
  | .ldv _ r g f => ldvRun c r.val g f s
  | .stv _ r g => stvRun c r.val g s
  | .ldh _ r g f u => ldhRun c r.val g f u s
  | .sth _ r g f t => sthRun c r.val g f t s
  | .ldq _ r g f sg u => ldqRun c r.val g f sg u s
  | .stq _ r g f sg => stqRun c r.val g f sg s
  | .rdacc _ r a => rdaccRun c r.val a.val s
  | .clracc _ a => clraccRun c a.val s
  | .acfg _ a e => acfgRun c a.val e.val s
  | .setag _ g e => setagRun c g.val e.val s
  | .ldc _ r e => ldcRun c r.val e.val s
  | .dma _ e => dmaRun c e.val s
  | .red _ e => redRun c e.val s
  | _ => s

/-- Whether a job is running. -/
def State.jobRunning (s : State) : Bool :=
  match s.krm.job with
  | some j => j.phase = .running
  | none => false

/-- Runs the latch of core `c` and issues its bundle; a fault in a slot ends the job at that bundle. -/
def State.finishBundle (s : State) (c : Nat) (op : SyncOp) : State :=
  let l := (s.core c).latch
  let s := s.modCore c fun k => { k with latch := [], held := none }
  let s := l.foldl (fun s i => if s.jobRunning then runSlot c s i else s) s
  if s.jobRunning then s.issueBundle c op else s

/-- Closes the bundle of core `c` with its synchronisation slot; a bundle that must wait is held. -/
def State.closeBundle (s : State) (c : Nat) (op : SyncOp) : State :=
  if !s.issuing c then s
  else if s.mustHold c then s.modCore c fun k => { k with held := some op }
  else s.finishBundle c op

/-- Issues the held bundle of core `c` if nothing holds it any longer. -/
def State.resume (s : State) (c : Nat) : State :=
  match (s.core c).held with
  | some op => if s.jobRunning && !s.mustHold c then s.finishBundle c op else s
  | none => s

/-- SNOP (R121). -/
def execSnop (core : PhysCore) (s : State) : Res := .next (s.closeBundle core.val .snop)

/-- LOOP (R122): ARG + 1 iterations. -/
def execLoop (core : PhysCore) (arg : Fin 4096) (s : State) : Res :=
  .next (s.closeBundle core.val (.loop (arg.val + 1)))

/-- LOOPC (R121): the count of a LOOP_COUNTS entry. -/
def execLoopc (core : PhysCore) (entry : Fin 4096) (s : State) : Res :=
  .next (s.closeBundle core.val (.loop (Tab.get (s.core core.val).loopCounts entry.val 0).toNat))

/-- ENDL (R122). -/
def execEndl (core : PhysCore) (s : State) : Res := .next (s.closeBundle core.val .endl)

/-- BARQ (R136). -/
def execBarq (core : PhysCore) (ident : BitVec 8) (s : State) : Res :=
  .next (s.closeBundle core.val (.bar false ident.toNat))

/-- BARC (R136). -/
def execBarc (core : PhysCore) (ident : BitVec 8) (s : State) : Res :=
  .next (s.closeBundle core.val (.bar true ident.toNat))

/-- WAITD (R121): stalls until the tag is complete. -/
def execWaitd (core : PhysCore) (tag : Fin 16) (s : State) : Res :=
  let c := core.val
  if s.issuing c then
    .next ((s.modCore c fun k => { k with waitTags := k.waitTags ++ [tag.val] }).closeBundle c .waitd)
  else .next s

/-- PHASE (R389). -/
def execPhase (core : PhysCore) (ph : Fin 8) (s : State) : Res := .next (s.closeBundle core.val (.phase ph.val))

/-- MARK (R121). -/
def execMark (core : PhysCore) (arg : BitVec 12) (s : State) : Res :=
  .next (s.closeBundle core.val (.mark arg.toNat))

/-- END (R150). -/
def execEndStream (core : PhysCore) (s : State) : Res := .next (s.closeBundle core.val .endStream)

/-- CORE_START (R135): the core of rank k starts 512 k cycles after rank 0. -/
def execCoreStart (core : PhysCore) (s : State) : Res :=
  let c := core.val
  let k := s.core c
  match s.krm.job, k.logical with
  | some j, some l =>
    if j.phase = .running && !k.started && !k.retired then
      let t := 512 * j.parts.idxOf l
      .next ((s.setCore c { k with started := true, start := t, launchStart := t, now := t, lastIssue := t }).fset
        (pKRMCORE c) KCORE_STAT_RUNNING 1)
    else .next s
  | _, _ => .next s

/-- The identifier every core of a barrier's scope waits with, if all do. -/
def barrierIdent (s : State) (chip : Bool) (ms : List (Nat × Nat)) : Option Nat :=
  match ms with
  | [] => none
  | m :: _ =>
    match (s.core m.2).waitBar with
    | some b => if ms.all fun p => (s.core p.2).waitBar = some (chip, b.2) then some b.2 else none
    | none => none

/-- BARRIER_RELEASE (R136): 8 or 32 cycles after the last arrival, then the ramp among its participants. -/
def execBarrierRelease (scope : Option Quad) (s : State) : Res :=
  match s.krm.job with
  | none => .next s
  | some j =>
    let chip := scope.isNone
    let q := match scope with | some q => q.val | none => 0
    let ms := j.inScope chip q
    match barrierIdent s chip ms with
    | none => .next s
    | some _ =>
      let r := ms.foldl (fun m p => max m ((s.core p.2).now - 1)) 0 + (if chip then 32 else 8)
      let s := (ms.zipIdx).foldl (fun s p =>
        let c := p.1.2
        let k := s.core c
        let t := r + 512 * p.2
        let s := s.setCore c { k with waitBar := none, start := t, now := t }
        s.fset (pKRMCORE c) KCORE_DSTALL (sat32 (s.fget (pKRMCORE c) KCORE_DSTALL + (t - k.now)))) s
      .next (if chip then s else s.showBarrier q none)

/-- Whether a job runs, or has just ended in a cycle that another event may meet (R152). -/
def State.jobStands (s : State) : Bool :=
  match s.krm.job with
  | some j => j.phase = .running || s.justEnded j
  | none => false

/-- KERMES_WATCHDOG (R150). -/
def execKermesWatchdog (core : PhysCore) (s : State) : Res :=
  let k := s.core core.val
  let w := s.fget pKRMGLOB KG_WDOG
  if s.jobStands && k.logical.isSome && k.started && !k.retired && w != 0 then
    .next (s.jobFault 5 (k.lastIssue + w * 1024))
  else .next s

/-- DMA_COMPLETE (R131, R132). -/
def execDmaComplete (core : PhysCore) (tag : Fin 16) (err : Option Nat) (found : List Upset) (s : State) : Res :=
  .next ((dmaEnd core.val tag.val err found s).resume core.val)

/-- REDUCTION_COMPLETE (R133). -/
def execReductionComplete (entry : Fin 512) (s : State) : Res :=
  if !s.jobRunning then .next s
  else
    let s := redEnd entry.val s
    match s.krm.job with
    | some j => .next (s.resume ((j.physOf (redRoot (Tab.get j.redTab entry.val 0))).getD 0))
    | none => .next s

end Sys2Proof.Machine
end

