-- ==== Sys2Proof/Machine/Sampling.lean ====
section
/-! DEFINITION. Seed epochs and the sampling function of the witness (R238, R239), and the command SEED_ROTATE. -/

namespace Sys2Proof.Machine

/-- The field of seed word `i` of an array of eight. -/
def seedWord (f : Fld) (i : Nat) : Fld := f.nth i 4

/-- The 32 bytes of an array of eight seed words. -/
def State.seedBytes (s : State) (f : Fld) : List Byte :=
  (List.range 8).flatMap fun i => natLe 4 (s.fget pWIT (seedWord f i))

/-- 32 bytes of the on-chip entropy source (log 1). -/
def State.entropy (s : State) : List Byte × State :=
  ((List.range 4).flatMap fun i => natLe 8 (Config.freeWord (s.free + i)).toNat, { s with free := s.free + 4 })

/-- A rotation (R239): the epoch counts, the retiring seed becomes readable, and the new seed is entropy or the host's. -/
def State.rotateSeed (s : State) : State :=
  let old := s.qw.seed
  let s := (List.range 8).foldl (fun s i => s.fset pWIT (seedWord WIT_PREV_SEED i) (fieldLe old (4 * i) 4)) s
  let s := s.fset pWIT WIT_EPOCH (s.fget pWIT WIT_EPOCH + 1)
  let q := if s.krm.mode.entropySeed then s.entropy else (s.seedBytes WIT_HSEED, s)
  { q.2 with qw.seed := q.1 }

/-- X of the sampling function (R238). -/
def sampleX (seed : List Byte) (q n : Nat) : Nat :=
  fieldLe (shake256 (ascii "FX9-SMPL" ++ seed ++ natLe 8 q ++ natLe 8 n)) 0 8

/-- Whether a receipt of queue `q` with sequence `n` is selected (R238). -/
def State.selected (s : State) (force : Bool) (k q n : Nat) : Bool :=
  s.flag pWIT WIT_CTRL_EN && (force || (k ≤ 63 && sampleX s.qw.seed q n % 2 ^ k = 0))

/-- What a write of WIT_ROTATE does. -/
def rotateAct (v : Nat) (s : State) : State := if v % 2 = 1 then s.rotateSeed else s

/-- SEED_ROTATE (R239). -/
def execSeedRotate (cls : Cls) (s : State) : Res := .next (writeThen s cls (pWIT + 0x138) 1 (rotateAct 1))

end Sys2Proof.Machine
end

