-- ==== Sys2Proof/Machine/KrmJobs.lean ====
section
/-! DEFINITION. Jobs (R134, R137, R144-R155, R200-R202): submission, taking and checking a container, loading, launch, the
completion record, halts, power states, and the device idle boundary. -/

namespace Sys2Proof.Machine

/-! ### Queues (R144, R145) -/

/-- Shows the depths of the queues. -/
def State.showQueues (s : State) : State :=
  (s.fset pKRMGLOB KG_STAT_HQ_DEPTH s.krm.hostQ.length).fset pKRMGLOB KG_STAT_WQ_DEPTH s.krm.witQ.length

/-- Entries of the completion ring. -/
def State.cringSize (s : State) : Nat := 2 ^ s.fget pKRMGLOB KG_CRING_CTRL_LOG2_ENTRIES

/-- Whether the completion ring is full (R151). -/
def State.cringFull (s : State) : Bool :=
  (s.fget pKRMGLOB KG_CRING_WR + 0x100000000 - s.fget pKRMGLOB KG_CRING_RD) % 0x100000000 = s.cringSize

/-- Shows CRING_FULL; its rise is a cause (R163). -/
def State.showCring (s : State) : State :=
  let f := s.cringFull
  let t := s.fset pKRMGLOB KG_STAT_CRING_FULL (bit f)
  if f && !s.flag pKRMGLOB KG_STAT_CRING_FULL then t.raise pKRMGLOB 5 else t

/-- A class's own copy of a submission pair. -/
def State.subPair (s : State) (cls : Cls) (f : Fld) : Nat :=
  (Tab.get s.copies (clsKey cls (pKRMGLOB + f.off)) 0).toNat +
    0x100000000 * (Tab.get s.copies (clsKey cls (pKRMGLOB + f.off + 4)) 0).toNat

/-- Puts the class's submission values at the tail of the host queue (R144). -/
def submitAct (cls : Cls) (s : State) : State :=
  if 16 ≤ s.krm.hostQ.length then s.latch pKRMGLOB 0x0101 (clsCode cls) 0x13C
  else
    let e : JobSub := {
      addr := s.subPair cls KG_SUB_ADDR, tick := BitVec.ofNat 64 (s.subPair cls KG_SUB_TICK)
      nbase := s.subPair cls KG_SUB_NBASE, nsize := s.subPair cls KG_SUB_NSIZE
      bbase := s.subPair cls KG_SUB_BBASE, bsize := s.subPair cls KG_SUB_BSIZE
      jobId := Tab.get s.copies (clsKey cls (pKRMGLOB + KG_SUB_ID.off)) 0 }
    { s with krm.hostQ := s.krm.hostQ ++ [e] }.showQueues

/-- SUBMIT (R144). -/
def execSubmit (cls : Cls) (s : State) : Res := .next (writeThen s cls (pKRMGLOB + 0x13C) 1 (submitAct cls))

/-- Whether a channel page counts as ready: READY, or fenced and so never written (log 21). -/
def State.chanReady (s : State) (pg : Nat) : Bool := s.flag pg PAGE_STAT_READY || s.flag pg PAGE_STAT_FENCED

/-- Whether the tiers a submission names are ready (R191). -/
def State.tiersReady (s : State) (e : JobSub) : Bool :=
  (e.nsize = 0 || (List.range 6).all fun i => s.chanReady (pNTRCHAN i)) &&
    (e.bsize = 0 || (List.range 24).all fun i => s.chanReady (pBLKCHAN i))

/-- The head of a queue, if it can be taken. -/
def State.head (s : State) : List JobSub → Option JobSub
  | [] => none
  | e :: _ => if s.tiersReady e then some e else none

/-- The mode bits GEN_MODE holds. -/
def State.modeBits (s : State) : EffMode :=
  { strict := s.flag pGEN GEN_MODE_STRICT, balance := s.flag pGEN GEN_MODE_BALANCE
    fastReduce := s.flag pGEN GEN_MODE_FAST_REDUCE, bkReorder := s.flag pGEN GEN_MODE_BK_REORDER
    entropySeed := s.flag pGEN GEN_MODE_ENTROPY_SEED }

/-- The entry Kermes takes next, and the queues without it: the witness and host queues alternately (R145). -/
def State.takeNext (s : State) : Option (JobSub × State) :=
  let w := (s.head s.krm.witQ).map fun e => (e, { s with krm.witQ := s.krm.witQ.drop 1, krm.witTurn := false })
  let h := (s.head s.krm.hostQ).map fun e => (e, { s with krm.hostQ := s.krm.hostQ.drop 1, krm.witTurn := true })
  if s.krm.witTurn then w.or h else h.or w

/-- JOB_LOAD (R145, R146): with no job taken, no hold, no driver loss, room in the completion ring and no change of mode
pending (R201), Kermes takes an entry and checks its container. -/
def execJobLoad (s : State) : Res :=
  if s.krm.job.isSome || s.flag pKRMGLOB KG_CTRL_QHOLD || s.hr.lost || s.cringFull || s.modeBits != s.krm.mode ||
      !s.pins.mainPwrGood then .next s
  else
    match s.takeNext with
    | none => .next s
    | some (e, s) =>
      let s := s.showQueues
      let s := s.noteAccess e.addr (readCont s e).total
      let c := readCont s e
      let r := loadCheck s e s.jrnFree
      let j : Job := { sub := e, digest := e.witness || s.flag pDGT DGT_CTRL_HOST_DIGEST }
      if r.1 != 0 then
        let s := if r.1 = 5 then s.bite else s
        .next { s with krm.job := some { j with
          phase := .ended, status := 1, code := r.1, shortfall := r.2.1, refuseMask := r.2.2, endTick := s.tick } }
      else
        let parts := c.parts
        .next ({ s with krm.job := some { j with
          parts := parts, phys := parts.map fun l => c.phys s l
          flags := BitVec.ofNat 8 (s.fabLe (e.addr + 0x19) 1), bound := s.fabLe (e.addr + 0x20) 8
          maxContrib := c.foot s 0x20 4
          redTab := tabOf 0 ((List.range (c.entries 12 0xFFFF)).map fun i => (i, BitVec.ofNat 64 (c.entry s 12 0xFFFF i)))
          tensors := c.tensors s } }.fset pKRMGLOB KG_STAT_LOADING 1)

/-! ### Loading (R148, R251, R261) -/

/-- A table of a core's own, entry by entry. -/
def loadTable {w : Nat} (c : Cont) (s : State) (typ l : Nat) : Tab (BitVec w) :=
  tabOf 0 ((List.range (c.entries typ l)).map fun i => (i, BitVec.ofNat w (c.entry s typ l i)))

/-- Writes a participating core's stream, tables and SRAM image (R148). -/
def loadCore (c : Cont) (resident : Bool) (s : State) (p : Nat × Nat) : State :=
  let l := p.1
  let k := s.core p.2
  let s1 := s.setCore p.2 { k with
    store := loadTable c s 3 l, storeLen := c.entries 3 l, fmtTab := loadTable c s 7 l, accCfg := loadTable c s 8 l
    agInit := loadTable c s 9 l, dmaDesc := loadTable c s 10 l, consts := loadTable c s 4 l
    loopCounts := tabOf 0 ((List.range (c.entries 11 l)).map fun i => (i, BitVec.ofNat 32 (c.loopCount s l i)))
    logical := some l, resident := resident, started := false, retired := false }
  match c.table 13 l with
  | some x => s1.store (sramAddr p.2 0) (s.fabBytes (c.base + x.off) x.len) false
  | none => s1

/-- The VALID witness slot whose container and window bases are a job's, its WEIGHTS digest (R251). -/
def State.slotWeights (s : State) (e : JobSub) : Option (List Byte) :=
  if inBulk (s.pget pWIT WIT_SLOT_BASE) then
    ((List.range 256).find? fun i =>
      let a := s.slotAddr i
      s.fabLe a 1 = 2 && s.fabLe (a + 8) 8 = e.addr && s.fabLe (a + 0x10) 8 = e.nbase && s.fabLe (a + 0x18) 8 = e.bbase).map
      fun i => s.fabBytes (s.slotAddr i + 0x60) 32
  else none

/-- The digests made during loading. -/
def loadDigests (s : State) (j : Job) : State :=
  let j := { j with progDigest := s.programDigest j.sub.addr }
  if !j.digest then { s with krm.job := some j }
  else
    let inR := imageRanges j 1
    let s := s.rangeSee inR
    let inBad := s.rangePoison inR
    let s := if inBad then s.bite else s
    let param := j.sub.params.flatMap (fun w => natLe 4 w.toNat)
    let j := { j with
      inputDigest := if inBad then [] else inputDigest (s.rangeBytes inR) (param ++ List.replicate (16 - param.length) 0)
      digPoison := inBad }
    match s.slotWeights j.sub with
    | some w => { s with krm.job := some { j with weightDigest := w, wcached := true } }
    | none =>
      let wR := imageRanges j 2
      let s := s.rangeSee wR
      let bad := s.rangePoison wR
      let s := if bad then s.bite else s
      { s with krm.job := some { j with
        weightDigest := if bad then [] else weightsDigest (s.rangeBytes wR), digPoison := j.digPoison || bad } }

/-- The KIND 2 journal entry of a host job that declares JOURNAL_BYTES (R259, R261), written before its launch: a job refused
as LATE has none (R147). -/
def loadJournal (s : State) (c : Cont) (j : Job) : State :=
  let n := c.foot s 0x18 8
  if j.sub.witness || n = 0 then s
  else
    let rs := imageRanges j 1
    let s := s.rangeSee rs
    let img := s.rangeBytes rs
    let fit := n - 0xC0
    let r := s.journal 2 (bit (s.rangePoison rs) + 2 * bit (fit < img.length)) 0xFFFFFFFF j.sub.jobId.toNat
      (natLe 8 j.sub.addr ++ natLe 8 j.sub.nbase ++ natLe 8 j.sub.nsize ++ natLe 8 j.sub.bbase ++ natLe 8 j.sub.bsize ++
        natLe 4 j.sub.jobId.toNat ++ natLe 4 0 ++ j.progDigest) (img.take fit)
    r.2

/-- Refuses the job as LATE, by how many ticks (R146, R147). -/
def lateRefuse (s : State) (j : Job) : State :=
  { s with krm.job := some { j with
    phase := .ended, status := 1, code := 0x30, endTick := s.tick, shortfall := s.tick.toNat - j.sub.tick.toNat } }.fset
    pKRMGLOB KG_STAT_LOADING 0

/-- Whether a job's named tick has passed on a valid counter. -/
def State.tickPassed (s : State) (j : Job) : Bool :=
  j.sub.tick != 0 && s.flag pFFY FFY_STAT_VALID && j.sub.tick.toNat < s.tick.toNat

/-- LOAD_COMPLETE (R147, R148): streams, tables and images stand in the cores; LATE is decided; digests are made; the job waits
for its tick. Nothing can be written into a core that is off (R155). -/
def execLoadComplete (s : State) : Res :=
  match s.krm.job with
  | none => .next s
  | some j =>
    if j.phase != .loading || j.phys.any (fun c => s.fget (pKRMCORE c) KCORE_STAT_PSTATE = 3) then .next s
    else
      let c := readCont s j.sub
      let s := (j.parts.zip j.phys).foldl (loadCore c (j.flags.getLsbD 2)) s
      let late := s.tickPassed j
      if late && s.flag pKRMGLOB KG_CTRL_LATE_POLICY then .next (lateRefuse s j)
      else .next ((loadDigests s { j with phase := .loaded, late := late }).fset pKRMGLOB KG_STAT_LOADING 0)

/-! ### Launch (R113, R134, R211) -/

/-- A participating core's state at launch (R113). -/
def launchCore (s : State) (c : Nat) : State :=
  let k := s.core c
  let k' : Core1 := Core1.idle { k with
    vregs := [], accs := tabOf {} ((List.range 64).map fun r => (r, rowOf (Tab.get k.accCfg r 0)))
    ags := tabOf {} ((List.range 8).map fun g => (g, agOf (Tab.get k.agInit g 0)))
    loops := [], tags := [], started := false, retired := false, start := 0, launchStart := 0, now := 0, lastIssue := 0
    waitBar := none, jobArith := 0 }
  let pg := pKRMCORE c
  ((((s.setCore c k').fset pg KCORE_PC_PC 0).fset pg KCORE_BSTALL 0).fset pg KCORE_DSTALL 0).pset pg KCORE_CYC 0

/-- Whether the digest of the job before holds a launch (R251, R253). -/
def State.digestHolds (s : State) (j : Job) : Bool :=
  (match s.krm.lastDone with
    | some d => d.digest && d.status = 0 && !d.digDone
    | none => false) || (s.dgt.held != [] && s.wantsRecord j)

/-- Whether a loaded job waits: for Kermes, its cores, the ring, the digests of the job before, or, where it names a tick, for a
valid counter that has reached it (R134, R145, R151, R210, R211). -/
def State.launchWaits (s : State) (j : Job) : Bool :=
  s.flag pKRMGLOB KG_CTRL_QHOLD || s.cringFull || s.flag pKRMGLOB KG_STAT_WAKING ||
    j.phys.any (fun c => s.fget (pKRMCORE c) KCORE_STAT_PSTATE != 0) || s.digestHolds j ||
    (j.sub.tick != 0 && (!s.flag pFFY FFY_STAT_VALID || s.tick.toNat < j.sub.tick.toNat))

/-- LAUNCH (R134, R210, R211): a loaded job whose cores are in K0 launches at its tick, or at once when it names none; a
tick that has passed falls under the late rule. -/
def execLaunch (s : State) : Res :=
  match s.krm.job with
  | none => .next s
  | some j =>
    if j.phase != .loaded || s.launchWaits j then .next s
    else if s.tickPassed j && !j.late && s.flag pKRMGLOB KG_CTRL_LATE_POLICY then .next (lateRefuse s j)
    else
      let late := j.late || s.tickPassed j
      let s := loadJournal s (readCont s j.sub) j
      let s := j.phys.foldl launchCore s
      let s := { s with krm.phase := 3, krm.job := some { j with
        phase := .running, launched := true, late := late, strict := s.flag pGEN GEN_MODE_STRICT_ACT
        fastOk := s.krm.mode.fastReduce
        launchTick := if j.sub.tick != 0 && !late then j.sub.tick else s.tick
        actMap := BitVec.ofNat 64 (s.pget pKRMGLOB KG_ACT_MAP) } }
      .next (s.fset pKRMGLOB KG_STAT_RUNNING 1)

/-! ### The completion record (R150, R151, R158) -/

/-- The FLAGS of the completion record. -/
def jobFlags (j : Job) : Nat :=
  bit j.poisoned + 2 * bit j.late + 4 * bit (j.bound != 0 && j.bound < j.endCycle) + 8 * bit j.strict +
    16 * bit j.throttled + 32 * bit j.sub.resubmitted

/-- The 64 bytes of the completion record. A job that never launched shows no ARITH, and, as the spec gives them "at launch"
only, ACT_MAP and FLAGS.STRICT_ACT of 0 (R150; DESIGN CHOICE, log 98). -/
def completionBytes (s : State) (j : Job) : List Byte :=
  natLe 4 j.sub.jobId.toNat ++ natLe 1 j.status ++ natLe 1 j.code ++ natLe 2 (jobFlags j) ++ natLe 8 j.shortfall ++
    natLe 8 j.launchTick.toNat ++ natLe 8 j.endTick.toNat ++ natLe 8 j.endCycle ++ natLe 8 j.actMap.toNat ++
    natLe 4 (if j.launched then orFlags (j.phys.map fun c => (s.core c).jobArith) else 0) ++ natLe 2 j.refuseMask ++ natLe 1 (bit j.sub.witness) ++
    [0] ++ (if j.status = 1 then List.replicate 8 0 else slice j.progDigest 0 8)

/-- Releases the cores of the job: none takes part any longer. -/
def releaseCores (s : State) (j : Job) : State :=
  j.phys.foldl (fun s c => s.modCore c fun k => { k with logical := none }) { s with krm.job := none }

/-- COMPLETION_RECORD (R150, R152): after the last DMA write has landed. A host job aborted by a fence returns once to the
head of its queue under FENCE_POLICY = 1 (R158); a witness job reports to the witness (R151). -/
def execCompletionRecord (s : State) : Res :=
  match s.krm.job with
  | none => .next s
  | some j =>
    let busy := j.phys.any fun c => (s.core c).tags.any fun t => t.2.busy
    if j.phase != .ended || busy || s.krm.lastDone.isSome then .next s
    else if j.status = 2 && j.code = 2 && !j.sub.witness && !j.sub.resubmitted &&
        s.fget pKRMGLOB KG_CTRL_FENCE_POLICY = 1 then
      let s := releaseCores s j
      .next { s with krm.hostQ := { j.sub with resubmitted := true } :: s.krm.hostQ }.showQueues
    else if j.sub.witness then .next { (releaseCores s j) with krm.lastDone := some j }
    else if s.cringFull then .next s
    else
      let wr := s.fget pKRMGLOB KG_CRING_WR
      let a := s.pget pKRMGLOB KG_CRING_BASE + 64 * (wr % s.cringSize)
      let s := s.fabWrite a (completionBytes s j) false
      let s := (s.fset pKRMGLOB KG_CRING_WR (wr + 1)).showCring
      let s := (releaseCores s j).raise pKRMGLOB (if j.status = 1 then 4 else 3)
      .next (if !j.digest then s
        else if j.status = 0 then { s with krm.lastDone := some j }
        else s.makeRecord j 2)

/-! ### Halts (R137) -/

/-- A halt request: QHOLD, and the job ends ABORTED with code HALT. -/
def State.haltKermes (s : State) : State :=
  (s.hwSet pKRMGLOB KG_CTRL_QHOLD 1).endJob 2 1 s.lastCycle

/-- HALT (R137): a write of KG_CTRL with HALT = 1 and its other fields as they are. -/
def execHalt (cls : Cls) (s : State) : Res :=
  .next (writeThen s cls (pKRMGLOB + 0x100) ((s.rd (pKRMGLOB + 0x100)).toNat / 2 * 2 + 1) State.haltKermes)

/-- CLR_ARITH (R109). -/
def execClrArith (cls : Cls) (core : PhysCore) (s : State) : Res :=
  .next (writeThen s cls (pKRMCORE core.val + 0x100) 4 fun t => t.fset (pKRMCORE core.val) KCORE_ARITH 0)

/-! ### The device idle boundary (R200-R202) -/

/-- DEVICE_IDLE_BOUNDARY: with no job taken and no receipt dispatch in progress, the values GEN_MODE holds come into effect; a
change of the effective ENTROPY_SEED rotates the seed (R239). A sampling decision is one step of the model and never in
progress here. What hardware changes of GEN_MODE here, STRICT_ACT and STRICT_PEND, are status bits and no change of a
configuration field: PAGE_SEQ does not count them (R48; DESIGN CHOICE, log 94). -/
def execDeviceIdleBoundary (s : State) : Res :=
  if s.krm.job.isSome || s.qw.heldR.isSome then .next s
  else
    let m := s.modeBits
    let turn := m.entropySeed != s.krm.mode.entropySeed
    let s := { s with krm.mode := m }
    let s := (s.fset pGEN GEN_MODE_STRICT_ACT (bit m.strict)).fset pGEN GEN_MODE_STRICT_PEND 0
    let s := s.fset pBLKGLOB TG_REORDER_REORDER (bit m.bkReorder)
    .next (if turn then s.rotateSeed else s)

/-! ### Power states (R153-R155) -/

/-- The wake time of a state in ns (R153). -/
def State.wakeNs (s : State) (st : Nat) : Nat :=
  match st with
  | 0 => 0
  | 1 => (64000 + s.krmMHz - 1) / s.krmMHz
  | 2 => 20000
  | _ => 2000000 + s.fget pKRMGLOB KG_PS_RELOAD * 1000

/-- The time in ticks to the event of an entry: zero when it names no tick. -/
def State.untilTick (s : State) (e : JobSub) : Nat := e.tick.toNat - s.tick.toNat

/-- The time to Kermes' next known event, none where there is none (R153). -/
def State.nextEvent (s : State) : Option Nat :=
  match s.krm.job with
  | some j => if j.phase = .running || j.phase = .ended then (s.takeNext.map fun e => s.untilTick e.1)
      else some (s.untilTick j.sub)
  | none => s.takeNext.map fun e => s.untilTick e.1

/-- The deepest permitted state. -/
def State.deepest (s : State) : Nat :=
  [3, 2, 1].find? (fun st => st ≤ s.fget pKRMGLOB KG_CTRL_MAX_STATE &&
    match s.nextEvent with
    | none => true
    | some t => s.wakeNs st + s.fget pKRMGLOB KG_PS_GUARD * 1000 ≤ t) |>.getD 0

/-- Whether a core is in service: not fenced. -/
def State.inService (s : State) (c : Nat) : Bool := !s.flag (pKRMCORE c) PAGE_STAT_FENCED

/-- The cores that hold a slot. -/
def State.activeCores (s : State) : List Nat := (List.range 36).filter fun c => s.pget pKRMGLOB KG_ACT_MAP / 2 ^ c % 2 = 1

/-- Shows the shallowest state among active cores. -/
def State.showPstate (s : State) : State :=
  s.fset pKRMGLOB KG_STAT_PSTATE ((s.activeCores.map fun c => s.fget (pKRMCORE c) KCORE_STAT_PSTATE).foldl min 3)

/-- What outlives the loss of a bank's contents: its correction counts and its spare rows (R192, R194). -/
def BankState.kept (k : BankState) : BankState := { rowCe := k.rowCe, candidates := k.candidates, sparesUsed := k.sparesUsed }

/-- Everything a core and its SRAM hold is lost (R155); the SRAM is initialised to zeros on the way out (R191). A transfer it
has issued goes on (R152). -/
def State.loseCore (s : State) (c : Nat) : State :=
  let lo := sramBase + c * sramSize
  let hi := lo + sramSize
  let k := s.core c
  { (s.setCore c { banks := tabOf {} (k.banks.map fun e => (e.1, e.2.kept)), tags := k.tags.filter (·.2.busy)
                   logical := k.logical, latched := k.latched, selftest := k.selftest }) with
    mem := s.mem.filter fun m => !(lo ≤ m.1 && m.1 < hi)
    poison := s.poison.filter fun p => !(lo ≤ p && p < hi)
    stale := s.stale.filter fun p => !(lo ≤ p && p < hi)
    integ.sramUps := s.integ.sramUps.filter fun e => !(lo ≤ e.1 && e.1 < hi) }

/-- Takes a core to a deeper state; into K3 it powers down for a while (R162). -/
def State.deepen (st : Nat) (s : State) (c : Nat) : State :=
  if s.fget (pKRMCORE c) KCORE_STAT_PSTATE < st then
    (if st = 3 then (s.loseCore c).fset (pKRMCORE c) KCORE_STAT_SHUTTING 1 else s).fset (pKRMCORE c) KCORE_STAT_PSTATE st
  else s

/-- A loaded job whose cores go to K3 has lost what was loaded: the loader writes it again on waking (R153, R155; DEDUCED from
KG_PS_RELOAD, log 22). -/
def State.unload (s : State) : State :=
  s.modJob fun j => if j.phase = .loaded then { j with phase := .loading } else j

/-- PSTATE_ENTER (R153): the cores that take no part in a running job enter the deepest permitted state. -/
def execPstateEnter (s : State) : Res :=
  let mine := match s.krm.job with
    | some j => if j.phase = JobPhase.loaded then j.phys else []
    | none => []
  let l := (List.range 36).filter fun c => s.inService c && ((s.core c).logical.isNone || mine.contains c)
  let st := s.deepest
  if s.flag pKRMGLOB KG_STAT_WAKING then .next s
  else .next (l.foldl (State.deepen st) (if st = 3 then s.unload else s)).showPstate

/-- The cores a wake brings to K0: the participants of the job taken, or every core in service. -/
def State.wakeSet (s : State) : List Nat :=
  match s.krm.job with
  | some j => j.phys
  | none => (List.range 36).filter s.inService

/-- Latches a start request while the core powers down (R162). -/
def State.latchStart (s : State) (c : Nat) (r : StartReq) : State :=
  (s.modCore c fun k => { k with latched := some r }).fset (pKRMCORE c) KCORE_STAT_RESTART_PEND 1

/-- WAKE (R154): a core still entering K3 has its request latched. -/
def execWake (s : State) : Res :=
  let l := s.wakeSet.filter fun c => s.fget (pKRMCORE c) KCORE_STAT_PSTATE != 0
  if l = [] then .next s
  else .next ((l.foldl (fun s c => if s.flag (pKRMCORE c) KCORE_STAT_SHUTTING then s.latchStart c .wake else s) s).fset
    pKRMGLOB KG_STAT_WAKING 1)

/-- WAKE_DONE (R154): the cores reach K0, none of them still powering down; a job that lost what was loaded is loaded again. -/
def execWakeDone (s : State) : Res :=
  if s.flag pKRMGLOB KG_STAT_WAKING && !s.wakeSet.any (fun c => s.flag (pKRMCORE c) KCORE_STAT_SHUTTING) then
    let s := s.wakeSet.foldl (fun s c =>
      (s.modCore c fun k => if k.selftest = some .wake then { k with selftest := none } else k).fset (pKRMCORE c)
        KCORE_STAT_PSTATE 0) s
    let s := match s.krm.job with
      | some j => if j.phase = JobPhase.loading then s.fset pKRMGLOB KG_STAT_LOADING 1 else s
      | none => s
    .next (s.fset pKRMGLOB KG_STAT_WAKING 0).showPstate
  else .next s

end Sys2Proof.Machine
end

