-- ==== Sys2Proof/Machine/Witness.lean ====
section
/-! DEFINITION. Receipt queues, dispatch, witness slots, re-execution, verdicts and replay (R228-R247, R264, R269), and
their commands. -/

namespace Sys2Proof.Machine

/-! ### Queues (R230, R231) -/

/-- One receipt queue. -/
def State.queue (s : State) (q : Nat) : QueueSt := Tab.get s.qw.queues q {}

/-- Replaces a queue. -/
def State.setQueue (s : State) (q : Nat) (k : QueueSt) : State := { s with qw.queues := Tab.set s.qw.queues q k {} }

/-- Receipts appended and not dispatched. -/
def State.undispatched (s : State) : Nat :=
  (s.qw.queues.map fun e => (e.2.prod - e.2.disp).toNat).foldl (· + ·) 0

/-- Shows the queue manager's counts and state (R270). -/
def State.showQmg (s : State) : State :=
  let n := s.undispatched
  let s := (s.fset pQMG QMG_ENABLED (s.qw.queues.filter fun e => e.2.enabled).length).fset pQMG QMG_PENDING (sat32 n)
  (s.fset pQMG QMG_STAT_IDLE (bit (n = 0))).fset pQMG QMG_STAT_STALLED (bit s.qw.heldR.isSome)

/-- Shows the witness' counts and state (R270). -/
def State.showWit (s : State) : State :=
  let n := s.qw.pendList.length
  ((s.fset pWIT WIT_STAT_PENDING n).fset pWIT WIT_STAT_BACKLOG (bit (4096 ≤ n))).fset pWIT WIT_STAT_RUNNING
    (bit (s.qw.inKermes != []))

/-- Records the queue and reason of a refusal or drop. -/
def State.qmgErr (s : State) (q reason : Nat) : State :=
  (s.fset pQMG QMG_LAST_ERR_Q_REASON reason).fset pQMG QMG_LAST_ERR_Q_QUEUE q

/-- A dropped doorbell (R233). -/
def State.dbDrop (s : State) (q reason : Nat) : State := ((s.count pQMG QMG_DB_ERR).qmgErr q reason).raise pQMG 4

/-- The address of the ring entry of sequence `n`. -/
def QueueSt.slot (k : QueueSt) (n : Nat) : Nat := k.ring + 128 * (n % 2 ^ k.log2s)

/-- The full sequence number of index `i` of a queue whose next append has index PROD: SEQ_HI as it stood then (R231). -/
def QueueSt.seqOf (k : QueueSt) (i : BitVec 16) : Nat :=
  (if k.prod.toNat < i.toNat then k.seqHi.toNat - 1 else k.seqHi.toNat) % 2 ^ 48 * 65536 + i.toNat

/-- Whether the ring is full. -/
def QueueSt.full (k : QueueSt) : Bool := (k.prod - k.vack).toNat = 2 ^ k.log2s

/-- Appends the receipt whose bytes are in the ring: SOURCE and SEQ are written, PROD counts, and SEQ_HI with its wrap
(R228, R231). -/
def State.append (s : State) (q source : Nat) : State :=
  let k := s.queue q
  let n := k.seqHi.toNat % 2 ^ 48 * 65536 + k.prod.toNat
  let a := k.slot n
  let s := (s.fabWrite (a + 2) (natLe 1 source) false).fabWrite (a + 8) (natLe 8 n) false
  let wrap := k.prod = 0xFFFF
  let hi := if wrap then k.seqHi + 1 else k.seqHi
  let s := s.setQueue q { s.queue q with prod := k.prod + 1, seqHi := hi }
  if wrap then s.fabWrite (s.pget pQMG QMG_CTX_BASE + 64 * q + 0x20) (natLe 8 hi.toNat) false else s

/-- Appends `n` receipts. -/
def State.appendN (s : State) (q source : Nat) : Nat → State
  | 0 => s
  | n + 1 => (s.append q source).appendN q source n

/-- The queue's interrupt (R234, R314). -/
def State.queueIrq (s : State) (q : Nat) : State :=
  let k := s.queue q
  if k.flags.getLsbD 1 then s.sendMsix (k.msix % 2048) else s

/-- VDONE passes one written verdict: IRQ_MOD counts it, and an ARM that waits for the index is answered (R233, R234). -/
def State.vdoneUp (s : State) (q : Nat) : State :=
  let k := s.queue q
  let n := k.irqCnt + 1
  let hit := k.irqMod != 0 && k.irqMod ≤ n
  let v := k.vdone + 1
  let arm := k.armed = some v
  let s := s.setQueue q { k with
    vdone := v, irqCnt := if hit then 0 else n, armed := if arm then none else k.armed
    written := k.written.filter (· != k.vdone) }
  let s := if hit then s.queueIrq q else s
  if arm then s.queueIrq q else s

/-- VDONE advances over consecutive written verdicts; `fuel` bounds their number. -/
def State.vdoneRun (s : State) (q : Nat) : Nat → State
  | 0 => s
  | fuel + 1 => if (s.queue q).written.contains (s.queue q).vdone then (s.vdoneUp q).vdoneRun q fuel else s

/-- Writes a verdict into its queue's ring (R231, R243, R247). -/
def State.putVerdict (s : State) (q : Nat) (seq : BitVec 64) (bytes : List Byte) : State :=
  let k := s.queue q
  if !k.enabled then s
  else
    let s := s.fabWrite (k.vring + 64 * (seq.toNat % 2 ^ k.log2s)) bytes false
    let s := (s.setQueue q { k with written := k.written ++ [seq.setWidth 16] }).vdoneRun q 65536
    if s.hr.lost then s.setQueue q { s.queue q with vack := (s.queue q).vdone } else s

/-! ### Verdicts (R245-R247) -/

/-- A verdict: code, detail, RESULT, and the flags that depend on the run. -/
structure Verdict where
  code   : Nat
  detail : Nat := 0
  result : List Byte := []
  strict : Bool
  target : Nat := 0
deriving DecidableEq, Repr

/-- The 64 bytes of a verdict. -/
def verdictBytes (r : WitReceipt) (v : Verdict) : List Byte :=
  let flags := bit r.journaled.isSome + 2 * (fieldLe r.bytes 1 1 / 2 % 2) + 4 * bit v.strict + 8 * bit r.jrnFail +
    16 * bit r.replay + 32 * v.target + 512 * bit r.retried
  natLe 1 v.code ++ natLe 1 v.detail ++ natLe 2 flags ++ natLe 4 r.queue ++ slice r.bytes 8 8 ++ slice r.bytes 0x10 8 ++
    slice r.bytes 0x18 4 ++ natLe 2 (r.journaled.getD 0xFFFF) ++ natLe 2 r.epoch ++ slice v.result 0 32

/-- Whether the replay ring is full. -/
def State.rplFull (s : State) : Bool :=
  (s.fget pWIT WIT_RPL_WR + 0x100000000 - s.fget pWIT WIT_RPL_RD) % 0x100000000 =
    2 ^ s.fget pWIT WIT_RPL_CTRL_LOG2_ENTRIES

/-- Writes held replay verdicts while the replay ring has room; `fuel` bounds their number. -/
def State.drainRpl (s : State) : Nat → State
  | 0 => s
  | fuel + 1 =>
    match s.qw.rplHeld with
    | [] => s
    | v :: t =>
      if s.rplFull then s
      else
        let wr := s.fget pWIT WIT_RPL_WR
        let a := s.pget pWIT WIT_RPL_BASE + 64 * (wr % 2 ^ s.fget pWIT WIT_RPL_CTRL_LOG2_ENTRIES)
        let s := { (s.fabWrite a v false) with qw.rplHeld := t }
        ((s.fset pWIT WIT_RPL_WR (wr + 1)).raise pWIT 7).drainRpl fuel

/-- Puts a replay verdict into the replay ring; it waits while the ring is full (R264, log 25). -/
def State.putReplay (s : State) (bytes : List Byte) : State :=
  let s := { s with qw.rplHeld := s.qw.rplHeld ++ [bytes] }
  s.drainRpl s.qw.rplHeld.length

/-- Pins the segment of a mismatching receipt's entry: a sealed one at once, the open one as it seals (R246, R262). -/
def State.mmPin (s : State) (i : Nat) : State :=
  if s.jrn.isOpen && s.segOpen = i then s.fset pJRN JRN_STAT_PIN_PEND 1
  else if s.jrn.pins.contains i || s.fget pJRN JRN_SEGS ≤ i || s.fabByte (s.segAddr i + 6) != 2 then s
  else s.setPin i

/-- What a verdict counts and raises (R246, R270). -/
def State.noteVerdict (s : State) (r : WitReceipt) (v : Verdict) : State :=
  if v.code = 0 then s.count pWIT WIT_CNT_MATCH
  else if v.code = 1 then
    let s := ((s.count pWIT WIT_CNT_MISMATCH).fset pWIT WIT_LAST_MM_Q r.queue).pset pWIT WIT_LAST_MM_SEQ
      (fieldLe r.bytes 8 8)
    let s := s.raise pWIT 3
    match r.journaled with
    | some i => if s.flag pWIT WIT_CTRL_MM_PIN then s.mmPin i else s
    | none => s
  else if v.code = 2 then s
  else (s.count pWIT WIT_CNT_OTHER).raise pWIT 4

/-- Gives a receipt its verdict: counted, then written once and whole to its queue's ring or the replay ring (R247). -/
def State.verdict (s : State) (r : WitReceipt) (v : Verdict) : State :=
  let s := s.noteVerdict r v
  let b := verdictBytes r v
  if r.replay then s.putReplay b else s.putVerdict r.queue (BitVec.ofNat 64 (fieldLe r.bytes 8 8)) b

/-- The verdict of a receipt that no run decided: STRICT_ACT as at dispatch, TARGET 8 where a run was submitted before. -/
def noRun (r : WitReceipt) (code detail : Nat) : Verdict :=
  { code := code, detail := detail, strict := r.strict, target := if r.ran || r.replay then 8 else 0 }

/-! ### Doorbells (R233) -/

/-- POST: the host producer appends up to INDEX. -/
def postAct (q : Nat) (i : BitVec 16) (s : State) : State :=
  let k := s.queue q
  if !k.enabled || k.disabling then s.dbDrop q 3
  else if k.producer != 8 || 2 ^ k.log2s < (i - k.vack).toNat || (i - k.vack).toNat < (k.prod - k.vack).toNat then s.dbDrop q 2
  else s.appendN q 8 (i - k.prod).toNat

/-- VACK: the consumed-verdict index moves up to VDONE. -/
def vackAct (q : Nat) (i : BitVec 16) (s : State) : State :=
  let k := s.queue q
  if !k.enabled || (k.vdone - k.vack).toNat < (i - k.vack).toNat then s.dbDrop q 2
  else s.setQueue q { k with vack := i }

/-- Whether a ring of `n` bytes lies aligned and wholly in the bulk tier. -/
def ringOk (a n : Nat) : Bool := a % 4096 = 0 && inBulk a && inBulk (a + n - 1)

/-- Whether a context of 64 bytes is valid (R230). -/
def ctxOk (c : List Byte) : Bool :=
  let k := fieldLe c 1 1
  let sz := fieldLe c 2 1
  (k ≤ 63 || k = 0xFF) && 4 ≤ sz && sz ≤ 15 && fieldLe c 3 1 ≤ 8 && fieldLe c 0 1 < 4 && fieldLe c 5 1 = 0 &&
    fieldLe c 0x1A 6 = 0 && fieldLe c 0x28 24 = 0 && ringOk (fieldLe c 8 8) (128 * 2 ^ sz) &&
    ringOk (fieldLe c 0x10 8) (64 * 2 ^ sz)

/-- ENABLE: a valid context enables the queue with its indexes at INDEX. -/
def enableAct (q : Nat) (i : BitVec 16) (s : State) : State :=
  if (s.queue q).enabled then s.dbDrop q 2
  else
    let r := s.fabRead (s.pget pQMG QMG_CTX_BASE + 64 * q) 64
    let c := r.1
    let s := r.2.2
    if r.2.1 || !ctxOk c then (s.latch pQMG 0x0101 0 q).raise pQMG 5
    else
      let f (o n : Nat) : Nat := fieldLe c o n
      s.setQueue q {
        enabled := true, prod := i, disp := i, vdone := i, vack := i, flags := BitVec.ofNat 8 (f 0 1), log2k := f 1 1
        log2s := f 2 1, producer := f 3 1, weight := max 1 (f 4 1), msix := f 6 2, ring := f 8 8, vring := f 0x10 8
        irqMod := f 0x18 2, seqHi := BitVec.ofNat 64 (f 0x20 8) }

/-- DISABLE: no appends from the next cycle. -/
def disableAct (q : Nat) (_ : BitVec 16) (s : State) : State :=
  let k := s.queue q
  if !k.enabled then s.dbDrop q 2 else s.setQueue q { k with disabling := true }

/-- ARM: the interrupt is sent now, or when VDONE next equals INDEX. -/
def armAct (q : Nat) (i : BitVec 16) (s : State) : State :=
  let k := s.queue q
  if !k.enabled then s.dbDrop q 2
  else if (i - k.vack).toNat ≤ (k.vdone - k.vack).toNat then (s.setQueue q { k with armed := none }).queueIrq q
  else s.setQueue q { k with armed := some i }

/-- A doorbell: one whose size, alignment or QUEUE field is wrong is dropped, as is an OP from 5 up; any other acts by its OP,
which the row names. Without MAIN there is no BAR4 to write. -/
def doorbell (db : Doorbell) (s : State) : State :=
  let q := db.q.toNat
  let i : BitVec 16 := db.value.setWidth 16
  if !s.hostPort then s
  else if !db.sizeOk then s.dbDrop q 0
  else if db.value.toNat / 2 ^ 32 % 2 ^ 20 != q then s.dbDrop q 1
  else
    match db.value.toNat / 2 ^ 16 % 8 with
    | 0 => (postAct q i s).showQmg
    | 1 => (vackAct q i s).showQmg
    | 2 => (enableAct q i s).showQmg
    | 3 => (disableAct q i s).showQmg
    | 4 => (armAct q i s).showQmg
    | _ => s.dbDrop q 2

/-- POST (R233). -/
def execPost (db : Doorbell) (s : State) : Res := .next (doorbell db s)

/-- VACK (R233). -/
def execVack (db : Doorbell) (s : State) : Res := .next (doorbell db s)

/-- ENABLE (R230, R233). -/
def execEnable (db : Doorbell) (s : State) : Res := .next (doorbell db s)

/-- DISABLE (R233). -/
def execDisable (db : Doorbell) (s : State) : Res := .next (doorbell db s)

/-- ARM (R233). -/
def execArm (db : Doorbell) (s : State) : Res := .next (doorbell db s)

/-- The word at a BAR4 offset: the four indexes of an enabled queue for an aligned 64-bit read of its doorbell, zero for any
other read (R233). -/
def State.doorbellWord (s : State) (off len : Nat) : BitVec 64 :=
  let k := s.queue (off / 8)
  if len = 8 && off % 8 = 0 && off < 0x800000 && k.enabled then k.vack ++ k.vdone ++ k.disp ++ k.prod else 0

/-- QUEUE_DISABLED (R233): a queue that drains is disabled once VDONE equals PROD. -/
def execQueueDisabled (q : Queue) (s : State) : Res :=
  let k := s.queue q.toNat
  .next (if k.enabled && k.disabling && k.vdone = k.prod then (s.setQueue q.toNat {}).showQmg else s)

/-! ### Dispatch (R235, R236, R243) -/

/-- Ends a pass (R235). -/
def State.endPass (s : State) : State :=
  if !s.qw.inPass then s
  else
    let s := { s with qw.inPass := false }
    let s := s.fset pQMG QMG_PASS_NS (sat32 (s.nowNs - s.qw.passStart))
    s.fset pQMG QMG_PASS_CNT (s.fget pQMG QMG_PASS_CNT + 1)

/-- Starts a pass: each enabled queue's undispatched receipts are noted, at most WEIGHT of them under BALANCE. -/
def State.startPass (s : State) : State :=
  { s with
    qw.inPass := true, qw.passStart := s.nowNs
    qw.queues := s.qw.queues.map fun e =>
      let n := (e.2.prod - e.2.disp).toNat
      (e.1, { e.2 with noted := if s.krm.mode.balance then min n e.2.weight else n }) }

/-- The queue of the next receipt of the pass. -/
def State.passNext (s : State) : Option Nat := (List.find? (fun e => 0 < e.2.noted) s.qw.queues).map (·.1)

/-- DISPATCH_PASS (R235): with no noted receipt left, the pass in progress ends and a new one starts. -/
def execDispatchPass (s : State) : Res :=
  if !s.flag pQMG QMG_CTRL_DISPATCH || !s.pins.mainPwrGood || s.passNext.isSome || s.qw.heldR.isSome then .next s
  else
    let s := s.endPass.startPass
    .next (if s.passNext.isNone then s.endPass else s).showQmg

/-- A fall of QMG_CTRL.DISPATCH ends the pass; what it has not dispatched waits for a later pass (R235). -/
def dispatchFall (s : State) : State :=
  { s with
    qw.inPass := false
    qw.queues := List.map (fun (e : Nat × QueueSt) => (e.1, { e.2 with noted := 0 })) s.qw.queues }.showQmg

/-- One noted receipt of a queue is dispatched. -/
def State.dispatched (s : State) (q : Nat) : State :=
  let k := s.queue q
  let s := s.setQueue q { k with disp := k.disp + 1, noted := k.noted - 1 }
  if s.passNext.isNone then s.endPass else s

/-- Steps 1 to 3 of a dispatch: the receipt as the witness takes it, with its entry in the journal. -/
def State.takeReceipt (s : State) (q : Nat) (bytes : List Byte) (journal : Bool) : WitReceipt × State :=
  let r : WitReceipt := {
    queue := q, bytes := bytes, inAddr := fieldLe bytes 0x20 8, epoch := s.fget pWIT WIT_EPOCH
    strict := s.flag pGEN GEN_MODE_STRICT_ACT }
  if !journal then (r, s)
  else
    let n := fieldLe bytes 0x1C 4
    let j := if n > 0x4000000 || !s.jrnOn then (false, s)
      else
        let img := s.fabRead r.inAddr n
        img.2.2.journal 1 (bit img.2.1) q (fieldLe bytes 8 8) bytes img.1
    if j.1 then ({ r with journaled := some j.2.segOpen }, j.2) else ({ r with jrnFail := true }, j.2.jrnFailed)

/-- The pending list becomes `l`; one that fills raises BACKLOG (R243). -/
def State.pend (s : State) (l : List WitReceipt) : State :=
  let t := { s with qw.pendList := l }
  if 4096 ≤ l.length && s.qw.pendList.length < 4096 then t.raise pWIT 5 else t

/-- Step 4 for a selected receipt: the pending list takes it, sheds it, or dispatch stalls (R243). -/
def State.place (s : State) (r : WitReceipt) : State :=
  if 4096 ≤ s.qw.pendList.length then
    let s := s.raise pWIT 5
    if s.flag pWIT WIT_CTRL_SHED || s.hr.lost then
      ((({ s with qw.heldR := none }.count pWIT WIT_CNT_SHED).verdict r (noRun r 2 1)).dispatched r.queue)
    else { s with qw.heldR := some r }
  else
    ({ s with qw.heldR := none }.pend (s.qw.pendList ++ [r])).dispatched r.queue

/-- Dispatches the next receipt of a queue (R236). -/
def State.dispatch (s : State) (q : Nat) : State :=
  let k := s.queue q
  let n := k.seqOf k.disp
  let a := k.slot n
  let rd := s.fabRead a 128
  let bytes := rd.1
  let s := rd.2.2
  if rd.2.1 then
    let r : WitReceipt := {
      queue := q, bytes := bytes.take 8 ++ natLe 8 n ++ bytes.drop 16, epoch := s.fget pWIT WIT_EPOCH
      strict := s.flag pGEN GEN_MODE_STRICT_ACT }
    (s.bite.verdict r (noRun r 5 1)).dispatched q
  else
    let fl := fieldLe bytes 1 1
    let sel := s.selected (fl / 2 % 2 = 1) k.log2k q n
    let t := s.takeReceipt q bytes (fl % 2 = 1 || k.flags.getLsbD 0 || s.hr.lost)
    if sel then t.2.place t.1
    else (t.2.verdict t.1 (noRun t.1 2 (if s.flag pWIT WIT_CTRL_EN then 0 else 2))).dispatched q

/-- RECEIPT_DISPATCH (R236): the next receipt of the pass, or one whose dispatch waits for room. -/
def execReceiptDispatch (q : Queue) (s : State) : Res :=
  match s.qw.heldR with
  | some r => .next (if r.queue = q.toNat then (s.place r).showWit.showQmg else s)
  | none =>
    if !s.flag pQMG QMG_CTRL_DISPATCH || s.passNext != some q.toNat then .next s
    else .next (s.dispatch q.toNat).showWit.showQmg

/-! ### Slots (R240, R241) -/

/-- The submission that a slot's container and windows make. -/
def State.slotSub (s : State) (i : Nat) : JobSub :=
  let a := s.slotAddr i
  { addr := s.fabLe (a + 8) 8, nbase := s.fabLe (a + 0x10) 8, bbase := s.fabLe (a + 0x18) 8
    nsize := s.fabLe (a + 0x20) 4 * 4096, bsize := s.fabLe (a + 0x24) 4 * 4096, witness := true }

/-- A slot's container as a job, for its images. -/
def State.slotJob (s : State) (sub : JobSub) : Job :=
  let c := readCont s sub
  { sub := sub, parts := c.parts, phys := c.parts.map fun l => c.phys s l, tensors := c.tensors s }

/-- The smallest range over the ranges of a list that lie from `lo` on, within `size` bytes. -/
def coverRange (rs : List (Nat × Nat)) : Nat × Nat :=
  let rs := rs.filter fun r => 0 < r.2
  match rs with
  | [] => (0, 0)
  | r :: t => t.foldl (fun m x => (min m.1 x.1, max m.2 (x.1 + x.2))) (r.1, r.1 + r.2)

/-- The tensors of a location. -/
def Job.inLoc (j : Job) (loc : Nat) : Job := { j with tensors := j.tensors.filter fun t => tensorField t 4 1 = loc }

/-- The ranges the fabric watches for a slot: per window, the smallest range over every WEIGHT tensor and scale plane. -/
def weightWatch (j : Job) : SlotWatch :=
  let n := coverRange (imageRanges (j.inLoc 1) 2)
  let b := coverRange (imageRanges (j.inLoc 2) 2)
  { nearLo := n.1, nearHi := n.2, bulkLo := b.1, bulkHi := b.2 }

/-- A slot's STATE. -/
def State.slotState (s : State) (i : Nat) : Nat := (s.fabByte (s.slotAddr i)).toNat

/-- The end of a slot command: STATE and CAUSE, CMD_STAT, CMD_DONE. -/
def State.endCmd (s : State) (i st cause : Nat) : State :=
  let s := { (s.fabWrite (s.slotAddr i) (natLe 1 st ++ natLe 1 cause) false) with qw.hashing := none }
  (((s.fset pWIT WIT_CMD_STAT_STATE st).fset pWIT WIT_CMD_STAT_BUSY 0).fset pWIT WIT_CMD_STAT_SLOT i).raise pWIT 6

/-- What a write of WIT_CMD does. -/
def witCmd (cls : Cls) (op i : Nat) (s : State) : State :=
  if op != 1 && op != 2 then s
  else if s.qw.hashing.isSome then s.latch pWIT 0x0101 (clsCode cls) 0x110
  else if (op = 1) != (s.slotState i = 0) then s.latch pWIT 0x0102 (clsCode cls) 0x110
  else if op = 2 then { s with qw.watch := Tab.erase s.qw.watch i }.endCmd i 0 0
  else
    let sub := s.slotSub i
    let s := s.noteAccess sub.addr (readCont s sub).total
    let w := if structCode s sub = 0 then weightWatch (s.slotJob sub) else {}
    let s := s.fabWrite (s.slotAddr i) [1, 0] false
    let s := { s with qw.hashing := some i, qw.watch := Tab.set s.qw.watch i w {} }
    ((s.fset pWIT WIT_CMD_STAT_STATE 1).fset pWIT WIT_CMD_STAT_BUSY 1).fset pWIT WIT_CMD_STAT_SLOT i

/-- REGISTER (R240). -/
def execRegister (cls : Cls) (slot : BitVec 8) (s : State) : Res :=
  .next (writeThen s cls (pWIT + 0x110) (0x100 + slot.toNat) (witCmd cls 1 slot.toNat))

/-- UNREGISTER (R240). -/
def execUnregister (cls : Cls) (slot : BitVec 8) (s : State) : Res :=
  .next (writeThen s cls (pWIT + 0x110) (0x200 + slot.toNat) (witCmd cls 2 slot.toNat))

/-- Whether every INPUT, WEIGHT and OUTPUT tensor, scale plane included, lies in a window (R240 step 3). -/
def tensorsInWindows (sub : JobSub) (ts : List (BitVec 512)) : Bool :=
  ts.all fun t =>
    let role := tensorField t 2 1
    let loc := tensorField t 4 1
    let size := if loc = 1 then sub.nsize else sub.bsize
    let n := tensorField t 16 8
    !(1 ≤ role && role ≤ 3) ||
      ((loc = 1 || loc = 2) && tensorField t 8 8 + n ≤ size &&
        (tensorField t 5 1 != 1 || tensorField t 24 8 + scaleLen (tensorField t 3 1) n ≤ size))

/-- SLOT_HASH_DONE (R240, R241): the checks and digests of the REGISTER in progress end. -/
def execSlotHashDone (s : State) : Res :=
  match s.qw.hashing with
  | none => .next s
  | some i =>
    let sub := s.slotSub i
    let stale := s.slotState i = 3
    let bad := structCode s sub
    let s := s.noteAccess sub.addr (readCont s sub).total
    let j := s.slotJob sub
    let fin (s : State) (cause : Nat) : State := if stale then s.endCmd i 3 0 else s.endCmd i 4 cause
    if bad != 0 then .next (fin s 2)
    else if s.fabPoison sub.addr (readCont s sub).total then .next (fin s.bite 1)
    else if formatCode s sub != 0 then .next (fin s 2)
    else if !tensorsInWindows sub j.tensors then .next (fin s 3)
    else
      let wR := imageRanges j 2
      let s := s.rangeSee wR
      if s.rangePoison wR then .next (fin s.bite 1)
      else
        let d := s.programDigest sub.addr ++ weightsDigest (s.rangeBytes wR)
        let s := s.fabWrite (s.slotAddr i + 0x40) d false
        .next (if stale then s.endCmd i 3 0 else s.endCmd i 2 0)

/-! ### Re-execution (R242, R244, R245) -/

/-- The checks of a pending receipt, the first that fails: its DETAIL, 0 for none (R242). A replay's input lies in the
journal. -/
def State.receiptCheck (s : State) (r : WitReceipt) : Nat :=
  let b := r.bytes
  let slot := fieldLe b 4 2
  let n := fieldLe b 0x1C 4
  let a := r.inAddr
  let last := a + max n 1 - 1
  if fieldLe b 0 1 != 1 || 4 ≤ fieldLe b 1 1 || fieldLe b 3 1 != 0 || fieldLe b 6 2 != 0 || fieldLe b 0x60 32 != 0 then 6
  else if 256 ≤ slot then 1
  else if s.slotState slot = 3 then 2
  else if s.slotState slot != 2 then 1
  else if !r.replay && !((inNear a && inNear last) || (inBulk a && inBulk last)) then 3
  else if n != rangeLen (imageRanges (s.slotJob (s.slotSub slot)) 1) then 4
  else 0

/-- Copies an input image into ranges in turn. -/
def State.copyInto (s : State) (img : List Byte) : List (Nat × Nat) → State
  | [] => s
  | r :: t => (s.fabWrite r.1 (img.take r.2) false).copyInto (img.drop r.2) t

/-- Submits a checked receipt: its input is copied to the slot's INPUT tensors and a witness job queued. -/
def State.submitReceipt (s : State) (r : WitReceipt) : State :=
  let sub := s.slotSub (fieldLe r.bytes 4 2)
  let img := s.fabRead r.inAddr (fieldLe r.bytes 0x1C 4)
  let s := img.2.2
  if img.2.1 then s.bite.verdict r (noRun r 5 2)
  else
    let s := s.copyInto img.1 (imageRanges (s.slotJob sub) 1)
    let e := { sub with
      jobId := s.qw.jobNo
      params := [0, 1, 2, 3].map fun i => BitVec.ofNat 32 (fieldLe r.bytes (0x30 + 4 * i) 4) }
    { s with
      qw.jobNo := s.qw.jobNo + 1
      qw.inKermes := s.qw.inKermes ++ [{ r with ran := true, slotDirty := false }]
      krm.witQ := s.krm.witQ ++ [e] }.showQueues

/-- The pending list from its head on: receipts of retried jobs, which a full list could not take, come before it (R245). -/
def State.waiting (s : State) : List WitReceipt := s.qw.retries ++ s.qw.pendList

/-- The head leaves the pending list, and the receipts of replays that found it full take what room there is (R264). -/
def State.popPending (s : State) : State :=
  match s.qw.retries with
  | _ :: t => { s with qw.retries := t }
  | [] =>
    let l := s.qw.pendList.drop 1
    let n := 4096 - l.length
    { s with qw.rplWait := s.qw.rplWait.drop n }.pend (l ++ s.qw.rplWait.take n)

/-- WITNESS_SUBMIT (R242, R244): the receipt at the head of the pending list. -/
def execWitnessSubmit (s : State) : Res :=
  match s.waiting with
  | [] => .next s
  | r :: _ =>
    let slot := fieldLe r.bytes 4 2
    if 16 ≤ s.krm.witQ.length || s.gov.yield then .next s
    else
      let bad := s.receiptCheck r
      if bad != 6 && s.qw.hashing = some slot then .next s
      else if bad != 0 then .next (s.popPending.verdict r (noRun r 4 bad)).showWit
      else if s.qw.inKermes.any fun x => fieldLe x.bytes 4 2 = slot then .next s
      else .next (s.popPending.submitReceipt r).showWit

/-- The verdict of a witness job that ended. -/
def State.jobVerdict (s : State) (r : WitReceipt) (j : Job) : Verdict :=
  let v (code detail : Nat) : Verdict :=
    { code := code, detail := detail, strict := if j.launched then j.strict else r.strict, target := 8 }
  if r.slotDirty then v 4 5
  else if j.status = 0 then
    if j.outputDigest = [] then v 5 3
    else if j.digPoison then v 5 2
    else { v (if j.outputDigest = slice r.bytes 0x40 32 then 0 else 1) 0 with result := s.resultDigest j }
  else if j.status = 1 then v 3 j.code
  else v 6 (if j.status = 2 then j.code else 0x80 + j.code)

/-- A receipt returns to the head of the pending list; a full list takes it once it is submitted again (R245). -/
def State.retry (s : State) (r : WitReceipt) : State :=
  if s.qw.retries = [] && s.qw.pendList.length < 4096 then s.pend (r :: s.qw.pendList)
  else { s with qw.retries := r :: s.qw.retries }

/-- WITNESS_VERDICT (R245, R269): the outcome of the oldest witness job in Kermes; a job that aborted or faulted is retried
once from the head of the pending list. -/
def execWitnessVerdict (s : State) : Res :=
  match s.krm.lastDone, s.qw.inKermes with
  | some j, r :: t =>
    if !j.sub.witness || (j.status = 0 && !j.digDone) then .next s
    else
      let s := { s with krm.lastDone := none, qw.inKermes := t }
      let s := if s.wantsRecord j && j.status != 0 then s.makeRecord j 2 else s
      if 2 ≤ j.status && !r.retried && !r.slotDirty && s.flag pWIT WIT_CTRL_RETRY then
        .next (s.retry { r with retried := true, strict := (s.jobVerdict r j).strict }).showWit
      else .next (s.verdict r (s.jobVerdict r j)).showWit.showQmg
  | _, _ => .next s

/-! ### Replay (R264, R284) -/

/-- The units of a replay transfer: REPLAY_REQ, then REPLAY_DATA of up to 512 bytes in ascending offset, the last with
LAST. -/
def State.replayData (s : State) (tag : BitVec 16) (a n off : Nat) : Nat → List SilkUnit
  | 0 => []
  | fuel + 1 =>
    if n ≤ off then []
    else
      let m := min 512 (n - off)
      let len := (m + 15) / 16 * 16
      let mask := (List.range 8).foldl (fun k i =>
        if 64 * i < m && s.fabPoison (a + off + 64 * i) (min 64 (m - 64 * i)) then k + 2 ^ i else k) 0
      { typ := 0x12, flags := BitVec.ofNat 8 (bit (n ≤ off + m)), len := BitVec.ofNat 16 len, tag := tag
        pmask := BitVec.ofNat 8 mask, rsv := 0, arg := BitVec.ofNat 64 off
        payload := slice (s.fabBytes (a + off) m) 0 len } :: s.replayData tag a n (off + m) fuel

/-- Sends a replay to its port; its input is read from the journal, and poison that leaves the device bites (R188). -/
def State.sendReplay (s : State) (x : PortReplay) : State :=
  let n := fieldLe x.receipt.bytes 0x1C 4
  let s := s.noteAccess x.receipt.inAddr n
  let s := if s.fabPoison x.receipt.inAddr n then s.bite else s
  let req : SilkUnit := {
    typ := 0x11, flags := BitVec.ofNat 8 (bit (n = 0)), len := 128, tag := x.tag, pmask := 0, rsv := 0
    arg := BitVec.ofNat 64 n, payload := slice x.receipt.bytes 0 128 }
  (req :: s.replayData x.tag x.receipt.inAddr n 0 (n / 512 + 1)).foldl (fun t u => t.sendUnit x.port u) s

/-- Starts the replays that wait for a port while fewer than four are outstanding there; `fuel` bounds their number. -/
def State.pumpReplays (s : State) (p : Nat) : Nat → State
  | 0 => s
  | fuel + 1 =>
    if 4 ≤ (s.qw.replays.filter fun x => x.port = p && x.sent).length then s
    else
      match s.qw.replays.find? fun x => x.port = p && !x.sent with
      | none => s
      | some x =>
        let s := { s with qw.replays := s.qw.replays.map fun y => if y = x then { y with sent := true } else y }
        (s.sendReplay x).pumpReplays p fuel

/-- Ends a replay at a port with its verdict, and starts the next that waits. -/
def State.endReplay (s : State) (x : PortReplay) (v : Verdict) : State :=
  let s := { s with qw.replays := s.qw.replays.filter (· != x) }
  (s.verdict x.receipt v).pumpReplays x.port 4

/-- The verdict of a replay at an accelerator. -/
def replayVerdict (x : PortReplay) (code detail : Nat) (result : List Byte) : Verdict :=
  { code := code, detail := detail, result := result, strict := x.receipt.strict, target := x.port }

/-- Every replay of a port that goes down ends ABORTED 0x41 (R299). -/
def State.abortReplays (s : State) (p : Nat) : State :=
  let mine := s.qw.replays.filter fun x => x.port = p
  let s := { s with qw.replays := s.qw.replays.filter fun x => x.port != p }
  mine.foldl (fun s x => s.verdict x.receipt (replayVerdict x 6 0x41 [])) s

/-- The journal entry at `a`: whether its KIND is 1 and its EDIGEST holds. -/
def State.entryOk (s : State) (a : Nat) : Bool :=
  let n := s.fabLe a 4
  0xC0 ≤ n && n ≤ segSize && n % 64 = 0 && s.fabLe (a + 4) 1 = 1 &&
    s.fabBytes (a + 0x20) 32 =
      shake256 (ascii "FX9-JENT" ++ s.fabBytes a 0x20 ++ s.fabBytes (a + 0x40) (n - 0x40))

/-- The journal slot of an address, if it lies in the ring. -/
def State.entrySeg (s : State) (a : Nat) : Option Nat :=
  let b := s.pget pJRN JRN_BASE
  if b ≤ a && (a - b) / segSize < s.fget pJRN JRN_SEGS then some ((a - b) / segSize) else none

/-- What a write of WIT_RPL_GO does. -/
def replayAct (cls : Cls) (target : Nat) (s : State) : State :=
  if 8 < target then s
  else if s.rplFull then s.latch pWIT 0x0103 (clsCode cls) 0x1A0
  else
    let a := s.pget pWIT WIT_RPL_ENTRY
    let s := s.noteAccess a 0xC0
    let s := s.noteAccess (a + 0xC0) (min segSize (s.fabLe a 4) - 0xC0)
    let bytes := s.fabBytes (a + 0x40) 128
    let forced := if target = 8 then
        bytes.take 1 ++ [(bytes.getD 1 0) ||| 2] ++ bytes.drop 2
      else bytes
    let r : WitReceipt := {
      queue := s.fabLe (a + 8) 4, bytes := forced, journaled := s.entrySeg a, replay := true, inAddr := a + 0xC0
      epoch := s.fget pWIT WIT_EPOCH, strict := s.flag pGEN GEN_MODE_STRICT_ACT }
    let v (code detail : Nat) : Verdict := { code := code, detail := detail, strict := r.strict, target := target }
    if s.fabPoison a 0xC0 || s.fabPoison a (min segSize (s.fabLe a 4)) then s.bite.verdict r (v 5 2)
    else if !(s.entryOk a) then s.verdict r (v 4 7)
    else if target = 8 then
      (if 4096 ≤ s.qw.pendList.length || s.qw.rplWait != [] then { s with qw.rplWait := s.qw.rplWait ++ [r] }
       else s.pend (s.qw.pendList ++ [r])).showWit
    else if !(s.portUp target) then s.verdict r (v 6 0x41)
    else
      let x : PortReplay := { port := target, tag := s.qw.replayTag, receipt := r }
      ({ s with qw.replayTag := s.qw.replayTag + 1, qw.replays := s.qw.replays ++ [x] }).pumpReplays target 4

/-- REPLAY (R264). -/
def execReplay (cls : Cls) (target : Fin 16) (s : State) : Res :=
  .next (writeThen s cls (pWIT + 0x1A0) (16 + target.val) (replayAct cls target.val))

/-- Whether units of a replay still wait on its port. -/
def State.replayUnsent (s : State) (x : PortReplay) : Bool :=
  (s.port x.port).respWait.any fun u => (u.typ = 0x11 || u.typ = 0x12) && u.tag = x.tag

/-- REPLAY_TIMEOUT (R264, R284): 10 s after the LAST unit of a replay. -/
def execReplayTimeout (port : Port) (tag : BitVec 16) (s : State) : Res :=
  match s.qw.replays.find? fun x => x.port = port.val && x.tag = tag && x.sent with
  | none => .next s
  | some x => .next (if s.replayUnsent x then s else s.endReplay x (replayVerdict x 6 0x40 []))

end Sys2Proof.Machine
end

