-- ==== Sys2Proof/Machine/HostPort.lean ====
section
/-! DEFINITION. The host port (R304-R317), loss of the driver (R324-R326), the session (R322), and the paths that stop the
tray (R327, R328). -/

namespace Sys2Proof.Machine

/-! ### Loss of the driver -/

/-- Withdraws the host cap: the power core writes GG_HOST_CAP = 0 once it runs (R326, R377, R393). -/
def State.withdrawCap (s : State) : State :=
  if s.runs 0 then { (regWrite s .fwp (pGOVGLOB + 0x10C) 4 0).2 with hr.capDue := false } else { s with hr.capDue := true }

/-- DRIVER_LOST rises (R324, R325). -/
def State.loseDriver (s : State) : State :=
  if s.hr.lost then s
  else
    let s := { s with hr.lost := true, hr.helloSince := false }.showQmg
    (((s.raise pHST 5).fset pRCK RCK_ALERT_SRC_DRIVER_LOST 1)).withdrawCap

/-- What a write of HST_HB does (R324, R326): the age restarts; after a HELLO, DRIVER_LOST clears. -/
def heartbeat (s : State) : State :=
  let s := { s with hr.hbAgeNs := 0 }
  if s.hr.lost && s.hr.helloSince then { s with hr.lost := false }.showQmg else s

/-- HB_WRITE (R324). -/
def execHbWrite (cls : Cls) (s : State) : Res := .next (writeThen s cls (pHST + 0x110) 0 heartbeat)

/-- DRIVER_LOST (R324): the age has reached the timeout of the last HELLO. -/
def execDriverLost (s : State) : Res :=
  if s.hr.lost || !s.pins.mainPwrGood then .next s
  else
    let t := s.fget pHST HST_VER_TIMEOUT * 1000000
    .next { s with hr.hbAgeNs := max t s.hr.hbAgeNs }.loseDriver

/-! ### The link (R304, R307, R317) -/

/-- The link leaves L0. -/
def State.linkDown (s : State) : State :=
  let up := s.flag pHST HST_LINK_UP
  let s := { (s.wr (pHST + 0x100) 0) with hr.spdm := false }
  if up then s.raise pHST 4 else s

/-- PERST (R307, R335): the link, configuration space, the BARs, the MSI-X table and the mailbox slots reset; pending requests
are dropped. -/
def execPerst (s : State) : Res :=
  if !s.pins.mainPwrGood then .next s
  else
    let s := s.linkDown
    let s := { s with
      regs := s.regs.filter fun e =>
        !((pHST + 0x1000 ≤ e.1 && e.1 < pHST + 0x3000) || (pHST + 0x7F00 ≤ e.1 && e.1 < pHST + 0x10000))
      hr.slotReq := [], hr.capSlots := [], hr.session := 0, hr.pci := {}, hr.d3hot := false, fwc.wall := [] }
    let s := ((s.fset pHST HST_MB_STAT_FREE 0xF).fset pHST HST_MB_STAT_RSP_READY 0).fset pHST HST_MB_STAT_SESSION_OK 0
    .next s.loseDriver

/-- D3HOT_ENTRY (R304, R307): in D3hot the function takes no memory access and sends no message, until its link trains again
or PERST_N resets it (log 14). -/
def execD3hotEntry (s : State) : Res :=
  .next (if s.flag pHST HST_LINK_UP then { s with hr.d3hot := true }.loseDriver else s)

/-- HOST_LINK_DOWN (R307). -/
def execHostLinkDown (s : State) : Res := .next (if s.flag pHST HST_LINK_UP then s.linkDown.loseDriver else s)

/-- HOST_LINK_UP (R304, R336): the port trains at a rate of 1-6 and 1, 2, 4 or 8 lanes, and is READY. With it comes what the
host then configures, for which the table has no row (DESIGN CHOICE, log 14): messages that waited for it are sent. -/
def execHostLinkUp (rate : Fin 8) (width : Fin 16) (cfg : PciCfg) (s : State) : Res :=
  if !s.pins.mainPwrGood || rate.val = 0 || 6 < rate.val || !([1, 2, 4, 8].contains width.val) then .next s
  else
    let s := ((s.fset pHST HST_LINK_UP 1).fset pHST HST_LINK_RATE rate.val).fset pHST HST_LINK_WIDTH width.val
    let s := { s with hr.pci := cfg, hr.d3hot := false }
    .next ((s.setStat pHST PAGE_STAT_READY true).raise pHST 4).sendPending

/-- IDE_FAIL (R317). -/
def execIdeFail (s : State) : Res :=
  if s.flag pHST HST_LINK_IDE_ON then
    .next (((s.fset pHST HST_LINK_IDE_ON 0).fset pHST HST_LINK_IDE_FAIL 1).raise pHST 4)
  else .next s

/-- SPDM_KEY_EXCHANGE (R317): the responder signs with its key, and the secure session stands. The signature over a transcript
that no row carries is a value nothing constrains (log 1). -/
def execSpdmKeyExchange (s : State) : Res :=
  .next (if s.flag pHST HST_LINK_UP then
    ({ s with hr.spdm := true, free := s.free + 1 } : State).emit (.spdm (natLe 96 (Config.ecdsaP384 s.fuses.spdmKey s.free).toNat))
  else s)

/-- IDE_KM_KEY_SET (R317): within the secure session the stream's keys are set and it is secure. -/
def execIdeKmKeySet (s : State) : Res :=
  .next (if s.flag pHST HST_LINK_UP && s.hr.spdm then (s.fset pHST HST_LINK_IDE_ON 1).fset pHST HST_LINK_IDE_FAIL 0 else s)

/-- GET_CERTIFICATE (R317). -/
def execGetCertificate (s : State) : Res :=
  .next (if s.flag pHST HST_LINK_UP then s.emit (.spdm s.fuses.certificate) else s)

/-! ### BAR2 (R309-R312) -/

/-- The device address of a BAR2 offset (R310). -/
def State.barAddr (s : State) (off : BitVec 36) : Nat := s.pget pHST HST_BAR2_BASE + off.toNat

/-- BAR2_READ (R310, R312): the data as read, with the poisoned indication, which is a bite. The row also carries the reads of
BAR4, for which the table has none (R233; DESIGN CHOICE, log 55). -/
def execBar2Read (bar : MemBar) (off : BitVec 36) (len : Nat) (found : List Upset) (s : State) : Res :=
  if !s.flag pHST HST_LINK_UP || s.hr.d3hot then .next s
  else
    match bar with
    | .bar4 => .next (s.emit (.bar4 (s.doorbellWord off.toNat len)))
    | .bar2 =>
      let r := (s.upsets found).fabRead (s.barAddr off) len
      .next ((if r.2.1 then r.2.2.bite else r.2.2).emit (.bar2 r.1 r.2.1))

/-- BAR2_WRITE (R310, R312): lines written in part are merged; a poisoned write poisons every line it touches. -/
def execBar2Write (off : BitVec 36) (data : List Byte) (poisoned : Bool) (s : State) : Res :=
  .next (if s.flag pHST HST_LINK_UP && !s.hr.d3hot then s.fabWrite (s.barAddr off) data poisoned else s)

/-! ### The session (R320-R322) -/

/-- The pages whose W_HOST a feature governs (R321). -/
def featurePages (f : Nat) : List Nat :=
  match f with
  | 0 => (List.range 36).map pKRMCORE ++ (List.range 4).map pKRMQUAD ++ [pKRMGLOB]
  | 1 => [pWIT, pQMG]
  | 2 => [pJRN]
  | 3 => [pLKS]
  | 4 => [pDGT]
  | _ => []

/-- The power core, once it runs, clears W_HOST on the pages of the features of bits 0-4 that are not in effect (R321). -/
def State.maskFeatures (s : State) (eff : Nat) : State :=
  if !s.runs 0 then { s with hr.maskDue := true }
  else
    (([0, 1, 2, 3, 4].filter fun f => eff / 2 ^ f % 2 = 0).flatMap featurePages).foldl
      (fun s b => (regWrite s .fwp (b + 0x30) 4 (s.fget b ACCESS_MASK / 2 * 2)).2) { s with hr.maskDue := false }

/-- A new session number: not 0 and not the last one; the spec names no value (log 1). -/
def State.newSession (s : State) : State :=
  let v := s.freeWord.1.setWidth 32
  let n := if v = 0 || v = s.hr.session then (if s.hr.session = 1 then 2 else 1) else v
  { s.freeWord.2 with hr.session := n }

/-- HELLO (R322). -/
def execHello (slot : Fin 4) (s : State) : Res :=
  let i := slot.val
  .next (mbRow i 1 (fun s =>
    if s.reqField i 0 1 != 1 then { s with hr.session := 0 }.respondBad i 1
    else
      let eff := Nat.land (s.payload i 0 8) featFw
      let t := s.payload i 8 2
      let t := if t = 0 then 1000 else max 100 (min 3000 t)
      let minor := min fwMinor (s.reqField i 1 1)
      let s := (s.maskFeatures eff).newSession
      let s := { s with hr.helloSince := true, pins.firstHello := true }
      let s := (s.pset pHST HST_FEAT eff).wr (pHST + 0x130) (BitVec.ofNat 32 (t * 65536 + 256 + minor))
      (s.fset pHST HST_MB_STAT_SESSION_OK 1).respondIn s.hr.session.toNat i 0
        (natLe 8 featFw ++ natLe 8 eff ++ natLe 2 t ++ List.replicate 6 0) minor) s)

/-- GOODBYE (R320, R324). -/
def execGoodbye (slot : Fin 4) (s : State) : Res :=
  .next (mbRow slot.val 2 (fun s => s.loseDriver.respond slot.val 0 []) s)

/-- SET_HOST_CAP (R377): a cap of 0 or 500-20,000 W is written by the power core and answered after the next loop tick. -/
def execSetHostCap (slot : Fin 4) (s : State) : Res :=
  let i := slot.val
  .next (mbRow i 0x20 (fun s =>
    let cap := s.payload i 0 4
    if cap != 0 && !(500 ≤ cap && cap ≤ 20000) then s.deny i 1
    else if !s.runs 0 || s.hr.capSlots.contains i then s
    else { (regWrite s .fwp (pGOVGLOB + 0x10C) 4 cap).2 with hr.capSlots := s.hr.capSlots ++ [i] }) s)

/-! ### Stopping the tray (R327, R328) -/

/-- HALT of every UP port with a reason. -/
def State.haltPorts (s : State) (reason : Nat) : State := portList.foldl (fun s p => s.sendHalt reason p) s

/-- QMG_CTRL.DISPATCH is cleared. -/
def State.stopDispatch (s : State) : State :=
  if s.flag pQMG QMG_CTRL_DISPATCH then dispatchFall (s.hwSet pQMG QMG_CTRL_DISPATCH 0) else s

/-- What a write of HST_STOP or RCK_STOP does (R327); without MAIN there is nothing to halt. -/
def stopAct (v : Nat) (s : State) : State :=
  if !s.pins.mainPwrGood then s
  else
    let s := if v % 2 = 1 then s.haltKermes else s
    if v / 2 % 2 = 1 then s.haltPorts 1 else s

/-- What a write of HST_STOP does beyond that. -/
def hostStop (v : Nat) (s : State) : State :=
  let s := stopAct v s
  if v / 4 % 2 = 1 then s.stopDispatch else s

/-- TRAY_DRIVE of a stop path, shifted to its place. -/
def State.driveBit (s : State) : StopPath → Nat
  | .host => 8 * s.fget pHST HST_STOP_TRAY_DRIVE
  | .rack => 4 * s.fget pRCK RCK_STOP_TRAY_DRIVE

/-- A write of HST_STOP or RCK_STOP. -/
def State.stopWrite (s : State) (cls : Cls) (path : StopPath) (v : Nat) : State :=
  match path with
  | .host => writeThen s cls (pHST + 0x104) v (hostStop v)
  | .rack => writeThen s cls (pRCK + 0x114) v (stopAct v)

/-- HALT_KRM (R327). -/
def execHaltKrm (cls : Cls) (path : StopPath) (s : State) : Res := .next (s.stopWrite cls path (1 + s.driveBit path))

/-- HALT_ACC (R327). -/
def execHaltAcc (cls : Cls) (path : StopPath) (s : State) : Res := .next (s.stopWrite cls path (2 + s.driveBit path))

/-- DISPATCH_OFF (R327). -/
def execDispatchOff (cls : Cls) (s : State) : Res := .next (s.stopWrite cls .host (4 + s.driveBit .host))

/-- TRAY_DRIVE (R328): pulls or releases TRAY_HALT_N. -/
def execTrayDrive (cls : Cls) (path : StopPath) (pull : Bool) (s : State) : Res :=
  .next (s.stopWrite cls path (bit pull * (match path with | .host => 8 | .rack => 4)))

/-- TRAY_HALT (R328): the line has been low for 100 ns, whoever pulls it. `other` is whether another party pulls it; where
neither that party nor the FX9 does, the line has been released, which resumes nothing (log 4). -/
def execTrayHalt (other : Bool) (s : State) : Res :=
  let s := { s with pins.trayExtLow := other }
  if !s.pins.mainPwrGood || !trayHaltLow s then .next s
  else .next (((s.haltKermes.haltPorts 4).fset pHST HST_STAT_TRAY_HALT 1).raise pHST 6)

end Sys2Proof.Machine
end

