-- ==== Sys2Proof/Machine/Recorder.lean ====
section
/-! DEFINITION. Sepia and the safety action log (R449-R466): samples, intervals and records, calendar time, action entries,
clears, and the ledger core's duties at power-up. -/

namespace Sys2Proof.Machine

/-! ### Operating time -/

/-- Operating seconds. -/
def State.opSec (s : State) : Nat := s.pget pSEP SEP_OPSEC

/-- The ledger core commits to the counter journal (R450). -/
def State.commitCounters (s : State) : State :=
  { s with sep.cjOp := s.opSec, sep.cjNo := s.fget pALG ALG_NO - 1 }

/-- OPSEC_COMMIT (R450): every 15 minutes. -/
def execOpsecCommit (s : State) : Res := .next (if s.ledgerRuns then s.commitCounters else s)

/-! ### Samples (R451, R452) -/

/-- BIN_LO and BIN_W of a kind (R451). -/
def kindBins (k : Nat) : Int × Nat :=
  if k = 0 then (0, 400) else if k = 1 then (0, 25) else if k ≤ 9 then (0, 30) else if k = 10 then (160, 32)
  else if k ≤ 15 then (320, 48) else if k = 16 then (320, 32) else if k = 17 then (0, 34) else (5000, 50)

/-- A kind that samples only with MAIN on. -/
def mainKind (k : Nat) : Bool := k = 1 || k = 15 || k = 16

/-- The bin of a sample (R452). -/
def binOf (k : Nat) (v : Int) : Nat :=
  let lo := (kindBins k).1
  let w := (kindBins k).2
  if v < lo then 0 else if lo + 30 * w ≤ v then 31 else 1 + ((v - lo) / w).toNat

/-- The lower of two extremes; the earlier where they are equal. -/
def minExt (a : Option (Int × Nat)) (b : Int × Nat) : Option (Int × Nat) :=
  match a with
  | some x => if b.1 < x.1 then some b else some x
  | none => some b

/-- The higher of two extremes. -/
def maxExt (a : Option (Int × Nat)) (b : Int × Nat) : Option (Int × Nat) :=
  match a with
  | some x => if x.1 < b.1 then some b else some x
  | none => some b

/-- Accumulators with one more sample; counts saturate. -/
def KindAcc.add (k : Nat) (a : KindAcc) (x : SepSample) : KindAcc :=
  let b := binOf k x.value
  { a with
    bins := Tab.set a.bins b (sat32 (Tab.get a.bins b 0 + 1)) 0
    minV := minExt a.minV (x.low, x.lowAt)
    maxV := maxExt a.maxV (x.high, x.highAt)
    samples := a.samples + 1
    sum := a.sum + x.value }

/-- One kind takes its sample. -/
def State.takeSample (s : State) (x : SepSample) : State :=
  let k := x.kind.val
  if s.sep.kindEff.getLsbD k && (!mainKind k || s.pins.mainPwrGood) then
    { s with sep.live := Tab.set s.sep.live k ((Tab.get s.sep.live k {}).add k x) {} }
  else s

/-- SEPIA_SAMPLE (R451). -/
def execSepiaSample (samples : List SepSample) (s : State) : Res :=
  .next (if s.flag pSEP SEP_CTRL_EN then samples.foldl State.takeSample s else s)

/-! ### Intervals (R453, R454) -/

/-- A pending set takes a closing interval. -/
def KindAcc.merge (a b : KindAcc) : KindAcc :=
  { b with
    bins := (List.range 32).foldl (fun t i => Tab.set t i (sat32 (Tab.get a.bins i 0 + Tab.get b.bins i 0)) 0) []
    minV := match a.minV, b.minV with
      | some x, some y => minExt (some x) y
      | none, y => y
      | x, none => x
    maxV := match a.maxV, b.maxV with
      | some x, some y => maxExt (some x) y
      | none, y => y
      | x, none => x
    samples := a.samples + b.samples
    sum := a.sum + b.sum
    startOp := a.startOp
    flags := ((a.flags &&& 0xFE#8) ||| b.flags) ||| 4#8 }

/-- SEP_STAT.PENDING follows the pending sets. -/
def State.showPending (s : State) : State := s.fset pSEP SEP_STAT_PENDING (bit !s.sep.pendKinds.isEmpty)

/-- Closes one kind's interval. -/
def State.closeKind (s : State) (partly : Bool) (k : Nat) : State :=
  let a := Tab.get s.sep.live k {}
  let cal := s.flag pSEP SEP_STAT_CAL_SET
  let fl := BitVec.ofNat 8 (bit cal + 2 * bit partly + 8 * bit (s.sep.mainGap || !s.pins.mainPwrGood))
  let a := { a with flags := fl, closeOp := s.opSec, closeCal := s.pget pSEP SEP_CAL }
  let a := if s.sep.pendKinds.contains k then (Tab.get s.sep.pend k {}).merge a else a
  { s with sep.pend := Tab.set s.sep.pend k a {}, sep.pendKinds := setAdd s.sep.pendKinds k }

/-- Every enabled kind's interval closes; a changed period or kind mask takes effect, and new intervals start. -/
def State.closeIntervals (s : State) (partly : Bool) : State :=
  let t := ((List.range 19).filter fun k => s.sep.kindEff.getLsbD k).foldl (State.closeKind · partly) s
  let fresh : KindAcc := { startOp := s.opSec }
  State.showPending { t with
    sep.live := (List.range 19).foldl (fun m k => Tab.set m k fresh {}) []
    sep.periodEff := s.fget pSEP SEP_PERIOD
    sep.kindEff := BitVec.ofNat 32 (s.fget pSEP SEP_KIND_EN)
    sep.mainGap := !s.pins.mainPwrGood }

/-- SEPIA_INTERVAL_CLOSE (R453). -/
def execSepiaIntervalClose (s : State) : Res := .next (s.closeIntervals false)

/-- What a write of SEP_CTRL does. -/
def sepCtrl (v : Nat) (s : State) : State := if v / 2 % 2 = 1 then s.closeIntervals true else s

/-- FLUSH (R453): EN stays as it is. -/
def execFlush (cls : Cls) (s : State) : Res :=
  let v := 2 + s.fget pSEP SEP_CTRL_EN
  .next (writeThen s cls (pSEP + 0x100) v (sepCtrl v))

/-! ### Records (R455, R456) -/

/-- First byte of a record slot. -/
def sepSlot (i : Nat) : Nat := 0x2000000 + 512 * i

/-- A mean as the record holds it: which way an inexact one is rounded, the spec does not say (log 35). -/
def State.recordMean (s : State) (a : KindAcc) : Int :=
  a.sum / (a.samples : Int) + (if a.sum % (a.samples : Int) = 0 then 0 else s.freeWord.1.toNat % 2)

/-- The bytes 0x000-0x1FB of a record. The extremes and the mean of an interval without samples are values the spec does
not give. -/
def State.recordBody (s : State) (k : Nat) (a : KindAcc) : List Byte :=
  let f := (Config.freeWord s.free).toNat
  let none4 := natLe 4 f
  let none8 := natLe 8 (f / 0x100000000)
  let ext (e : Option (Int × Nat)) : List Byte :=
    match e with
    | some x => natLe 4 (ofSigned 32 x.1) ++ [0, 0, 0, 0] ++ natLe 8 x.2
    | none => none4 ++ [0, 0, 0, 0] ++ none8
  let cal := a.flags.getLsbD 0
  let l := natLe 4 0x52504553 ++ natLe 1 1 ++ [a.flags] ++ natLe 2 k ++ natLe 4 (s.fget pSEP SEP_NEXT) ++
    natLe 4 (s.fget pSEP SEP_CYCLES) ++ natLe 8 a.closeOp ++ natLe 8 a.startOp ++
    natLe 8 (if cal then a.closeCal else 0) ++ natLe 4 (ofSigned 32 (kindBins k).1) ++ natLe 4 (kindBins k).2 ++
    ext a.minV ++ ext a.maxV ++ natLe 4 a.samples ++
    (if a.samples = 0 then none4 else natLe 4 (ofSigned 32 (s.recordMean a))) ++ List.replicate 40 0 ++
    ((List.range 32).flatMap fun i => natLe 4 (Tab.get a.bins i 0)) ++ List.replicate 248 0
  l ++ natLe 4 (crc32 l).toNat

/-- SEP_NEXT moves to the next slot; at the end of the region recording stops (R456). -/
def State.nextSlot (s : State) : State :=
  let n := s.fget pSEP SEP_NEXT + 1
  let s := s.fset pSEP SEP_NEXT n
  if n = 65536 then (s.fset pSEP SEP_STAT_FULL 1).raise pSEP 4 else s

/-- SEPIA_RECORD_WRITE (R456): the lowest pending kind's record, VALID in a step of its own; a slot that fails verification
keeps no valid mark, what it holds is open, and the record waits for the next one. -/
def execSepiaRecordWrite (verifyFail : Bool) (s : State) : Res :=
  match s.sep.pendKinds with
  | [] => .next s
  | k :: t =>
    if !s.ledgerRuns || s.flag pSEP SEP_STAT_FULL || s.flag pSEP SEP_STAT_CLEARING then .next s
    else
      let i := s.fget pSEP SEP_NEXT
      let s := s.fset pSEP SEP_WSEQ (s.fget pSEP SEP_WSEQ + 2)
      let body := s.recordBody k (Tab.get s.sep.pend k {})
      let s := { s with free := s.free + 1 }
      if verifyFail then
        let f := s.freeBytes 508
        .next (f.2.putFlash (sepSlot i) f.1).nextSlot
      else
        let s := s.putFlash (sepSlot i) (body ++ natLe 4 0xA5A55A5A)
        let s := { s with sep.pend := Tab.erase s.sep.pend k, sep.pendKinds := t }.showPending
        .next ((s.nextSlot.commitCounters).raise pSEP 3)

/-! ### Calendar time (R457) -/

/-- SET_WALL_CLOCK (R457). -/
def execSetWallClock (slot : Fin 4) (s : State) : Res :=
  let i := slot.val
  .next (mbRow i 0x30 (fun s =>
    let sec := s.payload i 0 8
    if sec < 1577836800 then s.deny i 1
    else if s.fwc.wall.any fun w => w.2 = i then s
    else { s with fwc.wall := s.fwc.wall ++ [(sec, i)] }) s)

/-- WALL_CLOCK_APPLY (R457): at the next whole operating second SEP_CAL takes the latest SECONDS, and each request is
answered. -/
def execWallClockApply (s : State) : Res :=
  match s.fwc.wall.getLast? with
  | none => .next s
  | some w =>
    let reqs := s.fwc.wall
    let s := if s.sep.opFrac = 0 then s else s.advance (1000000000 - s.sep.opFrac % 1000000000)
    let s := ((({ s with fwc.wall := [] }.pset pSEP SEP_CAL w.1).fset pSEP SEP_STAT_CAL_SET 1)).raise pSEP 6
    .next (reqs.foldl (fun s r => if s.hr.slotReq.contains r.2 then s.respond r.2 0 [] else s) s)

/-! ### The action log (R459-R463) -/

/-- First byte of an entry slot, 0-1,023. -/
def algSlot (i : Nat) : Nat := 0x80000 + 64 * i

/-- Removes repeats that stand side by side. -/
def squeeze : List Nat → List Nat
  | [] => []
  | a :: t =>
    match squeeze t with
    | [] => [a]
    | b :: u => if a = b then b :: u else a :: b :: u

/-- The entry slots that hold anything. -/
def State.usedSlots (s : State) : List Nat :=
  squeeze ((s.flash.filter fun c => 0x80000 ≤ c.1 && c.1 < 0x90000).map fun c => (c.1 - 0x80000) / 64)

/-- NO of the entry in a slot, where its mark and CRC are right. -/
def State.entryNo (s : State) (i : Nat) : Option Nat :=
  let l := s.flashAt (algSlot i) 64
  if fieldLe l 0x3E 2 = 0x5AA5 && (crc16 (l.take 0x38)).toNat = fieldLe l 0x38 2 then some (fieldLe l 0 4) else none

/-- The newest valid entry: slot and NO. -/
def State.newestEntry (s : State) : Option (Nat × Nat) :=
  s.usedSlots.foldl (fun m i =>
    match s.entryNo i, m with
    | some n, some (j, x) => if x ≤ n then some (i, n) else some (j, x)
    | some n, none => some (i, n)
    | none, m => m) none

/-- Starts a pinned sector (R462): it is erased; the ring goes on behind it. -/
def State.pinSector (s : State) (k : Nat) : State :=
  { (s.eraseFlash (algSlot (64 * k)) 4096).fset pALG ALG_PIN k with
    sep.pinCount := 0, sep.ringPos := 64 * ((k + 1) % 16) }

/-- The next ring slot after `i`, never in the pinned sector. -/
def ringNext (pin i : Nat) : Nat :=
  let n := (i + 1) % 1024
  if n / 64 = pin then 64 * ((pin + 1) % 16) else n

/-- The readings of an entry: eight, absent ones 0xFFFF. -/
def readings (l : List Half) : List Byte :=
  (List.range 8).flatMap fun i => natLe 2 ((l.getD i 0xFFFF).toNat)

/-- Writes one entry (R459, R462). -/
def State.writeEntry (s : State) (a : ActionRec) (lost : Bool) (pre post : List Half) : State :=
  let pin := s.fget pALG ALG_PIN
  let pinned := s.sep.pinCount < 64
  let i := if pinned then 64 * pin + s.sep.pinCount else s.sep.ringPos % 1024
  let s := if !pinned && i % 64 = 0 then s.eraseFlash (algSlot i) 4096 else s
  let no := s.fget pALG ALG_NO
  let l := natLe 4 no ++ natLe 4 (s.fget pSEP SEP_CYCLES) ++ natLe 6 a.opMs ++ natLe 1 a.code ++ natLe 1 a.source ++
    natLe 1 a.cause ++ natLe 1 (bit pinned + 2 * bit a.silent + 4 * bit lost) ++ [0, 0] ++ natLe 4 a.arg ++
    readings pre ++ readings post
  let s := s.putFlash (algSlot i) (l ++ natLe 2 (crc16 l).toNat ++ [0, 0, 0, 0] ++ natLe 2 0x5AA5)
  let s := if pinned then { s with sep.pinCount := s.sep.pinCount + 1 } else { s with sep.ringPos := ringNext pin i }
  ((s.fset pALG ALG_HEAD i).fset pALG ALG_NO (no + 1)).fset pALG ALG_WSEQ (s.fget pALG ALG_WSEQ + 2) |>.raise pALG 3

/-- An action of Carapace still waits for samples of its POST intervals. -/
def State.postDue (s : State) (a : ActionRec) : Bool := crpCode a.code && a.post.length < 40 && s.crp.on

/-- ACTION_ENTRY_WRITE (R370, R460, R461): the oldest action in the queue, once its POST intervals have passed; where actions
were lost, an ACTIONS_LOST entry precedes it. Carapace's own readings come from its samples, the others are operands. -/
def execActionEntryWrite (pre post : List Half) (s : State) : Res :=
  match s.sep.actQ with
  | [] => .next s
  | a :: t =>
    if !s.ledgerRuns || s.flag pSEP SEP_STAT_CLEARING || s.postDue a then .next s
    else
      let n := s.sep.lostSince
      let s := { s with sep.actQ := t, sep.lostSince := 0 }
      let s := if n = 0 then s else s.writeEntry { code := 0x0C, source := 0xFF, cause := 0, arg := n, opMs := s.opMs, silent := false } false [] []
      .next (if crpCode a.code then s.writeEntry a (n != 0) a.pre (intervalMeans a.post) else s.writeEntry a (n != 0) pre post)

/-! ### Clears (R464, R465) -/

/-- The first check of a token that fails (R464, R465); 0 where it holds. -/
def State.tokenDetail (s : State) (t : List Byte) (poisoned : Bool) : Nat :=
  let scope := fieldLe t 6 1
  if poisoned || fieldLe t 0 4 != 0x524C4353 || fieldLe t 4 2 != 1 || !(1 ≤ scope && scope ≤ 3) ||
      !xmssOk s.fuses.romMaintKey (shake256 (ascii "FX9-SCLR" ++ t.take 32)) (t.drop 32) then 1
  else if fieldLe t 0x10 8 != s.pget pSEP SEP_NONCE then 2
  else if fieldLe t 8 8 != s.fuses.uid.toNat then 3
  else if (genState s).getLsbD 3 then 4
  else if s.flag pSEP SEP_STAT_CLEARING then 5 else 0

/-- A new SEP_NONCE from the entropy source. -/
def State.newNonce (s : State) : State :=
  s.freeWord.2.pset pSEP SEP_NONCE s.freeWord.1.toNat

/-- A clear begins: the sequence counts of what it erases turn odd (R458, R463). -/
def State.beginClear (s : State) (scope : Nat) : State :=
  let s := { s with sep.clearScope := scope, sep.clearCls := 0 }.fset pSEP SEP_STAT_CLEARING 1
  let s := if scope % 2 = 1 then s.fset pSEP SEP_WSEQ (s.fget pSEP SEP_WSEQ + 1) else s
  if 2 ≤ scope then s.fset pALG ALG_WSEQ (s.fget pALG ALG_WSEQ + 1) else s

/-- SEPIA_CLEAR (R465). -/
def execSepiaClear (slot : Fin 4) (s : State) : Res :=
  let i := slot.val
  .next (mbRow i 0x31 (fun s =>
    if s.payload i 8 4 != 2852 then s.respond i 5 []
    else
      let a := s.payload i 0 8
      let r := s.fabRead a 2852
      let t := r.1
      let bad := r.2.1
      let s := r.2.2
      let d := s.tokenDetail t bad
      let s := (if bad then s.bite else s).newNonce
      if d != 0 then s.deny i d else (s.respond i 0 []).beginClear (fieldLe t 6 1)) s)

/-- CLEAR_DONE (R465): the ledger core has erased the scope; the clear ends with its CLEARED entry. -/
def execClearDone (s : State) : Res :=
  if !s.flag pSEP SEP_STAT_CLEARING || !s.ledgerRuns then .next s
  else
    let scope := s.sep.clearScope
    let s := if scope % 2 = 1 then
        (((s.eraseFlash 0x2000000 0x2000000).fset pSEP SEP_NEXT 0).fset pSEP SEP_STAT_FULL 0).fset pSEP SEP_WSEQ
          (s.fget pSEP SEP_WSEQ + 1)
      else s
    let s := if 2 ≤ scope then
        let k := s.freeWord
        ((k.2.eraseFlash 0x80000 0x10000).pinSector (k.1.toNat % 16)).fset pALG ALG_NO 0 |>.fset pALG ALG_WSEQ
          (s.fget pALG ALG_WSEQ + 1)
      else s
    let s := { s with sep.clearScope := 0 }.fset pSEP SEP_STAT_CLEARING 0
    .next ((s.writeEntry { code := 0x0D, source := s.sep.clearCls, cause := scope, arg := scope, opMs := s.opMs, silent := false }
      false [] []).raise pSEP 5)

/-! ### At power-up -/

/-- The slot after the last one of the region that holds anything. -/
def State.sepFirstFree (s : State) : Nat :=
  match (s.flash.filter fun c => 0x2000000 ≤ c.1 && c.1 < 0x4000000).getLast? with
  | some c => (c.1 - 0x2000000) / 512 + 1
  | none => 0

/-- The ledger core's duties at a power-up (R450, R456, R462): the power-cycle count is committed, SEP_NEXT found, a sector
pinned behind the newest entry. Which one is pinned in an empty log, the spec does not say. -/
def State.ledgerUp (s : State) : State :=
  if s.sep.ledgerUp then s
  else
    let n := (s.sep.cjCycles + 1) % 0x100000000
    let s := { s with sep.cjCycles := n, sep.ledgerUp := true }.fset pSEP SEP_CYCLES n
    let k := s.sepFirstFree
    let s := (s.fset pSEP SEP_NEXT k).fset pSEP SEP_STAT_FULL (bit (65536 ≤ k))
    let s :=
      match s.newestEntry with
      | some (i, no) => ((s.fset pALG ALG_HEAD i).fset pALG ALG_NO (no + 1)).pinSector ((i / 64 + 1) % 16)
      | none => s.freeWord.2.pinSector (s.freeWord.1.toNat % 16)
    s.fset pALG ALG_WSEQ (s.fget pALG ALG_WSEQ + 2)

end Sys2Proof.Machine
end

