-- ==== Sys2Proof/Machine/Firmware.lean ====
section
/-! DEFINITION. The firmware complex (13_firmware_complex.md): restarts of one core (R429-R433), staging (R434-R436),
activation, trial, commit and revert (R437-R441, R499), GET_INFO (R442), the log ring (R444) and trace points (R446). -/

namespace Sys2Proof.Machine

/-! ### Shared -/

/-- FWC_UPD_STAT.STATE. -/
def State.updState (s : State) : Nat := s.fget pFWC FWC_UPD_STAT_STATE

/-- GEN_STATE.FW_UPDATE (R436). -/
def State.fwUpdate (s : State) : Bool := (genState s).getLsbD 4

/-- FWC_STAT and the slots as the boot control record, the images and the fuses give them. -/
def State.showFwc (s : State) : State :=
  let b := s.bcr.2
  let s := s.fset pFWC FWC_STAT_FLOOR s.fuses.floor
  let s := s.fset pFWC FWC_STAT_ACTIVE b.active
  let s := s.fset pFWC FWC_STAT_TRIAL (bit (b.slot b.active = 2))
  let s := (s.fset pFWC FWC_SLOTA_STATE b.stateA).fset pFWC FWC_SLOTA_ROLLBACK (s.imgField 0 0x0C 1)
  let s := (s.fset pFWC FWC_SLOTB_STATE b.stateB).fset pFWC FWC_SLOTB_ROLLBACK (s.imgField 1 0x0C 1)
  (s.fset pFWC FWC_SLOTA_VER (s.imgField 0 8 4)).fset pFWC FWC_SLOTB_VER (s.imgField 1 8 4)

/-- A change of the boot control record (R424), shown. -/
def State.setBcr (s : State) (f : Bcr → Bcr) : State := (s.putBcr f).showFwc

/-- FWC_UPD_STAT moves (R435): UPD_STATE is raised at a change, and RCK_ALERT_SRC.FW_UPDATE set at both edges of
GEN_STATE.FW_UPDATE (R436). -/
def State.setUpd (s : State) (st code : Nat) : State :=
  let t := (s.fset pFWC FWC_UPD_STAT_STATE st).fset pFWC FWC_UPD_STAT_CODE code
  let t := if s.updState = st then t else t.raise pFWC 6
  if t.fwUpdate = s.fwUpdate then t else t.fset pRCK RCK_ALERT_SRC_FW_UPDATE 1

/-- The slot a core's running section comes from. -/
def State.coreSlot (s : State) (n : Nat) : Nat := s.fget pFWC (FWC_CORE_STAT_SLOT.nth n 0x40)

/-! ### Staging (R434-R436) -/

/-- A staging ends: the slot is STAGED or REJECTED, and UPD_DONE is raised. -/
def State.endStage (s : State) (slot code : Nat) : State :=
  let s := { s with fwc.stage := none }.setBcr fun b => b.setSlot slot (if code = 0 then 1 else 4)
  (s.setUpd (if code = 0 then 3 else 4) code).raise pFWC 5

/-- A restart of the link core during staging aborts it with code 7 (R447). -/
def State.abortStage (s : State) : State :=
  match s.fwc.stage with
  | some g => ({ s with hr.pldmUpd := 0 }).endStage g.slot 7
  | none => s

/-- The slot that is not active. -/
def State.inactive (s : State) : Nat := 1 - s.bcr.2.active % 2

/-- A staging into slot `i` begins: it is erased and marked EMPTY, and the bytes are received. -/
def State.beginStage (s : State) (i : Nat) (pldm : Bool) (addr len : Nat) (image : List Byte) : State :=
  let s := (s.eraseFlash (slotBase i) slotSize).setBcr fun b => b.setSlot i 0
  let s := { s with fwc.stage := some ⟨pldm, i, addr, len, image⟩ }
  (s.fset pFWC FWC_UPD_STAT_PATH (bit pldm)).setUpd 1 0

/-- FW_STAGE (R434). -/
def execFwStage (slot : Fin 4) (s : State) : Res :=
  let i := slot.val
  .next (mbRow i 0x50 (fun s =>
    let len := s.payload i 8 4
    if slotSize < len then s.respond i 5 []
    else if s.fwUpdate || s.hr.pldmUpd != 0 then s.respond i 6 []
    else (s.respond i 0 []).beginStage s.inactive false (s.payload i 0 8) len []) s)

/-- The bytes of a staging and whether a poisoned read spoiled them. -/
def State.stageData (s : State) (g : StageReq) : List Byte × Bool :=
  if g.pldm then (g.image.take slotSize, false) else (s.fabBytes g.addr g.len, s.fabPoison g.addr g.len)

/-- Copies a staging into its slot and checks it: the code of R435. -/
def State.finishStage (s : State) (g : StageReq) (flashErr : Bool) : State :=
  let s := if g.pldm then s else s.noteAccess g.addr g.len
  let d := s.stageData g
  if d.2 then (s.bite).endStage g.slot 8
  else
    let s := s.putFlash (slotBase g.slot) d.1
    s.endStage g.slot (if flashErr then 7 else s.checkImage g.slot)

/-- UPD_DONE (R434): the link core has copied and checked the image. An image over PLDM is checked once all of it is
there. -/
def execUpdDone (flashErr : Bool) (s : State) : Res :=
  match s.fwc.stage with
  | some g =>
    if s.runs 2 && (!g.pldm || 4 ≤ s.hr.pldmUpd) then .next (s.finishStage g flashErr) else .next s
  | none => .next s

/-! ### Restart of one core (R429-R433) -/

/-- The core at a position of the order ledger, link, climate, power. -/
def coreAt (k : Nat) : Nat := 4 - k

/-- The supervisor resets a core. -/
def State.restartCore (s : State) (n cause : Nat) : State :=
  let s := s.fset pFWC (FWC_CORE_STAT_STATE.nth n 0x40) 3
  let s := s.fset pFWC (FWC_CORE_STAT_CAUSE.nth n 0x40) cause
  let s := s.fset pFWC (FWC_CORE_STAT_RESTART_PEND.nth n 0x40) 0
  let r := s.fget pFWC (FWC_CORE_STAT_RESTARTS.nth n 0x40)
  let s := (s.fset pFWC (FWC_CORE_STAT_RESTARTS.nth n 0x40) (min 0xFFFF (r + 1))).raise pFWC 3
  if n = 2 then s.abortStage else s

/-- Firmware core `n` beyond its page. -/
def State.fwCore (s : State) (n : Nat) : FwCore1 := Tab.get s.fwc.cores n {}

/-- Changes it. -/
def State.modFwCore (s : State) (n : Nat) (f : FwCore1 → FwCore1) : State :=
  { s with fwc.cores := Tab.set s.fwc.cores n (f (s.fwCore n)) {} }

/-- A restart while the core is RESTARTING or LOADING is latched (R433). -/
def State.latchRestart (s : State) (n cause : Nat) : State :=
  (s.fset pFWC (FWC_CORE_STAT_RESTART_PEND.nth n 0x40) 1).modFwCore n fun c => { c with pendCause := cause }

/-- A restart asked for by a command, an activation or a revert. -/
def State.askRestart (s : State) (n cause : Nat) : State :=
  if s.coreState n = 3 || s.coreState n = 1 then s.latchRestart n cause else s.restartCore n cause

/-- The power core's restart into the new slot is held while EMERGENCY = 1, and every core's where IPC_MAJOR differs from
the running power core's (R439, R440). -/
def State.actHeld (s : State) (k : Nat) : Bool :=
  let b := s.bcr.2
  s.emergency && (k = 4 || (!s.fwc.reverting && s.imgField b.active 0x0D 1 != s.imgField (s.coreSlot 0) 0x0D 1))

/-- The activation has come to its end: the trial starts (R441); a revert is done. -/
def State.actEnd (s : State) : State :=
  if s.fwc.reverting then { s with fwc.actStage := 0, fwc.reverting := false }
  else
    let t := s.imgField s.bcr.2.active 0x0E 2
    ({ s with fwc.actStage := 0, fwc.trialStart := s.nowNs }.fset pFWC FWC_TRIAL_LEFT t).setUpd 7 0

/-- Restarts the core at position `k`, or the next one that needs it (R438, R441). A FAILED core waits for its own RESTART
(R432); a revert passes it over, as it does a core on the active slot. -/
def State.actStep (s : State) (k : Nat) : Nat → State
  | 0 => s.actEnd
  | fuel + 1 =>
    let n := coreAt k
    let s := { s with fwc.actStage := k }
    let old := s.coreSlot n = s.bcr.2.active
    if s.fwc.reverting && (old || s.coreState n = 5) then s.actStep (k + 1) fuel
    else if s.fwc.reverting && (s.coreState n = 3 || s.coreState n = 1) then s
    else if s.coreState n = 5 then s
    else if s.actHeld k then
      let s := s.fset pFWC FWC_STAT_PWR_PENDING 1
      if s.fwc.reverting then s else s.setUpd 6 0
    else s.askRestart n (if s.fwc.reverting then 5 else 4)

/-- Goes on from position `k`. -/
def State.actFrom (s : State) (k : Nat) : State := s.actStep k (5 - k)

/-- An activation of the staged slot (R438). -/
def State.beginActivation (s : State) (i : Nat) : State :=
  let s := s.setBcr fun b => { b.setSlot i 2 with active := i, tries := 2 }
  ({ s with fwc.reverting := false }.setUpd 5 0).actFrom 1

/-- A revert (R441): the old slot is ACTIVE and COMMITTED, the new one REJECTED; the cores on the new slot restart. -/
def State.revert (s : State) (code : Nat) : State :=
  let i := s.bcr.2.active % 2
  let s := s.setBcr fun b => { (b.setSlot i 4).setSlot (1 - i) 3 with active := 1 - i, tries := 0 }
  let s := ((s.fset pFWC FWC_STAT_PWR_PENDING 0).fset pFWC FWC_TRIAL_LEFT 0).setUpd 9 code
  { s with fwc.reverting := true, fwc.commitDefer := false }.actFrom 1

/-- A commit (R441): the slot is COMMITTED, the old one STAGED; BURN raises the rollback floor (R428). -/
def State.commit (s : State) : State :=
  let i := s.bcr.2.active % 2
  let burn := s.imgField i 7 1 % 2 = 1
  let s := if burn then { s with fuses.floor := max s.fuses.floor (s.imgField i 0x0C 1) } else s
  let s := { s with fwc.commitDefer := false }.setBcr fun b => { (b.setSlot i 3).setSlot (1 - i) 1 with tries := 0 }
  (s.fset pFWC FWC_TRIAL_LEFT 0).setUpd 8 0

/-- The slot a core runs is the TRIAL slot. -/
def State.onTrial (s : State) (n : Nat) : Bool :=
  s.flag pFWC FWC_STAT_TRIAL && s.coreSlot n = s.bcr.2.active

/-- A running core restarts for a watchdog, exception or digest cause (R429, R432): the third within 60 s leaves it FAILED;
on the TRIAL slot it reverts the update (R441). -/
def State.faultRestart (s : State) (n cause : Nat) : State :=
  let l := s.nowNs :: (s.fwCore n).faults.filter fun t => s.nowNs < t + 60000000000
  let trial := s.onTrial n
  let s := s.modFwCore n fun c => { c with faults := l }
  let s :=
    if 3 ≤ l.length then
      ((s.fset pFWC (FWC_CORE_STAT_STATE.nth n 0x40) 5).fset pFWC (FWC_CORE_STAT_CAUSE.nth n 0x40) cause).raise pFWC 4
    else s.restartCore n cause
  if trial then s.revert 0 else s

/-- A fault of a core. -/
def State.fault (s : State) (n cause : Nat) : State :=
  if s.coreState n = 2 then s.faultRestart n cause
  else if s.coreState n = 3 || s.coreState n = 1 then s.latchRestart n cause
  else s

/-- CORE_WATCHDOG (R429). -/
def execCoreWatchdog (core : FwCore) (s : State) : Res := .next (s.fault (coreIdx core) 2)

/-- CORE_EXCEPTION (R429). -/
def execCoreException (core : FwCore) (s : State) : Res := .next (s.fault (coreIdx core) 3)

/-- SECTION_DIGEST_FAIL (R429). -/
def execSectionDigestFail (core : FwCore) (s : State) : Res := .next (s.fault (coreIdx core) 6)

/-- What a write of FWC_CORE_CTRL does: RESTART clears the count of R432; HALT is ignored for the power core; RUN resumes a
HALTED core, and the link core then answers what it met while halted (R323, R430). -/
def coreCtrl (n v : Nat) (s : State) : State :=
  let s := if v % 2 = 1 then (s.modFwCore n fun c => { c with faults := [] }).askRestart n 1 else s
  let s := if v / 2 % 2 = 1 && n != 0 && s.coreState n = 2 then
      s.fset pFWC (FWC_CORE_STAT_STATE.nth n 0x40) 4 else s
  if v / 4 % 2 = 1 && s.coreState n = 4 then
    let s := s.fset pFWC (FWC_CORE_STAT_STATE.nth n 0x40) 2
    if n = 2 then s.abortRequests else s
  else s

/-- A write of FWC_CORE_CTRL. -/
def State.coreCtrlWrite (s : State) (cls : Cls) (core : FwCore) (v : Nat) : State :=
  writeThen s cls (pFWC + 0x200 + 0x40 * coreIdx core) v (coreCtrl (coreIdx core) v)

/-- CORE_RESTART (R429). -/
def execCoreRestart (cls : Cls) (core : FwCore) (s : State) : Res := .next (s.coreCtrlWrite cls core 1)

/-- CORE_HALT (R430). -/
def execCoreHalt (cls : Cls) (core : FwCore) (s : State) : Res := .next (s.coreCtrlWrite cls core 2)

/-- Loads a core's section from a slot (R425, R443): the bytes, VERSION, DIGEST, and its 64 points of the trace map. -/
def State.loadCore (s : State) (n i : Nat) : State :=
  let x := s.section i n
  let s := { s with fwc.sram := memPut s.fwc.sram 0 x.2.2 (s.sectionBytes i n) }
  let s := s.modFwCore n fun c => { c with secLoad := x.2.2, secLen := x.2.1 }
  let s := (s.fset pFWC (FWC_CORE_VER.nth n 0x40) (s.imgField i 8 4)).fset pFWC (FWC_CORE_STAT_SLOT.nth n 0x40) i
  let d := s.sectionDigest i n
  let s : State := (List.range 8).foldl (fun s j =>
    s.fset pFWC ((FWC_CORE_DIG.nth n 0x40).nth j 4) (fieldLe d (4 * j) 4)) s
  let map : List Byte := if s.imgField i 0xE4 4 = 0 then [] else s.flashAt (slotBase i + 256 + s.imgField i 0xE0 4 + 2048 * n) 2048
  (List.range 512).foldl (fun s j => s.wr (pTRC + 0x8000 + 2048 * n + 4 * j) (BitVec.ofNat 32 (fieldLe map (4 * j) 4))) s

/-- The supervisor's check of a core's resident section against the DIGEST recorded for it (R429). -/
def State.residentOk (s : State) (n : Nat) : Bool :=
  let c := s.fwCore n
  shake256 (ascii "FX9-FWSC" ++ memBytes s.fwc.sram 0 c.secLoad c.secLen) =
    (List.range 8).flatMap fun j => natLe 4 (s.fget pFWC ((FWC_CORE_DIG.nth n 0x40).nth j 4))

/-- The slot a restarted core takes its section from: its own while that slot is COMMITTED, else the active one; the active
one too where a new slot applies (R429, R438, R441). -/
def State.targetSlot (s : State) (n : Nat) : Nat :=
  let b := s.bcr.2
  let cause := s.fget pFWC (FWC_CORE_STAT_CAUSE.nth n 0x40)
  if cause = 4 || cause = 5 || b.slot (s.coreSlot n) != 3 || (s.fwc.actStage != 0 && coreAt s.fwc.actStage = n) then
    b.active
  else s.coreSlot n

/-- A core's firmware enables the interrupt inputs it wants as it starts; which, the spec does not say (R315, log 1). -/
def State.enableInputs (s : State) (n : Nat) : State :=
  let f := s.freeBytes 128
  f.2.modFwCore n fun c => { c with irqEn := f.1 }

/-- What a core does once it runs again: the link core answers the requests it lost (R323) and lets RACK_ALERT_N go
(R333), and writes the PDR repository at its first start (R330): a record for each sensor and effecter (log 8); the
power core withdraws the cap of a driver that was lost (R326, R377) masks the features a HELLO left out (R321), and enables the branches that a shutdown took down (R413); the ledger core resumes its key (R257), does its duties of the
power-up (R450, R462), and writes a repair record that waited for it (R194). -/
def State.coreStarted (s : State) (n : Nat) : State :=
  let s := s.enableInputs n
  if n = 2 then
    let s := if s.hr.pdrs.isEmpty then (List.range 5).foldl (fun s _ =>
        { (s.freeBytes 32).2 with hr.pdrs := s.hr.pdrs ++ [(s.freeBytes 32).1] }) s else s
    { s with pins.linkCoreStarted := true }.abortRequests
  else if n = 0 then
    let s := if s.hr.lost || s.hr.capDue then s.withdrawCap else s
    let s := if s.hr.maskDue then s.maskFeatures (s.pget pHST HST_FEAT) else s
    s.enableDue
  else if n = 3 then
    let s := s.resumeKey.ledgerUp
    if s.integ.repDirty then s.saveRepair true else s
  else s

/-- A core has come through its restart (R429, R433, R438): the section is reloaded where its check failed or a new slot applies; the core
runs; a latched restart or the next core of an activation follows. -/
def State.restartDone (s : State) (core : FwCore) : State :=
  let n := coreIdx core
  if s.coreState n != 3 then s
  else
    let i := s.targetSlot n
    let reload := i != s.coreSlot n || s.fget pFWC (FWC_CORE_STAT_CAUSE.nth n 0x40) = 6 || !s.residentOk n
    let s := if reload then s.loadCore n i else s
    let s := (s.fset pFWC (FWC_CORE_STAT_STATE.nth n 0x40) 2).coreStarted n
    let pend := (s.fwCore n).pendCause
    if s.flag pFWC (FWC_CORE_STAT_RESTART_PEND.nth n 0x40) then
      let s := s.fset pFWC (FWC_CORE_STAT_RESTART_PEND.nth n 0x40) 0
      if pend = 2 || pend = 3 || pend = 6 then s.faultRestart n pend else s.restartCore n pend
    else if s.fwc.actStage != 0 && coreAt s.fwc.actStage = n && s.coreSlot n = s.bcr.2.active then
      s.actFrom (s.fwc.actStage + 1)
    else s

/-- The pages of the ALWAYS domain. -/
def alwaysPages : List Nat :=
  (pageRows.filter fun p => !p.main).flatMap fun p => (List.range p.n).map fun i => (p.page + i) * 0x10000

/-- The cores run their sections of slot `i`, in the order of R425; the ALWAYS pages are READY. -/
def State.boot (s : State) (i : Nat) : State :=
  let s := [3, 2, 1, 0].foldl (fun s n =>
    ((s.loadCore n i).fset pFWC (FWC_CORE_STAT_STATE.nth n 0x40) 2).coreStarted n) { s with fwc.recovery := false }
  alwaysPages.foldl (fun s b => s.setStat b PAGE_STAT_READY true) s

/-! ### Activation, trial, commit, revert (R437-R441, R499) -/

/-- A STAGED slot that is not active, if there is one. -/
def State.stagedSlot (s : State) : Option Nat :=
  let b := s.bcr.2
  let i := s.inactive
  if b.slot i = 1 && s.fwc.stage = none then some i else none

/-- An activation is running. -/
def State.activating (s : State) : Bool := s.updState = 5 || s.updState = 6 || s.fwc.actStage != 0

/-- FW_ACTIVATE: its action, for slot `i`; an unknown action is refused, and the spec names no detail for it. -/
def fwActivate (i : Nat) (s : State) : State :=
  match s.payload i 0 1 with
  | 1 =>
    if s.activating then s.deny i 2
    else
      match s.stagedSlot with
      | none => s.deny i 1
      | some k => (s.respond i 0 [BitVec.ofNat 8 (bit s.emergency)]).beginActivation k
  | 2 => if s.updState = 7 then (s.respond i 0 [0]).commit else s.deny i 3
  | 3 =>
    if s.updState = 5 || s.updState = 6 || s.updState = 7 then (s.respond i 0 [0]).revert 9
    else
      match s.stagedSlot with
      | none => s.deny i 1
      | some k => ((s.respond i 0 [0]).setBcr fun b => b.setSlot k 4).setUpd 4 9
  | _ => { (s.deny i s.freeWord.1.toNat) with free := s.free + 1 }

/-- A request of FW_ACTIVATE with a given action. -/
def fwAction (slot : Fin 4) (a : Nat → Bool) (s : State) : State :=
  mbRow slot.val 0x51 (fun s => if a (s.payload slot.val 0 1) then fwActivate slot.val s else s) s

/-- ACTIVATE (R437, R438): ACTION 1, and any action that is not listed. -/
def execActivate (slot : Fin 4) (s : State) : Res := .next (fwAction slot (fun a => a != 2 && a != 3) s)

/-- CONFIRM (R437, R441). -/
def execConfirm (slot : Fin 4) (s : State) : Res := .next (fwAction slot (· = 2) s)

/-- CANCEL (R437, R441). -/
def execCancel (slot : Fin 4) (s : State) : Res := .next (fwAction slot (· = 3) s)

/-- PWR_PENDING_RELEASE (R439): EMERGENCY has been 0 for 10 s. -/
def execPwrPendingRelease (s : State) : Res :=
  if s.flag pFWC FWC_STAT_PWR_PENDING && !s.emergency then
    let s := s.fset pFWC FWC_STAT_PWR_PENDING 0
    .next ((if s.fwc.reverting then s else s.setUpd 5 0).actFrom s.fwc.actStage)
  else .next s

/-- TRIAL_EXPIRY (R441, R499): AUTO_CONFIRM commits, in an emergency once it is over; otherwise the trial reverts. -/
def execTrialExpiry (s : State) : Res :=
  if s.updState != 7 || s.fwc.commitDefer then .next s
  else
    let s := s.fset pFWC FWC_TRIAL_LEFT 0
    if !s.flag pFWC FWC_CTRL_AUTO_CONFIRM then .next (s.revert 0)
    else if s.emergency then .next { s with fwc.commitDefer := true }
    else .next s.commit

/-- DEFERRED_COMMIT (R499): EMERGENCY has been 0 for 10 s. -/
def execDeferredCommit (s : State) : Res :=
  .next (if s.fwc.commitDefer && s.updState = 7 && !s.emergency then s.commit else s)

/-! ### GET_INFO (R442) -/

/-- A slot in GET_INFO. The digest of a slot that holds no image of a possible length is a value the spec does not give. -/
def State.slotInfo (s : State) (i : Nat) : List Byte × State :=
  let st := s.bcr.2.slot i
  let d : List Byte × State :=
    if st = 0 || 3153920 < s.bodyLen i then s.freeBytes 32 else (s.imageDigest i, s)
  (natLe 1 st ++ natLe 1 (s.imgField i 0x0C 1) ++ [0, 0] ++ natLe 4 (s.imgField i 8 4) ++ d.1, d.2)

/-- A core in GET_INFO. -/
def State.coreInfo (s : State) (n : Nat) : List Byte :=
  natLe 1 (s.coreState n) ++ [0, 0, 0] ++ natLe 4 (s.fget pFWC (FWC_CORE_VER.nth n 0x40)) ++
    (List.range 8).flatMap fun j => natLe 4 (s.fget pFWC ((FWC_CORE_DIG.nth n 0x40).nth j 4))

/-- GET_INFO (R442): 244 bytes. -/
def execGetInfo (slot : Fin 4) (s : State) : Res :=
  .next (mbRow slot.val 0x10 (fun s =>
    let a := s.slotInfo 0
    let b := a.2.slotInfo 1
    let s := b.2
    s.respond slot.val 0 (natLe 1 (s.fget pFWC FWC_STAT_ACTIVE) ++ natLe 1 s.fuses.floor ++ natLe 1 s.updState ++ [0] ++
      a.1 ++ b.1 ++ [0, 1, 2, 3].flatMap s.coreInfo)) s)

/-! ### The log ring (R444) and the trace points (R446) -/

/-- Bytes of the log ring, and its place in shared SRAM (R419). -/
def ringSize : Nat := 0x40000
/-- First byte of the ring. -/
def ringBase : Nat := 0x300000

/-- FWL_OLDEST moves past the records that a ring written up to `wr` no longer holds whole. -/
def State.oldest (s : State) (wr old : Nat) : Nat → Nat
  | 0 => old
  | fuel + 1 =>
    if wr ≤ old + ringSize then old
    else
      let len := leNat (memBytes s.fwc.sram 0 (ringBase + old % ringSize) 2)
      s.oldest wr (old + max 8 len) fuel

/-- Writes bytes at the write point; they do not cross the ring's end. -/
def State.ringPut (s : State) (l : List Byte) : State :=
  let wr := s.pget pFWL FWL_WR
  let s := s.pset pFWL FWL_OLDEST (s.oldest (wr + l.length) (s.pget pFWL FWL_OLDEST) 256)
  let s := { s with fwc.sram := memPut s.fwc.sram 0 (ringBase + wr % ringSize) l }
  s.pset pFWL FWL_WR (wr + l.length)

/-- Fills the space at the ring's end where `n` bytes do not fit: a pad of which the spec gives LEN and CORE (log 1). -/
def State.ringPad (s : State) (n : Nat) : State :=
  let room := ringSize - s.pget pFWL FWL_WR % ringSize
  if n ≤ room then s
  else
    let f := s.freeBytes (room - 3)
    f.2.ringPut (natLe 2 room ++ [0xFF] ++ f.1)

/-- Appends a record of a core. -/
def State.logRecord (s : State) (n level : Nat) (body : List Byte) : State :=
  let pad := (8 - body.length % 8) % 8
  let len := 16 + body.length + pad
  let s := s.ringPad len
  let s := s.ringPut (natLe 2 len ++ natLe 1 n ++ natLe 1 level ++ natLe 4 s.fwc.logSeq.toNat ++
    natLe 8 s.tick.toNat ++ body ++ List.replicate pad 0)
  let s := { s with fwc.logSeq := s.fwc.logSeq + 1 }
  if level = 0 then s.raise pFWL 3 else s

/-- LOG_RECORD (R444): a running core writes a record at or below its threshold; a record holds at most 1,024 bytes. -/
def execLogRecord (core : FwCore) (level : Fin 5) (body : List Byte) (s : State) : Res :=
  let n := coreIdx core
  let low := (FWL_LEVEL_LEVEL0.get (s.rd (pFWL + 0x114) >>> (4 * n)))
  if s.runs n && (level.val ≤ low || level.val = 4) && body.length ≤ 1008 then .next (s.logRecord n level.val body)
  else .next s

/-- TRACE_POINT (R446): the core of the point's range reaches an enabled point. -/
def execTracePoint (point : BitVec 8) (arg : BitVec 32) (s : State) : Res :=
  let p := point.toNat
  let n := p / 64
  let on (f : Fld) : Bool := (s.rd (pTRC + f.off + p / 32 * 4)).getLsbD (p % 32)
  if s.runs n && on TRC_EN then
    let s := s.count pTRC (TRC_CNT.nth p 4)
    let s := ((s.fset pTRC TRC_LAST_POINT p).fset pTRC TRC_LAST_CORE n).fset pTRC TRC_LAST_ARG arg.toNat
    let s := s.logRecord n 4 (natLe 2 p ++ [0, 0] ++ natLe 4 arg.toNat)
    .next (if on TRC_IRQ then s.raise pTRC 3 else s)
  else .next s

end Sys2Proof.Machine
end

