-- ==== Sys2Proof/Machine/KrmFence.lean ====
section
/-! DEFINITION. Fencing, spares and the return of cores (R156-R162), and the repair of stored data: repair slots, tier
write-backs, patrol, sparing, remap, channel fences (R180-R197). -/

namespace Sys2Proof.Machine

/-! ### Slots and spares -/

/-- The page of the quadrant of a core. -/
def quadPage (c : Nat) : Nat := pKRMQUAD (c / 9)

/-- The field of slot `k` of KQ_MAP. -/
def mapSlot (k : Nat) : Fld := ⟨KQ_MAP_SLOT0.off, 4 * k, 4⟩

/-- The slot core `c` holds, if any. -/
def State.slotOf (s : State) (c : Nat) : Option Nat :=
  (List.range 8).find? fun k => s.fget (quadPage c) (mapSlot k) = c % 9

/-- Changes the number of active cores and the active map (R157, R159). -/
def State.setActive (s : State) (c : Nat) (on : Bool) : State :=
  let m := s.pget pKRMGLOB KG_ACT_MAP
  let n := s.fget pGEN GEN_FAMILY_ACT_CORES
  let s := s.pset pKRMGLOB KG_ACT_MAP (if on then Nat.lor m (2 ^ c) else m - Nat.land m (2 ^ c))
  (s.hwSet pGEN GEN_FAMILY_ACT_CORES (if on then n + 1 else n - 1)).seqUp pKRMGLOB

/-- Latches SPARE_REFUSED on the quadrant and global pages (R163). -/
def State.spareRefused (s : State) (cls : Cls) (c off : Nat) : State :=
  (s.latch (quadPage c) 0x0102 (clsCode cls) off).latch pKRMGLOB 0x0102 (clsCode cls) off

/-- Whether a core is being activated as a spare, or is to be once it has powered down. -/
def Core1.activating (k : Core1) : Bool :=
  match k.selftest, k.latched with
  | some (.spare _), _ => true
  | _, some (.spare _) => true
  | _, _ => false

/-- Fences core `c` with a cause code (R157): its job aborts with code FENCE, its slot empties, ACT_CORES falls, the page
shows FENCED, and it powers down. -/
def State.fenceCore (s : State) (c code : Nat) : State :=
  let pg := pKRMCORE c
  if s.flag pg PAGE_STAT_FENCED then s
  else
    let mine := match s.krm.job with
      | some j => j.phys.contains c
      | none => false
    let s := if mine then s.endJob 2 2 s.lastCycle else s
    let s := (s.stopCore c).fset pg KCORE_FCAUSE_CAUSE code
    let s := match s.slotOf c with
      | some k => ((s.hwSet (quadPage c) (mapSlot k) 0xF).setActive c false).fset pg KCORE_STAT_LOGICAL 0x3F
      | none => s
    let s := if s.fget (quadPage c) KQ_SPARE_SPARE = c % 9 then
        (s.hwSet (quadPage c) KQ_SPARE_SPARE 0xF).fset pg KCORE_STAT_SPARE 0 else s
    let s := if (s.core c).activating then s.fset (quadPage c) KQ_SPARE_BUSY 0 else s
    let s := s.modCore c fun k => { k with selftest := none }
    let s := (s.setStat pg PAGE_STAT_FENCED true).fset pg KCORE_STAT_SHUTTING 1
    (s.raise pKRMGLOB 6).showPstate

/-- FENCE (R156): a write of KCORE_CTRL.FENCE fences the core with cause COMMAND. -/
def execFence (cls : Cls) (core : PhysCore) (s : State) : Res :=
  .next (writeThen s cls (pKRMCORE core.val + 0x100) 1 fun t => t.fenceCore core.val 1)

/-- The code of a fence cause that hardware finds (R156). -/
def fenceCode : FenceCause → Nat
  | .seqParity => 2
  | .ctrlUe => 3
  | .sramHard => 4
  | .selftest => 5
  | .overcurrent => 6
  | .fused => 7

/-- CORE_FENCED (R157). -/
def execCoreFenced (core : PhysCore) (cause : FenceCause) (s : State) : Res :=
  .next (if s.pins.mainPwrGood then s.fenceCore core.val (fenceCode cause) else s)

/-- Starts a core under a request, or latches the request while the core powers down (R162). -/
def State.startCore (s : State) (c : Nat) (r : StartReq) : State :=
  if s.flag (pKRMCORE c) KCORE_STAT_SHUTTING then s.latchStart c r
  else s.modCore c fun k => { k with selftest := some r }

/-- What UNFENCE does (R161): refused while the quadrant has a spare, whichever core it names. -/
def unfenceAct (cls : Cls) (c : Nat) (s : State) : State :=
  if s.fget (quadPage c) KQ_SPARE_SPARE != 0xF then s.spareRefused cls c 0x100
  else if s.flag (pKRMCORE c) PAGE_STAT_FENCED then s.startCore c .unfence
  else s

/-- UNFENCE (R161). -/
def execUnfence (cls : Cls) (core : PhysCore) (s : State) : Res :=
  .next (writeThen s cls (pKRMCORE core.val + 0x100) 2 (unfenceAct cls core.val))

/-- SELFTEST_DONE (R161): an unfenced core that passes returns as the quadrant's spare; one that fails stays fenced with
cause SELFTEST. -/
def execSelftestDone (core : PhysCore) (pass : Bool) (s : State) : Res :=
  let c := core.val
  let pg := pKRMCORE c
  if (s.core c).selftest = some .unfence then
    let s := s.modCore c fun k => { k with selftest := none }
    if pass && s.fget (quadPage c) KQ_SPARE_SPARE = 0xF then
      let s := ((s.loseCore c).setStat pg PAGE_STAT_FENCED false).fset pg KCORE_FCAUSE_CAUSE 0
      let s := (s.fset pg KCORE_STAT_SPARE 1).fset pg KCORE_STAT_PSTATE 0
      .next (s.hwSet (quadPage c) KQ_SPARE_SPARE (c % 9))
    else if pass then .next s
    else .next (s.fset pg KCORE_FCAUSE_CAUSE 5)
  else .next s

/-- What KQ_SPARE.ACTIVATE does (R159). -/
def activateAct (cls : Cls) (q slot : Nat) (s : State) : State :=
  let sp := s.fget (pKRMQUAD q) KQ_SPARE_SPARE
  if s.fget (pKRMQUAD q) (mapSlot slot) != 0xF || sp = 0xF || s.flag (pKRMQUAD q) KQ_SPARE_BUSY then
    s.spareRefused cls (9 * q) 0x104
  else (s.fset (pKRMQUAD q) KQ_SPARE_BUSY 1).startCore (9 * q + sp) (.spare slot)

/-- SPARE_ACTIVATE (R159): a write of KQ_SPARE with ACTIVATE = 1. -/
def execSpareActivate (cls : Cls) (quad : Quad) (slot : Fin 8) (s : State) : Res :=
  .next (writeThen s cls (pKRMQUAD quad.val + 0x104) (8 + slot.val) (activateAct cls quad.val slot.val))

/-- SPARE_DONE (R159): the spare holds the slot and ACT_CORES rises; one that fails its self-test is fenced. -/
def execSpareDone (quad : Quad) (pass : Bool) (s : State) : Res :=
  let q := quad.val
  let c := 9 * q + s.fget (pKRMQUAD q) KQ_SPARE_SPARE
  match (s.core c).selftest with
  | some (.spare k) =>
    let s := s.fset (pKRMQUAD q) KQ_SPARE_BUSY 0
    if !pass then .next (s.fenceCore c 5)
    else
      let pg := pKRMCORE c
      let s := (s.loseCore c).modCore c fun k => { k with selftest := none }
      let s := (s.hwSet (pKRMQUAD q) KQ_SPARE_SPARE 0xF).hwSet (pKRMQUAD q) (mapSlot k) (c % 9)
      let s := ((s.fset pg KCORE_STAT_SPARE 0).fset pg KCORE_STAT_LOGICAL (8 * q + k)).fset pg KCORE_STAT_PSTATE 0
      .next ((s.setActive c true).raise pKRMGLOB 7).showPstate
  | _ => .next s

/-- CORE_POWER_DOWN_DONE (R162): the core is off; a latched request starts it. -/
def execCorePowerDownDone (core : PhysCore) (s : State) : Res :=
  let c := core.val
  let pg := pKRMCORE c
  if !s.flag pg KCORE_STAT_SHUTTING then .next s
  else
    let r := (s.core c).latched
    let s := ((s.loseCore c).fset pg KCORE_STAT_SHUTTING 0).fset pg KCORE_STAT_PSTATE 3
    match r with
    | some r => .next ((s.modCore c fun k => { k with latched := none }).fset pg KCORE_STAT_RESTART_PEND 0 |>.startCore c r)
    | none => .next s

/-! ### Repair slots (R180, R182, R189) -/

/-- The read-correct-rewrite of a row: what its blocks hold is found and rewritten. -/
def State.rewriteRow (s : State) (c b row : Nat) : State :=
  ((granules (rowBase c b row) 128).filter fun g => (Tab.get s.integ.sramUps g {}).bits != 0).foldl
    (fun s g => (s.seeBlock g false).settle g) s

/-- The oldest stale row of a bank rebuilt. -/
def State.rebuildOldest (s : State) (c b : Nat) : State :=
  match (s.bank c b).stale with
  | [] => s
  | e :: rest =>
    let s := (s.rewriteRow c b e.row).rebuilt c b e
    s.setBank c b { (s.bank c b) with stale := rest, lastWb := false }

/-- REPAIR_SLOT (R180): one write-back, stale rebuild, poison rewrite or scrub of a row, in that order of priority; while a
rebuild waits, write-backs take at most one slot in two. -/
def execRepairSlot (core : PhysCore) (bank : Fin 16) (found : List Upset) (s : State) : Res :=
  let c := core.val
  let b := bank.val
  if !s.pins.mainPwrGood || 2 ≤ s.fget (pKRMCORE c) KCORE_STAT_PSTATE then .next s
  else
    let s := s.upsets found
    let k := s.bank c b
    match k.writeBacks, k.stale, k.ueRewrites with
    | row :: t, st, _ =>
      if k.lastWb && st != [] then .next (s.rebuildOldest c b)
      else
        let s := s.rewriteRow c b row
        .next (s.setBank c b { (s.bank c b) with writeBacks := t, lastWb := true })
    | [], _ :: _, _ => .next (s.rebuildOldest c b)
    | [], [], u :: rest =>
      let s := s.rewriteRow c b (sramRow (u * 8))
      .next (s.setBank c b { (s.bank c b) with ueRewrites := rest, lastWb := false })
    | [], [], [] =>
      if s.flag pINT INT_CTRL_SRAM_SCRUB then
        let s := s.rewriteRow c b k.scrubRow
        .next (s.setBank c b { (s.bank c b) with scrubRow := (k.scrubRow + 1) % 16384, lastWb := false })
      else .next s

/-! ### Tiers (R181, R190, R191, R197) -/

/-- TIER_WRITE_BACK (R181): the line is rewritten with its corrected data or with the poison pattern, which its mark is. -/
def execTierWriteBack (line : BitVec 42) (s : State) : Res :=
  let a := line.toNat * 64
  if inNear a || inBulk a then
    let st := s.chan a
    let s := if st.writeBacks.any (·.1 = a) then s.settle a else s
    .next (s.setChan a { st with writeBacks := st.writeBacks.filter (·.1 != a) })
  else .next s

/-- The device address of offset `o` of a channel (R165, R166). -/
def chanAddr (ch : TierChan) (o : Nat) : Nat :=
  match ch with
  | .near i => (o / 4096 * 6 + i.val) * 4096 + o % 4096
  | .bulk i => bulkBase + (o / 4096 * 24 + i.val) * 4096 + o % 4096

/-- Bytes of a stack or channel: 64 GiB. -/
def chanBytes : Nat := 0x1000000000

/-- The tier of a channel: its global page, the keys and pages of its channels. -/
def tierChans (ch : TierChan) : List (Nat × Nat) :=
  match ch with
  | .near _ => (List.range 6).map fun i => (i, pNTRCHAN i)
  | .bulk _ => (List.range 24).map fun i => (8 + i, pBLKCHAN i)

/-- PATROL_READ (R190): the next line of the channel is read and checked; a pass of every channel counts. -/
def execPatrolRead (chan : TierChan) (found : List Upset) (s : State) : Res :=
  let pg := chanPage chan
  let on := match chan with
    | .near _ => s.flag pINT INT_CTRL_NT_PATROL
    | .bulk _ => s.flag pINT INT_CTRL_BK_PATROL
  if !on || !s.pins.mainPwrGood || s.flag pg PAGE_STAT_FENCED then .next s
  else
    let o := s.pget pg TC_PATROL
    let s := (s.upsets found).see (chanAddr chan o) 64
    let n := o + 64
    if n < chanBytes then .next (s.pset pg TC_PATROL n)
    else
      let s := s.pset pg TC_PATROL 0
      let done := setAdd s.integ.passDone (chanKey chan)
      let all := (tierChans chan).all fun p => done.contains p.1 || s.flag p.2 PAGE_STAT_FENCED
      if all then
        let s := { s with integ.passDone := done.filter fun k => !((tierChans chan).any fun p => p.1 = k) }
        .next ((s.count (tierGlobal pg) TG_PASS_CNT).raise pINT 8)
      else .next { s with integ.passDone := done }

/-- The lanes that training repaired are reported in TC_STAT (R170); how many, nothing states (log 1). Bulk reads 0. -/
def State.showRepaired (s : State) (chan : TierChan) : State :=
  match chan with
  | .near _ => s.freeWord.2.fset (chanPage chan) TC_STAT_LANES_REP s.freeWord.1.toNat
  | .bulk _ => s

/-- TIER_READY (R191): the channel's lines are written with zeros; READY, TG_READY and INIT_DONE follow. -/
def execTierReady (chan : TierChan) (s : State) : Res :=
  let pg := chanPage chan
  if !s.pins.mainPwrGood || s.flag pg PAGE_STAT_FENCED || s.flag pg PAGE_STAT_READY then .next s
  else
    let i := match chan with | .near i => i.val | .bulk i => i.val
    let g := tierGlobal pg
    let key := chanKey chan
    let st := Tab.get s.integ.chans key {}
    let s := { s with integ.chans := Tab.set s.integ.chans key { st with initDone := true } {} }
    let s := (s.setStat pg PAGE_STAT_READY true).fset g TG_READY (Nat.lor (s.fget g TG_READY) (2 ^ i))
    .next ((s.showRepaired chan).raiseTier pg 6)

/-- CHANNEL_FENCE (R197). -/
def execChannelFence (cls : Cls) (chan : TierChan) (s : State) : Res :=
  let pg := chanPage chan
  .next (writeThen s cls (pg + 0x100) 1 fun t =>
    if t.flag pg PAGE_STAT_FENCED then t else (t.setStat pg PAGE_STAT_FENCED true).fset pg TC_STAT_FCAUSE 3)

/-- TIER_TEMP_READ (R170): each temperature goes to its TC_TEMP. -/
def execTierTempRead (temps : List TierTemp) (s : State) : Res :=
  .next (if s.pins.mainPwrGood then
    temps.foldl (fun s t => s.fset (chanPage t.chan) TC_TEMP_TEMP t.temp.toNat) s else s)

/-! ### Hard faults (R192-R194) -/

/-- ROW_SPARING (R192): at the core's idle boundary a candidate row moves to a free spare of its bank; with none left the
core is fenced SRAM_HARD. -/
def execRowSparing (core : PhysCore) (bank : Fin 16) (row : BitVec 14) (s : State) : Res :=
  let c := core.val
  let b := bank.val
  let r := row.toNat
  let k := s.bank c b
  let idle := match s.krm.job with
    | some j => j.phase != JobPhase.running || !(j.phys.contains c)
    | none => true
  if !s.flag pINT INT_CTRL_AUTO_SPARE || !idle || !(k.candidates.contains r) || !s.pins.mainPwrGood then .next s
  else if 8 ≤ k.sparesUsed then .next (s.fenceCore c 4)
  else
    let k := { k with sparesUsed := k.sparesUsed + 1, candidates := setDel k.candidates r, rowCe := Tab.erase k.rowCe r }
    let s := s.setBank c b k
    let s := if recordCap ≤ s.integ.spares.length then s
      else ({ s with integ.spares := s.integ.spares ++ [⟨c, b, r⟩] } : State).saveRepair s.ledgerRuns
    let s := s.showRecFull
    let s := ((s.fset pINT INT_SPARE_STAT_CORE c).fset pINT INT_SPARE_STAT_BANK b).fset pINT INT_SPARE_STAT_ROW (r / 4)
    .next ((s.fset pINT INT_SPARE_STAT_FREE (8 - k.sparesUsed)).raise pINT 6)

/-- The owner page of a control-state memory (R193). -/
def memPage (m : CtrlMem) : Nat := [pFWC, pQMG, pJRN, pWIT].getD m.val pFWC

/-- The USED field of a control-state memory. -/
def remapUsed (m : CtrlMem) : Fld := ⟨INT_REMAP_STAT_USED0.off, 5 * m.val, 5⟩

/-- Redirects a line to a spare line, or reports that none is left (R193). -/
def remapLine (m : CtrlMem) (line : Nat) (s : State) : State :=
  let n := s.fget pINT (remapUsed m)
  if n < 16 then
    ({ s with
      integ.remaps := s.integ.remaps ++ [(m.val, line)]
      integ.ceLines := s.integ.ceLines.filter (· != (m.val, line)) }.fset pINT (remapUsed m) (n + 1)).saveRepair s.ledgerRuns
  else (s.setStat (memPage m) PAGE_STAT_FAULT true).raise pINT 7

/-- REMAP (R193): on the first uncorrectable error of a line, or its second corrected one; a first corrected error is
counted. `bad` has a bit for each of the line's words that is uncorrectable: they are copied as poisoned. -/
def execRemap (mem : CtrlMem) (line : Nat) (bad : BitVec 8) (s : State) : Res :=
  if s.integ.remaps.contains (mem.val, line) then .next s
  else if bad != 0 then
    let ws := ((List.range 8).filter fun i => bad.getLsbD i).map fun i => (mem.val, 8 * line + i)
    let s := { s with integ.badWords := s.integ.badWords ++ ws }
    .next (remapLine mem line (s.uncorrectable 3 0 1 0xFF 0))
  else
    let s := s.corrected 3
    if s.integ.ceLines.contains (mem.val, line) then .next (remapLine mem line s)
    else .next { s with integ.ceLines := s.integ.ceLines ++ [(mem.val, line)] }

end Sys2Proof.Machine
end

