-- ==== Sys2Proof/Machine/Lockstep.lean ====
section
/-! DEFINITION. Lockstep pairs (R265-R268): enabling a pair, comparing checkpoints, divergences, and the commands
LOCKSTEP_ENABLE and CHECKPOINT_TIMEOUT. -/

namespace Sys2Proof.Machine

/-- A pair beyond its registers. -/
def State.pair (s : State) (i : Nat) : LksPair := Tab.get s.lks i {}

/-- Changes a pair. -/
def State.modPair (s : State) (i : Nat) (f : LksPair → LksPair) : State :=
  { s with lks := Tab.set s.lks i (f (s.pair i)) {} }

/-- A field of pair `i`. -/
def lksFld (f : Fld) (i : Nat) : Fld := f.nth i 0x40

/-- STATE of a pair: 0 OFF, 1 RUNNING, 2 DIVERGED, 3 HALTED, 4 OVERRUN. -/
def State.lksState (s : State) (i : Nat) : Nat := s.fget pLKS (lksFld LKS_STAT_STATE i)

/-- Writes a digest into its four words. -/
def State.lksDigest (s : State) (f : Fld) (i : Nat) (d : BitVec 128) : State :=
  [0, 1, 2, 3].foldl (fun s j => s.fset pLKS ((f.nth i 0x20).nth j 4) (d.toNat / 2 ^ (32 * j))) s

/-- The divergence record of a pair, both sides. -/
def State.lksRecord (s : State) (i k : Nat) (x y : Checkpoint) : State :=
  let s := s.pset pLKS (lksFld LKS_DIV_K i) k
  let s := (s.pset pLKS (lksFld LKS_DIV_TILE_X i) x.tile.toNat).pset pLKS (lksFld LKS_DIV_TILE_Y i) y.tile.toNat
  let s := (s.pset pLKS (lksFld LKS_DIV_TICK_X i) x.tick.toNat).pset pLKS (lksFld LKS_DIV_TICK_Y i) y.tick.toNat
  (s.lksDigest LKS_DIG_X i x.digest).lksDigest LKS_DIG_Y i y.digest

/-- A rise of EN (R265). -/
def lksRise (i : Nat) (s : State) : State :=
  let s := { s with lks := Tab.erase s.lks i }
  let s := s.wr (pLKS + 0x144 + 0x40 * i) 1
  (s.pset pLKS (lksFld LKS_MATCHED i) 0).lksRecord i 0 {} {}

/-- What a write of LKS_CFGi does, `was` being EN before it. -/
def lksCtrl (i : Nat) (was : Bool) (s : State) : State :=
  let en := s.flag pLKS (lksFld LKS_CFG_EN i)
  if en && !was then lksRise i s
  else if !en && was then s.fset pLKS (lksFld LKS_STAT_STATE i) 0
  else s

/-- LOCKSTEP_ENABLE (R265). -/
def execLockstepEnable (cls : Cls) (pair : Fin 4) (cfg : BitVec 32) (s : State) : Res :=
  .next (writeThen s cls (pLKS + 0x140 + 0x40 * pair.val) cfg.toNat
    (lksCtrl pair.val (s.flag pLKS (lksFld LKS_CFG_EN pair.val))))

/-- A divergence of a pair at `k` (R267): the first is recorded and acts under POLICY, later ones count. -/
def State.diverge (s : State) (i k kind : Nat) (x y : Checkpoint) : State :=
  if (s.pair i).diverged then
    let n := s.fget pLKS (lksFld LKS_STAT_MORE i)
    s.fset pLKS (lksFld LKS_STAT_MORE i) (if n = 0xFFFF then n else n + 1)
  else
    let s := (s.modPair i fun p => { p with diverged := true }).lksRecord i k x y
    let s := (s.fset pLKS (lksFld LKS_STAT_KIND i) kind).raise pLKS 3
    if s.flag pLKS (lksFld LKS_CFG_POLICY i) then s.fset pLKS (lksFld LKS_STAT_STATE i) 2
    else
      let s := s.fset pLKS (lksFld LKS_STAT_STATE i) 3
      (s.sendHalt 2 (s.fget pLKS (lksFld LKS_CFG_MEMBER_X i))).sendHalt 2 (s.fget pLKS (lksFld LKS_CFG_MEMBER_Y i))

/-- What is recorded of a member whose checkpoint is missing. -/
def missingCk : Checkpoint := { k := 0, tile := 0xFFFFFFFFFFFFFFFF, tick := 0xFFFFFFFFFFFFFFFF, digest := 0 }

/-- The last tile of interval `k` of a pair. -/
def State.lksTile (s : State) (i k : Nat) : Nat :=
  (s.pget pLKS (lksFld LKS_START i) + (k + 1) * 2 ^ min 20 (s.fget pLKS (lksFld LKS_CFG_LOG2_N i)) - 1) % 2 ^ 64

/-- Compares checkpoint `k` of both members (R267). -/
def State.compareCk (s : State) (i : Nat) (x y : Checkpoint) : State :=
  let k := x.k.toNat
  let t := BitVec.ofNat 64 (s.lksTile i k)
  if x.digest != y.digest then s.diverge i k 0 x y
  else if x.tile != t || y.tile != t then s.diverge i k 1 x y
  else s.pset pLKS (lksFld LKS_MATCHED i) (s.pget pLKS (lksFld LKS_MATCHED i) + 1)

/-- The buffer of a side of a pair. -/
def LksPair.buf (p : LksPair) (y : Bool) : List Checkpoint := if y then p.bufY else p.bufX

/-- The next K of a side. -/
def LksPair.next (p : LksPair) (y : Bool) : BitVec 64 := if y then p.nextY else p.nextX

/-- Replaces a side of a pair. -/
def LksPair.put (p : LksPair) (y : Bool) (b : List Checkpoint) (n : BitVec 64) : LksPair :=
  if y then { p with bufY := b, nextY := n } else { p with bufX := b, nextX := n }

/-- A checkpoint of one side, in its order: compared with the other side's, or kept until it comes; one whose counterpart
was decided by a timeout is dropped (R267, R268). -/
def State.keepCk (s : State) (i : Nat) (y : Bool) (c : Checkpoint) : State :=
  let p := s.pair i
  let own := p.buf y
  let other := p.buf (!y)
  match other.find? (·.k = c.k) with
  | some d =>
    let s := s.modPair i fun p => (p.put (!y) (other.filter (·.k != c.k)) (p.next (!y)))
    if y then s.compareCk i d c else s.compareCk i c d
  | none =>
    if c.k < p.next (!y) then s
    else if 2048 ≤ own.length then (s.fset pLKS (lksFld LKS_STAT_STATE i) 4).raise pLKS 4
    else s.modPair i fun p => p.put y (own ++ [c]) (p.next y)

/-- A checkpoint of one side arrives: a K out of sequence is a divergence of KIND 3 at the K expected. -/
def State.checkpoint (s : State) (i : Nat) (y : Bool) (c : Checkpoint) : State :=
  let p := s.pair i
  let want := p.next y
  let s := s.modPair i fun p => p.put y (p.buf y) (c.k + 1)
  if c.k = want then s.keepCk i y c
  else
    let d := ((p.buf (!y)).find? (·.k = want)).getD missingCk
    let s := if y then s.diverge i want.toNat 3 d c else s.diverge i want.toNat 3 c d
    if s.lksState i = 2 && want < c.k then s.keepCk i y c else s

/-- The pair and side an accelerator is a member of, among enabled pairs. -/
def State.memberOf (s : State) (a : Nat) : Option (Nat × Bool) :=
  [0, 1, 2, 3].findSome? fun i =>
    if !s.flag pLKS (lksFld LKS_CFG_EN i) then none
    else if s.fget pLKS (lksFld LKS_CFG_MEMBER_X i) = a then some (i, false)
    else if s.fget pLKS (lksFld LKS_CFG_MEMBER_Y i) = a then some (i, true)
    else none

/-- The checkpoint message of 40 bytes (R266). -/
def readCk (b : List Byte) : Checkpoint :=
  { k := BitVec.ofNat 64 (fieldLe b 0 8), tile := BitVec.ofNat 64 (fieldLe b 8 8)
    tick := BitVec.ofNat 64 (fieldLe b 0x10 8), digest := BitVec.ofNat 128 (fieldLe b 0x18 16) }

/-- A checkpoint message from a port (R268, R285): dropped where no enabled pair names the port or the pair is halted or
overrun. -/
def State.chkptFrom (s : State) (p : Nat) (b : List Byte) : State :=
  match s.memberOf p with
  | none => s
  | some (i, y) => if s.lksState i = 1 || s.lksState i = 2 then s.checkpoint i y (readCk b) else s

/-- The oldest uncompared checkpoint of a pair, and its side. -/
def LksPair.oldest (p : LksPair) : Option (Bool × Checkpoint) :=
  match p.bufX, p.bufY with
  | [], [] => none
  | c :: _, [] => some (false, c)
  | [], c :: _ => some (true, c)
  | c :: _, d :: _ => if d.k < c.k then some (true, d) else some (false, c)

/-- CHECKPOINT_TIMEOUT (R267): the other member's checkpoint has not arrived within LKS_TIMEOUT. -/
def execCheckpointTimeout (pair : Fin 4) (s : State) : Res :=
  let i := pair.val
  match (s.pair i).oldest with
  | none => .next s
  | some (y, c) =>
    if s.fget pLKS LKS_TIMEOUT = 0 || !(s.lksState i = 1 || s.lksState i = 2) then .next s
    else
      let s := s.modPair i fun p => p.put y ((p.buf y).filter (·.k != c.k)) (p.next y)
      .next (if y then s.diverge i c.k.toNat 2 missingCk c else s.diverge i c.k.toNat 2 c missingCk)

end Sys2Proof.Machine
end

