-- ==== Sys2Proof/Machine/Rack.lean ====
section
/-! DEFINITION. The rack interface (R329-R335): I3C addresses, MCTP control, PLDM Types 0, 2 and 5. The numbers of the
standards' commands, completion codes and fields are the standards' (log 8); a byte of a response that neither the spec
nor the standard fixes is free. -/

namespace Sys2Proof.Machine

/-- Sends a message on a rack port: an in-band interrupt, where the port has the address it needs for one, asks the controller
to read it (R329, log 8). -/
def State.rackSend (s : State) (port : RackPort) (o : Out) : State :=
  (if nth s.hr.dynAddr port.val = 0 then s else s.emit (.ibi port.val)).emit o

/-- Answers a rack request. -/
def State.answer (s : State) (port : RackPort) (code : Nat) (data : List Byte) : State :=
  s.rackSend port (.mctp port.val code data)

/-- Answers with `n` bytes that nothing constrains. -/
def State.answerFree (s : State) (port : RackPort) (n : Nat) : State :=
  (s.freeBytes n).2.answer port 0 (s.freeBytes n).1

/-! ### I3C and MCTP (R329) -/

/-- A port without a dynamic address takes one. -/
def State.takeAddr (s : State) (port : RackPort) (addr : BitVec 7) : State :=
  if nth s.hr.dynAddr port.val = 0 then { s with hr.dynAddr := setNth s.hr.dynAddr port.val addr.toNat } else s

/-- ENTDAA. -/
def execEntdaa (port : RackPort) (addr : BitVec 7) (s : State) : Res := .next (s.takeAddr port addr)

/-- The static address of a port (R33): 0x30 or 0x34 and the strap. -/
def State.staticAddr (s : State) (port : RackPort) : Nat := 0x30 + 4 * port.val + s.fget pCRPGLOB CRP_STRAPS_I3C_SADDR

/-- SETDASA: directed to a port's static address. -/
def execSetdasa (port : RackPort) (static addr : BitVec 7) (s : State) : Res :=
  .next (if static.toNat = s.staticAddr port then s.takeAddr port addr else s)

/-- The EID field of a port. -/
def eidOf (port : RackPort) : Fld := if port.val = 0 then RCK_STAT_EID0 else RCK_STAT_EID1

/-- SET_ENDPOINT_ID: the EIDs 0 and 0xFF are refused with ERROR_INVALID_DATA. -/
def execSetEndpointId (port : RackPort) (eid : BitVec 8) (s : State) : Res :=
  if eid = 0 || eid = 0xFF then .next (s.answer port 2 [])
  else .next ((s.fset pRCK (eidOf port) eid.toNat).answer port 0 [0, eid, 0])

/-- GET_ENDPOINT_ID. -/
def execGetEndpointId (port : RackPort) (s : State) : Res :=
  .next (s.answer port 0 [BitVec.ofNat 8 (s.fget pRCK (eidOf port)), 0, 0])

/-- GET_MCTP_VERSION_SUPPORT: one version, whose number the spec does not give. -/
def execGetMctpVersionSupport (port : RackPort) (s : State) : Res :=
  .next ((s.freeBytes 4).2.answer port 0 (1 :: (s.freeBytes 4).1))

/-- GET_MESSAGE_TYPE_SUPPORT: PLDM. -/
def execGetMessageTypeSupport (port : RackPort) (s : State) : Res := .next (s.answer port 0 [1, 1])

/-! ### PLDM Type 0 (R330) -/

/-- GET_TID. -/
def execGetTid (port : RackPort) (s : State) : Res := .next (s.answer port 0 [s.hr.pldmTid])

/-- The PLDM types served. -/
def pldmTypes : List Nat := [0, 2, 5]

/-- The commands of a PLDM type, by the standards' numbers. -/
def pldmCommands (type : Nat) : List Nat :=
  match type with
  | 0 => [0x02, 0x03, 0x04, 0x05]
  | 2 => [0x50, 0x51, 0x11, 0x21, 0x32, 0x31, 0x39, 0x0B]
  | 5 => [0x01, 0x02, 0x10, 0x13, 0x14, 0x15, 0x16, 0x17, 0x18, 0x1A, 0x1B, 0x1D]
  | _ => []

/-- A set of numbers as a bit mask of `n` bytes. -/
def maskBytes (n : Nat) (l : List Nat) : List Byte := natLe n (l.foldl (fun m c => Nat.lor m (2 ^ c)) 0)

/-- GET_PLDM_VERSION: a type that is not served is refused. -/
def execGetPldmVersion (port : RackPort) (type : BitVec 8) (s : State) : Res :=
  if pldmTypes.contains type.toNat then .next (s.answerFree port 4) else .next (s.answer port 2 [])

/-- GET_PLDM_TYPES. -/
def execGetPldmTypes (port : RackPort) (s : State) : Res := .next (s.answer port 0 (maskBytes 8 pldmTypes))

/-- GET_PLDM_COMMANDS. -/
def execGetPldmCommands (port : RackPort) (type : BitVec 8) (s : State) : Res :=
  if pldmTypes.contains type.toNat then .next (s.answer port 0 (maskBytes 32 (pldmCommands type.toNat)))
  else .next (s.answer port 2 [])

/-! ### PLDM Type 2 (R330, R331, R333, R376) -/

/-- GET_PDR_REPOSITORY_INFO: how many records the repository holds. -/
def execGetPdrRepositoryInfo (port : RackPort) (s : State) : Res :=
  .next (s.answer port 0 (natLe 4 s.hr.pdrs.length))

/-- GET_PDR: record handle 0 asks for the first; a handle that names no record is refused with 0x82. -/
def execGetPdr (port : RackPort) (handle : BitVec 32) (s : State) : Res :=
  match s.hr.pdrs[handle.toNat - 1]? with
  | some r => .next (s.answer port 0 r)
  | none => .next (s.answer port 0x82 [])

/-- GET_SENSOR_READING: EFF_CAP is sensor 1 (log 8). -/
def execGetSensorReading (port : RackPort) (sensor : BitVec 16) (s : State) : Res :=
  if sensor = 1 then .next (s.answer port 0 (natLe 4 (s.fget pGOVGLOB GG_EFF_CAP))) else .next (s.answer port 0x80 [])

/-- GET_STATE_SENSOR_READINGS: CAP_SOURCE is sensor 2 (log 8). -/
def execGetStateSensorReadings (port : RackPort) (sensor : BitVec 16) (s : State) : Res :=
  if sensor = 2 then .next (s.answer port 0 [BitVec.ofNat 8 (s.fget pGOVGLOB GG_STAT_SOURCE)])
  else .next (s.answer port 0x80 [])

/-- The register of a numeric effecter. -/
def effecterReg : Effecter → Fld
  | .rackCap => RCK_CAP_CAP
  | .rackPreset => RCK_PRESET_CAP

/-- GET_NUMERIC_EFFECTER_VALUE. -/
def execGetNumericEffecterValue (port : RackPort) (effecter : Effecter) (s : State) : Res :=
  .next (s.answer port 0 (natLe 4 (s.fget pRCK (effecterReg effecter))))

/-- What an accepted write of RCK_CAP or RCK_PRESET does (R332, R336). -/
def rackCapAct (e : Effecter) (s : State) : State :=
  match e with
  | .rackCap => s.raise pRCK 3
  | .rackPreset => s.showPreset.forceStep

/-- SET_NUMERIC_EFFECTER_VALUE (R331): a value outside the field's range changes nothing; a write that the page refuses
answers ERROR. -/
def execSetNumericEffecterValue (port : RackPort) (effecter : Effecter) (value : BitVec 32) (s : State) : Res :=
  let v := value.toNat
  if v != 0 && !(500 ≤ v && v ≤ 20000) then .next (s.answer port 2 [])
  else
    let r := regWrite s .rack (pRCK + (effecterReg effecter).off) 4 v
    if r.1 then .next ((rackCapAct effecter r.2).answer port 0 []) else .next (r.2.answer port 1 [])

/-- SET_STATE_EFFECTER_STATES (R331): TRAY_STOP writes RCK_STOP. -/
def execSetStateEffecterStates (port : RackPort) (stop : BitVec 3) (s : State) : Res :=
  let r := regWrite s .rack (pRCK + 0x114) 4 stop.toNat
  if r.1 then .next ((stopAct stop.toNat r.2).answer port 0 []) else .next (r.2.answer port 1 [])

/-- POLL_FOR_PLATFORM_EVENT_MESSAGE (R333): the oldest event; with the last one EVENT clears. -/
def execPollForPlatformEventMessage (port : RackPort) (s : State) : Res :=
  let t := { s with hr.events := s.hr.events.tail }
  let t := if t.hr.events.isEmpty then t.fset pRCK RCK_ALERT_SRC_EVENT 0 else t
  .next (t.answer port 0 (s.hr.events.head?.elim [] fun e => natLe 2 e.sensor ++ natLe 4 e.value))

/-! ### PLDM Type 5 (R330, R334, R426, R434) -/

/-- Type 5 passes to the link core, or to ROM in recovery; otherwise the request is answered ERROR_NOT_READY. -/
def type5 (port : RackPort) (s : State) (act : State → State) : Res :=
  if s.runs 2 || s.fwc.recovery then .next (act s) else .next (s.answer port 4 [])

/-- QUERY_DEVICE_IDENTIFIERS: the identifiers are not in the spec. -/
def execQueryDeviceIdentifiers (port : RackPort) (s : State) : Res := type5 port s fun s => s.answerFree port 8

/-- GET_FIRMWARE_PARAMETERS: the versions of the active slot and of the other one. -/
def execGetFirmwareParameters (port : RackPort) (s : State) : Res :=
  type5 port s fun s =>
    let a := s.bcr.2.active % 2
    s.answer port 0 (natLe 4 (s.imgField a 8 4) ++ natLe 4 (s.imgField (1 - a) 8 4))

/-- REQUEST_UPDATE (R334): one update runs at a time. -/
def execRequestUpdate (port : RackPort) (s : State) : Res :=
  type5 port s fun s =>
    if s.fwUpdate || s.hr.pldmUpd != 0 then s.answer port 0x81 []
    else ({ s with hr.pldmUpd := 1 }.raise pRCK 5).answer port 0 []

/-- A step of an update out of its turn: NOT_IN_UPDATE_MODE outside an update, ERROR_INVALID_DATA within one. -/
def State.badStep (s : State) (port : RackPort) : State := s.answer port (if s.hr.pldmUpd = 0 then 0x80 else 2) []

/-- The bytes of a PLDM message beyond its body: the message type and the PLDM header. -/
def pldmHead : Nat := 4

/-- PASS_COMPONENT_TABLE. A message above 4,096 bytes is malformed: it is counted and not answered (R329, R336, log 8). -/
def execPassComponentTable (port : RackPort) (table : List Byte) (s : State) : Res :=
  if 4096 < pldmHead + table.length then .next (s.count pRCK RCK_ERR_CNT)
  else type5 port s fun s =>
    if s.hr.pldmUpd = 1 || s.hr.pldmUpd = 2 then { s with hr.pldmUpd := 2 }.answer port 0 [] else s.badStep port

/-- UPDATE_COMPONENT (R434): the inactive slot, in recovery slot A, is erased and marked EMPTY, and the FX9 requests the
image's data. -/
def execUpdateComponent (port : RackPort) (image : List Byte) (s : State) : Res :=
  type5 port s fun s =>
    if s.hr.pldmUpd = 2 && image.length ≤ slotSize then
      let s := ({ s with hr.pldmUpd := 3 }.beginStage (if s.fwc.recovery then 0 else s.inactive) true 0 image.length image)
      (s.answer port 0 []).rackSend port (.pldmReq port.val 0x15 (natLe 4 0 ++ natLe 4 image.length))
    else s.badStep port

/-- A request the FX9 sends within an update, when its turn has come. -/
def fdStep (port : RackPort) (s : State) (turn cmd : Nat) (act : State → Nat × State) : Res :=
  if (s.runs 2 || s.fwc.recovery) && s.hr.pldmUpd = turn then
    .next ((act s).2.rackSend port (.pldmReq port.val cmd [BitVec.ofNat 8 (act s).1]))
  else .next s

/-- TRANSFER_COMPLETE: all the image has arrived; it is checked next. -/
def execTransferComplete (port : RackPort) (s : State) : Res :=
  fdStep port s 3 0x16 fun s => (0, { s with hr.pldmUpd := 4 }.setUpd 2 0)

/-- The check in recovery (R426): a valid image is COMMITTED in slot A and boots; any other is REJECTED, and ROM waits for
another. -/
def State.recover (s : State) (g : StageReq) (flashErr : Bool) : State :=
  let s := s.putFlash (slotBase 0) (g.image.take slotSize)
  let code := if flashErr then 7 else s.checkImage 0
  let s := { s with fwc.stage := none }
  if code = 0 then
    let s := s.setBcr fun b => { b.setSlot 0 3 with active := 0, tries := 0 }
    ((s.setUpd 8 0).raise pFWC 5).boot 0
  else ({ s with hr.pldmUpd := 0 }.endStage 0 code)

/-- VERIFY_COMPLETE (R434): the check's outcome is reported, the code of R435. A rejected image ends the update. -/
def execVerifyComplete (port : RackPort) (flashErr : Bool) (s : State) : Res :=
  fdStep port s 4 0x17 fun s =>
    let t :=
      match s.fwc.stage with
      | some g => if s.fwc.recovery then s.recover g flashErr else s.finishStage g flashErr
      | none => s
    let code := t.fget pFWC FWC_UPD_STAT_CODE
    (code, { t with hr.pldmUpd := if code = 0 then 5 else 0 })

/-- APPLY_COMPLETE. -/
def execApplyComplete (port : RackPort) (s : State) : Res :=
  fdStep port s 5 0x18 fun s => (0, { s with hr.pldmUpd := 6 })

/-- ACTIVATE_FIRMWARE (R437): as FW_ACTIVATE ACTIVATE; without a staged slot, or while an activation runs, it is refused
with ERROR. -/
def execActivateFirmware (port : RackPort) (s : State) : Res :=
  type5 port s fun s =>
    match s.stagedSlot with
    | some k =>
      if s.activating then s.answer port 1 []
      else ({ s with hr.pldmUpd := 0 }.answer port 0 []).beginActivation k
    | none => s.answer port (if s.hr.pldmUpd = 0 then 0x80 else 1) []

/-- GET_STATUS: the step the update has reached and the state and code of R435. -/
def execGetStatus (port : RackPort) (s : State) : Res :=
  type5 port s fun s =>
    s.answer port 0 (natLe 1 s.hr.pldmUpd ++ natLe 1 s.updState ++ natLe 1 (s.fget pFWC FWC_UPD_STAT_CODE))

/-- CANCEL_UPDATE (R435): the update ends with code 9; what was received is REJECTED. -/
def execCancelUpdate (port : RackPort) (s : State) : Res :=
  type5 port s fun s =>
    if s.hr.pldmUpd = 0 then s.answer port 0x80 []
    else
      let t := { s with hr.pldmUpd := 0 }
      let t :=
        match t.fwc.stage with
        | some g => if g.pldm then t.endStage g.slot 9 else t
        | none =>
          match t.stagedSlot with
          | some k => (t.setBcr fun b => b.setSlot k 4).setUpd 4 9
          | none => t
      t.answer port 0 []

end Sys2Proof.Machine
end

