-- ==== Sys2Proof/Machine/SilkPort.lean ====
section
/-! DEFINITION. The life of a Silk port (R287-R303): bring-up, going down, retries, shutdown, and the commands of its control
register, its link and its sidebands. -/

namespace Sys2Proof.Machine

/-! ### Bring-up and shutdown (R296, R297, R300, R301) -/

/-- The link is taken to Disabled: nothing in flight survives (R282, R299). -/
def State.cutLink (s : State) (p : Nat) : State :=
  (s.modPort p fun k => { k with
    waiting := [], respWait := [], cred := [], owed := [], inL0 := false, recoveries := [], initSeen := false
    quiesced := false, telStale := false, relTime := none }).abortReplays p

/-- Power good is reported: RESET, or TRAINING at once with ATTACH (R296). -/
def State.portReset (s : State) (p : Nat) : State :=
  s.setPort p (if s.flag (pSLK p) SLK_CTRL_ATTACH then 3 else 2)

/-- Starts bring-up: WAIT_PWR, left at once where power good stands. -/
def State.bringUp (s : State) (p : Nat) : State :=
  let s := s.fset (pSLK p) SLK_STAT_RESTART_PEND 0
  if (s.port p).pgBranch then s.portReset p else s.setPort p 1

/-- Steps 2 to 5 of a shutdown (R300). -/
def State.shutPort (s : State) (p : Nat) : State := ((s.cutLink p).setPort p 0).raise (pSLK p) 9

/-- The attempts before a port is fenced; 0 is treated as 1. -/
def State.maxAttempts (s : State) (p : Nat) : Nat := max 1 (s.fget (pSLK p) SLK_TIMING_MAX_ATTEMPTS)

/-- A port goes DOWN with a cause (R297, R299, R302). -/
def State.portDown (s : State) (p cause : Nat) : State :=
  let b := pSLK p
  let shutting := s.portState p = 6 || !s.flag b SLK_CTRL_EN
  let n := s.fget b SLK_DOWN_DOWN_CNT
  let s := ((s.cutLink p).fset b SLK_DOWN_DOWN_CNT (if n = 0xFFFF then n else n + 1)).fset b SLK_DOWN_CAUSE cause
  let s := (s.setPort p 7).raise b 4
  if shutting then s.shutPort p
  else if cause = 4 || cause = 9 || cause = 10 then s.bringUp p
  else
    let a := s.fget b SLK_DOWN_ATTEMPTS + 1
    let s := s.fset b SLK_DOWN_ATTEMPTS (min a 255)
    if s.maxAttempts p ≤ a then s.setStat b PAGE_STAT_FENCED true else s

/-- A rise of EN (R297, R301, R303). -/
def portOn (p : Nat) (s : State) : State :=
  let b := pSLK p
  let st := s.portState p
  if st = 6 then s.fset b SLK_STAT_RESTART_PEND 1
  else if st = 0 || st = 7 then ((s.setStat b PAGE_STAT_FENCED false).fset b SLK_DOWN_ATTEMPTS 0).bringUp p
  else s

/-- A fall of EN (R300, R301). -/
def portOff (p : Nat) (s : State) : State :=
  let s := s.fset (pSLK p) SLK_STAT_RESTART_PEND 0
  let st := s.portState p
  if st = 5 then
    ((s.setPort p 6).modPort p fun k => { k with quiesced := true }).sendUnit p (ctlUnit 0x33 [])
  else if st = 0 || st = 6 then s
  else s.shutPort p

/-- Whether the port's window lies wholly within one tier, or has no size (R280). -/
def State.windowOk (s : State) (p : Nat) : Bool :=
  let a := s.pget (pSLK p) SLK_WIN_BASE
  let n := s.pget (pSLK p) SLK_WIN_SIZE
  n = 0 || (inNear a && inNear (a + n - 1)) || (inBulk a && inBulk (a + n - 1))

/-- What a write of SLK_CTRL does, `was` being EN before it and `v` the value written: RESUME, then HALT, then a change of
EN, then RETRAIN (R295, R302, R303). -/
def slkCtrl (cls : Cls) (p : Nat) (was : Bool) (v : Nat) (s : State) : State :=
  let b := pSLK p
  let resume := v / 4 % 2 = 1
  let halt := v / 2 % 2 = 1
  let s :=
    if !(resume || halt) then s
    else if !s.portUp p then s.latch b 0x0102 (clsCode cls) 0x100
    else
      let s := if resume then (s.sendUnit p (ctlUnit 0x31 [])).fset b SLK_STAT_HALTED 0 else s
      if halt then s.sendHalt 1 p else s
  let en := s.flag b SLK_CTRL_EN
  let s :=
    if en && !was then
      if s.windowOk p then portOn p s
      else (s.fset b SLK_CTRL_EN 0).latch b 0x0101 (clsCode cls) 0x100
    else if !en && was then portOff p s
    else
      let st := s.portState p
      if v / 512 % 2 = 1 && st != 0 && st != 6 && st != 7 then s.portDown p 11 else s
  (s.sidebands p).throttle p

/-- A write of SLK_CTRL with bits set and cleared and the rest as it is. -/
def State.slkWrite (s : State) (cls : Cls) (p set clear : Nat) : State :=
  let v := Nat.lor ((s.rd (pSLK p + 0x100)).toNat - Nat.land (s.rd (pSLK p + 0x100)).toNat clear) set
  writeThen s cls (pSLK p + 0x100) v (slkCtrl cls p (s.flag (pSLK p) SLK_CTRL_EN) v)

/-- PORT_ENABLE (R296, R301). -/
def execPortEnable (cls : Cls) (port : Port) (s : State) : Res := .next (s.slkWrite cls port.val 1 0)

/-- PORT_SHUTDOWN (R300). -/
def execPortShutdown (cls : Cls) (port : Port) (s : State) : Res := .next (s.slkWrite cls port.val 0 1)

/-- RETRAIN (R303). -/
def execRetrain (cls : Cls) (port : Port) (s : State) : Res := .next (s.slkWrite cls port.val 0x200 0)

/-- SLK_HALT (R295). -/
def execSlkHalt (cls : Cls) (port : Port) (s : State) : Res := .next (s.slkWrite cls port.val 2 0)

/-- SLK_RESUME (R295). -/
def execSlkResume (cls : Cls) (port : Port) (s : State) : Res := .next (s.slkWrite cls port.val 4 0)

/-- BRANCH_POWER_GOOD_REPORT (R287, R296): Carapace's report of ACCp power good, up or down, reaches the port; PG follows
it, and a waiting port goes on. -/
def execBranchPowerGoodReport (port : Port) (s : State) : Res :=
  let p := port.val
  if s.crp.silent then .next s
  else
    let pg := s.flag (pCRPBR p) CB_STAT_PG
    let s := s.modPort p fun k => { k with pgBranch := pg }
    .next (if !s.pins.mainPwrGood then s else if pg && s.portState p = 1 then s.portReset p else s.sidebands p)

/-- RST_HOLD_EXPIRY (R296, R301): RESET_N is released and the port trains; a restart latched through OFF begins bring-up. -/
def execRstHoldExpiry (port : Port) (s : State) : Res :=
  let p := port.val
  if s.portState p = 2 then .next (s.setPort p 3)
  else if s.portState p = 0 && s.flag (pSLK p) SLK_STAT_RESTART_PEND then .next (s.bringUp p)
  else .next s

/-- The FX9's INIT (R283, R296). -/
def State.initUnit (s : State) (p : Nat) : SilkUnit :=
  let b := pSLK p
  { typ := 0x3E, flags := 0, len := 32, tag := 0, pmask := 0, rsv := 0, arg := 0
    payload := [1, 0] ++ natLe 1 (s.fget b SLK_STAT_RCPT_TAG_VALID) ++ [0] ++ natLe 2 16 ++ natLe 2 512 ++ natLe 2 64 ++
      natLe 2 16 ++ natLe 2 0 ++ natLe 2 (s.fget b SLK_LAST_RCPT_TAG) ++ natLe 8 s.fuses.uid.toNat ++
      List.replicate 8 0 }

/-- LINK_UP (R272, R296): a link at 64 GT/s on four lanes that echoes the port index goes on to INIT. -/
def execLinkUp (port : Port) (rateOk widthOk : Bool) (linkNo : BitVec 8) (s : State) : Res :=
  let p := port.val
  if s.portState p != 3 then .next s
  else if !rateOk || !widthOk || linkNo.toNat != p then .next (s.portDown p 2)
  else
    let s := (s.setPort p 4).modPort p fun k => { k with inL0 := true }
    .next (s.sendUnit p (s.initUnit p))

/-- TRAIN_TIMEOUT (R296). -/
def execTrainTimeout (port : Port) (s : State) : Res :=
  .next (if s.portState port.val = 3 then s.portDown port.val 1 else s)

/-- INIT_TIMEOUT (R296). -/
def execInitTimeout (port : Port) (s : State) : Res :=
  .next (if s.portState port.val = 4 then s.portDown port.val 6 else s)

/-- PORT_RETRY (R297): SLK_TIMING.RETRY after going DOWN. -/
def execPortRetry (port : Port) (s : State) : Res :=
  let p := port.val
  .next (if s.portState p = 7 && s.flag (pSLK p) SLK_CTRL_EN && !s.flag (pSLK p) PAGE_STAT_FENCED then s.bringUp p else s)

/-- Whether a port's link carries traffic: UP or SHUTTING. -/
def State.linkLive (s : State) (p : Nat) : Bool := s.portState p = 5 || s.portState p = 6

/-- LINK_RECOVERY (R298): more than 64 within 1 s take the port down. -/
def execLinkRecovery (port : Port) (s : State) : Res :=
  let p := port.val
  if !s.linkLive p || !(s.port p).inL0 then .next s
  else
    let l := ((s.port p).recoveries.filter fun t => s.nowNs < t + 1000000000) ++ [s.nowNs]
    let s := s.modPort p fun k => { k with inL0 := false, recoveries := l }
    .next (if 64 < l.length then s.portDown p 5 else s)

/-- LINK_RECOVERY_EXIT (R298): what waited for L0 is sent. -/
def execLinkRecoveryExit (port : Port) (s : State) : Res :=
  let p := port.val
  if !s.linkLive p || (s.port p).inL0 then .next s
  else .next ((s.modPort p fun k => { k with inL0 := true }).flushPort p)

/-- RECOVERY_FAIL (R298): the link has not returned to L0 within 10 ms. -/
def execRecoveryFail (port : Port) (s : State) : Res :=
  let p := port.val
  .next (if s.linkLive p && !(s.port p).inL0 then s.portDown p 5 else s)

/-- REMOVED (R299): Detect finds no receiver, or Carapace reports the branch off (log 63). -/
def execRemoved (port : Port) (branchOff : Bool) (s : State) : Res :=
  let p := port.val
  let st := s.portState p
  if branchOff then
    if s.branchOn p then .next s
    else
      let s := s.modPort p fun k => { k with pgBranch := false }
      .next (if !s.pins.mainPwrGood then s else if 2 ≤ st && st ≤ 6 then s.portDown p 10 else s.sidebands p)
  else .next (if 4 ≤ st && st ≤ 6 then s.portDown p 4 else s)

/-- QUIESCE_TIMEOUT (R300): no QUIESCE_ACK within 10 ms. -/
def execQuiesceTimeout (port : Port) (s : State) : Res :=
  .next (if s.portState port.val = 6 then s.shutPort port.val else s)

/-! ### Sidebands -/

/-- HEART_TOGGLE (R291): every 16.384 us, while the LNK clock runs (R23). -/
def execHeartToggle (port : Port) (s : State) : Res :=
  .next (if s.flag (pSLK port.val) SLK_STAT_HEART && !s.mainP.lnkLost then s.modPort port.val fun k => { k with heart := !k.heart } else s)

/-- TEL_STALE (R293): no TELEMETRY for 65.536 us on an UP port. -/
def execTelStale (port : Port) (s : State) : Res :=
  let p := port.val
  .next (if s.portUp p then (s.modPort p fun k => { k with telStale := true }).raise (pSLK p) 8 else s)

/-- A level of ALERT_N, which the accelerator sets whether or not MAIN is on (R286). -/
def State.alertLevel (s : State) (p : Nat) (low : Bool) : State := s.modPort p fun k => { k with alertLow := low }

/-- ALERT (R294): a falling edge of ALERT_N; without MAIN only the level changes. -/
def execAlert (port : Port) (s : State) : Res :=
  let p := port.val
  if (s.port p).alertLow then .next s
  else if !s.pins.mainPwrGood then .next (s.alertLevel p true)
  else
    let s := ((s.alertLevel p true).raise (pSLK p) 5).throttle p
    .next (if 2 ≤ s.fget (pSLK p) SLK_CTRL_ALERT_ACT then s.sendHalt 3 p else s)

/-- ALERT_RELEASE (R290): ALERT_N rises. -/
def execAlertRelease (port : Port) (s : State) : Res :=
  let p := port.val
  .next (if !(s.port p).alertLow then s
    else if s.pins.mainPwrGood then (s.alertLevel p false).throttle p else s.alertLevel p false)

/-- CREDIT_RETURN (R277): one CREDIT unit returns what is owed. -/
def execCreditReturn (port : Port) (s : State) : Res :=
  let p := port.val
  let k := s.port p
  if k.owed.all (· = 0) || !k.inL0 then .next s
  else
    let u := ctlUnit 0x3F ((List.range 5).flatMap fun i => natLe 2 (nth k.owed i))
    .next ((s.modPort p fun k => { k with owed := [] }).sendUnit p u)

end Sys2Proof.Machine
end

