-- ==== Sys2Proof/Machine/RegWrite.lean ====
section
/-! DEFINITION. REGISTER_WRITE and HI_WRITE: a write of any register, with what the register's own chapter makes the value do; a register
that a row of its own writes acts here as it does there. -/

namespace Sys2Proof.Machine

/-! ### Actions per page; `v` is the value written, `t` the state before the write -/

/-- KRM global page. -/
def krmGlobAct (cls : Cls) (off v : Nat) (t s : State) : State :=
  if off = 0x100 then
    let s := if v % 2 = 1 then s.haltKermes else s
    if t.flag pKRMGLOB KG_CTRL_QHOLD && !s.flag pKRMGLOB KG_CTRL_QHOLD then s.fset pHST HST_STAT_TRAY_HALT 0 else s
  else if off = 0x13C then (if v % 2 = 1 then submitAct cls s else s)
  else if off = 0x148 || off = 0x150 then s.showCring
  else s

/-- KRM core page. -/
def krmCoreAct (cls : Cls) (c off v : Nat) (s : State) : State :=
  if off != 0x100 then s
  else
    let s := if v / 4 % 2 = 1 then s.fset (pKRMCORE c) KCORE_ARITH 0 else s
    let s := if v / 2 % 2 = 1 then unfenceAct cls c s else s
    if v % 2 = 1 then s.fenceCore c 1 else s

/-- Tier channel page. -/
def tierAct (pg off v : Nat) (s : State) : State :=
  if off = 0x100 && v % 2 = 1 && !s.flag pg PAGE_STAT_FENCED then
    (s.setStat pg PAGE_STAT_FENCED true).fset pg TC_STAT_FCAUSE 3
  else s

/-- WIT page. -/
def witAct (cls : Cls) (off v : Nat) (t s : State) : State :=
  if off = 0x100 then (if v % 2 = 1 && !t.flag pWIT WIT_CTRL_EN then s.rotateSeed else s)
  else if off = 0x110 then witCmd cls (v / 256 % 4) (v % 256) s
  else if off = 0x138 then rotateAct v s
  else if off = 0x190 then s.drainRpl s.qw.rplHeld.length
  else if off = 0x1A0 then (if v / 16 % 2 = 1 then replayAct cls (v % 16) s else s)
  else s

/-- JRN page. -/
def jrnAct (cls : Cls) (off v : Nat) (t s : State) : State :=
  if off = 0x100 then jrnCtrl t.jrnOn s
  else if off = 0x108 || off = 0x10C || off = 0x110 then { s with jrn.relaid := true }
  else if off = 0x120 then jrnPin cls (v / 0x10000 % 4) (v % 1024) s
  else s

/-- HST page. -/
def hstAct (cls : Cls) (off v : Nat) (s : State) : State :=
  if off = 0x104 then hostStop v s
  else if off = 0x110 then heartbeat s
  else if off = 0x118 then mbDoorbell cls v s
  else if off = 0x11C then mbAck v s
  else s

/-- RCK page. -/
def rckAct (off v : Nat) (s : State) : State :=
  if off = 0x100 then rackCapAct .rackCap s
  else if off = 0x104 then rackCapAct .rackPreset s
  else if off = 0x114 then stopAct v s
  else s

/-- GOV global page: PRESET_KRM acts on the level of the pin (R386). -/
def govAct (off : Nat) (s : State) : State := if off = 0x100 then s.forceStep else s

/-- HZD sensors page: a latch whose condition holds stays set (R56, R414). -/
def hazAct (cls : Cls) (off v : Nat) (t s : State) : State :=
  if off = 0x100 || off = 0x104 then s.hazAfter
  else if off = 0x10C then relWrite cls v s
  else if off = 0x110 then
    let kept := Nat.land (t.rd (pHZDSENS + 0x110)).toNat s.hazConds
    (s.wr (pHZDSENS + 0x110) (s.rd (pHZDSENS + 0x110) ||| BitVec.ofNat 32 kept)).hazLatch
  else if off = 0x11C then (s.each thermList State.showClass).hazAfter
  else s

/-- What an accepted write of a block register does beyond the register. -/
def writeAct (cls : Cls) (k : PageKind) (inst off v : Nat) (t s : State) : State :=
  match k with
  | .krmglob => krmGlobAct cls off v t s
  | .krmcore => krmCoreAct cls inst off v s
  | .krmquad => if off = 0x104 && v / 8 % 2 = 1 then activateAct cls inst (v % 8) s else s
  | .ntrchan => tierAct (pNTRCHAN inst) off v s
  | .blkchan => tierAct (pBLKCHAN inst) off v s
  | .ffy =>
    if off = 0x100 then ffyCtrl cls (t.rd (pFFY + 0x100)) v s else if off = 0x118 then ffyGo cls v s else s
  | .wit => witAct cls off v t s
  | .dgt => if off = 0x120 then batchCloseAct v s else s
  | .jrn => jrnAct cls off v t s
  | .lks =>
    let i := (off - 0x140) / 0x40
    if 0x140 ≤ off && off < 0x240 && off % 0x40 = 0 then lksCtrl i (t.flag pLKS (lksFld LKS_CFG_EN i)) s else s
  | .qmg =>
    if off = 0x100 && t.flag pQMG QMG_CTRL_DISPATCH && !s.flag pQMG QMG_CTRL_DISPATCH then dispatchFall s else s
  | .slk => if off = 0x100 then slkCtrl cls inst (t.flag (pSLK inst) SLK_CTRL_EN) v s else s
  | .hst => hstAct cls off v s
  | .rck => rckAct off v s
  | .govglob => govAct off s
  | .govacc => if off = 0x100 then gaCtrl inst v s else s
  | .crpfeed => if off = 0x100 then feedCtrl (clsCode cls) (t.fget pCRPFEED CF_CTRL_EN) v s else s
  | .crpbr => if off = 0x100 then branchCtrl inst (clsCode cls) (t.fget (pCRPBR inst) CB_CTRL_EN) v s else s
  | .lcwglob => if off = 0x100 then lcwCtrl (clsCode cls) v s else s
  | .lcwchan =>
    let n := (off - 0x100) / 0x20
    if n < 16 && off % 0x20 = 0 then fanCtrl n (t.ch n LCW_CH_CTRL_EN) v s else s
  | .hzdsens => hazAct cls off v t s
  | .hzddrip => if off = 0x100 then dripEn s else s
  | .fwc => if 0x200 ≤ off && off < 0x300 && off % 0x40 = 0 then coreCtrl ((off - 0x200) / 0x40) v s else s
  | .sep => if off = 0x100 then sepCtrl v s else s
  | .gen | .acc | .clk | .ntrglob | .blkglob | .int | .crpglob | .fwl | .trc | .sepwin | .alg => s

/-- A write of the register at BAR0 offset `a`, with what it starts. -/
def State.writeReg (s : State) (cls : Cls) (a size v : Nat) : State :=
  let r := regWrite s cls a size v
  match r.1, findPage (a / 0x10000) with
  | true, some (p, inst) => writeAct cls p.kind inst (a % 0x10000) v s r.2
  | _, _ => r.2

/-! ### The end of a soft reset -/

/-- Shows the state of Kermes' job in KG_STAT. -/
def State.showJob (s : State) : State :=
  let ph := s.krm.job.map Job.phase
  (s.fset pKRMGLOB KG_STAT_RUNNING (bit (ph = some .running))).fset pKRMGLOB KG_STAT_LOADING (bit (ph = some .loading))

/-- A Silk port whose page was reset: OFF, its link cut, its sidebands as R287 to R291 have them in that state. -/
def State.showPort (s : State) (p : Nat) : State :=
  let s := if s.portState p = 0 then s.cutLink p else s
  (s.sidebands p).throttle p

/-- The status fields that mirror conditions outside a page's registers show them again after a reset of the page, and a pin
that PRESET_KRM gives force has it (log 91). -/
def State.showPage (s : State) (kind : PageKind) (inst : Nat) : State :=
  match kind with
  | .krmglob => s.showQueues.showCring.showPstate.showJob
  | .qmg => s.showQmg
  | .wit => s.showWit
  | .dgt => s.showBatch
  | .jrn => s.showFree
  | .slk => s.showPort inst
  | .rck => s.showPreset
  | .govglob => s.forceStep
  | .gen | .acc | .krmcore | .krmquad | .ntrchan | .ntrglob | .blkchan | .blkglob | .int | .ffy | .clk | .lks | .hst
  | .govacc | .crpglob | .crpfeed | .crpbr | .lcwglob | .lcwchan | .hzdsens | .hzddrip | .fwc | .fwl | .trc | .sep | .sepwin
  | .alg => s

/-- SOFT_RESET_DONE (R43): within 10 us SOFT_RESET and BUSY clear; the fall counts no further change (R48). -/
def execSoftResetDone (page : BitVec 10) (s : State) : Res :=
  let b := pageBase page
  if s.flag b PAGE_CTRL_SOFT_RESET then
    let s := (s.fset b PAGE_CTRL_SOFT_RESET 0).fset b PAGE_STAT_BUSY 0
    match findPage page.toNat with
    | some (p, inst) => .next (s.showPage p.kind inst)
    | none => .next s
  else .next s

/-! ### What the power core and the link core owe MAIN after a power-up (R472, R473) -/

/-- The word a write of FWP replaces. -/
def State.fwpWord (s : State) (a : Nat) : BitVec 32 :=
  match findPage (a / 0x10000) with
  | none => 0
  | some (p, _) =>
    match findReg p.regs (a % 0x10000) with
    | some (r, _, _) => oldWord s .fwp r a
    | none => s.rd a

/-- One profile entry: (current & ~MASK) | (VALUE & MASK), written as FWP (R478). -/
def State.writeEntry12 (s : State) (e : Nat × BitVec 32 × BitVec 32) : State :=
  s.writeReg .fwp e.1 4 ((s.fwpWord e.1 &&& ~~~e.2.1) ||| (e.2.2 &&& e.2.1)).toNat

/-- The power core re-applies the profile's entries for MAIN pages; the link core then enables the ports of SILK_MASK. What a
core that does not run owes waits for it. -/
def State.dueDuties (s : State) : State :=
  let s := if s.pins.mainPwrGood && s.mainP.profDue && s.runs 0 then
      s.fwc.profMain.foldl State.writeEntry12 { s with mainP.profDue := false } else s
  if s.pins.mainPwrGood && s.mainP.silkDue && !s.mainP.profDue && s.runs 2 then
    (portList.filter fun p => s.fwc.silkMask.getLsbD p).foldl (fun s p =>
      s.writeReg .fwl (pSLK p + 0x100) 4 ((s.rd (pSLK p + 0x100)).toNat / 2 * 2 + 1)) { s with mainP.silkDue := false }
  else s

/-- Whether the word at `a` is the _HI half of a pair. -/
def hiAt (a : Nat) : Bool :=
  match findPage (a / 0x10000) with
  | none => false
  | some (p, _) =>
    match findReg p.regs (a % 0x10000) with
    | some (r, _, 4) => r.pair
    | _ => false

/-- HI_WRITE (R59): a write of a _HI word commits both halves of the pair; JRN_BASE is the one pair whose write does more
(R258). Any other word is written as REGISTER_WRITE writes it. -/
def execHiWrite (cls : Cls) (addr : BitVec 26) (value : BitVec 32) (s : State) : Res :=
  let a := addr.toNat
  if hiAt a then
    let r := regWrite s cls a 4 value.toNat
    .next (if r.1 && a / 0x10000 * 0x10000 = pJRN then { r.2 with jrn.relaid := true } else r.2)
  else .next (s.writeReg cls a 4 value.toNat).dueDuties

/-- REGISTER_WRITE (R48); a core that a write lets run does what it owes. -/
def execRegisterWrite (cls : Cls) (addr : BitVec 26) (size : Nat) (value : BitVec 64) (s : State) : Res :=
  .next (s.writeReg cls addr.toNat size value.toNat).dueDuties

end Sys2Proof.Machine
end

