-- ==== Sys2Proof/Machine/MainPower.lean ====
section
/-! DEFINITION. MAIN power and the clocks: MAIN's rise, its loss and recovery (R21, R471-R473), and the PLL locks (R23, R31);
what a core that runs again owes MAIN. -/

namespace Sys2Proof.Machine

/-! ### MAIN pages -/

/-- The bases of the MAIN register pages. -/
def mainPages : List Nat :=
  (pageRows.filter (·.main)).flatMap fun p => (List.range p.n).map fun i => (p.page + i) * 0x10000

/-- A register key, of whatever class, in a MAIN page. -/
def inMain (k : Nat) : Bool :=
  match findPage (k % 0x4000000 / 0x10000) with
  | some (p, _) => p.main
  | none => false

/-- Shows the page at `b`. -/
def State.showBase (s : State) (b : Nat) : State :=
  match findPage (b / 0x10000) with
  | some (p, inst) => s.showPage p.kind inst
  | none => s

/-- What the ledger core keeps of the DGT page (R257): DGT_KEY_IDX. -/
def keptWord (k : Nat) : Bool := k = pDGT + 0x148 || k = pDGT + 0x14C

/-! ### MAIN loss (R21, R472) -/

/-- MAIN stays off until the next ALWAYS reset. -/
def State.giveUp (s : State) : State :=
  { ((s.setStat pGEN PAGE_STAT_FAULT true).fset pRCK RCK_ALERT_SRC_EVENT 1) with mainP.gaveUp := true, mainP.waiting := false }

/-- The lock of one MAIN PLL falls, if it stood (R31). -/
def State.dropLock (s : State) (f : Fld) : State := if s.flag pCLK f then (s.fset pCLK f 0).lockLost else s

/-- The lock bits of the MAIN domains. -/
def mainLocks : List Fld := [CLK_STAT_KRM_LOCK, CLK_STAT_FAB_LOCK, CLK_STAT_NT_LOCK, CLK_STAT_BK_LOCK, CLK_STAT_LNK_LOCK]

/-- The Silk ports go down with MAIN; those that were not OFF are remembered. -/
def State.dropPorts (s : State) : State :=
  let l := portList.filter fun p => s.portState p != 0
  let s := l.foldl (fun s p => ((s.cutLink p).setPort p 7).fset (pSLK p) SLK_DOWN_CAUSE 9) s
  { s with
    mainP.silkLost := l
    slk := portList.foldl (fun t p => Tab.set t p { pgBranch := (s.port p).pgBranch, alertLow := (s.port p).alertLow } {}) [] }

/-- What MAIN held is lost (R484): Kermes, queues, journal, lockstep, the open batch, tiers and SRAM. Signed batches stay
with the ledger core (R256), and the firmware SRAM's repairs, which are not in MAIN. -/
def State.loseMain (s : State) : State :=
  { s with
    krm := { mode := s.krm.mode }
    qw := {}
    dgt.held := []
    dgt.closed := s.dgt.closed.filter fun b => b.signed.isSome
    dgt.openB := { no := if s.dgt.openB.leaves = [] then s.dgt.openB.no else s.dgt.openB.no + 1 }
    jrn := {}
    lks := []
    integ.chans := []
    integ.passDone := []
    integ.sramUps := []
    integ.lineUps := []
    integ.badWords := s.integ.badWords.filter fun c => c.1 = 0
    integ.ceLines := s.integ.ceLines.filter fun c => c.1 = 0
    mem := []
    poison := []
    stale := []
    hr.slotReq := []
    hr.capSlots := []
    hr.session := 0
    hr.spdm := false
    hr.pci := {}
    hr.d3hot := false
    hr.maskDue := false
    fwc.wall := []
    sep.mainGap := true
    mainP.lnkLost := false
    mainP.profDue := false
    mainP.silkDue := false }

/-- A MAIN loss: the pins, the action, the fenced pages, the ports, the host link, the lost contents, the clocks, and the
recovery to come, unless it is the third loss within 60 s. -/
def State.mainLoss (s : State) : State :=
  if !(s.pins.mainPwrEn && s.pins.mainPwrGood) then s
  else
    let s := { s with pins.mainPwrEn := false, pins.mainPwrGood := false }
    let s := s.act 0x09 0xFF 0 mainPages.length
    let s := mainPages.foldl (fun s b => s.fset b PAGE_STAT_FENCED 1) s
    let s := s.endJob 2 3 s.lastCycle
    let s := s.dropPorts.linkDown.loseDriver.loseMain
    let s := mainLocks.foldl State.dropLock s
    let s := s.setStep 0
    let l := (s.mainP.losses.filter fun t => s.nowNs < t + 60000000000) ++ [s.nowNs]
    let s := { s with mainP.losses := l, mainP.tries := 0, mainP.waiting := true }
    if 3 ≤ l.length then s.giveUp else s

/-- MAIN_LOSS (R21). -/
def execMainLoss (s : State) : Res := .next s.mainLoss

/-! ### MAIN power-up (R471-R473) -/

/-- HOST is ON. -/
def State.hostOn (s : State) : Bool := s.branchState 8 = 3

/-- The power core asserts MAIN_PWR_EN; VDD_KRM comes up at 0.75 V (R470). -/
def State.mainOn (s : State) : State := { s with pins.mainPwrEn := true, mainP.waiting := false, mainP.vddKrm := 750 }

/-- A setpoint in mV for VDD_KRM: the AVSBus master clamps every command to 0.85 V (R427). No row of the table carries one, so
none is sent and VDD_KRM stays at 0.75 V (log 88). -/
def State.avsCommand (s : State) (mv : Nat) : State := { s with mainP.vddKrm := min 850 mv }

/-- MAIN_POWER_UP (R473): the first rise, once a profile or the safe profile is in force and HOST is ON. -/
def execMainPowerUp (s : State) : Res :=
  .next (if (s.fwc.profValid || s.fwc.safeProfile) && s.hostOn && s.runs 0 && !s.pins.mainPwrEn && !s.mainP.gaveUp &&
      !s.mainP.waiting then s.mainOn else s)

/-- MAIN_PWR_TIMEOUT (R471): no power good within 50 ms; the third failure leaves MAIN off. -/
def execMainPwrTimeout (s : State) : Res :=
  if !s.pins.mainPwrEn || s.pins.mainPwrGood || !s.runs 0 then .next s
  else
    let n := s.mainP.tries + 1
    let s := { s with pins.mainPwrEn := false, mainP.tries := n, mainP.waiting := true }.act 0x09 0xFF 0 0
    .next (if 3 ≤ n then s.giveUp else s)

/-- MAIN_RETRY (R471): 1 s after a failed rise. -/
def execMainRetry (s : State) : Res :=
  .next (if s.mainP.waiting && s.mainP.tries != 0 && s.runs 0 then s.mainOn else s)

/-- MAIN_RECOVERY (R472): 1 s after a loss, with HOST ON and SYS_SHDN_N released. -/
def execMainRecovery (s : State) : Res :=
  .next (if s.mainP.waiting && s.mainP.tries = 0 && s.runs 0 && s.hostOn && !s.shdn then s.mainOn else s)

/-- The MAIN pages at their reset values. -/
def State.resetMainPages (s : State) : State :=
  { s with
    regs := s.regs.filter fun e => !(inMain e.1) || keptWord e.1
    copies := s.copies.filter fun e => !(inMain e.1)
    hiLatch := s.hiLatch.filter fun e => !(inMain e.1)
    loShadow := s.loShadow.filter fun e => !(inMain e.1) }

/-- Kermes's pages as the fuses give them (R60, R110): the maps and spares, ACT_CORES and KG_ACT_MAP; a core neither slotted
nor a spare is FENCED, FUSED. -/
def State.fuseCores (s : State) : State :=
  let s := [0, 1, 2, 3].foldl (fun s q => s.fusedPage (pKRMQUAD q)) s
  let on := (List.range 36).filter fun c => (s.fuses.slotOf c).isSome
  let s := (s.fusedPage pKRMGLOB).hwSet pGEN GEN_FAMILY_ACT_CORES on.length
  (List.range 36).foldl (fun s c =>
    let s := s.fusedPage (pKRMCORE c)
    if (s.fuses.slotOf c).isNone && !(s.fuses.isSpare c) then
      (s.setStat (pKRMCORE c) PAGE_STAT_FENCED true).fset (pKRMCORE c) KCORE_FCAUSE_CAUSE 7
    else s) s

/-- The fuse map and the repair record are applied (R192-R194): spares used per bank, remap entries used per
memory, and what INT_STAT says of the record. -/
def State.applyRepairs (s : State) : State :=
  let used (c b : Nat) : Nat := s.fuseSpares c b + (s.integ.spares.filter fun r => r.core = c && r.bank = b).length
  let banks := (s.fuses.spareMap ++ s.integ.spares).map fun r => (r.core, r.bank)
  let s := banks.foldl (fun s p => s.setBank p.1 p.2 { (s.bank p.1 p.2) with sparesUsed := min 8 (used p.1 p.2) }) s
  let s :=
    match (s.fuses.spareMap ++ s.integ.spares).getLast? with
    | some r =>
      let s := ((s.fset pINT INT_SPARE_STAT_CORE r.core).fset pINT INT_SPARE_STAT_BANK r.bank).fset pINT INT_SPARE_STAT_ROW (r.row / 4)
      s.fset pINT INT_SPARE_STAT_FREE (8 - min 8 (used r.core r.bank))
    | none => s
  let s := [0, 1, 2, 3].foldl (fun s m =>
    s.fset pINT ⟨INT_REMAP_STAT_USED0.off, 5 * m, 5⟩ (min 16 (s.integ.remaps.filter fun r => r.1 = m).length)) s
  let s := s.fset pINT INT_STAT_REC_VALID (bit s.repairValid)
  (s.fset pINT INT_STAT_REC_ENTRIES (min 0xFF (s.integ.spares.length + s.integ.remaps.length))).showRecFull

/-- Whether a MAIN page is READY as soon as MAIN is: not a tier channel (R191), nor the host port, which trains (R304), nor a
fenced core. -/
def readyAtOnce (s : State) (b : Nat) : Bool :=
  match findPage (b / 0x10000) with
  | some (p, _) => p.kind != .ntrchan && p.kind != .blkchan && p.kind != .hst && !s.flag b PAGE_STAT_FENCED
  | none => false

/-- MAIN_POWER_GOOD (R472, R473): the MAIN pages at reset, with what fuses and the repair record give; a channel that fails
training or identification is fenced (R172, R197); the ports that were not OFF at the loss keep their cause; the power
core and the link core follow. -/
def execMainPowerGood (failed : List ChanFail) (s : State) : Res :=
  if !s.pins.mainPwrEn || s.pins.mainPwrGood then .next s
  else
    let s := { s.resetMainPages with pins.mainPwrGood := true, mainP.tries := 0, mainP.waiting := false }
    let s := if keyTotal ≤ s.pget pDGT DGT_KEY_IDX then s.fset pDGT DGT_STAT_KEY_EXHAUSTED 1 else s
    let s := s.fuseCores.applyRepairs
    let s := s.fset pBLKGLOB TG_REORDER_REORDER (bit s.krm.mode.bkReorder)
    let s := failed.foldl (fun s f =>
      (s.setStat (chanPage f.chan) PAGE_STAT_FENCED true).fset (chanPage f.chan) TC_STAT_FCAUSE (if f.identity then 2 else 1)) s
    let s := (mainPages.filter (readyAtOnce s)).foldl (fun s b => s.setStat b PAGE_STAT_READY true) s
    let s := s.mainP.silkLost.foldl (fun s p => s.fset (pSLK p) SLK_DOWN_CAUSE 9) s
    let s := mainPages.foldl State.showBase s
    .next { s with mainP.silkLost := [], mainP.profDue := true, mainP.silkDue := true }.dueDuties

/-! ### Clocks (R23, R31) -/

/-- The lock bit of a domain; TB's is FFY_STAT.LOCKED. -/
def lockBit : ClkDomain → Fld
  | .tb => CLK_STAT_TB_LOCK
  | .krm => CLK_STAT_KRM_LOCK
  | .fab => CLK_STAT_FAB_LOCK
  | .nt => CLK_STAT_NT_LOCK
  | .bk => CLK_STAT_BK_LOCK
  | .lnk => CLK_STAT_LNK_LOCK
  | .fw => CLK_STAT_FW_LOCK

/-- Fences every channel of a tier; the spec gives no cause code for a lost clock (log 1). -/
def State.fenceTier (s : State) (pages : List Nat) : State :=
  pages.foldl (fun s pg =>
    if s.flag pg PAGE_STAT_FENCED then s
    else (s.freeWord.2.setStat pg PAGE_STAT_FENCED true).fset pg TC_STAT_FCAUSE s.freeWord.1.toNat) s

/-- Kermes loses its clock: it halts, and every core is fenced; the spec gives no cause code (log 1). -/
def State.kermesClockLost (s : State) : State :=
  (List.range 36).foldl (fun s c => s.freeWord.2.fenceCore c (s.freeWord.1.toNat % 256)) s.haltKermes

/-- PLL_LOCK_LOSS (R23): the lock bit falls, LOCK_LOSS is raised, and the domain reacts. -/
def execPllLockLoss (dom : ClkDomain) (s : State) : Res :=
  let s' := s.dropLock (lockBit dom)
  if dom = .tb then .next s.loseTimebase
  else if !s.flag pCLK (lockBit dom) then .next s
  else
    match dom with
    | .fw => .next ((s'.fset pCLK CLK_STAT_FW_FALLBACK 1).raise pCLK 4)
    | .krm => .next s'.kermesClockLost
    | .fab => .next s'.mainLoss
    | .nt => .next (s'.fenceTier ((List.range 6).map pNTRCHAN))
    | .bk => .next (s'.fenceTier ((List.range 24).map pBLKCHAN))
    | _ => .next ({ s' with mainP.lnkLost := true }.linkDown.loseDriver)

/-- PLL_LOCK_RETURN (R23): the lock bit rises; FW leaves its fallback oscillator, and HEART goes on. -/
def execPllLockReturn (dom : ClkDomain) (s : State) : Res :=
  match dom with
  | .tb => .next s.returnTimebase
  | .fw => .next ((s.fset pCLK CLK_STAT_FW_LOCK 1).fset pCLK CLK_STAT_FW_FALLBACK 0)
  | .lnk => .next (if s.pins.mainPwrGood then { (s.fset pCLK CLK_STAT_LNK_LOCK 1) with mainP.lnkLost := false } else s)
  | d => .next (if s.pins.mainPwrGood then s.fset pCLK (lockBit d) 1 else s)

/-! ### Cores that run again -/

/-- CORE_RESTART_DONE (R429, R433, R438). -/
def execCoreRestartDone (core : FwCore) (s : State) : Res := .next (s.restartDone core).dueDuties

/-- CORE_RUN (R430). -/
def execCoreRun (cls : Cls) (core : FwCore) (s : State) : Res := .next (s.coreCtrlWrite cls core 4).dueDuties

end Sys2Proof.Machine
end

