-- ==== Sys2Proof/Machine/Profile.lean ====
section
/-! DEFINITION. The tray profile (R477-R483, R489): its checks, its application, the safe profile, PROFILE_WRITE. -/

namespace Sys2Proof.Machine

/-! ### The profile in flash (R477) -/

/-- Base of the profile's range. -/
def profBase : Nat := 0x100000

/-- A field of the stored profile. -/
def State.profField (s : State) (off n : Nat) : Nat := leNat (s.flashAt (profBase + off) n)

/-- The bytes 0x00 to 0x80 + 12N - 1 of the stored profile. -/
def State.profBytes (s : State) : List Byte := s.flashAt profBase (0x80 + 12 * s.profField 0x1C 4)

/-- The digest the seal signs (R479). -/
def profDigest (body : List Byte) : List Byte := shake256 (ascii "FX9-TPRF" ++ body)

/-- Whether a seal verifies: one this device made, or one that XMSS^MT accepts (log 15). -/
def State.sealOk (s : State) (body sig : List Byte) : Bool :=
  sig == signature s.fuses.pubKey (profDigest body) (leNat (sig.take 5).reverse) || xmssMtOk s.fuses.pubKey (profDigest body) sig

/-- A cap of FAN_CAP, 0 meaning none. -/
def capRank (c : Nat) : Nat := if c = 0 then 0x10000 else c

/-- Whether the fixed fields of a profile lie in range and its reserved fields are zero; a higher SCHEMA_MINOR may use
these (R480). -/
def fieldsOk (b : List Byte) : Bool :=
  let f := fieldLe b
  let caps := [0, 1, 2, 3].map fun i => f (0x30 + 2 * i) 2
  (List.range 8).all (fun i => 400 ≤ f (0x20 + 2 * i) 2 && f (0x20 + 2 * i) 2 ≤ 2880) &&
    caps.all (fun c => c = 0 || (500 ≤ c && c ≤ 20000)) && (caps.zip caps.tail).all (fun p => capRank p.2 ≤ capRank p.1) &&
    320 ≤ f 0x3C 2 && f 0x3C 2 ≤ 800 && f 0x3E 2 ≤ 1000 && 500 ≤ f 0x40 2 && f 0x40 2 ≤ 11000 && f 0x1C 4 ≤ 65536 &&
    (f 5 1 != 0 || (f 6 2 = 0 && f 0x19 3 = 0 && f 0x39 1 / 16 = 0 && f 0x3B 1 = 0 && f 0x42 62 = 0))

/-- The codes 4, 5 and 6 of R480 on a profile's bytes; `uid` is what UID must be. -/
def headCode (b : List Byte) (uid : Option Nat) : Nat :=
  let n := fieldLe b 0x1C 4
  if fieldLe b 4 1 != 1 then 4
  else if fieldLe b 0x18 1 != 9 || uid.any (· != fieldLe b 0x10 8) then 5
  else if fieldLe b 8 4 != 0x80 + 12 * n + 9893 || 0xFFFF8 < fieldLe b 8 4 then 6
  else 0

/-! ### Entries (R478) -/

/-- An entry: offset, mask, value. -/
abbrev ProfEntry := Nat × BitVec 32 × BitVec 32

/-- The entries of a profile. -/
def entriesOf (b : List Byte) : List ProfEntry :=
  (List.range (fieldLe b 0x1C 4)).map fun i =>
    let o := 0x80 + 12 * i
    (fieldLe b o 4, BitVec.ofNat 32 (fieldLe b (o + 4) 4), BitVec.ofNat 32 (fieldLe b (o + 8) 4))

/-- The pages that entries may target. -/
def entryPage : PageKind → Bool
  | .crpglob | .crpfeed | .crpbr | .govglob | .govacc | .lcwglob | .lcwchan | .hzdsens | .hzddrip | .ffy | .slk | .int
  | .krmglob | .fwl => true
  | _ => false

/-- The bits that no entry may cover. -/
def entryBarred (k : PageKind) (off : Nat) : BitVec 32 :=
  match k with
  | .crpglob => if off = 0x104 then CRP_GCTRL_PROFILE_OK.mask else 0
  | .crpfeed | .crpbr => if off = 0x100 then 0xFFFFFFFF else 0
  | .slk => if off = 0x100 then SLK_CTRL_EN.mask else 0
  | .krmglob => if off = 0x100 then KG_CTRL_QHOLD.mask else 0
  | _ => 0

/-- The RW bits of a register word, `b` its byte offset in the register. -/
def rwBits (r : RRow) (b : Nat) : BitVec 32 :=
  if r.pair && !(r.fields.all fun f => f.acc = .rw) then 0
  else if r.pair then BitVec.ofNat 32 (if b = 4 then r.hi else r.lom)
  else BitVec.ofNat 32 ((r.fields.filter fun f => f.acc = .rw).foldl (fun m f => m + (2 ^ f.w - 1) * 2 ^ f.lo) 0)

/-- Whether an entry keeps R478. -/
def profEntryOk (e : ProfEntry) : Bool :=
  match findPage (e.1 / 0x10000) with
  | none => false
  | some (p, _) =>
    let off := e.1 % 0x10000
    if off = 0x30 then e.2.1 &&& 0xFFFFFF80#32 = 0
    else
      match findReg p.regs off with
      | some (r, _, b) =>
        entryPage p.kind && 0x100 ≤ off && e.2.1 &&& ~~~rwBits r b = 0 && e.2.1 &&& entryBarred p.kind off = 0
      | none => false

/-- The value an entry writes: an ACCESS_MASK never gains a writer (R478). -/
def State.entryValue (s : State) (e : ProfEntry) : BitVec 32 :=
  let v := (s.fwpWord e.1 &&& ~~~e.2.1) ||| (e.2.2 &&& e.2.1)
  if e.1 % 0x10000 = 0x30 then ((v &&& regReset e.1) ||| 2#32) &&& ~~~0x40#32 else v

/-- Whether R35 refuses an entry: it would loosen a strapped setting. -/
def State.r35 (s : State) (e : ProfEntry) : Bool :=
  let v := (s.entryValue e).toNat
  (e.1 = pHZDSENS + 0x104 && v % 256 > s.strapThr) || (e.1 = pCRPBR 8 + 0x110 && v % 65536 > 11 * s.hostRating) ||
    (e.1 = pCRPBR 8 + 0x140 && v % 65536 > 60 * s.hostRating)

/-- Whether an entry's value breaks a range of its register, so that its write would latch an error. -/
def State.rangeBad (s : State) (e : ProfEntry) : Bool :=
  let t := { s with crp.silent := false, crp.ackWait := false }
  let off := e.1 % 0x10000
  match findPage (e.1 / 0x10000) with
  | none => false
  | some (p, _) =>
    match findReg p.regs off with
    | none => false
    | some (r, _, _) =>
      let v := (s.entryValue e).toNat
      if r.pair || off < 0x100 then false
      else if !rangeOk r v then p.rngErr != 0
      else p.kind != .slk && ((blockRule t p.kind (e.1 / 0x10000 * 0x10000) off v).any (· != 0)) && !s.r35 e

/-- A PAGE_STAT.MAIN page that is off: its entries wait for MAIN (R472). -/
def State.entryWaits (s : State) (e : ProfEntry) : Bool := inMain e.1 && !s.pins.mainPwrGood

/-- Writes an entry. The flag says that its write latched an error other than one refused under R35, which is logged at
level WARN; the spec gives the record no body (log 1). -/
def State.applyEntry (q : State × Bool) (e : ProfEntry) : State × Bool :=
  let s := q.1
  if q.2 || s.entryWaits e then q
  else
    let base := e.1 / 0x10000 * 0x10000
    let t := s.writeReg .fwp e.1 4 (s.entryValue e).toNat
    if s.r35 e then ((if 1 ≤ FWL_LEVEL_LEVEL0.get (t.rd (pFWL + 0x114)) then
      (t.freeBytes 8).2.logRecord 0 1 (t.freeBytes 8).1 else t), false)
    else (t, t.rd (base + 0x24) != s.rd (base + 0x24))

/-- The branches whose curve registers the entries touch. -/
def curveBranches (l : List ProfEntry) : List Nat :=
  branchList.filter fun b => l.any fun e => pCRPBR b + 0x110 ≤ e.1 && e.1 < pCRPBR b + 0x140

/-- CURVE_LOAD and TBL_LOAD for what the entries touched (R482); the flag says that one failed. -/
def State.applyLoads (s : State) (l : List ProfEntry) : State × Bool :=
  let t := (curveBranches l).foldl (fun s b => s.loadCurve b 1) s
  let t := if l.any fun e => pLCWGLOB + 0x110 ≤ e.1 && e.1 < pLCWGLOB + 0x130 then lcwCtrl 1 8 t else t
  (t, (curveBranches l).any (fun b => t.rd (pCRPBR b + 0x24) != s.rd (pCRPBR b + 0x24)) ||
    t.rd (pLCWGLOB + 0x24) != s.rd (pLCWGLOB + 0x24))

/-- The reset value of a register, straps included. -/
def State.strapReset (s : State) (a : Nat) : BitVec 32 :=
  if a = pHZDSENS + 0x100 then BitVec.ofNat 32 s.strapCrit
  else if a = pHZDSENS + 0x104 then BitVec.ofNat 32 s.strapThr
  else if pCRPBR 8 + 0x110 ≤ a && a ≤ pCRPBR 8 + 0x140 then ({ s with regs := [] }.wr (pCRPGLOB + 0x100) (s.rd (pCRPGLOB + 0x100))).hostCurve.rd a
  else regReset a

/-- Takes the profile back (R482): every register it wrote to its reset value, every curve and table as before. -/
def State.unapply (s before : State) (l : List ProfEntry) : State :=
  let s := l.foldl (fun s e =>
    if s.entryWaits e then s
    else (s.writeReg .fwp e.1 4 (s.strapReset e.1).toNat).wr e.1 (s.strapReset e.1)) s
  let s := branchList.foldl (fun s b =>
    s.modBranch b fun k => { k with liveI := (before.branch b).liveI, liveT := (before.branch b).liveT }) s
  { s with lcw.table := before.lcw.table, fwc.fbLimit := before.fwc.fbLimit }

/-! ### Applying (R473, R474, R482, R485) -/

/-- Enables a branch that is OFF. -/
def State.enableOff (s : State) (b : Nat) : State :=
  if s.branchState b = 0 then s.writeReg .fwp (pCRPBR b + 0x100) 4 1 else s

/-- Closes a feed: CF_CTRL.EN = 1. -/
def State.closeFeed (s : State) : State :=
  s.writeReg .fwp (pCRPFEED + 0x100) 4 (1 + 2 * s.fget pCRPFEED CF_CTRL_RETURN)

/-- Sets or clears CRP_GCTRL.PROFILE_OK. -/
def State.setProfileOk (s : State) (b : Bool) : State :=
  s.writeReg .fwp (pCRPGLOB + 0x104) 4 (CRP_GCTRL_PROFILE_OK.put (s.rd (pCRPGLOB + 0x104)) (bit b)).toNat

/-- Code 9 of R480, or 0: every entry keeps R478 and its range. -/
def State.entryCode (s : State) (l : List ProfEntry) : Nat := if l.all fun e => profEntryOk e && !s.rangeBad e then 0 else 9

/-- The first code of R480 that the stored profile earns before its entries are written; 0 where it passes. -/
def State.profileCode (s : State) : Nat :=
  let len := s.profField 8 4
  let b := s.profBytes
  if s.profField 0 4 != 0x46525054 then 1
  else if s.profField 0xFFFFC 4 != validMark then 2
  else if (crc32 (s.flashAt profBase len)).toNat != s.profField 0xFFFF8 4 then 3
  else if headCode b (some s.fuses.uid.toNat) != 0 then headCode b (some s.fuses.uid.toNat)
  else if !s.sealOk b (s.flashAt (profBase + b.length) 9893) then 7
  else if !fieldsOk b then 8
  else s.entryCode (entriesOf b)

/-- The profile is in force (R473 step 4, R477): its fixed fields, PROFILE_OK, a feed, and the branches of START_MASK and
HOST that are OFF. -/
def State.enterProfile (s : State) (b : List Byte) : State :=
  let f := fieldLe b
  let mask := f 0x38 2
  let s := { s with
    fwc.profValid := true, fwc.safeProfile := false, fwc.profLate := false
    fwc.profGen := BitVec.ofNat 32 (f 0x0C 4)
    fwc.silkMask := BitVec.ofNat 8 (f 0x3A 1), fwc.startMask := BitVec.ofNat 16 mask
    fwc.fanCaps := [0, 1, 2, 3].map fun i => f (0x30 + 2 * i) 2
    fwc.thermT := f 0x3C 2, fwc.thermSlope := f 0x3E 2, fwc.thermMin := f 0x40 2
    fwc.profMain := (entriesOf b).filter fun e => inMain e.1
    mainP.profDue := s.mainP.profDue || s.pins.mainPwrGood
    mainP.silkDue := s.mainP.silkDue || s.pins.mainPwrGood }
  let s := (s.setProfileOk true).closeFeed
  ((branchList.filter fun k => k = 8 || mask / 2 ^ k % 2 = 1).foldl State.enableOff s).dueDuties

/-- The safe profile (R474, R485): a feed and HOST alone, and nothing where outputs run already. -/
def State.enterSafe (s : State) : State :=
  let s := s.fset pRCK RCK_ALERT_SRC_SAFE_PROFILE 1
  let s := { s with fwc.safeProfile := true, fwc.silkMask := 0, fwc.profMain := [] }.setProfileOk false
  if s.fget pCRPFEED CF_STAT_ON != 0 || branchList.any s.driven then s else s.closeFeed.enableOff 8

/-- Applies the stored profile: its limits and entries, then the loads; the code of R480 where it is rejected (R482). -/
def State.applyProfile (s : State) : State × Nat :=
  let c := s.profileCode
  if c != 0 then (s, c)
  else
    let b := s.profBytes
    let l := entriesOf b
    let q := l.foldl State.applyEntry ({ s with fwc.fbLimit := (List.range 8).map fun i => fieldLe b (0x20 + 2 * i) 2 }, false)
    let r := if q.2 then q else q.1.applyLoads l
    if r.2 then (r.1.unapply s l, 9) else (r.1.enterProfile b, 0)

/-- A stored profile is applied in the safe profile (R483, R489). -/
def State.applyLate (s : State) : State :=
  let r := s.applyProfile
  { r.1 with fwc.profLate := false, fwc.profState := if r.2 = 0 then 4 else 5, fwc.profCode := r.2 }

/-- The records of the profile area are read, once (R473). -/
def State.readRecords (s : State) : State :=
  if s.integ.repRead then s
  else
    let s := s.readRepair.readCommis
    if s.integ.repDirty then s.saveRepair s.ledgerRuns else s

/-- PROFILE_VALIDATE (R473, R480, R485): at start-up once Carapace's state is taken (R368); in the safe profile, when a
stored one waits and HOST is ON. -/
def execProfileValidate (s : State) : Res :=
  if !s.runs 0 || !s.crp.on || s.crpDeaf then .next s
  else if !s.fwc.profValid && !s.fwc.safeProfile then
    let s := s.readRecords
    let r := s.applyProfile
    .next (if r.2 = 0 then r.1 else r.1.enterSafe)
  else if s.fwc.safeProfile && s.fwc.profLate && s.hostOn then .next s.applyLate
  else .next s

/-! ### PROFILE_WRITE (R483) -/

/-- The answer of PROFILE_WRITE. -/
def State.profAnswer (s : State) (st code : Nat) : List Byte :=
  natLe 1 st ++ natLe 1 code ++ [0, 0] ++ natLe 4 s.fwc.profGen.toNat

/-- The codes 4-6, 8 and 9 of R480 on an image that leaves out GEN, UID and SEAL. -/
def State.dryCode (s : State) (b : List Byte) : Nat :=
  if headCode b none != 0 then headCode b none else if !fieldsOk b then 8 else s.entryCode (entriesOf b)

/-- The image as stored: GEN, one more than the previous, and UID are the FX9's. -/
def State.stampImage (s : State) (b : List Byte) : List Byte :=
  let gen := if s.profField 0 4 = 0x46525054 then s.profField 0x0C 4 else s.fwc.profGen.toNat
  b.take 0x0C ++ natLe 4 (gen + 1) ++ natLe 8 s.fuses.uid.toNat ++ b.drop 0x18

/-- An image whose check gave `code` is rejected, or its writing starts: the range is erased and the image written. -/
def State.takeImage (s : State) (b : List Byte) (poisoned : Bool) (code : Nat) : State :=
  let k := s.freeWord
  if poisoned then { k.2.bite with fwc.profState := 5, fwc.profCode := k.1.toNat % 256 }
  else if code != 0 then { s with fwc.profState := 5, fwc.profCode := code }
  else { ((s.eraseFlash profBase rangeSize).putFlash profBase (s.stampImage b)) with fwc.profState := 2, fwc.profCode := 0 }

/-- PROFILE_WRITE (R483). The code of an image that reads poisoned is a value the spec does not give (log 1). -/
def execProfileWrite (slot : Fin 4) (s : State) : Res :=
  let i := slot.val
  .next (mbRow i 0x40 (fun s =>
    let a := s.payload i 0 8
    let len := s.payload i 8 4
    if len = 0 then s.respond i 0 (s.profAnswer s.fwc.profState s.fwc.profCode)
    else if s.fwc.profState = 2 then s.respond i 6 []
    else if s.flag pDGT DGT_STAT_KEY_EXHAUSTED then s.deny i 2
    else
      let r := s.fabRead a len
      let s := r.2.2
      if len != 0x80 + 12 * fieldLe r.1 0x1C 4 then s.respond i 5 []
      else (s.respond i 0 (s.profAnswer 1 0)).takeImage r.1 r.2.1 (s.dryCode r.1)) s)

/-- Seals the image in the range: the signature, the CRC, the VALID word last. -/
def State.sealImage (s : State) : State :=
  let b := s.profBytes
  let k := s.useKey
  let s := k.2.putFlash (profBase + b.length) (signature s.fuses.pubKey (profDigest b) k.1)
  let s := s.putFlash (profBase + 0xFFFF8) (natLe 4 (crc32 (s.flashAt profBase (b.length + 9893))).toNat)
  { (s.putFlash (profBase + 0xFFFFC) (natLe 4 validMark)) with fwc.profState := 3 }

/-- PROFILE_STORED (R483, R489): in the safe profile it applies at once, or when HOST is ON. -/
def execProfileStored (s : State) : Res :=
  if s.fwc.profState != 2 || !s.runs 2 || !s.ledgerRuns || s.flag pDGT DGT_STAT_KEY_EXHAUSTED then .next s
  else
    let s := s.sealImage
    .next (if !s.fwc.safeProfile then s
      else if s.hostOn && s.runs 0 && !s.crpDeaf then s.applyLate
      else { s with fwc.profLate := true })

end Sys2Proof.Machine
end

