-- ==== Sys2Proof/Machine/SilkUnits.lean ====
section
/-! DEFINITION. Units received on a Silk port (R274-R285, R289, R293-R296): the checks of every unit, and the commands that
are the arrival of one unit of each type. -/

namespace Sys2Proof.Machine

/-- The units of credit that a received unit takes are owed until a CREDIT returns them (R277). -/
def State.owe (s : State) (p : Nat) (u : SilkUnit) : State :=
  let c := unitClass u.typ.toNat
  if c = 5 then s else s.modPort p fun k => { k with owed := setNth k.owed c (nth k.owed c + unitBlocks u) }

/-- A dropped unit, or one answered with ERR (R280, R284). -/
def State.dropUnit (s : State) (p reason typ : Nat) : State :=
  (((s.count (pSLK p) SLK_DROP).fset (pSLK p) SLK_LAST_DROP_REASON reason).fset (pSLK p) SLK_LAST_DROP_TYPE typ).raise
    (pSLK p) 7

/-- Whether `n` bytes at `a` lie wholly inside the port's window. -/
def State.inWindow (s : State) (p a n : Nat) : Bool :=
  let b := s.pget (pSLK p) SLK_WIN_BASE
  let m := s.pget (pSLK p) SLK_WIN_SIZE
  b ≤ a && a + n ≤ b + m

/-- Whether `n` bytes at a 48-bit address are line-aligned and cross no 4 KiB boundary. -/
def lineOk (a n : Nat) : Bool := a < 2 ^ 48 && a % 64 = 0 && a % 4096 + n ≤ 4096

/-- Writes the lines of a MEM_WR, each with its poison mark (R280, R281). -/
def State.writeLines (s : State) (a : Nat) (bs : List Byte) (mask i : Nat) : Nat → State
  | 0 => s
  | n + 1 => (s.fabWrite a (slice bs 0 64) (mask / 2 ^ i % 2 = 1)).writeLines (a + 64) (bs.drop 64) mask (i + 1) n

/-- A MEM_WR (R280, R281). -/
def State.takeMemWr (s : State) (p : Nat) (u : SilkUnit) : State :=
  let n := u.len.toNat
  let a := u.arg.toNat
  if s.inWindow p a n then s.writeLines a u.payload u.pmask.toNat 0 (n / 64) else s.dropUnit p 1 1

/-- The reason a Silk post is refused (R232), 0 where it is appended. -/
def State.nakReason (s : State) (p q : Nat) : Nat :=
  let k := s.queue q
  if !k.enabled || k.disabling then 3 else if k.producer != p then 4 else if k.full then 5 else 0

/-- A RESPONSE unit without payload. -/
def ackUnit (typ : Nat) (tag : BitVec 16) (arg : Nat) : SilkUnit :=
  { typ := BitVec.ofNat 8 typ, flags := 0, len := 0, tag := tag, pmask := 0, rsv := 0, arg := BitVec.ofNat 64 arg
    payload := [] }

/-- A RCPT (R232, R283); its lines are stored with the poison marks they carry (R274). -/
def State.takeRcpt (s : State) (p : Nat) (u : SilkUnit) : State :=
  let q := u.arg.toNat
  let why := s.nakReason p q
  if why != 0 then (((s.count pQMG QMG_NAK_CNT).qmgErr q why).raise pQMG 3).sendUnit p (ackUnit 0x22 u.tag why)
  else
    let k := s.queue q
    let n := k.seqHi.toNat % 2 ^ 48 * 65536 + k.prod.toNat
    let s := ((s.writeLines (k.slot n) (slice u.payload 0 128) u.pmask.toNat 0 2).append q p).showQmg
    let s := (s.fset (pSLK p) SLK_LAST_RCPT_TAG u.tag.toNat).fset (pSLK p) SLK_STAT_RCPT_TAG_VALID 1
    s.sendUnit p (ackUnit 0x21 u.tag n)

/-- The answer to a MEM_RD of `m` lines. -/
def cplUnit (tag : BitVec 16) (m flags mask : Nat) (bs : List Byte) : SilkUnit :=
  { typ := 0x20, flags := BitVec.ofNat 8 flags, len := BitVec.ofNat 16 (64 * m), tag := tag
    pmask := BitVec.ofNat 8 mask, rsv := 0, arg := 0, payload := bs }

/-- The marks of `m` lines at `a`, bit i for line i. -/
def State.lineMask (s : State) (a m : Nat) : Nat :=
  (List.range m).foldl (fun k i => k + bit (s.fabPoison (a + 64 * i) 64) * 2 ^ i) 0

/-- A MEM_RD (R280, R281): the lines with their poison marks; outside the window zeros with every mark set and ERR. -/
def State.takeMemRd (s : State) (p : Nat) (u : SilkUnit) : State :=
  let a := u.arg.toNat % 2 ^ 48
  let m := u.arg.toNat / 2 ^ 48 % 8 + 1
  if s.inWindow p a (64 * m) then
    let s := s.noteAccess a (64 * m)
    let mask := s.lineMask a m
    (if mask = 0 then s else s.bite).sendUnit p (cplUnit u.tag m 0 mask (s.fabBytes a (64 * m)))
  else (s.dropUnit p 2 0x10).sendUnit p (cplUnit u.tag m 2 0xFF (List.replicate (64 * m) 0))

/-- A REPLAY_RSP (R264, R284). -/
def State.takeReplayRsp (s : State) (p : Nat) (u : SilkUnit) : State :=
  match s.qw.replays.find? fun x => x.port = p && x.tag = u.tag && x.sent with
  | none => s.dropUnit p 3 0x23
  | some x =>
    let d := slice u.payload 0 32
    s.endReplay x (replayVerdict x (if d = slice x.receipt.bytes 0x40 32 then 0 else 1) 0 d)

/-- A CAP_ACK (R289, R387): the acknowledgement of the latest GEN ends ACK_LATE and the throttle it set. -/
def State.takeCapAck (s : State) (p : Nat) (u : SilkUnit) : State :=
  let g := pGOVACC p
  let gen := fieldLe u.payload 0 2
  let s := s.fset g GA_GEN_ACKED gen
  if gen != s.fget g GA_GEN_SENT then s
  else
    let s := s.modAcc p fun k => { k with ackDue := none }
    if s.flag g GA_STAT_ACK_LATE then ((s.fset g GA_STAT_ACK_LATE 0).hwSet (pSLK p) SLK_CTRL_THR 0).throttle p else s

/-- A TELEMETRY (R293). -/
def State.takeTelemetry (s : State) (p : Nat) (u : SilkUnit) : State :=
  let b := pSLK p
  let f (o n : Nat) : Nat := fieldLe u.payload o n
  let s := ((s.fset b SLK_TEL_PWR_EST (f 0 2)).fset b SLK_TEL_PWR_TEMP (f 2 2)).fset b SLK_TEL_STATE_STATE (f 4 2)
  let s := ((s.fset b SLK_TEL_STATE_GEN (f 6 2)).pset b SLK_TEL_TICK (f 8 8)).fset b SLK_STAT_FALLBACK (f 4 2 / 2 % 2)
  s.modPort p fun k => { k with telStale := false }

/-- An INIT (R276, R296): version and credits are checked, and the first SET_CAP takes the port UP. -/
def State.takeInit (s : State) (p : Nat) (u : SilkUnit) : State :=
  let b := pSLK p
  let cred := (List.range 5).map fun i => fieldLe u.payload (4 + 2 * i) 2
  if s.portState p != 4 then s
  else if fieldLe u.payload 0 1 != 1 then s.portDown p 3
  else if nth cred 0 < 4 || nth cred 3 < 32 || nth cred 4 < 18 then s.portDown p 7
  else
    let s := ((s.fset b SLK_CRED0_CONTROL (nth cred 0)).fset b SLK_CRED0_RESPONSE (nth cred 3)).fset b SLK_CRED1_REPLAY
      (nth cred 4)
    let s := (s.pset b SLK_ACC_ID (fieldLe u.payload 0x10 8)).modPort p fun k =>
      { k with cred := cred, initSeen := true, firstCap := false }
    (((s.setPort p 5).firstSetCap p).fset b SLK_DOWN_ATTEMPTS 0).raise b 3

/-- A CREDIT (R277). -/
def State.takeCredit (s : State) (p : Nat) (u : SilkUnit) : State :=
  (s.modPort p fun k => { k with
    cred := (List.range 5).map fun i => nth k.cred i + fieldLe u.payload (2 * i) 2 }).flushPort p

/-! ### The arrival of a unit (R274, R275, R282) -/

/-- Whether the table of R275 permits a unit an accelerator sends: its type, LEN, address and reserved fields. The reserved
fields of an INIT are read at version 1.0 alone: a later minor version may fill them, and another major version is VERSION
(R296, log 62). -/
def unitOk (u : SilkUnit) : Bool :=
  let n := u.len.toNat
  let a := u.arg.toNat
  let f (o n : Nat) : Nat := fieldLe u.payload o n
  match u.typ.toNat with
  | 0x01 => 64 ≤ n && n ≤ 512 && n % 64 = 0 && lineOk a n
  | 0x02 => n = 128 && a < 2 ^ 20
  | 0x03 => n = 48 && f 0x28 8 = 0
  | 0x10 => n = 0 && a < 2 ^ 51 && lineOk (a % 2 ^ 48) (64 * (a / 2 ^ 48 % 8 + 1))
  | 0x23 => n = 32
  | 0x38 => n = 16
  | 0x39 => n = 16
  | 0x3A => n = 16 && leNat u.payload = 0
  | 0x3B => n = 16
  | 0x3C => n = 16 && f 4 2 < 16
  | 0x3E => n = 32 && (f 0 2 != 1 || (f 2 1 < 2 && f 3 1 = 0 && f 0x18 8 = 0))
  | 0x3F => n = 16 && f 10 6 = 0
  | _ => false

/-- What a unit does, by its TYPE. -/
def State.takeUnit (s : State) (p : Nat) (u : SilkUnit) : State :=
  match u.typ.toNat with
  | 0x01 => s.takeMemWr p u
  | 0x02 => s.takeRcpt p u
  | 0x03 => s.chkptFrom p u.payload
  | 0x10 => s.takeMemRd p u
  | 0x23 => s.takeReplayRsp p u
  | 0x38 => (s.fset (pSLK p) SLK_STAT_HALTED 1).raise (pSLK p) 6
  | 0x39 => s.takeCapAck p u
  | 0x3A => if s.portState p = 6 then s.shutPort p else s
  | 0x3B => s.wr (pSLK p + SLK_ALERT_CLASS.off) (BitVec.ofNat 32 (fieldLe u.payload 0 4))
  | 0x3C => s.takeTelemetry p u
  | 0x3E => s.takeInit p u
  | 0x3F => s.takeCredit p u
  | _ => s

/-- The arrival of a unit: a port outside INIT, UP and SHUTTING or out of L0 receives nothing, and filler is skipped; a unit
with a reserved bit set, or that R275 does not permit, is a protocol error; before UP only INIT and CREDIT act (log 26). -/
def State.recvUnit (s : State) (p : Nat) (u : SilkUnit) : State :=
  let st := s.portState p
  if !s.pins.mainPwrGood || !(4 ≤ st && st ≤ 6) || !(s.port p).inL0 || u.typ = 0 then s
  else if u.rsv != 0 || 4 ≤ u.flags.toNat || !unitOk u then s.portDown p 8
  else if st = 4 && unitClass u.typ.toNat != 5 then s
  else (s.owe p u).takeUnit p u

/-- MEM_WR (R280): the unit that arrives acts by its TYPE, here and in the rows below. -/
def execMemWr (port : Port) (unit : SilkUnit) (s : State) : Res := .next (s.recvUnit port.val unit)

/-- RCPT (R232, R283). -/
def execRcpt (port : Port) (unit : SilkUnit) (s : State) : Res := .next (s.recvUnit port.val unit)

/-- CHKPT (R267, R285). -/
def execChkpt (port : Port) (unit : SilkUnit) (s : State) : Res := .next (s.recvUnit port.val unit)

/-- MEM_RD (R280, R281). -/
def execMemRd (port : Port) (unit : SilkUnit) (s : State) : Res := .next (s.recvUnit port.val unit)

/-- REPLAY_RSP (R264, R284). -/
def execReplayRsp (port : Port) (unit : SilkUnit) (s : State) : Res := .next (s.recvUnit port.val unit)

/-- HALT_ACK (R295). -/
def execHaltAck (port : Port) (unit : SilkUnit) (s : State) : Res := .next (s.recvUnit port.val unit)

/-- CAP_ACK (R289, R387). -/
def execCapAck (port : Port) (unit : SilkUnit) (s : State) : Res := .next (s.recvUnit port.val unit)

/-- QUIESCE_ACK (R300). -/
def execQuiesceAck (port : Port) (unit : SilkUnit) (s : State) : Res := .next (s.recvUnit port.val unit)

/-- ALERT_INFO (R294). -/
def execAlertInfo (port : Port) (unit : SilkUnit) (s : State) : Res := .next (s.recvUnit port.val unit)

/-- TELEMETRY (R293). -/
def execTelemetry (port : Port) (unit : SilkUnit) (s : State) : Res := .next (s.recvUnit port.val unit)

/-- INIT (R276, R296). -/
def execSilkInit (port : Port) (unit : SilkUnit) (s : State) : Res := .next (s.recvUnit port.val unit)

/-- CREDIT (R277), with the flit retries and FEC corrections of the link since the last one, which no row of its own counts
(log 90). -/
def execCredit (port : Port) (unit : SilkUnit) (retries corrected : Nat) (s : State) : Res :=
  let b := pSLK port.val
  let s := if s.pins.mainPwrGood && (s.port port.val).inL0 then
      (s.fset b SLK_FLIT_RETRY (sat32 (s.fget b SLK_FLIT_RETRY + retries))).fset b SLK_FEC_CORR
        (sat32 (s.fget b SLK_FEC_CORR + corrected))
    else s
  .next (s.recvUnit port.val unit)

end Sys2Proof.Machine
end

