-- ==== Sys2Proof/Machine/Startup.lean ====
section
/-! DEFINITION. Start-up and the resets of the whole die (R425, R469, R484): ROM, ALWAYS reset, Carapace's power-on reset. -/

namespace Sys2Proof.Machine

/-! ### ROM (R425, R426) -/

/-- Step 1: a TRIAL slot with no boots left is REJECTED for a COMMITTED one; otherwise a boot of it is used up. -/
def State.romTries (s : State) : State :=
  let b := s.bcr.2
  let i := b.active % 2
  if b.slot i != 2 then s
  else if b.tries = 0 then
    s.setBcr fun b => if b.slot (1 - i) = 3 then { b.setSlot i 4 with active := 1 - i } else b.setSlot i 4
  else s.setBcr fun b => { b with tries := b.tries - 1 }

/-- A boot from slot `i`: a TRIAL slot starts its trial (R441). -/
def State.romBoot (s : State) (i : Nat) : State :=
  let s := s.boot i
  if s.bcr.2.slot i = 2 then
    ({ s with fwc.trialStart := s.nowNs }.fset pFWC FWC_TRIAL_LEFT (s.imgField i 0x0E 2)).setUpd 7 0
  else s

/-- Step 2: the active image, or the other one where it is COMMITTED; with neither, recovery (R426). -/
def State.romImage (s : State) : State :=
  let i := s.bcr.2.active % 2
  let j := 1 - i
  if s.checkImage i = 0 then s.romBoot i
  else
    let s := s.setBcr fun b => b.setSlot i 4
    if s.checkImage j != 0 then { (s.setBcr fun b => b.setSlot j 4) with fwc.recovery := true }
    else if s.bcr.2.slot j = 3 then (s.setBcr fun b => { b with active := j }).romBoot j
    else { s with fwc.recovery := true }

/-- ROM_BOOT (R425): once the ALWAYS domain has left reset, which it does only after Carapace (R469). SEP_NONCE is new
(R464). -/
def execRomBoot (s : State) : Res :=
  if !s.crp.on || s.fwc.romDone then .next s
  else .next ({ s.newNonce with fwc.romDone := true }.romTries.romImage.showFwc)

/-! ### Resets (R484) -/

/-- What no reset touches: flash with its counter journal, fuses, and the model's own fields. -/
def State.afterReset (s : State) : State :=
  let r : State := { State.reset with
    flash := s.flash
    fuses := s.fuses
    sep.cjOp := s.sep.cjOp
    sep.cjCycles := s.sep.cjCycles
    sep.cjNo := s.sep.cjNo
    sep.opAtUp := s.sep.cjOp
    nowNs := s.nowNs
    free := s.free
    outs := s.outs
    pending := s.pending }
  r.pset pSEP SEP_OPSEC s.sep.cjOp

/-- A register that Carapace holds: the blocks of the CRP and HZD pages. -/
def carapaceWord (k : Nat) : Bool :=
  let p := k / 0x10000
  0x100 ≤ k % 0x10000 && k < 0x4000000 && ((0x80 ≤ p && p < 0x8E) || p = 0xA2 || p = 0xA3)

/-- ALWAYS_RESET (R469, R484, R485): the conductor die resets and MAIN goes down; Carapace, its pages and outputs go on, and
levels that others drive stand. -/
def execAlwaysReset (s : State) : Res :=
  let r := s.afterReset
  .next { r with
    regs := (s.regs.filter fun e => carapaceWord e.1).foldl (fun t e => Tab.insert t e.1 e.2) r.regs
    crp := s.crp
    hzd := s.hzd
    pins := { r.pins with
      rackLimitLow := s.pins.rackLimitLow, tapConnected := s.pins.tapConnected, trayExtLow := s.pins.trayExtLow }
    slk := portList.foldl (fun t p => Tab.set t p { pgBranch := (s.port p).pgBranch, alertLow := (s.port p).alertLow } {}) [] }

/-- CARAPACE_POWER_ON_RESET (R32, R484): the entire package; only flash and fuses keep. -/
def execCarapacePowerOnReset (s : State) : Res := .next s.afterReset

end Sys2Proof.Machine
end

