-- ==== Sys2Proof/Machine/Dispatch.lean ====
section
/-! DEFINITION. The dispatch: one arm per command. -/

namespace Sys2Proof.Machine

def exec (i : Instr) (s : State) : Host.Outcome State Fault Refusal :=
  match i with
  | .registerWrite cls addr size value => Sys2Proof.Machine.execRegisterWrite cls addr size value s
  | .readClear cls addr size => Sys2Proof.Machine.execReadClear cls addr size s
  | .loRead cls addr size => Sys2Proof.Machine.execLoRead cls addr size s
  | .hiWrite cls addr value => Sys2Proof.Machine.execHiWrite cls addr value s
  | .softReset cls page => Sys2Proof.Machine.execSoftReset cls page s
  | .softResetDone page => Sys2Proof.Machine.execSoftResetDone page s
  | .irqSet cls page value => Sys2Proof.Machine.execIrqSet cls page value s
  | .errClr cls page value => Sys2Proof.Machine.execErrClr cls page value s
  | .accessMaskWrite cls page value => Sys2Proof.Machine.execAccessMaskWrite cls page value s
  | .strictSet cls => Sys2Proof.Machine.execStrictSet cls s
  | .strictClear cls bits => Sys2Proof.Machine.execStrictClear cls bits s
  | .modeBitWrite cls bits => Sys2Proof.Machine.execModeBitWrite cls bits s
  | .deviceIdleBoundary => Sys2Proof.Machine.execDeviceIdleBoundary s
  | .mainLoss => Sys2Proof.Machine.execMainLoss s
  | .pllLockLoss dom => Sys2Proof.Machine.execPllLockLoss dom s
  | .clkKrmLimitWrite cls value => Sys2Proof.Machine.execClkKrmLimitWrite cls value s
  | .carapacePowerOn pins => Sys2Proof.Machine.execCarapacePowerOn pins s
  | .carapacePowerOnReset => Sys2Proof.Machine.execCarapacePowerOnReset s
  | .nop core => Sys2Proof.Machine.execNop core s
  | .dot core op found => Sys2Proof.Machine.execDot core op found s
  | .dot2 core op found => Sys2Proof.Machine.execDot2 core op found s
  | .dotg core op found => Sys2Proof.Machine.execDotg core op found s
  | .vnop core => Sys2Proof.Machine.execVnop core s
  | .vadd core vd va vb => Sys2Proof.Machine.execVadd core vd va vb s
  | .vsub core vd va vb => Sys2Proof.Machine.execVsub core vd va vb s
  | .vmul core vd va vb => Sys2Proof.Machine.execVmul core vd va vb s
  | .vfma core vd va vb vc => Sys2Proof.Machine.execVfma core vd va vb vc s
  | .vmax core vd va vb => Sys2Proof.Machine.execVmax core vd va vb s
  | .vmin core vd va vb => Sys2Proof.Machine.execVmin core vd va vb s
  | .vcmplt core vd va vb => Sys2Proof.Machine.execVcmplt core vd va vb s
  | .vcmple core vd va vb => Sys2Proof.Machine.execVcmple core vd va vb s
  | .vcmpeq core vd va vb => Sys2Proof.Machine.execVcmpeq core vd va vb s
  | .vsel core vd va vb vc => Sys2Proof.Machine.execVsel core vd va vb vc s
  | .vmov core vd va => Sys2Proof.Machine.execVmov core vd va s
  | .vabs core vd va => Sys2Proof.Machine.execVabs core vd va s
  | .vneg core vd va => Sys2Proof.Machine.execVneg core vd va s
  | .vbcast core vd va lane => Sys2Proof.Machine.execVbcast core vd va lane s
  | .vexp core vd va => Sys2Proof.Machine.execVexp core vd va s
  | .vrcp core vd va => Sys2Proof.Machine.execVrcp core vd va s
  | .vrsqrt core vd va => Sys2Proof.Machine.execVrsqrt core vd va s
  | .vtanh core vd va => Sys2Proof.Machine.execVtanh core vd va s
  | .vrsum core vd va => Sys2Proof.Machine.execVrsum core vd va s
  | .vrmax core vd va => Sys2Proof.Machine.execVrmax core vd va s
  | .vcvti core vd va => Sys2Proof.Machine.execVcvti core vd va s
  | .vcvtf core vd va => Sys2Proof.Machine.execVcvtf core vd va s
  | .vquant core vd va fmt sat => Sys2Proof.Machine.execVquant core vd va fmt sat s
  | .vdequant core vd va fmt => Sys2Proof.Machine.execVdequant core vd va fmt s
  | .vacc core va aop row => Sys2Proof.Machine.execVacc core va aop row s
  | .mnop core => Sys2Proof.Machine.execMnop core s
  | .ldv core vreg ag found => Sys2Proof.Machine.execLdv core vreg ag found s
  | .stv core vreg ag => Sys2Proof.Machine.execStv core vreg ag s
  | .ldh core vreg ag fmt found => Sys2Proof.Machine.execLdh core vreg ag fmt found s
  | .sth core vreg ag fmt sat => Sys2Proof.Machine.execSth core vreg ag fmt sat s
  | .ldq core vreg ag fmt sag found => Sys2Proof.Machine.execLdq core vreg ag fmt sag found s
  | .stq core vreg ag fmt sag => Sys2Proof.Machine.execStq core vreg ag fmt sag s
  | .rdacc core vreg row => Sys2Proof.Machine.execRdacc core vreg row s
  | .clracc core row => Sys2Proof.Machine.execClracc core row s
  | .acfg core row entry => Sys2Proof.Machine.execAcfg core row entry s
  | .setag core ag entry => Sys2Proof.Machine.execSetag core ag entry s
  | .ldc core vreg entry => Sys2Proof.Machine.execLdc core vreg entry s
  | .dma core entry => Sys2Proof.Machine.execDma core entry s
  | .dmaComplete core tag err found => Sys2Proof.Machine.execDmaComplete core tag err found s
  | .red core entry => Sys2Proof.Machine.execRed core entry s
  | .reductionComplete entry => Sys2Proof.Machine.execReductionComplete entry s
  | .snop core => Sys2Proof.Machine.execSnop core s
  | .loop core arg => Sys2Proof.Machine.execLoop core arg s
  | .loopc core entry => Sys2Proof.Machine.execLoopc core entry s
  | .endl core => Sys2Proof.Machine.execEndl core s
  | .barq core ident => Sys2Proof.Machine.execBarq core ident s
  | .barc core ident => Sys2Proof.Machine.execBarc core ident s
  | .barrierRelease scope => Sys2Proof.Machine.execBarrierRelease scope s
  | .waitd core tag => Sys2Proof.Machine.execWaitd core tag s
  | .phase core ph => Sys2Proof.Machine.execPhase core ph s
  | .mark core arg => Sys2Proof.Machine.execMark core arg s
  | .endStream core => Sys2Proof.Machine.execEndStream core s
  | .coreStart core => Sys2Proof.Machine.execCoreStart core s
  | .kermesWatchdog core => Sys2Proof.Machine.execKermesWatchdog core s
  | .submit cls => Sys2Proof.Machine.execSubmit cls s
  | .jobLoad => Sys2Proof.Machine.execJobLoad s
  | .loadComplete => Sys2Proof.Machine.execLoadComplete s
  | .launch => Sys2Proof.Machine.execLaunch s
  | .completionRecord => Sys2Proof.Machine.execCompletionRecord s
  | .halt cls => Sys2Proof.Machine.execHalt cls s
  | .fence cls core => Sys2Proof.Machine.execFence cls core s
  | .coreFenced core cause => Sys2Proof.Machine.execCoreFenced core cause s
  | .unfence cls core => Sys2Proof.Machine.execUnfence cls core s
  | .selftestDone core pass => Sys2Proof.Machine.execSelftestDone core pass s
  | .clrArith cls core => Sys2Proof.Machine.execClrArith cls core s
  | .spareActivate cls quad slot => Sys2Proof.Machine.execSpareActivate cls quad slot s
  | .spareDone quad pass => Sys2Proof.Machine.execSpareDone quad pass s
  | .pstateEnter => Sys2Proof.Machine.execPstateEnter s
  | .wake => Sys2Proof.Machine.execWake s
  | .corePowerDownDone core => Sys2Proof.Machine.execCorePowerDownDone core s
  | .repairSlot core bank found => Sys2Proof.Machine.execRepairSlot core bank found s
  | .tierWriteBack line => Sys2Proof.Machine.execTierWriteBack line s
  | .patrolRead chan found => Sys2Proof.Machine.execPatrolRead chan found s
  | .tierReady chan => Sys2Proof.Machine.execTierReady chan s
  | .rowSparing core bank row => Sys2Proof.Machine.execRowSparing core bank row s
  | .remap mem line bad => Sys2Proof.Machine.execRemap mem line bad s
  | .channelFence cls chan => Sys2Proof.Machine.execChannelFence cls chan s
  | .ffyLoad cls => Sys2Proof.Machine.execFfyLoad cls s
  | .frameSlot reflection => Sys2Proof.Machine.execFrameSlot reflection s
  | .frameAccept line frac => Sys2Proof.Machine.execFrameAccept line frac s
  | .holdover => Sys2Proof.Machine.execHoldover s
  | .validLost => Sys2Proof.Machine.execValidLost s
  | .echoGo cls => Sys2Proof.Machine.execEchoGo cls s
  | .calDone => Sys2Proof.Machine.execCalDone s
  | .traySyncPulse contention => Sys2Proof.Machine.execTraySyncPulse contention s
  | .timebaseLoss => Sys2Proof.Machine.execTimebaseLoss s
  | .timebaseLockReturn => Sys2Proof.Machine.execTimebaseLockReturn s
  | .post db => Sys2Proof.Machine.execPost db s
  | .vack db => Sys2Proof.Machine.execVack db s
  | .enable db => Sys2Proof.Machine.execEnable db s
  | .disable db => Sys2Proof.Machine.execDisable db s
  | .queueDisabled q => Sys2Proof.Machine.execQueueDisabled q s
  | .arm db => Sys2Proof.Machine.execArm db s
  | .dispatchPass => Sys2Proof.Machine.execDispatchPass s
  | .receiptDispatch q => Sys2Proof.Machine.execReceiptDispatch q s
  | .seedRotate cls => Sys2Proof.Machine.execSeedRotate cls s
  | .register cls slot => Sys2Proof.Machine.execRegister cls slot s
  | .unregister cls slot => Sys2Proof.Machine.execUnregister cls slot s
  | .slotHashDone => Sys2Proof.Machine.execSlotHashDone s
  | .witnessSubmit => Sys2Proof.Machine.execWitnessSubmit s
  | .witnessVerdict => Sys2Proof.Machine.execWitnessVerdict s
  | .outputDigest => Sys2Proof.Machine.execOutputDigest s
  | .digestRecordWrite => Sys2Proof.Machine.execDigestRecordWrite s
  | .batchClose cls => Sys2Proof.Machine.execBatchClose cls s
  | .batchTimeout => Sys2Proof.Machine.execBatchTimeout s
  | .batchSign => Sys2Proof.Machine.execBatchSign s
  | .journalEnable cls => Sys2Proof.Machine.execJournalEnable cls s
  | .journalDisable cls => Sys2Proof.Machine.execJournalDisable cls s
  | .segmentSeal => Sys2Proof.Machine.execSegmentSeal s
  | .pin cls slot => Sys2Proof.Machine.execPin cls slot s
  | .unpin cls slot => Sys2Proof.Machine.execUnpin cls slot s
  | .replay cls target => Sys2Proof.Machine.execReplay cls target s
  | .replayTimeout port tag => Sys2Proof.Machine.execReplayTimeout port tag s
  | .lockstepEnable cls pair cfg => Sys2Proof.Machine.execLockstepEnable cls pair cfg s
  | .checkpointTimeout pair => Sys2Proof.Machine.execCheckpointTimeout pair s
  | .memWr port unit => Sys2Proof.Machine.execMemWr port unit s
  | .rcpt port unit => Sys2Proof.Machine.execRcpt port unit s
  | .chkpt port unit => Sys2Proof.Machine.execChkpt port unit s
  | .memRd port unit => Sys2Proof.Machine.execMemRd port unit s
  | .replayRsp port unit => Sys2Proof.Machine.execReplayRsp port unit s
  | .haltAck port unit => Sys2Proof.Machine.execHaltAck port unit s
  | .capAck port unit => Sys2Proof.Machine.execCapAck port unit s
  | .quiesceAck port unit => Sys2Proof.Machine.execQuiesceAck port unit s
  | .alertInfo port unit => Sys2Proof.Machine.execAlertInfo port unit s
  | .telemetry port unit => Sys2Proof.Machine.execTelemetry port unit s
  | .silkInit port unit => Sys2Proof.Machine.execSilkInit port unit s
  | .credit port unit retries corrected => Sys2Proof.Machine.execCredit port unit retries corrected s
  | .portEnable cls port => Sys2Proof.Machine.execPortEnable cls port s
  | .branchPowerGoodReport port => Sys2Proof.Machine.execBranchPowerGoodReport port s
  | .rstHoldExpiry port => Sys2Proof.Machine.execRstHoldExpiry port s
  | .linkUp port rateOk widthOk linkNo => Sys2Proof.Machine.execLinkUp port rateOk widthOk linkNo s
  | .trainTimeout port => Sys2Proof.Machine.execTrainTimeout port s
  | .initTimeout port => Sys2Proof.Machine.execInitTimeout port s
  | .portRetry port => Sys2Proof.Machine.execPortRetry port s
  | .linkRecovery port => Sys2Proof.Machine.execLinkRecovery port s
  | .recoveryFail port => Sys2Proof.Machine.execRecoveryFail port s
  | .removed port branchOff => Sys2Proof.Machine.execRemoved port branchOff s
  | .portShutdown cls port => Sys2Proof.Machine.execPortShutdown cls port s
  | .quiesceTimeout port => Sys2Proof.Machine.execQuiesceTimeout port s
  | .retrain cls port => Sys2Proof.Machine.execRetrain cls port s
  | .slkHalt cls port => Sys2Proof.Machine.execSlkHalt cls port s
  | .slkResume cls port => Sys2Proof.Machine.execSlkResume cls port s
  | .heartToggle port => Sys2Proof.Machine.execHeartToggle port s
  | .telStale port => Sys2Proof.Machine.execTelStale port s
  | .alert port => Sys2Proof.Machine.execAlert port s
  | .alertRelease port => Sys2Proof.Machine.execAlertRelease port s
  | .rackLimitAssert => Sys2Proof.Machine.execRackLimitAssert s
  | .rackLimitRelease => Sys2Proof.Machine.execRackLimitRelease s
  | .presetWithdraw => Sys2Proof.Machine.execPresetWithdraw s
  | .perst => Sys2Proof.Machine.execPerst s
  | .d3hotEntry => Sys2Proof.Machine.execD3hotEntry s
  | .hostLinkDown => Sys2Proof.Machine.execHostLinkDown s
  | .bar2Read bar off len found => Sys2Proof.Machine.execBar2Read bar off len found s
  | .bar2Write off data poisoned => Sys2Proof.Machine.execBar2Write off data poisoned s
  | .ideFail => Sys2Proof.Machine.execIdeFail s
  | .getCertificate => Sys2Proof.Machine.execGetCertificate s
  | .mbDoorbell cls slot => Sys2Proof.Machine.execMbDoorbell cls slot s
  | .mbAck cls slot => Sys2Proof.Machine.execMbAck cls slot s
  | .hello slot => Sys2Proof.Machine.execHello slot s
  | .goodbye slot => Sys2Proof.Machine.execGoodbye slot s
  | .getInfo slot => Sys2Proof.Machine.execGetInfo slot s
  | .setHostCap slot => Sys2Proof.Machine.execSetHostCap slot s
  | .setWallClock slot => Sys2Proof.Machine.execSetWallClock slot s
  | .wallClockApply => Sys2Proof.Machine.execWallClockApply s
  | .sepiaClear slot => Sys2Proof.Machine.execSepiaClear slot s
  | .clearDone => Sys2Proof.Machine.execClearDone s
  | .profileWrite slot => Sys2Proof.Machine.execProfileWrite slot s
  | .profileStored => Sys2Proof.Machine.execProfileStored s
  | .fwStage slot => Sys2Proof.Machine.execFwStage slot s
  | .updDone flashErr => Sys2Proof.Machine.execUpdDone flashErr s
  | .activate slot => Sys2Proof.Machine.execActivate slot s
  | .confirm slot => Sys2Proof.Machine.execConfirm slot s
  | .cancel slot => Sys2Proof.Machine.execCancel slot s
  | .hbWrite cls => Sys2Proof.Machine.execHbWrite cls s
  | .driverLost => Sys2Proof.Machine.execDriverLost s
  | .haltKrm cls path => Sys2Proof.Machine.execHaltKrm cls path s
  | .haltAcc cls path => Sys2Proof.Machine.execHaltAcc cls path s
  | .dispatchOff cls => Sys2Proof.Machine.execDispatchOff cls s
  | .trayDrive cls path pull => Sys2Proof.Machine.execTrayDrive cls path pull s
  | .trayHalt other => Sys2Proof.Machine.execTrayHalt other s
  | .entdaa port addr => Sys2Proof.Machine.execEntdaa port addr s
  | .setdasa port static addr => Sys2Proof.Machine.execSetdasa port static addr s
  | .setEndpointId port eid => Sys2Proof.Machine.execSetEndpointId port eid s
  | .getEndpointId port => Sys2Proof.Machine.execGetEndpointId port s
  | .getMctpVersionSupport port => Sys2Proof.Machine.execGetMctpVersionSupport port s
  | .getMessageTypeSupport port => Sys2Proof.Machine.execGetMessageTypeSupport port s
  | .getTid port => Sys2Proof.Machine.execGetTid port s
  | .getPldmVersion port type => Sys2Proof.Machine.execGetPldmVersion port type s
  | .getPldmTypes port => Sys2Proof.Machine.execGetPldmTypes port s
  | .getPldmCommands port type => Sys2Proof.Machine.execGetPldmCommands port type s
  | .getPdrRepositoryInfo port => Sys2Proof.Machine.execGetPdrRepositoryInfo port s
  | .getPdr port handle => Sys2Proof.Machine.execGetPdr port handle s
  | .getSensorReading port sensor => Sys2Proof.Machine.execGetSensorReading port sensor s
  | .getStateSensorReadings port sensor => Sys2Proof.Machine.execGetStateSensorReadings port sensor s
  | .getNumericEffecterValue port effecter => Sys2Proof.Machine.execGetNumericEffecterValue port effecter s
  | .setNumericEffecterValue port effecter value => Sys2Proof.Machine.execSetNumericEffecterValue port effecter value s
  | .setStateEffecterStates port stop => Sys2Proof.Machine.execSetStateEffecterStates port stop s
  | .pollForPlatformEventMessage port => Sys2Proof.Machine.execPollForPlatformEventMessage port s
  | .queryDeviceIdentifiers port => Sys2Proof.Machine.execQueryDeviceIdentifiers port s
  | .getFirmwareParameters port => Sys2Proof.Machine.execGetFirmwareParameters port s
  | .requestUpdate port => Sys2Proof.Machine.execRequestUpdate port s
  | .passComponentTable port table => Sys2Proof.Machine.execPassComponentTable port table s
  | .updateComponent port image => Sys2Proof.Machine.execUpdateComponent port image s
  | .transferComplete port => Sys2Proof.Machine.execTransferComplete port s
  | .verifyComplete port flashErr => Sys2Proof.Machine.execVerifyComplete port flashErr s
  | .applyComplete port => Sys2Proof.Machine.execApplyComplete port s
  | .activateFirmware port => Sys2Proof.Machine.execActivateFirmware port s
  | .getStatus port => Sys2Proof.Machine.execGetStatus port s
  | .cancelUpdate port => Sys2Proof.Machine.execCancelUpdate port s
  | .carapaceSample sample => Sys2Proof.Machine.execCarapaceSample sample s
  | .feedQual feed => Sys2Proof.Machine.execFeedQual feed s
  | .feedReady feed => Sys2Proof.Machine.execFeedReady feed s
  | .feedOv feed => Sys2Proof.Machine.execFeedOv feed s
  | .feedEn cls en => Sys2Proof.Machine.execFeedEn cls en s
  | .feedClose => Sys2Proof.Machine.execFeedClose s
  | .feedUv feed => Sys2Proof.Machine.execFeedUv feed s
  | .feedReverse feed => Sys2Proof.Machine.execFeedReverse feed s
  | .feedReturn => Sys2Proof.Machine.execFeedReturn s
  | .feedSwitch cls => Sys2Proof.Machine.execFeedSwitch cls s
  | .feedClear cls => Sys2Proof.Machine.execFeedClear cls s
  | .feedInst feed peak => Sys2Proof.Machine.execFeedInst feed peak s
  | .busLoss => Sys2Proof.Machine.execBusLoss s
  | .branchEn cls branch en => Sys2Proof.Machine.execBranchEn cls branch en s
  | .branchClear cls branch => Sys2Proof.Machine.execBranchClear cls branch s
  | .curveLoad cls branch => Sys2Proof.Machine.execCurveLoad cls branch s
  | .rampStart branch => Sys2Proof.Machine.execRampStart branch s
  | .gateStuck branch => Sys2Proof.Machine.execGateStuck branch s
  | .rampLag branch => Sys2Proof.Machine.execRampLag branch s
  | .rampTimeout branch => Sys2Proof.Machine.execRampTimeout branch s
  | .powerGood branch => Sys2Proof.Machine.execPowerGood branch s
  | .powerGoodLoss branch => Sys2Proof.Machine.execPowerGoodLoss branch s
  | .gateCollapse branch => Sys2Proof.Machine.execGateCollapse branch s
  | .branchInst branch => Sys2Proof.Machine.execBranchInst branch s
  | .backoffExpiry branch => Sys2Proof.Machine.execBackoffExpiry branch s
  | .retryReset branch => Sys2Proof.Machine.execRetryReset branch s
  | .shutdownComplete branch held => Sys2Proof.Machine.execShutdownComplete branch held s
  | .carapaceFrame valid ack => Sys2Proof.Machine.execCarapaceFrame valid ack s
  | .holdFrame => Sys2Proof.Machine.execHoldFrame s
  | .linkSilence => Sys2Proof.Machine.execLinkSilence s
  | .keeperSafeDuty => Sys2Proof.Machine.execKeeperSafeDuty s
  | .governorTick fresh => Sys2Proof.Machine.execGovernorTick fresh s
  | .krmStepUp => Sys2Proof.Machine.execKrmStepUp s
  | .yieldEnd => Sys2Proof.Machine.execYieldEnd s
  | .avsbusRead watts => Sys2Proof.Machine.execAvsbusRead watts s
  | .mismatch acc => Sys2Proof.Machine.execMismatch acc s
  | .distrust acc => Sys2Proof.Machine.execDistrust acc s
  | .trustRestored acc => Sys2Proof.Machine.execTrustRestored acc s
  | .retrust cls acc => Sys2Proof.Machine.execRetrust cls acc s
  | .ackLate acc => Sys2Proof.Machine.execAckLate acc s
  | .noMeas => Sys2Proof.Machine.execNoMeas s
  | .dutyCompose vRail iRail => Sys2Proof.Machine.execDutyCompose vRail iRail s
  | .fanEn cls chan en => Sys2Proof.Machine.execFanEn cls chan en s
  | .fanClear cls chan => Sys2Proof.Machine.execFanClear cls chan s
  | .spinupEnd chan => Sys2Proof.Machine.execSpinupEnd chan s
  | .probeEnd chan ripple => Sys2Proof.Machine.execProbeEnd chan ripple s
  | .retryWaitEnd chan => Sys2Proof.Machine.execRetryWaitEnd chan s
  | .tachTimeout chan => Sys2Proof.Machine.execTachTimeout chan s
  | .tachRecovered chan => Sys2Proof.Machine.execTachRecovered chan s
  | .stoppingEnd chan => Sys2Proof.Machine.execStoppingEnd chan s
  | .commission cls => Sys2Proof.Machine.execCommission cls s
  | .commissDone points => Sys2Proof.Machine.execCommissDone points s
  | .ageingEvaluation chan => Sys2Proof.Machine.execAgeingEvaluation chan s
  | .thermistorConversion vsnsOk readings => Sys2Proof.Machine.execThermistorConversion vsnsOk readings s
  | .sensorFaultClear th => Sys2Proof.Machine.execSensorFaultClear th s
  | .powerStepCheck th step move => Sys2Proof.Machine.execPowerStepCheck th step move s
  | .vsnsFault => Sys2Proof.Machine.execVsnsFault s
  | .dripClassify readings => Sys2Proof.Machine.execDripClassify readings s
  | .dripClassChange rope => Sys2Proof.Machine.execDripClassChange rope s
  | .shdnAssert => Sys2Proof.Machine.execShdnAssert s
  | .relOk => Sys2Proof.Machine.execRelOk s
  | .shdnReleaseWrite cls value => Sys2Proof.Machine.execShdnReleaseWrite cls value s
  | .relSeq => Sys2Proof.Machine.execRelSeq s
  | .tableModeEntry => Sys2Proof.Machine.execTableModeEntry s
  | .resume cls => Sys2Proof.Machine.execResume cls s
  | .tblLoad cls => Sys2Proof.Machine.execTblLoad cls s
  | .alwaysReset => Sys2Proof.Machine.execAlwaysReset s
  | .romBoot => Sys2Proof.Machine.execRomBoot s
  | .profileValidate => Sys2Proof.Machine.execProfileValidate s
  | .mainPowerUp => Sys2Proof.Machine.execMainPowerUp s
  | .mainPowerGood failed => Sys2Proof.Machine.execMainPowerGood failed s
  | .mainPwrTimeout => Sys2Proof.Machine.execMainPwrTimeout s
  | .mainRetry => Sys2Proof.Machine.execMainRetry s
  | .mainRecovery => Sys2Proof.Machine.execMainRecovery s
  | .coreWatchdog core => Sys2Proof.Machine.execCoreWatchdog core s
  | .coreException core => Sys2Proof.Machine.execCoreException core s
  | .sectionDigestFail core => Sys2Proof.Machine.execSectionDigestFail core s
  | .coreRestart cls core => Sys2Proof.Machine.execCoreRestart cls core s
  | .coreHalt cls core => Sys2Proof.Machine.execCoreHalt cls core s
  | .coreRun cls core => Sys2Proof.Machine.execCoreRun cls core s
  | .coreRestartDone core => Sys2Proof.Machine.execCoreRestartDone core s
  | .pwrPendingRelease => Sys2Proof.Machine.execPwrPendingRelease s
  | .trialExpiry => Sys2Proof.Machine.execTrialExpiry s
  | .tracePoint point arg => Sys2Proof.Machine.execTracePoint point arg s
  | .logRecord core level body => Sys2Proof.Machine.execLogRecord core level body s
  | .sepiaSample samples => Sys2Proof.Machine.execSepiaSample samples s
  | .sepiaIntervalClose => Sys2Proof.Machine.execSepiaIntervalClose s
  | .flush cls => Sys2Proof.Machine.execFlush cls s
  | .sepiaRecordWrite verifyFail => Sys2Proof.Machine.execSepiaRecordWrite verifyFail s
  | .opsecCommit => Sys2Proof.Machine.execOpsecCommit s
  | .actionEntryWrite pre post => Sys2Proof.Machine.execActionEntryWrite pre post s
  | .tachPeriod chan periodUs => Sys2Proof.Machine.execTachPeriod chan periodUs s
  | .hostLinkUp rate width cfg => Sys2Proof.Machine.execHostLinkUp rate width cfg s
  | .linkRecoveryExit port => Sys2Proof.Machine.execLinkRecoveryExit port s
  | .pllLockReturn dom => Sys2Proof.Machine.execPllLockReturn dom s
  | .tierTempRead temps => Sys2Proof.Machine.execTierTempRead temps s
  | .deferredCommit => Sys2Proof.Machine.execDeferredCommit s
  | .spdmKeyExchange => Sys2Proof.Machine.execSpdmKeyExchange s
  | .ideKmKeySet => Sys2Proof.Machine.execIdeKmKeySet s
  | .creditReturn port => Sys2Proof.Machine.execCreditReturn port s
  | .wakeDone => Sys2Proof.Machine.execWakeDone s

end Sys2Proof.Machine
end

