-- ==== Sys2Proof/Machine/Pins.lean ====
section
/-! DEFINITION. The levels of the FX9's output pins (R486, R286, R333, R369), read off the state. -/

namespace Sys2Proof.Machine

/-- What a pin does: a level; an open drain let go; not driven; or the signalling of its interface. -/
inductive Level where
  | low
  | high
  | released
  | highZ
  | active
deriving DecidableEq, Repr

/-- The rows of R486 and, of each Silk port, R286. -/
inductive OutPin where
  | fdGate (feed : Fin 2)
  | brGate (branch : Fin 12)
  | fanDrv (chan : FanChan)
  | sysShdnN
  | rackAlertN
  | crpAlertN
  | vsns1p8
  | trayHaltN
  | traySync
  | ffySyncOut
  | mainPwrEn
  | i3c
  | vrAvs
  | xspi
  | xspiCsN
  | hostLanes
  | clkreqN
  | wakeN
  | silkLanes (port : Port)
  | silkSync (port : Port)
  | silkPg (port : Port)
  | silkThrottle (port : Port)
  | silkHeart (port : Port)
  | silkResetN (port : Port)
  | tdo
deriving DecidableEq, Repr

/-- The conditions of R486 that the commands can bring about: before Carapace is on, in the ALWAYS reset that ROM ends, and
after it. A die that runs with its Carapace link silent goes on driving its pins (log 88). -/
inductive PinCond where
  | unpowered
  | reset
  | running
deriving DecidableEq, Repr

/-- The condition of a state. -/
def State.pinCond (s : State) : PinCond :=
  if !s.crp.on then .unpowered else if !s.fwc.romDone then .reset else .running

/-- A driven level. -/
def lvl (b : Bool) : Level := if b then .high else .low

/-- An open-drain output that is pulled low. -/
def drain (b : Bool) : Level := if b then .low else .released

/-- A pin of the conductor die: its level in the ALWAYS reset and while the die runs; high impedance without power. -/
def State.diePin (s : State) (inReset running : Level) : Level :=
  match s.pinCond with
  | .unpowered => .highZ
  | .reset => inReset
  | .running => running

/-- A pin of a MAIN block: its level while MAIN is on. -/
def State.mainPin (s : State) (l : Level) : Level := if s.pins.mainPwrGood then l else .highZ

/-- An output of a Silk port with a pull-down at the accelerator: low while MAIN is off (R286). -/
def State.silkPin (s : State) (b : Bool) : Level := lvl (s.pins.mainPwrGood && b)

/-- The level of an output pin (R486, R286). -/
def State.level (s : State) : OutPin → Level
  | .fdGate i => lvl (s.crp.on && (s.feedState i = 3 || s.feedState i = 4))
  | .brGate b => lvl (s.crp.on && s.driven b)
  | .fanDrv n => lvl (s.fanDrv n)
  | .sysShdnN => drain (s.crp.on && s.shdn)
  | .rackAlertN => drain (s.crp.on && (rackAlertLow s || s.flag pCRPGLOB CRP_GSTAT_ALERT_OUT))
  | .crpAlertN => drain (s.crp.on && s.flag pCRPGLOB CRP_GSTAT_ALERT_OUT)
  | .vsns1p8 => lvl (s.crp.on && !s.hzd.vsnsOut)
  | .trayHaltN => drain (s.crp.on && ((s.pins.mainPwrGood && s.flag pHST HST_STOP_TRAY_DRIVE) || s.flag pRCK RCK_STOP_TRAY_DRIVE))
  | .traySync => s.diePin .low (lvl (traySyncHigh s))
  | .ffySyncOut => s.diePin .low (if s.flag pFFY FFY_CTRL_OUT_EN then .active else .highZ)
  | .mainPwrEn => lvl s.pins.mainPwrEn
  | .i3c => s.diePin .highZ .active
  | .vrAvs => s.diePin .highZ .active
  | .xspi => s.diePin .highZ .active
  | .xspiCsN => s.diePin .high .active
  | .hostLanes => s.mainPin .active
  | .clkreqN => s.mainPin .low
  | .wakeN => s.mainPin .released
  | .silkLanes p => s.mainPin (if s.portState p = 0 then .highZ else .active)
  | .silkSync p => if s.pins.mainPwrGood && s.ffy.portEn.getLsbD p then .active else .low
  | .silkPg p => s.silkPin (s.flag (pSLK p) SLK_STAT_PG)
  | .silkThrottle p => s.silkPin (s.flag (pSLK p) SLK_STAT_THROTTLE)
  | .silkHeart p => s.silkPin ((s.port p).heart)
  | .silkResetN p => drain (s.pins.mainPwrGood && s.flag (pSLK p) SLK_STAT_RESET)
  | .tdo => s.diePin .highZ (if s.pins.tapConnected then .active else .highZ)

end Sys2Proof.Machine
end

