-- ==== Sys2Proof/Safety.lean ====
section
/-! DEFINITION. What counts as a good state, and the terms statements use. -/

namespace Sys2Proof.Machine

/-! ### The canonical form of what the block holds -/

/-- A byte memory whose unlisted bytes read `d` keeps its canonical form. -/
def Memory.wf (m : List Host.Cell) (d : BitVec 8) : Bool := Tab.wf (fun _ => d) m

/-- Device memory, boot flash and firmware SRAM keep their canonical form. -/
def State.memOk (s : State) : Bool :=
  Memory.wf s.mem 0 && Memory.wf s.flash 0xFF && Memory.wf s.fwc.sram 0

/-- The register file keeps its canonical form. -/
def State.regsOk (s : State) : Bool := Tab.wf regReset s.regs

/-! ### Fuses (R428) -/

/-- `t` has the fuses of `s`, but that the two one-way counters may have risen. -/
def Fuses.risen (s t : Fuses) : Prop :=
  t = { s with floor := t.floor, keyCtr := t.keyCtr } ∧ s.floor ≤ t.floor ∧ s.keyCtr ≤ t.keyCtr

/-! ### How statements speak -/

/-- A command completes: exec answers a next state, of which `P` holds. -/
def completes (c : Instr) (s : State) (P : State → Prop) : Prop := ∃ t, exec c s = .next t ∧ P t

/-- A page takes a write of the word `v` at BAR0 offset `a` by a class (R48-R52). -/
def State.takes (s : State) (cls : Cls) (a v : Nat) : Prop := (regWrite s cls a 4 v).1 = true

/-- A page's header takes a write (R41-R52). -/
def State.headerTakes (s : State) (cls : Cls) (a v : Nat) : Prop := (writeGate s cls a 4 v).1 = true

/-- A word whose reset value is no constant: what fuses, the boot or flash hold, and the nonce (R43). -/
def variedWord (a : Nat) : Prop :=
  (∃ e ∈ keptFields, a = e.1 + e.2.off) ∨ (∃ q, q < 4 ∧ (a = pKRMQUAD q + 0x100 ∨ a = pKRMQUAD q + 0x104)) ∨
    (∃ c, c < 36 ∧ a = pKRMCORE c + 0x104) ∨ (pKRMGLOB + 0x158 ≤ a ∧ a < pKRMGLOB + 0x160) ∨
    (pSEP + SEP_OPSEC.off ≤ a ∧ a < pSEP + SEP_OPSEC.off + 8) ∨ (pSEP + SEP_NONCE.off ≤ a ∧ a < pSEP + SEP_NONCE.off + 8)

/-- A page with a status field that mirrors a condition outside its registers: Kermes' global page, the recorder's pages, the
Silk ports, the rack's and the governor's (log 91). -/
def mirrors (page : BitVec 10) : Prop :=
  ∃ b ∈ [pKRMGLOB, pQMG, pWIT, pDGT, pJRN, pRCK, pGOVGLOB] ++ (List.range 8).map pSLK, pageBase page = b

/-- An offset within the 64 KiB page at `base`. -/
def onPage (base a : Nat) : Prop := base ≤ a ∧ a < base + 0x10000

/-- The MSI-X table and pending bits, in which any interrupt may leave its mark (R313). -/
def msixWord (a : Nat) : Prop := 0x787F00 ≤ a ∧ a < 0x790000

/-- Every register outside `out` is as it was. -/
def sameRegs (out : Nat → Prop) (s t : State) : Prop := ∀ a, ¬out a → t.rd a = s.rd a

/-- Every byte of device memory, of flash and of firmware SRAM is as it was. -/
def sameBytes (s t : State) : Prop :=
  (∀ a, t.byteAt a = s.byteAt a) ∧ (∀ a, memByte t.flash 0xFF a = memByte s.flash 0xFF a) ∧
    ∀ a, memByte t.fwc.sram 0 a = memByte s.fwc.sram 0 a

/-- A core takes a slot at once: it issues bundles, and nothing may hold the one in progress (R114, R115). -/
def State.takesSlot (s : State) (c : Nat) : Prop := s.issuing c = true ∧ s.mayHold c = false

/-- A mailbox slot holds an accepted request of an opcode, and the link core runs (R318). -/
def State.asks (s : State) (slot op : Nat) : Prop :=
  s.hr.slotReq.contains slot = true ∧ s.reqField slot 2 2 = op ∧ s.runs 2 = true

/-- The status of the response in a mailbox slot (R319). -/
def State.status (s : State) (slot : Nat) : Nat := (s.rd (pHST + 0x2000 + 0x400 * slot + 8)).toNat % 256

/-- The session of the response in a mailbox slot (R319). -/
def State.respSession (s : State) (slot : Nat) : Nat := (s.rd (pHST + 0x2000 + 0x400 * slot + 12)).toNat

/-- A port in state `st` with its link in L0 receives a unit of a type with no reserved bit set (R274, R275). -/
def State.hears (s : State) (p st typ : Nat) (u : SilkUnit) : Prop :=
  s.pins.mainPwrGood = true ∧ s.portState p = st ∧ (s.port p).inL0 = true ∧ u.typ.toNat = typ ∧ u.rsv = 0 ∧ u.flags.toNat < 4

/-- Nothing waits on a port for credits or for L0. -/
def State.clearPort (s : State) (p : Nat) : Prop := (s.port p).waiting = [] ∧ (s.port p).respWait = []

/-- A port takes a write of SLK_CTRL with bits set and cleared and the rest as it is. -/
def State.slkTakes (s : State) (cls : Cls) (p set clear : Nat) : Prop :=
  s.takes cls (pSLK p + 0x100) (Nat.lor ((s.rd (pSLK p + 0x100)).toNat - Nat.land (s.rd (pSLK p + 0x100)).toNat clear) set)

/-- A page takes a write of HST_STOP or RCK_STOP (R327). -/
def State.stopTakes (s : State) (cls : Cls) (path : StopPath) (v : Nat) : Prop :=
  s.takes cls (match path with | .host => pHST + 0x104 | .rack => pRCK + 0x114) v

/-- A port is UP in L0 with credit for a CONTROL unit, and nothing waits on it. -/
def State.halts (s : State) (p : Nat) : Prop :=
  s.portState p = 5 ∧ (s.port p).inL0 = true ∧ s.clearPort p ∧ 1 ≤ nth (s.port p).cred 0

/-- No action bit of SLK_CTRL (HALT, RESUME, RETRAIN) stands in the page. -/
def State.plainCtrl (s : State) (p : Nat) : Prop := s.rd (pSLK p + 0x100) &&& 0x206 = 0

/-- The state a bring-up takes a port to: WAIT_PWR, or RESET or TRAINING where power good stands (R296). -/
def State.broughtUp (s : State) (p : Nat) : Nat :=
  if (s.port p).pgBranch then (if s.flag (pSLK p) SLK_CTRL_ATTACH then 3 else 2) else 1

/-- A port has gone DOWN with a cause that counts as an attempt: the link is cut, and it is fenced at the last attempt (R297,
R299, R302). -/
def wentDown (p cause : Nat) (s t : State) : Prop :=
  t.portState p = 7 ∧ t.fget (pSLK p) SLK_DOWN_CAUSE = cause ∧
    t.fget (pSLK p) SLK_DOWN_ATTEMPTS = min 255 (s.fget (pSLK p) SLK_DOWN_ATTEMPTS + 1) ∧
    (s.maxAttempts p ≤ s.fget (pSLK p) SLK_DOWN_ATTEMPTS + 1 → t.flag (pSLK p) PAGE_STAT_FENCED = true) ∧
    (t.port p).inL0 = false ∧ (t.port p).cred = [] ∧ t.clearPort p

/-- The units a port has been sent, and nothing else of note. -/
def sentUnit (p : Nat) (u : SilkUnit) (s t : State) : Prop := t.outs = s.outs ++ [.silk p u]

/-- The arrivals of units at a port. -/
def arrivals (port : Port) (u : SilkUnit) : List Instr :=
  [.memWr port u, .rcpt port u, .chkpt port u, .memRd port u, .replayRsp port u, .haltAck port u, .capAck port u,
   .quiesceAck port u, .alertInfo port u, .telemetry port u, .silkInit port u, .credit port u 0 0]

/-- What a rack port sends with a message: an in-band interrupt before it, where the port has a dynamic address (R329). -/
def State.rackOut (s : State) (port : RackPort) (o : Out) : List Out :=
  if nth s.hr.dynAddr port.val = 0 then [o] else [.ibi port.val, o]

/-- A rack port has taken a dynamic address, and nothing else changed. -/
def addressed (port : RackPort) (a : BitVec 7) (s t : State) : Prop :=
  nth t.hr.dynAddr port.val = a.toNat ∧ (∀ p, p ≠ port.val → nth t.hr.dynAddr p = nth s.hr.dynAddr p) ∧
    t = { s with hr.dynAddr := t.hr.dynAddr }

/-- A rack port has answered once, and nothing else was sent. -/
def answered (port : RackPort) (code : Nat) (data : List Byte) (s t : State) : Prop :=
  t.outs = s.outs ++ s.rackOut port (.mctp port.val code data)

/-- A rack port has answered once, and nothing else of the block changed. -/
def answers (port : RackPort) (code : Nat) (data : List Byte) (s t : State) : Prop :=
  t = { s with outs := s.outs ++ s.rackOut port (.mctp port.val code data) }

/-- The boot control record `b`, with the next SEQ, lies in the half that did not hold the last one (R424). -/
def wroteBcr (b : Bcr) (s t : State) : Prop :=
  t.flashAt (0x20000 * (1 - s.bcr.1)) 60 = { b with seq := s.bcr.2.seq + 1 }.body

/-- The rollback floor once the image of a slot commits (R428). -/
def State.burntFloor (s : State) (i : Nat) : Nat :=
  if s.imgField i 7 1 % 2 = 1 then max s.fuses.floor (s.imgField i 0x0C 1) else s.fuses.floor

/-- The trial slot is COMMITTED and the other one STAGED in the record, and the floor has risen where the image burns it
(R428, R441). -/
def commits (s t : State) : Prop :=
  t.updState = 8 ∧
    wroteBcr { (s.bcr.2.setSlot (s.bcr.2.active % 2) 3).setSlot (1 - s.bcr.2.active % 2) 1 with tries := 0 } s t ∧
    t.fuses = { s.fuses with floor := s.burntFloor (s.bcr.2.active % 2) }

/-- The old slot is active and COMMITTED and the trial slot REJECTED in the record, with a code (R441). -/
def reverts (code : Nat) (s t : State) : Prop :=
  t.updState = 9 ∧ t.fget pFWC FWC_UPD_STAT_CODE = code ∧ t.fuses = s.fuses ∧
    wroteBcr { (s.bcr.2.setSlot (s.bcr.2.active % 2) 4).setSlot (1 - s.bcr.2.active % 2) 3 with
      active := 1 - s.bcr.2.active % 2, tries := 0 } s t

/-- Firmware core `n` restarts with a cause, counted (R429). -/
def restarted (n cause : Nat) (s t : State) : Prop :=
  t.coreState n = 3 ∧ t.fget pFWC (FWC_CORE_STAT_CAUSE.nth n 0x40) = cause ∧
    t.flag pFWC (FWC_CORE_STAT_RESTART_PEND.nth n 0x40) = false ∧
    t.fget pFWC (FWC_CORE_STAT_RESTARTS.nth n 0x40) = min 0xFFFF (s.fget pFWC (FWC_CORE_STAT_RESTARTS.nth n 0x40) + 1) ∧
    ∀ a, t.byteAt a = s.byteAt a

/-- A fault of a firmware core has been taken (R429, R432, R433, R441): a running one restarts, the third time within 60 s it
is FAILED, and on the TRIAL slot it reverts the update; of one restarting or loading a restart is latched. -/
def faultTaken (n cause : Nat) (s t : State) : Prop :=
  (s.coreState n = 2 → s.onTrial n = true → s.fwc.stage = none → reverts 0 s t) ∧
    (s.coreState n = 2 → s.onTrial n = false →
      if ((s.fwCore n).faults.filter fun u => s.nowNs < u + 60000000000).length < 2 then restarted n cause s t
      else t.coreState n = 5 ∧ t.fget pFWC (FWC_CORE_STAT_CAUSE.nth n 0x40) = cause ∧ sameBytes s t) ∧
    (s.coreState n = 1 ∨ s.coreState n = 3 → t.flag pFWC (FWC_CORE_STAT_RESTART_PEND.nth n 0x40) = true ∧
      t.coreState n = s.coreState n ∧ sameBytes s t) ∧
    (s.coreState n ≠ 1 → s.coreState n ≠ 2 → s.coreState n ≠ 3 → t = s)

/-- The count of a bin of a kind's running interval (R452). -/
def State.binCount (s : State) (kind bin : Nat) : Nat := Tab.get (Tab.get s.sep.live kind {}).bins bin 0

/-- The slot of the action log that the next entry goes into: the pinned sector while it has room (R462). -/
def State.entrySlot (s : State) : Nat :=
  if s.sep.pinCount < 64 then 64 * s.fget pALG ALG_PIN + s.sep.pinCount else s.sep.ringPos % 1024

/-- What the token of a SEPIA_CLEAR request earns, 0 where it passes (R465). -/
def State.clearDetail (s : State) (slot : Nat) : Nat :=
  s.tokenDetail (s.fabRead (s.payload slot 0 8) 2852).1 (s.fabRead (s.payload slot 0 8) 2852).2.1

/-- The record of a batch signed with the present state index: header, signature and padding (R255). -/
def State.signedRecord (s : State) (b : Batch) : List Byte :=
  s.batchHeader b (s.pget pDGT DGT_KEY_IDX) ++ signature s.fuses.pubKey (s.batchHeader b (s.pget pDGT DGT_KEY_IDX)) (s.pget pDGT DGT_KEY_IDX) ++
    List.replicate 219 0

/-- A valid frame has reached Carapace: it ends a silence, and an acknowledgement the wait for one (R367, R368). -/
def frameTaken (ack : Bool) (s t : State) : Prop :=
  t.crp.silent = false ∧ sameBytes s t ∧
    (s.crp.silent = true → t.crp.ackWait = (!ack) ∧ t.crp.actBuf = [] ∧ t.flag pCRPGLOB CRP_GSTAT_ALERT_OUT = false) ∧
    (s.crp.silent = false → t.crp.ackWait = (s.crp.ackWait && !ack) ∧ sameRegs (fun _ => False) s t)

/-- A feed has opened with a cause; the other one is being driven, or waits READY for the first one's V_GS to fall below
1 V (R343, R344). -/
def transferred (i cause : Nat) (s t : State) : Prop :=
  t.feedState i = 0 ∧ t.fget pCRPFEED CF_STAT_CAUSE = cause ∧ t.fget pCRPFEED CF_STAT_ON = 0 ∧ t.crp.gap = some 0 ∧
    sameBytes s t ∧
    if (s.feed i).vgs < 100 then t.feedState (1 - i) = 3 ∧ t.crp.closing = none
    else t.feedState (1 - i) = 2 ∧ t.crp.closing = some (1 - i)

/-- A feed has taken a state, the other one stands, and no branch and no byte changed. -/
def feedMoved (i st : Nat) (s t : State) : Prop :=
  t.feedState i = st ∧ t.feedState (1 - i) = s.feedState (1 - i) ∧ (∀ b, b < 12 → t.branchState b = s.branchState b) ∧
    sameBytes s t

/-- Every other branch keeps its state, both feeds theirs, and no byte changed. -/
def onlyBranch (b : Nat) (s t : State) : Prop :=
  (∀ c, c < 12 → c ≠ b → t.branchState c = s.branchState c) ∧ t.feedState 0 = s.feedState 0 ∧ t.feedState 1 = s.feedState 1 ∧
    sameBytes s t

/-- A retriable trip of a branch: SHUTTING with the cause, towards BACKOFF with a retry counted, or towards LOCKOUT once the
retries are spent (R362). -/
def tripped (b cause : Nat) (s t : State) : Prop :=
  t.branchState b = 4 ∧ t.fget (pCRPBR b) CB_STAT_CAUSE = cause ∧ t.flag (pCRPBR b) CB_STAT_PG = false ∧
    (if s.fget (pCRPBR b) CB_STAT_RETRIES < CB_RETRY_MAX_RETRY.get (s.branch b).retry then
      t.fget (pCRPBR b) CB_STAT_RETRIES = s.fget (pCRPBR b) CB_STAT_RETRIES + 1 ∧ (t.branch b).after = .backoff ∧
        (t.branch b).tmr = CB_RETRY_BACKOFF.get (s.branch b).retry * 2 ^ s.fget (pCRPBR b) CB_STAT_RETRIES * 1000
    else (t.branch b).after = .lockout ∧ t.fget (pCRPBR b) CB_STAT_RETRIES = s.fget (pCRPBR b) CB_STAT_RETRIES) ∧
    onlyBranch b s t

/-- A gate fault of a branch, never retried (R353, R355). -/
def gateFaulted (b : Nat) (s t : State) : Prop :=
  t.branchState b = 7 ∧ t.fget (pCRPBR b) CB_STAT_CAUSE = 6 ∧ t.flag (pCRPBR b) CB_STAT_PG = false ∧
    t.flag (pCRPBR b) CB_STAT_RESTART_PEND = false ∧ onlyBranch b s t

/-- An interval of every enabled kind has closed into its pending set, and a new one has begun (R453, R454). -/
def intervalEnds (partly : Bool) (s t : State) : Prop :=
  t.sep.periodEff = s.fget pSEP SEP_PERIOD ∧ t.sep.kindEff = BitVec.ofNat 32 (s.fget pSEP SEP_KIND_EN) ∧ sameBytes s t ∧
    ∀ k, k < 19 → s.sep.kindEff.getLsbD k = true → k ∈ t.sep.pendKinds ∧
      Tab.get t.sep.live k {} = { startOp := s.opSec } ∧
      (k ∉ s.sep.pendKinds → (Tab.get t.sep.pend k {}).flags.getLsbD 1 = partly ∧
        ∃ f, Tab.get t.sep.pend k {} =
          { Tab.get s.sep.live k {} with flags := f, closeOp := s.opSec, closeCal := s.pget pSEP SEP_CAL }) ∧
      (k ∈ s.sep.pendKinds → (Tab.get t.sep.pend k {}).flags.getLsbD 2 = true ∧
        (Tab.get t.sep.pend k {}).startOp = (Tab.get s.sep.pend k {}).startOp ∧
        (Tab.get t.sep.pend k {}).samples = (Tab.get s.sep.pend k {}).samples + (Tab.get s.sep.live k {}).samples ∧
        ∀ b, b < 32 → Tab.get (Tab.get t.sep.pend k {}).bins b 0 =
          sat32 (Tab.get (Tab.get s.sep.pend k {}).bins b 0 + Tab.get (Tab.get s.sep.live k {}).bins b 0))

/-- The trust in an accelerator has taken a value, and nothing else of the governor but interrupts moved (R388). -/
def trustMoved (a v : Nat) (s t : State) : Prop :=
  t.fget (pGOVACC a) GA_STAT_TRUST = v ∧ t.gov = s.gov ∧ sameBytes s t ∧
    ∀ b, b < 8 → b ≠ a → t.fget (pGOVACC b) GA_STAT_TRUST = s.fget (pGOVACC b) GA_STAT_TRUST

/-- A fan channel has taken a state, every other keeps its own, and no byte changed. -/
def fanMoved (n st : Nat) (s t : State) : Prop :=
  t.fanState n = st ∧ (∀ k, k < 16 → k ≠ n → t.fanState k = s.fanState k) ∧ sameBytes s t

/-- A bit of the mask of stalled channels. -/
def State.stalled (s : State) (n : Nat) : Bool := s.fget pLCWGLOB LCW_FAULTS_STALLED / 2 ^ n % 2 = 1

/-- A page takes a write of LCW_CTRL with `v` beside TABLE_FORCE as it stands. -/
def State.lcwTakes (s : State) (cls : Cls) (v : Nat) : Prop :=
  s.takes cls (pLCWGLOB + 0x100) (v + 4 * s.fget pLCWGLOB LCW_CTRL_TABLE_FORCE)

/-- A release write of value `v` by a class is the next of its sequence (R413). -/
def State.relNext (s : State) (cls : Cls) (v : Nat) : Prop :=
  s.flag pHZDSENS HZ_SHDN_STAT_REL_OK = true ∧ v = s.fget pHZDSENS HZ_SHDN_STAT_REL_STEP + 1 ∧
    (s.fget pHZDSENS HZ_SHDN_STAT_REL_STEP = 0 ∨
      s.hzd.relCls = some (clsCode cls) ∧ s.nowNs - s.hzd.relTime ≤ 100000000)

/-- Every sensor but `i` keeps its class and reading, and no byte changed. -/
def onlyTherm (i : Nat) (s t : State) : Prop :=
  (∀ k, k < 32 → k ≠ i → t.thClass k = s.thClass k ∧ t.thTemp k = s.thTemp k) ∧ sameBytes s t

/-! ### The slots of a bundle -/

/-- The core and slot of a bundle (0 DPU, 1 vector, 2 move, 3 synchronisation) of a command that is one, with nothing found by
the decoder. -/
def slotOf : Instr → Option (PhysCore × Nat)
  | .nop c => some (c, 0)
  | .dot c _ [] => some (c, 0)
  | .dot2 c _ [] => some (c, 0)
  | .dotg c _ [] => some (c, 0)
  | .vnop c => some (c, 1)
  | .vadd c _ _ _ => some (c, 1)
  | .vsub c _ _ _ => some (c, 1)
  | .vmul c _ _ _ => some (c, 1)
  | .vfma c _ _ _ _ => some (c, 1)
  | .vmax c _ _ _ => some (c, 1)
  | .vmin c _ _ _ => some (c, 1)
  | .vcmplt c _ _ _ => some (c, 1)
  | .vcmple c _ _ _ => some (c, 1)
  | .vcmpeq c _ _ _ => some (c, 1)
  | .vsel c _ _ _ _ => some (c, 1)
  | .vmov c _ _ => some (c, 1)
  | .vabs c _ _ => some (c, 1)
  | .vneg c _ _ => some (c, 1)
  | .vbcast c _ _ _ => some (c, 1)
  | .vexp c _ _ => some (c, 1)
  | .vrcp c _ _ => some (c, 1)
  | .vrsqrt c _ _ => some (c, 1)
  | .vtanh c _ _ => some (c, 1)
  | .vrsum c _ _ => some (c, 1)
  | .vrmax c _ _ => some (c, 1)
  | .vcvti c _ _ => some (c, 1)
  | .vcvtf c _ _ => some (c, 1)
  | .vquant c _ _ _ _ => some (c, 1)
  | .vdequant c _ _ _ => some (c, 1)
  | .vacc c _ _ _ => some (c, 1)
  | .mnop c => some (c, 2)
  | .ldv c _ _ [] => some (c, 2)
  | .stv c _ _ => some (c, 2)
  | .ldh c _ _ _ [] => some (c, 2)
  | .sth c _ _ _ _ => some (c, 2)
  | .ldq c _ _ _ _ [] => some (c, 2)
  | .stq c _ _ _ _ => some (c, 2)
  | .rdacc c _ _ => some (c, 2)
  | .clracc c _ => some (c, 2)
  | .acfg c _ _ => some (c, 2)
  | .setag c _ _ => some (c, 2)
  | .ldc c _ _ => some (c, 2)
  | .dma c _ => some (c, 2)
  | .red c _ => some (c, 2)
  | .snop c => some (c, 3)
  | .loop c _ => some (c, 3)
  | .loopc c _ => some (c, 3)
  | .endl c => some (c, 3)
  | .barq c _ => some (c, 3)
  | .barc c _ => some (c, 3)
  | .waitd c _ => some (c, 3)
  | .phase c _ => some (c, 3)
  | .mark c _ => some (c, 3)
  | .endStream c => some (c, 3)
  | _ => none

/-- The fields of a bundle within their widths (R115). -/
def Slots.fit (s : Slots) : Prop :=
  s.dpu < 2 ^ 8 ∧ s.a < 2 ^ 16 ∧ s.b < 2 ^ 16 ∧ s.acc < 2 ^ 12 ∧ s.vec < 2 ^ 32 ∧ s.mov < 2 ^ 28 ∧ s.sync < 2 ^ 16

/-- The lanes of a vector register of a core. -/
def State.lanes (s : State) (c v : Nat) : List Nat := lanesOf ((s.core c).vreg v).bits

/-- No other core, no byte, no poison mark and no register but those of `out` changes. -/
def onlyCore (out : Nat → Prop) (c : Nat) (s t : State) : Prop :=
  (∀ d, d ≠ c → t.core d = s.core d) ∧ sameRegs out s t ∧ sameBytes s t ∧ t.poison = s.poison

/-- The vector slot of core `c` notes the write of `lanes` to `vd`, poisoned when a source is, landing `lat` cycles after the
bundle issues, and the flags `fl`; nothing outside the core changes, nor its registers and rows (R114, R115, R119, R187). -/
def wroteV (c vd lat : Nat) (srcs lanes : List Nat) (fl : Nat) (s t : State) : Prop :=
  (t.core c).pending = (s.core c).pending ++
      [.vreg vd ⟨ofLanes lanes, srcs.any fun v => ((s.core c).vreg v).poison, 0⟩ lat] ∧
    (t.core c).flags = Nat.lor (s.core c).flags fl ∧ (t.core c).vregs = (s.core c).vregs ∧ (t.core c).accs = (s.core c).accs ∧
    onlyCore (fun _ => False) c s t

/-- What each accumulator of a row becomes when the lists of `per` enter it, and the flags (R117, R118). -/
def State.gathers (s : State) (c row : Nat) (init : Bool) (per : List (List Contrib)) : List (Acc1 × Nat) :=
  ((List.range 32).zip per).map fun p => enterAll ((s.core c).accRow row) s.fastOk init (((s.core c).accRow row).acc p.1) p.2

/-- The counts of contributions stay within the job's MAX_CONTRIB (R149); a slot with AOP NONE adds none. -/
def State.fits (s : State) (c row : Nat) (aop : AccOp) (per : List (List Contrib)) : Prop :=
  aop = .none ∨ ∀ j, s.krm.job = some j → ∀ q ∈ s.gathers c row (aop = .init) per, q.1.count ≤ j.maxContrib

/-- Core `c` notes what its row is to take `lat` cycles after the bundle issues, nothing under AOP NONE, and the flags; nothing
outside the core changes, nor its registers and rows (R114, R118, R187). -/
def wroteRow (c row lat : Nat) (aop : AccOp) (per : List (List Contrib)) (bad : Bool) (s t : State) : Prop :=
  (t.core c).pending = (s.core c).pending ++ (if aop = .none then [] else
      [.acc row { ((s.core c).accRow row).withAccs ((s.gathers c row (aop = .init) per).map (·.1)) with
        poison := bad || (aop ≠ .init && ((s.core c).accRow row).poison) } lat]) ∧
    (t.core c).flags = Nat.lor (s.core c).flags (orFlags (if aop = .none then per.map fun l => orFlags (l.map (·.flags))
      else (s.gathers c row (aop = .init) per).map (·.2))) ∧
    (t.core c).accs = (s.core c).accs ∧ (t.core c).vregs = (s.core c).vregs ∧ onlyCore (fun _ => False) c s t

/-- A core's bundle closes at its synchronisation slot: the core issues, no tag and no reduction holds it, and none of its
slots had to wait (R114, R115). -/
def State.closes (s : State) (c : Nat) : Prop :=
  s.issuing c = true ∧ s.mustHold c = false ∧ (s.core c).latch = []

/-- The bundle of core `c` has issued: nothing of it is left, and its flags are in the core's status word (R108, R114). -/
def bundleGone (c fl : Nat) (s t : State) : Prop :=
  (t.core c).pending = [] ∧ (t.core c).stores = [] ∧ (t.core c).flags = 0 ∧ (t.core c).held = none ∧
    t.rd (pKRMCORE c + KCORE_ARITH.off) = s.rd (pKRMCORE c + KCORE_ARITH.off) ||| BitVec.ofNat 32 (Nat.lor (s.core c).flags fl)

/-- The bundle of core `c` issued at cycle `at_`, no earlier than the core had reached (R114). -/
def issuedAt (c at_ : Nat) (s t : State) : Prop :=
  (s.core c).now ≤ at_ ∧ (t.core c).now = at_ + 1 ∧ (t.core c).lastIssue = at_

/-- The synchronisation slots that may close a bundle of core `core`. -/
def closers (core : PhysCore) (arg : Fin 4096) (ident : BitVec 8) (tag : Fin 16) (ph : Fin 8) (mark : BitVec 12) : List Instr :=
  [.snop core, .loop core arg, .loopc core arg, .endl core, .barq core ident, .barc core ident, .waitd core tag, .phase core ph,
   .mark core mark, .endStream core]

/-- The program counter of a core. -/
def State.pc (s : State) (c : Nat) : Nat := s.fget (pKRMCORE c) KCORE_PC_PC

/-- Core `c` notes what `f` makes of it, and nothing else of the block changes. -/
def notes (c : Nat) (f : Core1 → Core1) (s t : State) : Prop :=
  t.core c = f (s.core c) ∧ onlyCore (fun _ => False) c s t ∧ t.krm.job = s.krm.job

/-- A core's load slot notes the value `v`, landing after 3 cycles, and flags; nothing outside the core changes, nor its
registers and rows (R114, R120). -/
def loaded (c r : Nat) (v : BitVec 1024) (bad : Bool) (fl : Nat) (s t : State) : Prop :=
  (t.core c).pending = (s.core c).pending ++ [.vreg r ⟨v, bad, 0⟩ 3] ∧ (t.core c).flags = Nat.lor (s.core c).flags fl ∧
    (t.core c).vregs = (s.core c).vregs ∧ (t.core c).accs = (s.core c).accs ∧ onlyCore (fun _ => False) c s t

/-- A core's store slot notes stores and flags, with no read of memory and no byte changed yet (R115, R120). -/
def notedStores (c : Nat) (l : List CoreStore) (fl : Nat) (s t : State) : Prop :=
  (t.core c).stores = (s.core c).stores ++ l ∧ (t.core c).flags = Nat.lor (s.core c).flags fl ∧
    (t.core c).pending = (s.core c).pending ∧ (t.core c).vregs = (s.core c).vregs ∧ (t.core c).accs = (s.core c).accs ∧
    onlyCore (fun _ => False) c s t

/-- The bytes at `a` of core `c`'s SRAM become `bs`, one after another, and no other byte changes. -/
def stored (c a : Nat) (bs : List Byte) (s t : State) : Prop :=
  (∀ (i : Nat) (h : i < bs.length), t.byteAt (sramAddr c a + i) = bs[i]) ∧
    ∀ x, x < sramAddr c a ∨ sramAddr c a + bs.length ≤ x → t.byteAt x = s.byteAt x

/-- A job has ended with that status and code (R150). -/
def State.ended (t : State) (status code : Nat) : Prop :=
  ∃ j, t.krm.job = some j ∧ j.phase = .ended ∧ j.status = status ∧ j.code = code

/-- A doorbell that is not dropped for its form: MAIN is up, its size, QUEUE and OP are right (R233). -/
def State.rings (s : State) (db : Doorbell) (op : Nat) : Prop :=
  s.hostPort = true ∧ db.sizeOk = true ∧ db.value.toNat / 2 ^ 32 % 2 ^ 20 = db.q.toNat ∧
    db.value.toNat / 2 ^ 16 % 8 = op

/-- The rows a doorbell may come by. -/
def doorbellRows (db : Doorbell) : List Instr := [.post db, .vack db, .enable db, .disable db, .arm db]

/-- A doorbell was dropped with a reason: counted and recorded, and nothing of the queues, the witness or memory changed
(R233). -/
def dropped (db : Doorbell) (reason : Nat) (s t : State) : Prop :=
  t.fget pQMG QMG_DB_ERR = sat32 (s.fget pQMG QMG_DB_ERR + 1) ∧ t.fget pQMG QMG_LAST_ERR_Q_REASON = reason ∧
    t.fget pQMG QMG_LAST_ERR_Q_QUEUE = db.q.toNat ∧ t.qw = s.qw ∧ sameBytes s t

/-- No upset waits in the storage to be found (R174, R178). -/
def State.noUpsets (s : State) : Prop := s.integ.sramUps = [] ∧ s.integ.lineUps = []

/-- The address of a queue's oldest receipt not yet dispatched (R231). -/
def State.oldestAt (s : State) (q : Nat) : Nat := (s.queue q).slot ((s.queue q).seqOf (s.queue q).disp)

/-- Whether a witness slot passes the checks of REGISTER and the hashing of its weights (R240). -/
def State.registers (s : State) (i : Nat) : Bool :=
  structCode s (s.slotSub i) = 0 && !s.fabPoison (s.slotSub i).addr (readCont s (s.slotSub i)).total &&
    formatCode s (s.slotSub i) = 0 && tensorsInWindows (s.slotSub i) (s.slotJob (s.slotSub i)).tensors &&
    !s.rangePoison (imageRanges (s.slotJob (s.slotSub i)) 2)

/-- The open batch closes at the present tick and the next number opens; one with no leaf changes nothing (R254). -/
def closesBatch (s t : State) : Prop :=
  (s.dgt.openB.leaves = [] → t.dgt = s.dgt) ∧
    (s.dgt.openB.leaves ≠ [] → t.dgt.closed = s.dgt.closed ++ [{ s.dgt.openB with closeTick := s.ffy.counter }] ∧
      t.dgt.openB = { no := s.dgt.openB.no + 1 } ∧ t.dgt.held = s.dgt.held) ∧ sameBytes s t

/-- The journal with an owed seal given (R263). -/
def State.sealedOff (s : State) : State := if s.jrn.sealPend then s.sealSeg else s

/-- A pin of slot `i`, the open one, is pending (R262). -/
def State.pinPends (s : State) (i : Nat) : Prop :=
  s.jrn.isOpen = true ∧ s.segOpen = i ∧ s.flag pJRN JRN_STAT_PIN_PEND = true

/-- The INDEX of a doorbell. -/
def doorbellIndex (db : Doorbell) : BitVec 16 := db.value.setWidth 16

end Sys2Proof.Machine
end

