-- ==== Sys2Proof/Certificates/Slice0/Obligations.lean ====
section
/-! DEFINITION. The statements for the provers: `completes c s P` says that exec answers a next state of which P holds. -/

open Sys2Proof Sys2Proof.Machine

/-- A step runs the command at the front of the queue. For every command c and state s: the step of s with c at the front of its queue is exec of c on s with the queue's rest. -/
def Obligations.StepRunsFront : Prop :=
  ∀ (c : Instr) (rest : List Instr) (s : State), s.pending = c :: rest → step s = exec c { s with pending := rest }

/-- An empty queue passes one tick. With an empty queue a step passes one nanosecond: the Firefly counter gains 1 exactly while FFY_STAT.LOCKED is set, but for the ticks that a slew or a step has put it back, the heartbeat's age and the model's clock gain 1, and no byte of memory, no fuse and no register but SEP_OPSEC and SEP_CAL changes. That an empty queue passes a tick at all is the model's choice (log 2). -/
def Obligations.IdleTick : Prop :=
  ∀ s : State, s.pending = [] → ∃ t, step s = .next t ∧
    t.ffy.counter = (if s.flag pFFY FFY_STAT_LOCKED ∧ s.ffy.hold = 0 then s.ffy.counter + 1 else s.ffy.counter) ∧
    t.ffy.hold = (if s.flag pFFY FFY_STAT_LOCKED then s.ffy.hold - 1 else s.ffy.hold) ∧
    t.hr.hbAgeNs = s.hr.hbAgeNs + 1 ∧ t.nowNs = s.nowNs + 1 ∧ t.fuses = s.fuses ∧ t.outs = s.outs ∧ sameBytes s t ∧
    sameRegs (fun a => (pSEP + SEP_OPSEC.off ≤ a ∧ a < pSEP + SEP_OPSEC.off + 8) ∨
      (pSEP + SEP_CAL.off ≤ a ∧ a < pSEP + SEP_CAL.off + 8)) s t

/-- The machine after reset. After reset every register holds its reset value, MAIN is unpowered so that every MAIN page reads 0xFFFF_FFFF, no byte of device memory and none of flash is listed, no command waits, no pin is driven high (and none low but the gates, the fan outputs, VSNS_1P8, MAIN_PWR_EN and the Silk sidebands, which are low), and ACCESS_MASK of every page is as the table of R54 gives it. -/
def Obligations.ResetState : Prop :=
  (∀ a, State.reset.rd a = regReset a) ∧ State.reset.pins.mainPwrGood = false ∧
    (∀ (cls : Cls) (a : Nat) (p : PRow) (i : Nat), findPage (a / 0x10000) = some (p, i) → p.main = true →
      readWord State.reset cls a = 0xFFFFFFFF) ∧
    (∀ pin : OutPin, State.reset.level pin = match pin with
      | .fdGate _ | .brGate _ | .fanDrv _ | .vsns1p8 | .mainPwrEn | .silkSync _ | .silkPg _ | .silkThrottle _ | .silkHeart _ => .low
      | .sysShdnN | .rackAlertN | .crpAlertN | .trayHaltN | .silkResetN _ => .released
      | _ => .highZ) ∧
    State.reset.mem = [] ∧ State.reset.flash = [] ∧ State.reset.pending = [] ∧
    (∀ b ∈ pGEN :: (List.range 8).map pGOVACC, State.reset.fget b ACCESS_MASK = 0x3) ∧
    (∀ b ∈ [pACC, pCRPGLOB, pCRPFEED, pCLK] ++ (List.range 12).map pCRPBR, State.reset.fget b ACCESS_MASK = 0x2) ∧
    (∀ b ∈ [pKRMGLOB, pNTRGLOB, pBLKGLOB, pINT, pWIT, pDGT, pJRN, pLKS, pQMG] ++ (List.range 36).map pKRMCORE ++
      (List.range 4).map pKRMQUAD ++ (List.range 6).map pNTRCHAN ++ (List.range 24).map pBLKCHAN,
      State.reset.fget b ACCESS_MASK = 0x1B) ∧
    (∀ b ∈ [pFFY, pHST] ++ (List.range 8).map pSLK, State.reset.fget b ACCESS_MASK = 0xB) ∧
    State.reset.fget pRCK ACCESS_MASK = 0x2A ∧ State.reset.fget pGOVGLOB ACCESS_MASK = 0x23 ∧
    (∀ b ∈ [pLCWGLOB, pLCWCHAN, pHZDSENS, pHZDDRIP], State.reset.fget b ACCESS_MASK = 0x7) ∧
    (∀ b ∈ [pFWC, pFWL, pTRC], State.reset.fget b ACCESS_MASK = 0x1F) ∧
    ∀ b ∈ [pSEP, pSEPWIN, pALG], State.reset.fget b ACCESS_MASK = 0x13

/-- Reset is in canonical form. State.reset holds its memories and its register file in the canonical form that every step keeps. -/
def Obligations.ResetInvariant : Prop :=
  State.reset.memOk = true ∧ State.reset.regsOk = true

/-- Every step keeps the canonical form of memory and registers. From every state in which device memory, boot flash, firmware SRAM and the register file are in canonical form (addresses strictly rising, no entry equal to what an unlisted one reads as), whatever command a step runs, the next state has them in canonical form. -/
def Obligations.EveryStepKeepsCanonicalForm : Prop :=
  ∀ s t : State, s.memOk = true → s.regsOk = true → step s = .next t → t.memOk = true ∧ t.regsOk = true

/-- Only the two one-way counters of the fuses move, and only up. Whatever command a step runs, every fuse keeps its value but the rollback floor and the identity-key counter, and neither of them falls. -/
def Obligations.FusesOnlyRise : Prop :=
  ∀ s t : State, step s = .next t → Fuses.risen s.fuses t.fuses

/-- No command but the step itself moves the queue. Whatever command exec runs, it answers a next state, and the commands waiting in it are those waiting before. -/
def Obligations.CommandsLeaveTheQueue : Prop :=
  ∀ (c : Instr) (s : State), completes c s fun t => t.pending = s.pending

/-- A MAIN page without MAIN reads all ones and drops writes. While MAIN is unpowered, a REGISTER_WRITE to any MAIN page by any class, of any size, leaves the machine exactly as it was (no denial, no PAGE_SEQ); LO_READ and READ_CLEAR of any word of it by a class that reaches it answer 0xFFFF_FFFF and change nothing else; and a read of any page at all by the host, whose port is itself in MAIN, leaves the machine as it was, with no answer. -/
def Obligations.UnpoweredPages : Prop :=
  ∀ (cls : Cls) (addr : BitVec 26) (s : State) (p : PRow) (i : Nat), findPage (addr.toNat / 0x10000) = some (p, i) →
    p.main = true → s.pins.mainPwrGood = false →
    (∀ (size : Nat) (value : BitVec 64), exec (.registerWrite cls addr size value) s = .next s) ∧
    (s.reaches cls = true →
      exec (.loRead cls addr 4) s = .next (s.emit (.regRead cls addr.toNat 0xFFFFFFFF)) ∧
      exec (.readClear cls addr 4) s = .next (s.emit (.regRead cls addr.toNat 0xFFFFFFFF))) ∧
    ∀ (any : BitVec 26) (size : Nat), exec (.loRead .host any size) s = .next s ∧ exec (.readClear .host any size) s = .next s

/-- Only FWP writes ACCESS_MASK. On every assigned and powered page, ACCESS_MASK_WRITE by FWP stores the mask with W_FWP kept at 1; by any other class that reaches the page it is denied, whatever the mask holds: the mask keeps its value, ACC_DENY_CNT counts one more, and ACC_DENY_ADDR and ACC_DENY_INFO hold the address, the requester and reason 3. -/
def Obligations.AccessMaskIsFwps : Prop :=
  ∀ (page : BitVec 10) (value : BitVec 32) (s : State) (p : PRow) (i : Nat), findPage page.toNat = some (p, i) →
    (p.main = true → s.pins.mainPwrGood = true) →
    completes (.accessMaskWrite .fwp page value) s (fun t =>
      t.rd (pageBase page + 0x30) = (value &&& 0x7F#32) ||| 2#32) ∧
    ∀ cls : Cls, cls ≠ .fwp → s.reaches cls = true →
      completes (.accessMaskWrite cls page value) s fun t =>
        t.rd (pageBase page + 0x30) = s.rd (pageBase page + 0x30) ∧
        t.fget pACC ACC_DENY_CNT = sat32 (s.fget pACC ACC_DENY_CNT + 1) ∧
        t.rd (pACC + ACC_DENY_ADDR.off) = BitVec.ofNat 32 (pageBase page + 0x30) ∧
        t.fget pACC ACC_DENY_INFO_REASON = 3 ∧ t.fget pACC ACC_DENY_INFO_REQ = clsCode cls

/-- What READ_CLEAR and LO_READ return and leave. On an assigned, powered page that the class reaches: READ_CLEAR of an aligned word returns the word the class sees, clears exactly its RC bits and changes no other register and no byte; LO_READ of a _LO word returns it, puts the _HI word of the same moment into that class's latch and no other, and changes no register; a 64-bit one returns both halves. A read of a size or alignment that a page below the MSI-X table does not take answers all ones, is counted in ACC_DENY_CNT with reason 2, and clears no RC bit of its word. -/
def Obligations.RegisterReads : Prop :=
  (∀ (cls : Cls) (addr : BitVec 26) (s : State), addr.toNat % 4 = 0 → pageUp s (addr.toNat / 0x10000) = true →
    s.reaches cls = true → completes (.readClear cls addr 4) s fun t =>
      t.outs = s.outs ++ [.regRead cls addr.toNat ((readWord s cls addr.toNat).setWidth 64)] ∧
      t.rd addr.toNat = s.rd addr.toNat &&& ~~~BitVec.ofNat 32 (rcMask addr.toNat) ∧
      sameRegs (· = addr.toNat) s t ∧ sameBytes s t) ∧
  (∀ (cls : Cls) (addr : BitVec 26) (s : State), addr.toNat % 8 = 0 → pageUp s (addr.toNat / 0x10000) = true →
    loAt addr.toNat = true → s.reaches cls = true →
    completes (.loRead cls addr 4) s (fun t =>
      t.outs = s.outs ++ [.regRead cls addr.toNat ((readWord s cls addr.toNat).setWidth 64)] ∧
      Tab.get t.hiLatch (clsKey cls addr.toNat) 0 = readHi s cls addr.toNat ∧
      (∀ k, k ≠ clsKey cls addr.toNat → Tab.get t.hiLatch k 0 = Tab.get s.hiLatch k 0) ∧ t.regs = s.regs) ∧
    completes (.loRead cls addr 8) s (fun t =>
      t.outs = s.outs ++ [.regRead cls addr.toNat (readHi s cls addr.toNat ++ readWord s cls addr.toNat)])) ∧
  (∀ (cls : Cls) (addr : BitVec 26) (size : Nat) (c : Instr) (s : State), c = .readClear cls addr size ∨ c = .loRead cls addr size →
    pageUp s (addr.toNat / 0x10000) = true → msixAt addr.toNat = false → s.reaches cls = true →
    ¬(size = 4 ∧ addr.toNat % 4 = 0) → ¬(size = 8 ∧ addr.toNat % 8 = 0 ∧ loAt addr.toNat = true) →
    addr.toNat / 0x10000 ≠ pACC / 0x10000 → 0x100 ≤ addr.toNat % 0x10000 →
    completes c s fun t =>
      (∃ l, t.outs = l ++ [.regRead cls addr.toNat (if size = 8 then 0xFFFFFFFFFFFFFFFF else 0xFFFFFFFF)]) ∧
      t.fget pACC ACC_DENY_CNT = sat32 (s.fget pACC ACC_DENY_CNT + 1) ∧ t.fget pACC ACC_DENY_INFO_REASON = 2 ∧
      t.rd addr.toNat = s.rd addr.toNat)

/-- What an accepted REGISTER_WRITE and HI_WRITE leave. A 32-bit REGISTER_WRITE that a page without actions of its own takes, of a register that is no pair and has no copy per class, gives each field the value R8 gives it (writeWord), counts once in PAGE_SEQ, and changes no other register and no byte. A HI_WRITE that a page takes, of a pair with no copy per class whose _LO the class has shadowed, commits the shadowed _LO and the written _HI together, each as wide as its register holds, and uses up the shadow. -/
def Obligations.RegisterWrites : Prop :=
  (∀ (cls : Cls) (addr : BitVec 26) (value : BitVec 32) (s : State) (p : PRow) (i : Nat) (r : RRow) (e : Nat),
    findPage (addr.toNat / 0x10000) = some (p, i) → findReg p.regs (addr.toNat % 0x10000) = some (r, e, 0) →
    p.kind ∈ [PageKind.acc, .clk, .ntrglob, .blkglob, .int, .fwl, .trc, .alg, .crpglob] → r.pair = false → r.percls = false →
    s.takes cls addr.toNat value.toNat → s.mainP.profDue = false → s.mainP.silkDue = false →
    completes (.registerWrite cls addr 4 (value.setWidth 64)) s fun t =>
      t.rd addr.toNat = writeWord r.fields (s.rd addr.toNat) value.toNat ∧
      t.rd (addr.toNat / 0x10000 * 0x10000 + 0x34) = s.rd (addr.toNat / 0x10000 * 0x10000 + 0x34) + 1 ∧
      sameRegs (fun a => a = addr.toNat ∨ a = addr.toNat / 0x10000 * 0x10000 + 0x34) s t ∧ sameBytes s t) ∧
  (∀ (cls : Cls) (addr : BitVec 26) (value lo : BitVec 32) (s : State) (p : PRow) (i : Nat) (r : RRow) (e : Nat),
    findPage (addr.toNat / 0x10000) = some (p, i) → findReg p.regs (addr.toNat % 0x10000) = some (r, e, 4) →
    r.pair = true → r.percls = false → s.takes cls addr.toNat value.toNat →
    Tab.get s.loShadow (clsKey cls (addr.toNat - 4)) none = some lo →
    completes (.hiWrite cls addr value) s fun t =>
      t.rd (addr.toNat - 4) = BitVec.ofNat 32 (Nat.land lo.toNat r.lom) ∧
      t.rd addr.toNat = BitVec.ofNat 32 (Nat.land value.toNat r.hi) ∧
      Tab.get t.loShadow (clsKey cls (addr.toNat - 4)) none = none ∧
      t.rd (addr.toNat / 0x10000 * 0x10000 + 0x34) = s.rd (addr.toNat / 0x10000 * 0x10000 + 0x34) + 1)

/-- SOFT_RESET, its end, IRQ_SET and ERR_CLR. On a page whose header takes the write: SOFT_RESET sets BUSY and SOFT_RESET, puts every block register back to its reset value but those whose reset value is what fuses, the boot or flash hold, with IRQ_STAT, ERR_CODE and ERR_INFO zero and ENABLE, IRQ_EN and ACCESS_MASK kept, and counts once in PAGE_SEQ; of those others, the words the boot and flash give stand, the quadrants' maps and spares are the fuses', operating seconds are those flash holds; the Firefly counter restarts at 0, and HST_HB_AGE at its reset. SOFT_RESET_DONE clears both bits and, on a page with no status field that mirrors a condition outside its registers (log 91), no other word; of a Silk port with no replay outstanding it leaves the port OFF with RESET_N low and THROTTLE as its sources ask; IRQ_SET sets exactly the written causes, and the page's interrupt input at the firmware cores is its condition; ERR_CLR with CLEAR = 1 clears ERR_CODE and ERR_INFO and no other word, and with CLEAR = 0 changes nothing. Which words stand is the model's reading (log 91). -/
def Obligations.HeaderCommands : Prop :=
  (∀ (cls : Cls) (page : BitVec 10) (s : State) (p : PRow) (i : Nat), findPage page.toNat = some (p, i) →
    p.nosr = false → s.headerTakes cls (pageBase page + 0x10) (2 + s.fget (pageBase page) PAGE_CTRL_ENABLE) →
    completes (.softReset cls page) s fun t =>
      t.flag (pageBase page) PAGE_STAT_BUSY = true ∧ t.flag (pageBase page) PAGE_CTRL_SOFT_RESET = true ∧
      (∀ a, pageBase page + 0x100 ≤ a → a < pageBase page + 0x7F00 → ¬variedWord a → t.rd a = regReset a) ∧
      (∀ e ∈ keptFields, e.1 = pageBase page → t.fget e.1 e.2 = s.fget e.1 e.2) ∧
      (∀ q, q < 4 → pageBase page = pKRMQUAD q → t.rd (pKRMQUAD q + 0x100) = s.fuses.kqMap.getD q 0 ∧
        t.fget (pKRMQUAD q) KQ_SPARE_SPARE = (s.fuses.kqSpare.getD q 8).toNat) ∧
      (pageBase page = pSEP → t.pget pSEP SEP_OPSEC = s.sep.cjOp % 2 ^ 64) ∧
      (pageBase page = pFFY → t.ffy.counter = 0) ∧ (pageBase page = pHST → readWord t .fwp (pHST + 0x114) = 0xFFFF ∨ s.pins.mainPwrGood = false) ∧
      t.rd (pageBase page + 0x18) = 0 ∧ t.rd (pageBase page + 0x24) = 0 ∧ t.rd (pageBase page + 0x28) = 0 ∧
      t.fget (pageBase page) PAGE_CTRL_ENABLE = s.fget (pageBase page) PAGE_CTRL_ENABLE ∧
      t.rd (pageBase page + 0x1C) = s.rd (pageBase page + 0x1C) ∧
      t.rd (pageBase page + 0x30) = s.rd (pageBase page + 0x30) ∧
      t.rd (pageBase page + 0x34) = s.rd (pageBase page + 0x34) + 1) ∧
  (∀ (page : BitVec 10) (s : State), s.flag (pageBase page) PAGE_CTRL_SOFT_RESET = true →
    completes (.softResetDone page) s fun t =>
      t.flag (pageBase page) PAGE_CTRL_SOFT_RESET = false ∧ t.flag (pageBase page) PAGE_STAT_BUSY = false ∧
      (¬mirrors page → sameRegs (fun a => a = pageBase page + 0x10 ∨ a = pageBase page + 0x14) s t) ∧
      (∀ p, p < 8 → pageBase page = pSLK p → s.portState p = 0 → (∀ x ∈ s.qw.replays, x.port ≠ p) →
        t.portState p = 0 ∧ (t.port p).inL0 = false ∧ t.flag (pSLK p) SLK_STAT_RESET = true ∧
        t.flag (pSLK p) SLK_STAT_THROTTLE = (s.flag (pSLK p) SLK_CTRL_THR ||
          (s.pins.rackLimitLow && s.flag (pSLK p) SLK_CTRL_RACK_THR_EN) ||
          ((s.port p).alertLow && s.fget (pSLK p) SLK_CTRL_ALERT_ACT != 0)))) ∧
  (∀ (cls : Cls) (page : BitVec 10) (value : BitVec 32) (s : State),
    s.headerTakes cls (pageBase page + 0x20) value.toNat →
    completes (.irqSet cls page value) s fun t =>
      t.rd (pageBase page + 0x18) = s.rd (pageBase page + 0x18) ||| value ∧
      t.irqInput page.toNat = ((s.rd (pageBase page + 0x18) ||| value) &&& s.rd (pageBase page + 0x1C) != 0) ∧
      sameRegs (fun a => a = pageBase page + 0x18 ∨ msixWord a) s t ∧ sameBytes s t) ∧
  (∀ (cls : Cls) (page : BitVec 10) (value : BitVec 32) (s : State),
    s.headerTakes cls (pageBase page + 0x2C) value.toNat →
    completes (.errClr cls page value) s fun t =>
      (value.getLsbD 0 = true → t.rd (pageBase page + 0x24) = 0 ∧ t.rd (pageBase page + 0x28) = 0) ∧
      (value.getLsbD 0 = false → t = s) ∧
      sameRegs (fun a => a = pageBase page + 0x24 ∨ a = pageBase page + 0x28) s t)

/-- GEN_MODE, its idle boundary and CLK_KRM_LIMIT. An accepted STRICT_SET leaves STRICT = 1, the four mode bits 0, STRICT_PEND = 1 unless STRICT_ACT is already 1, and STRICT_ACT as it was; an accepted STRICT_CLEAR leaves STRICT = 0 and the four bits as written, with STRICT_PEND = 1 unless STRICT_ACT is already 0; an accepted MODE_BIT_WRITE sets the four bits, or leaves them 0 while STRICT = 1; none of them touches what is in effect. A DEVICE_IDLE_BOUNDARY with no job and no receipt being dispatched puts the values of GEN_MODE into effect, clears STRICT_PEND and shows STRICT_ACT and TG_REORDER. An accepted CLK_KRM_LIMIT_WRITE sets LIMIT. -/
def Obligations.ModesAndLimits : Prop :=
  (∀ (cls : Cls) (s : State), s.takes cls (pGEN + 0x104) 1 → completes (.strictSet cls) s fun t =>
    t.fget pGEN GEN_MODE_STRICT = 1 ∧ (t.rd (pGEN + 0x104)).toNat / 2 % 16 = 0 ∧
    t.fget pGEN GEN_MODE_STRICT_PEND = 1 - s.fget pGEN GEN_MODE_STRICT_ACT ∧
    t.fget pGEN GEN_MODE_STRICT_ACT = s.fget pGEN GEN_MODE_STRICT_ACT ∧ t.krm = s.krm ∧
    sameRegs (fun a => a = pGEN + 0x104 ∨ a = pGEN + 0x34) s t) ∧
  (∀ (cls : Cls) (bits : BitVec 4) (s : State), s.takes cls (pGEN + 0x104) (bits.toNat * 2) →
    completes (.strictClear cls bits) s fun t =>
      t.fget pGEN GEN_MODE_STRICT = 0 ∧ (t.rd (pGEN + 0x104)).toNat / 2 % 16 = bits.toNat ∧
      t.fget pGEN GEN_MODE_STRICT_PEND = s.fget pGEN GEN_MODE_STRICT_ACT ∧
      t.fget pGEN GEN_MODE_STRICT_ACT = s.fget pGEN GEN_MODE_STRICT_ACT ∧ t.krm = s.krm ∧
      sameRegs (fun a => a = pGEN + 0x104 ∨ a = pGEN + 0x34) s t) ∧
  (∀ (cls : Cls) (bits : BitVec 4) (s : State),
    s.takes cls (pGEN + 0x104) (bits.toNat * 2 + s.fget pGEN GEN_MODE_STRICT) →
    completes (.modeBitWrite cls bits) s fun t =>
      t.fget pGEN GEN_MODE_STRICT = s.fget pGEN GEN_MODE_STRICT ∧
      (t.rd (pGEN + 0x104)).toNat / 2 % 16 = (if s.fget pGEN GEN_MODE_STRICT = 1 then 0 else bits.toNat) ∧
      t.krm = s.krm ∧ sameRegs (fun a => a = pGEN + 0x104 ∨ a = pGEN + 0x34) s t) ∧
  (∀ s : State, s.krm.job = none → s.qw.heldR = none → completes .deviceIdleBoundary s fun t =>
    t.krm.mode = s.modeBits ∧ t.fget pGEN GEN_MODE_STRICT_PEND = 0 ∧
    t.fget pGEN GEN_MODE_STRICT_ACT = bit s.modeBits.strict ∧
    t.fget pBLKGLOB TG_REORDER_REORDER = bit s.modeBits.bkReorder ∧ t.krm.cores = s.krm.cores) ∧
  (∀ (cls : Cls) (value : BitVec 32) (s : State), s.takes cls (pCLK + 0x104) value.toNat →
    completes (.clkKrmLimitWrite cls value) s fun t =>
      t.fget pCLK CLK_KRM_LIMIT_LIMIT = value.toNat % 64 ∧
      sameRegs (fun a => a = pCLK + 0x104 ∨ a = pCLK + 0x34) s t)

/-- Vector operations of two and three sources. On a core that takes the slot at once: VADD, VSUB, VMUL, VMAX, VMIN, VCMPLT, VCMPLE, VCMPEQ, VFMA and VSEL note, for VD, the lanewise result of the sources at the start of the bundle with the latency R114 gives, poisoned when a source is, and the flags the lanes raise (both take effect as the bundle issues); no vector register, row, other core, byte, poison mark or register of the block changes. That VSEL raises no flag is the model's choice (log 96). -/
def Obligations.VectorOfTwoAndThree : Prop :=
  (∀ (core : PhysCore) (vd va vb : VReg) (s : State), s.takesSlot core.val →
    completes (.vadd core vd va vb) s fun t =>
      wroteV core.val vd.val 4 [va.val, vb.val] (List.zipWith (fun a b => (fadd a b).1) (s.lanes core.val va.val) (s.lanes core.val vb.val))
        (orFlags (List.zipWith (fun a b => (fadd a b).2) (s.lanes core.val va.val) (s.lanes core.val vb.val))) s t) ∧
  (∀ (core : PhysCore) (vd va vb : VReg) (s : State), s.takesSlot core.val →
    completes (.vsub core vd va vb) s fun t =>
      wroteV core.val vd.val 4 [va.val, vb.val] (List.zipWith (fun a b => (fsub a b).1) (s.lanes core.val va.val) (s.lanes core.val vb.val))
        (orFlags (List.zipWith (fun a b => (fsub a b).2) (s.lanes core.val va.val) (s.lanes core.val vb.val))) s t) ∧
  (∀ (core : PhysCore) (vd va vb : VReg) (s : State), s.takesSlot core.val →
    completes (.vmul core vd va vb) s fun t =>
      wroteV core.val vd.val 4 [va.val, vb.val] (List.zipWith (fun a b => (fmul a b).1) (s.lanes core.val va.val) (s.lanes core.val vb.val))
        (orFlags (List.zipWith (fun a b => (fmul a b).2) (s.lanes core.val va.val) (s.lanes core.val vb.val))) s t) ∧
  (∀ (core : PhysCore) (vd va vb : VReg) (s : State), s.takesSlot core.val →
    completes (.vmax core vd va vb) s fun t =>
      wroteV core.val vd.val 4 [va.val, vb.val] (List.zipWith (fun a b => (fmax a b).1) (s.lanes core.val va.val) (s.lanes core.val vb.val))
        (orFlags (List.zipWith (fun a b => (fmax a b).2) (s.lanes core.val va.val) (s.lanes core.val vb.val))) s t) ∧
  (∀ (core : PhysCore) (vd va vb : VReg) (s : State), s.takesSlot core.val →
    completes (.vmin core vd va vb) s fun t =>
      wroteV core.val vd.val 4 [va.val, vb.val] (List.zipWith (fun a b => (fmin a b).1) (s.lanes core.val va.val) (s.lanes core.val vb.val))
        (orFlags (List.zipWith (fun a b => (fmin a b).2) (s.lanes core.val va.val) (s.lanes core.val vb.val))) s t) ∧
  (∀ (core : PhysCore) (vd va vb : VReg) (s : State), s.takesSlot core.val →
    completes (.vcmplt core vd va vb) s fun t =>
      wroteV core.val vd.val 4 [va.val, vb.val] (List.zipWith (fun a b => (fcmp (fun x y => x < y) a b).1) (s.lanes core.val va.val) (s.lanes core.val vb.val))
        (orFlags (List.zipWith (fun a b => (fcmp (fun x y => x < y) a b).2) (s.lanes core.val va.val) (s.lanes core.val vb.val))) s t) ∧
  (∀ (core : PhysCore) (vd va vb : VReg) (s : State), s.takesSlot core.val →
    completes (.vcmple core vd va vb) s fun t =>
      wroteV core.val vd.val 4 [va.val, vb.val] (List.zipWith (fun a b => (fcmp (fun x y => x ≤ y) a b).1) (s.lanes core.val va.val) (s.lanes core.val vb.val))
        (orFlags (List.zipWith (fun a b => (fcmp (fun x y => x ≤ y) a b).2) (s.lanes core.val va.val) (s.lanes core.val vb.val))) s t) ∧
  (∀ (core : PhysCore) (vd va vb : VReg) (s : State), s.takesSlot core.val →
    completes (.vcmpeq core vd va vb) s fun t =>
      wroteV core.val vd.val 4 [va.val, vb.val] (List.zipWith (fun a b => (fcmp (fun x y => x = y) a b).1) (s.lanes core.val va.val) (s.lanes core.val vb.val))
        (orFlags (List.zipWith (fun a b => (fcmp (fun x y => x = y) a b).2) (s.lanes core.val va.val) (s.lanes core.val vb.val))) s t) ∧
  (∀ (core : PhysCore) (vd va vb vc : VReg) (s : State), s.takesSlot core.val →
    completes (.vfma core vd va vb vc) s fun t =>
      wroteV core.val vd.val 5 [va.val, vb.val, vc.val]
        (((s.lanes core.val va.val).zip ((s.lanes core.val vb.val).zip (s.lanes core.val vc.val))).map
          fun p => (ffma p.1 p.2.1 p.2.2).1)
        (orFlags (((s.lanes core.val va.val).zip ((s.lanes core.val vb.val).zip (s.lanes core.val vc.val))).map
          fun p => (ffma p.1 p.2.1 p.2.2).2)) s t) ∧
  (∀ (core : PhysCore) (vd va vb vc : VReg) (s : State), s.takesSlot core.val →
    completes (.vsel core vd va vb vc) s fun t =>
      wroteV core.val vd.val 4 [va.val, vb.val, vc.val]
        (((s.lanes core.val va.val).zip ((s.lanes core.val vb.val).zip (s.lanes core.val vc.val))).map
          fun p => if p.1 = 0 then p.2.2 else p.2.1) 0 s t)

/-- Vector operations of one source. On a core that takes the slot at once: VABS, VNEG, VEXP, VRCP, VRSQRT, VTANH, VCVTI, VCVTF, VMOV, VBCAST, VRSUM, VRMAX (five levels into lane 0, the other lanes +0), VQUANT and VDEQUANT note for VD the result of the source at the start of the bundle with the latency R114 gives, its poison, and the flags raised (both take effect as the bundle issues); no vector register, row, other core, byte, poison mark or register of the block changes. VMOV, VSEL and VBCAST raise no flag, which is the model's choice (log 96). -/
def Obligations.VectorOfOne : Prop :=
  (∀ (core : PhysCore) (vd va : VReg) (s : State), s.takesSlot core.val →
    completes (.vabs core vd va) s fun t =>
      wroteV core.val vd.val 4 [va.val] ((s.lanes core.val va.val).map fun a => (fabs a).1)
        (orFlags ((s.lanes core.val va.val).map fun a => (fabs a).2)) s t) ∧
  (∀ (core : PhysCore) (vd va : VReg) (s : State), s.takesSlot core.val →
    completes (.vneg core vd va) s fun t =>
      wroteV core.val vd.val 4 [va.val] ((s.lanes core.val va.val).map fun a => (fneg a).1)
        (orFlags ((s.lanes core.val va.val).map fun a => (fneg a).2)) s t) ∧
  (∀ (core : PhysCore) (vd va : VReg) (s : State), s.takesSlot core.val →
    completes (.vexp core vd va) s fun t =>
      wroteV core.val vd.val 9 [va.val] ((s.lanes core.val va.val).map fun a => (fexp a).1)
        (orFlags ((s.lanes core.val va.val).map fun a => (fexp a).2)) s t) ∧
  (∀ (core : PhysCore) (vd va : VReg) (s : State), s.takesSlot core.val →
    completes (.vrcp core vd va) s fun t =>
      wroteV core.val vd.val 9 [va.val] ((s.lanes core.val va.val).map fun a => (frcp a).1)
        (orFlags ((s.lanes core.val va.val).map fun a => (frcp a).2)) s t) ∧
  (∀ (core : PhysCore) (vd va : VReg) (s : State), s.takesSlot core.val →
    completes (.vrsqrt core vd va) s fun t =>
      wroteV core.val vd.val 9 [va.val] ((s.lanes core.val va.val).map fun a => (frsqrt a).1)
        (orFlags ((s.lanes core.val va.val).map fun a => (frsqrt a).2)) s t) ∧
  (∀ (core : PhysCore) (vd va : VReg) (s : State), s.takesSlot core.val →
    completes (.vtanh core vd va) s fun t =>
      wroteV core.val vd.val 22 [va.val] ((s.lanes core.val va.val).map fun a => (ftanh a).1)
        (orFlags ((s.lanes core.val va.val).map fun a => (ftanh a).2)) s t) ∧
  (∀ (core : PhysCore) (vd va : VReg) (s : State), s.takesSlot core.val →
    completes (.vcvti core vd va) s fun t =>
      wroteV core.val vd.val 5 [va.val] ((s.lanes core.val va.val).map fun a => (fcvti a).1)
        (orFlags ((s.lanes core.val va.val).map fun a => (fcvti a).2)) s t) ∧
  (∀ (core : PhysCore) (vd va : VReg) (s : State), s.takesSlot core.val →
    completes (.vcvtf core vd va) s fun t =>
      wroteV core.val vd.val 5 [va.val] ((s.lanes core.val va.val).map fun a => (fcvtf a).1)
        (orFlags ((s.lanes core.val va.val).map fun a => (fcvtf a).2)) s t) ∧
  (∀ (core : PhysCore) (vd va : VReg) (s : State), s.takesSlot core.val →
    completes (.vmov core vd va) s fun t => wroteV core.val vd.val 4 [va.val] (s.lanes core.val va.val) 0 s t) ∧
  (∀ (core : PhysCore) (vd va : VReg) (lane : Fin 32) (s : State), s.takesSlot core.val →
    completes (.vbcast core vd va lane) s fun t =>
      wroteV core.val vd.val 4 [va.val] (List.replicate 32 ((s.lanes core.val va.val).getD lane.val 0)) 0 s t) ∧
  (∀ (core : PhysCore) (vd va : VReg) (s : State), s.takesSlot core.val →
    completes (.vrsum core vd va) s fun t =>
      wroteV core.val vd.val 8 [va.val] ((treeReduce fadd 5 (s.lanes core.val va.val)).1 :: List.replicate 31 0)
        (treeReduce fadd 5 (s.lanes core.val va.val)).2 s t) ∧
  (∀ (core : PhysCore) (vd va : VReg) (s : State), s.takesSlot core.val →
    completes (.vrmax core vd va) s fun t =>
      wroteV core.val vd.val 8 [va.val] ((treeReduce fmax 5 (s.lanes core.val va.val)).1 :: List.replicate 31 0)
        (treeReduce fmax 5 (s.lanes core.val va.val)).2 s t) ∧
  (∀ (core : PhysCore) (vd va : VReg) (fmt : ScaledFmt) (sat : Bool) (s : State), s.takesSlot core.val →
    completes (.vquant core vd va fmt sat) s fun t =>
      wroteV core.val vd.val 6 [va.val]
        (quantLanes fmt (quantBlock fmt sat (s.lanes core.val va.val)).1 (quantBlock fmt sat (s.lanes core.val va.val)).2.1)
        (quantBlock fmt sat (s.lanes core.val va.val)).2.2 s t) ∧
  (∀ (core : PhysCore) (vd va : VReg) (fmt : ScaledFmt) (s : State), s.takesSlot core.val →
    completes (.vdequant core vd va fmt) s fun t =>
      wroteV core.val vd.val 6 [va.val]
        ((blockOfLanes fmt (s.lanes core.val va.val)).map fun e =>
          (dequantElem fmt ((s.lanes core.val va.val).getD 31 0 % 256) e).1)
        (orFlags ((blockOfLanes fmt (s.lanes core.val va.val)).map fun e =>
          (dequantElem fmt ((s.lanes core.val va.val).getD 31 0 % 256) e).2)) s t)

/-- DOT, DOT2, DOTG and VACC. On a core that takes the slot at once, with formats R123 accepts, operands aligned as R126 asks and counts within MAX_CONTRIB: DOT, DOT2 and DOTG, on the operands as the decoder delivers them whatever upsets are found, and VACC note for the row the accumulators that the contributions make of it (cleared first under INIT), poisoned when an operand is or, under ADD, when the row was, and the flags raised; under AOP NONE they note the flags alone. Beyond what the decoder finds, no register, other core, byte or poison mark changes. Where a count would pass MAX_CONTRIB, or an operand of DOT, DOT2 or DOTG lies amiss, the job ends with status FAULT, code CONTRIB_RUN or ALIGN. -/
def Obligations.Contributions : Prop :=
  (∀ (core : PhysCore) (op : DpuOp) (found : List Upset) (fa fb : ScaledFmt) (s u : State), s.takesSlot core.val →
    u = s.look core.val found ((s.core core.val).dotRanges op fa fb 1) →
    scaledOf ((s.core core.val).fmtPair op.fmt.val).1 = some fa → scaledOf ((s.core core.val).fmtPair op.fmt.val).2 = some fb →
    (s.core core.val).dotAligned op fb 1 = true → u.fits core.val op.row.val op.aop (u.dots core.val op fa fb 1) →
    completes (.dot core op found) s fun t =>
      wroteRow core.val op.row.val 6 op.aop (u.dots core.val op fa fb 1)
        (u.poisonIn core.val ((s.core core.val).dotRanges op fa fb 1)) u t) ∧
  (∀ (core : PhysCore) (op : DpuOp) (found : List Upset) (fa fb : ScaledFmt) (s u : State), s.takesSlot core.val →
    u = s.look core.val found ((s.core core.val).dotRanges op fa fb 2) →
    fa ∈ [ScaledFmt.e3m2, .e2m3, .e2m1] → fb ∈ [ScaledFmt.e3m2, .e2m3, .e2m1] →
    scaledOf ((s.core core.val).fmtPair op.fmt.val).1 = some fa → scaledOf ((s.core core.val).fmtPair op.fmt.val).2 = some fb →
    (s.core core.val).dotAligned op fb 2 = true → u.fits core.val op.row.val op.aop (u.dots core.val op fa fb 2) →
    completes (.dot2 core op found) s fun t =>
      wroteRow core.val op.row.val 6 op.aop (u.dots core.val op fa fb 2)
        (u.poisonIn core.val ((s.core core.val).dotRanges op fa fb 2)) u t) ∧
  (∀ (core : PhysCore) (op : DpuOp) (found : List Upset) (fa fb : Fmt) (s u : State), s.takesSlot core.val →
    u = s.look core.val found ((s.core core.val).groupRanges op) →
    halfOf ((s.core core.val).fmtPair op.fmt.val).1 = some fa → halfOf ((s.core core.val).fmtPair op.fmt.val).2 = some fb →
    (s.core core.val).agAddr op.a.data % 128 = 0 → blockAligned ((s.core core.val).agAddr op.b.data) 64 = true →
    u.fits core.val op.row.val op.aop (u.groupDots core.val op fa fb) →
    completes (.dotg core op found) s fun t =>
      wroteRow core.val op.row.val 7 op.aop (u.groupDots core.val op fa fb)
        (u.poisonIn core.val ((s.core core.val).groupRanges op)) u t) ∧
  (∀ (core : PhysCore) (va : VReg) (aop : AccOp) (row : AccRow) (s : State), s.takesSlot core.val →
    s.fits core.val row.val aop ((s.lanes core.val va.val).map fun a => [laneContrib a]) →
    completes (.vacc core va aop row) s fun t =>
      wroteRow core.val row.val 6 aop ((s.lanes core.val va.val).map fun a => [laneContrib a])
        ((s.core core.val).vreg va.val).poison s t) ∧
  (∀ (core : PhysCore) (va : VReg) (aop : AccOp) (row : AccRow) (s : State), s.takesSlot core.val →
    ¬s.fits core.val row.val aop ((s.lanes core.val va.val).map fun a => [laneContrib a]) →
    completes (.vacc core va aop row) s fun t => t.ended 3 2 ∧ sameBytes s t) ∧
  (∀ (core : PhysCore) (op : DpuOp) (found : List Upset) (fa fb : ScaledFmt) (s u : State), s.takesSlot core.val →
    scaledOf ((s.core core.val).fmtPair op.fmt.val).1 = some fa → scaledOf ((s.core core.val).fmtPair op.fmt.val).2 = some fb →
    ((s.core core.val).dotAligned op fb 1 = false →
      completes (.dot core op found) s fun t => t.ended 3 1 ∧ sameBytes s t) ∧
    (fa ∈ [ScaledFmt.e3m2, .e2m3, .e2m1] → fb ∈ [ScaledFmt.e3m2, .e2m3, .e2m1] → (s.core core.val).dotAligned op fb 2 = false →
      completes (.dot2 core op found) s fun t => t.ended 3 1 ∧ sameBytes s t) ∧
    (u = s.look core.val found ((s.core core.val).dotRanges op fa fb 1) → (s.core core.val).dotAligned op fb 1 = true →
      ¬u.fits core.val op.row.val op.aop (u.dots core.val op fa fb 1) →
      completes (.dot core op found) s fun t => t.ended 3 2 ∧ sameBytes u t) ∧
    (u = s.look core.val found ((s.core core.val).dotRanges op fa fb 2) →
      fa ∈ [ScaledFmt.e3m2, .e2m3, .e2m1] → fb ∈ [ScaledFmt.e3m2, .e2m3, .e2m1] → (s.core core.val).dotAligned op fb 2 = true →
      ¬u.fits core.val op.row.val op.aop (u.dots core.val op fa fb 2) →
      completes (.dot2 core op found) s fun t => t.ended 3 2 ∧ sameBytes u t)) ∧
  (∀ (core : PhysCore) (op : DpuOp) (found : List Upset) (fa fb : Fmt) (s u : State), s.takesSlot core.val →
    halfOf ((s.core core.val).fmtPair op.fmt.val).1 = some fa → halfOf ((s.core core.val).fmtPair op.fmt.val).2 = some fb →
    ((s.core core.val).agAddr op.a.data % 128 ≠ 0 ∨ blockAligned ((s.core core.val).agAddr op.b.data) 64 = false →
      completes (.dotg core op found) s fun t => t.ended 3 1 ∧ sameBytes s t) ∧
    (u = s.look core.val found ((s.core core.val).groupRanges op) → (s.core core.val).agAddr op.a.data % 128 = 0 →
      blockAligned ((s.core core.val).agAddr op.b.data) 64 = true →
      ¬u.fits core.val op.row.val op.aop (u.groupDots core.val op fa fb) →
      completes (.dotg core op found) s fun t => t.ended 3 2 ∧ sameBytes u t))

/-- Every slot of a bundle decodes from its encoding, and the empty ones do nothing. For every command that is a slot of a bundle, with every operand at every value: the decoder reads from the slots that the encoder fills the same command with the same operands. A bundle of fields within their widths gives back those fields. NOP, VNOP and MNOP leave the whole machine as it is, on every core and in every state. -/
def Obligations.SlotEncodings : Prop :=
  (∀ (i : Instr) (core : PhysCore) (k : Nat), slotOf i = some (core, k) → decodeSlot core k (encodeSlot i) = some i) ∧
  (∀ s : Slots, s.fit → slotsOf s.bundle = s) ∧
  (∀ (core : PhysCore) (s : State), exec (.nop core) s = .next s ∧ exec (.vnop core) s = .next s ∧ exec (.mnop core) s = .next s)

/-- Loads and stores of a core. On a core that takes the slot at once, at an address aligned as R126 asks: LDV, LDH and LDQ, whatever upsets are found, note for the register the bytes at the generator's address as the decoder delivers them (LDH converted exactly to FP32 with its flags, LDQ in the VQUANT layout) with their poison, landing after 3 cycles; beyond what the decoder finds, no byte, poison mark, register or other core changes. LDC notes a constant. STV, STH (the lanes converted, with their flags) and STQ (the block, and its scale byte as a narrow write) note stores of the register's bytes, poisoned when it is, at the generators' addresses; no byte changes before the bundle issues. A misaligned LDV, LDH, LDQ, STV, STH or STQ ends the job with FAULT, ALIGN and changes no byte. -/
def Obligations.LoadsAndStores : Prop :=
  (∀ (core : PhysCore) (v : VReg) (ag : AgRef) (found : List Upset) (a : Nat) (s u : State), s.takesSlot core.val →
    a = (s.core core.val).agAddr ag → u = s.look core.val found [(a, 128)] → a % 128 = 0 →
    completes (.ldv core v ag found) s fun t =>
      loaded core.val v.val (ofVecBytes (u.coreRead core.val a 128)) (u.corePoison core.val a 128) 0 u t) ∧
  (∀ (core : PhysCore) (v : VReg) (ag : AgRef) (fmt : HalfFmt) (found : List Upset) (a : Nat) (s u : State),
    s.takesSlot core.val → a = (s.core core.val).agAddr ag → u = s.look core.val found [(a, 64)] → a % 64 = 0 →
    completes (.ldh core v ag fmt found) s fun t =>
      loaded core.val v.val (ofLanes ((groupElems (u.coreRead core.val a 64) 0).map fun h => (from16 (halfFmt fmt) h).1))
        (u.corePoison core.val a 64)
        (orFlags ((groupElems (u.coreRead core.val a 64) 0).map fun h => (from16 (halfFmt fmt) h).2)) u t) ∧
  (∀ (core : PhysCore) (v : VReg) (ag sag : AgRef) (fmt : ScaledFmt) (found : List Upset) (a sa : Nat) (s u : State),
    s.takesSlot core.val → a = (s.core core.val).agAddr ag → sa = (s.core core.val).agAddr sag →
    u = s.look core.val found [(a, scaledBytes fmt), (sa, 1)] → blockAligned a (scaledBytes fmt) = true →
    completes (.ldq core v ag fmt sag found) s fun t =>
      loaded core.val v.val (BitVec.ofNat 1024 (leNat (u.coreRead core.val a (scaledBytes fmt)) +
        leNat (u.coreRead core.val sa 1) * 2 ^ 992))
        (u.corePoison core.val a (scaledBytes fmt) || u.corePoison core.val sa 1) 0 u t) ∧
  (∀ (core : PhysCore) (v : VReg) (entry : Fin 32768) (s : State), s.takesSlot core.val →
    completes (.ldc core v entry) s fun t =>
      loaded core.val v.val (Tab.get (s.core core.val).consts entry.val 0) false 0 s t) ∧
  (∀ (core : PhysCore) (v : VReg) (ag : AgRef) (s : State), s.takesSlot core.val →
    (s.core core.val).agAddr ag % 128 = 0 → completes (.stv core v ag) s fun t =>
      notedStores core.val [⟨(s.core core.val).agAddr ag, vecBytes ((s.core core.val).vreg v.val).bits,
        ((s.core core.val).vreg v.val).poison, false⟩] 0 s t) ∧
  (∀ (core : PhysCore) (v : VReg) (ag : AgRef) (fmt : HalfFmt) (sat : Bool) (s : State), s.takesSlot core.val →
    (s.core core.val).agAddr ag % 64 = 0 → completes (.sth core v ag fmt sat) s fun t =>
      notedStores core.val [⟨(s.core core.val).agAddr ag,
        (s.lanes core.val v.val).flatMap fun a => natLe 2 (fto16 (halfFmt fmt) sat a).1,
        ((s.core core.val).vreg v.val).poison, false⟩]
        (orFlags ((s.lanes core.val v.val).map fun a => (fto16 (halfFmt fmt) sat a).2)) s t) ∧
  (∀ (core : PhysCore) (v : VReg) (ag sag : AgRef) (fmt : ScaledFmt) (s : State), s.takesSlot core.val →
    blockAligned ((s.core core.val).agAddr ag) (scaledBytes fmt) = true → completes (.stq core v ag fmt sag) s fun t =>
      notedStores core.val
        [⟨(s.core core.val).agAddr ag, natLe (scaledBytes fmt) ((s.core core.val).vreg v.val).bits.toNat,
          ((s.core core.val).vreg v.val).poison, false⟩,
         ⟨(s.core core.val).agAddr sag, [BitVec.ofNat 8 (((s.core core.val).vreg v.val).bits.toNat / 2 ^ 992)],
          ((s.core core.val).vreg v.val).poison, true⟩] 0 s t) ∧
  (∀ (core : PhysCore) (v : VReg) (ag sag : AgRef) (fmt : HalfFmt) (qfmt : ScaledFmt) (sat : Bool) (found : List Upset)
    (s : State), s.takesSlot core.val →
    ((s.core core.val).agAddr ag % 128 ≠ 0 →
      completes (.ldv core v ag found) s (fun t => t.ended 3 1 ∧ sameBytes s t) ∧
      completes (.stv core v ag) s (fun t => t.ended 3 1 ∧ sameBytes s t)) ∧
    ((s.core core.val).agAddr ag % 64 ≠ 0 →
      completes (.ldh core v ag fmt found) s (fun t => t.ended 3 1 ∧ sameBytes s t) ∧
      completes (.sth core v ag fmt sat) s (fun t => t.ended 3 1 ∧ sameBytes s t)) ∧
    (blockAligned ((s.core core.val).agAddr ag) (scaledBytes qfmt) = false →
      completes (.ldq core v ag qfmt sag found) s (fun t => t.ended 3 1 ∧ sameBytes s t) ∧
      completes (.stq core v ag qfmt sag) s (fun t => t.ended 3 1 ∧ sameBytes s t)))

/-- Accumulator, generator, DMA and reduction slots. On a core that takes the slot at once, RDACC notes a readout of the row, CLRACC the cleared row, ACFG the row its ACC_CFG entry gives, SETAG the generator to load after the bundle's steps, DMA the descriptor and RED the table entry with the row it reads; nothing else of the block changes. -/
def Obligations.OtherMoves : Prop :=
  (∀ (core : PhysCore) (v : VReg) (row : AccRow) (s : State), s.takesSlot core.val → completes (.rdacc core v row) s fun t =>
    notes core.val (fun k => { k with rdR := k.rdR ++ [row.val], pending := k.pending ++ [.readout v.val row.val] }) s t) ∧
  (∀ (core : PhysCore) (row : AccRow) (s : State), s.takesSlot core.val → completes (.clracc core row) s fun t =>
    notes core.val (fun k => { k with pending := k.pending ++
      [.acc row.val { k.accRow row.val with accs := [], poison := false } 0] }) s t) ∧
  (∀ (core : PhysCore) (row : AccRow) (entry : Fin 512) (s : State), s.takesSlot core.val →
    completes (.acfg core row entry) s fun t => notes core.val (fun k => { k with pending := k.pending ++
      [.acc row.val (rowOf (Tab.get k.accCfg entry.val 0)) 0] }) s t) ∧
  (∀ (core : PhysCore) (ag : Fin 8) (entry : Fin 32768) (s : State), s.takesSlot core.val →
    completes (.setag core ag entry) s fun t =>
      notes core.val (fun k => { k with setags := k.setags ++ [(ag.val, entry.val)] }) s t) ∧
  (∀ (core : PhysCore) (entry : Fin 4096) (s : State), s.takesSlot core.val → completes (.dma core entry) s fun t =>
    notes core.val (fun k => { k with dmaIssue := k.dmaIssue ++ [entry.val] }) s t) ∧
  (∀ (core : PhysCore) (entry : Fin 512) (j : Job) (s : State), s.takesSlot core.val → s.krm.job = some j →
    completes (.red core entry) s fun t => notes core.val (fun k => { k with
      rdR := k.rdR ++ [redRow (Tab.get j.redTab entry.val 0)], redIssue := k.redIssue ++ [entry.val] }) s t)

/-- The synchronisation slot closes a bundle. When a bundle closes on a core (State.closes), whichever synchronisation slot closes it: it issues at a cycle no earlier than the core had reached; a write or readout noted alone is in its register or row, landing its latency after that cycle or when a write still outstanding lands, whichever is later; a store noted alone is in memory, a narrow one leaving its block stale; without a store no byte changes; its flags, with the readout's, are in the core's status word; nothing of it is left. Under SNOP also: a generator noted to step has stepped, a SETAG has loaded its generator, a DMA has made its tag busy with the descriptor, a RED has given the core's row. SNOP, LOOP, LOOPC, BARQ, BARC, WAITD, PHASE and MARK take the program counter on by 1; LOOP and LOOPC push a level, ENDL branches back to the first bundle of the body or pops the level; BARQ and BARC leave the core waiting with the identifier, or end the job with FAULT, BARRIER where another core in scope waits with another one; PHASE of the lowest participant sets Kermes' phase; MARK shows in KCORE_MARK; END retires the core. A WAITD on a busy tag holds the bundle. -/
def Obligations.BundlesClose : Prop :=
  (∀ (core : PhysCore) (arg : Fin 4096) (ident : BitVec 8) (tag : Fin 16) (ph : Fin 8) (mark : BitVec 12) (s : State),
    s.closes core.val → (Tab.get (s.core core.val).tags tag.val {}).busy = false →
    ∀ i ∈ closers core arg ident tag ph mark, completes i s fun t => ∃ at_, issuedAt core.val at_ s t ∧
      ((s.core core.val).pending = [] → bundleGone core.val 0 s t) ∧
      (∀ r v lat, (s.core core.val).pending = [.vreg r v lat] → bundleGone core.val 0 s t ∧
        (t.core core.val).vreg r = { v with land := max ((s.core core.val).vreg r).land (at_ + lat) }) ∧
      (∀ row v lat, (s.core core.val).pending = [.acc row v lat] → bundleGone core.val 0 s t ∧
        (t.core core.val).accRow row = { v with land := max ((s.core core.val).accRow row).land (at_ + lat) }) ∧
      (∀ r row, (s.core core.val).pending = [.readout r row] →
        bundleGone core.val (readRow ((s.core core.val).accRow row) s.fastOk).2 s t ∧
        (t.core core.val).vreg r = ⟨ofLanes (readRow ((s.core core.val).accRow row) s.fastOk).1,
          ((s.core core.val).accRow row).poison, max ((s.core core.val).vreg r).land (at_ + 4)⟩) ∧
      ((s.core core.val).stores = [] → sameBytes s t) ∧
      (∀ a bs bad, (s.core core.val).stores = [⟨a, bs, bad, false⟩] → a < sramSize → 0 < bs.length → oneRow a bs.length = true →
        stored core.val a bs s t ∧ (bad = true → t.corePoison core.val a bs.length = true) ∧
        (bad = false → blockAligned a bs.length = true → bs.length % 8 = 0 → t.corePoison core.val a bs.length = false)) ∧
      (∀ a b bad, (s.core core.val).stores = [⟨a, [b], bad, true⟩] → a < sramSize → stored core.val a [b] s t ∧
        sramAddr core.val a / 8 * 8 ∈ t.stale ∧ (bad = true → t.corePoison core.val a 1 = true))) ∧
  (∀ (core : PhysCore) (j : Job) (l : Nat) (s : State), s.closes core.val → s.krm.job = some j →
    (s.core core.val).logical = some l → completes (.snop core) s fun t =>
      t.pc core.val = (s.pc core.val + 1) % 2 ^ 14 ∧ (t.core core.val).loops = (s.core core.val).loops ∧
      (∀ g, (s.core core.val).setags = [] → (s.core core.val).steps = [g] →
        Tab.get (t.core core.val).ags g {} = (Tab.get (s.core core.val).ags g {}).step) ∧
      (∀ g e, (s.core core.val).setags = [(g, e)] →
        Tab.get (t.core core.val).ags g {} = agOf (Tab.get (s.core core.val).agInit e 0)) ∧
      (∀ e, (s.core core.val).dmaIssue = [e] → Tab.get (t.core core.val).tags (descTag ((s.core core.val).desc e)) {} =
        { busy := true, desc := (s.core core.val).desc e, issued := (t.core core.val).lastIssue, doneAt := 0 }) ∧
      (∀ e, (s.core core.val).redIssue = [e] → ∃ k, t.krm.job = some k ∧
        ∃ d ∈ k.reds, d.entry = e ∧ (l, (s.core core.val).accRow (redRow (Tab.get j.redTab e 0)), (t.core core.val).lastIssue) ∈ d.got)) ∧
  (∀ (core : PhysCore) (arg : Fin 4096) (s : State), s.closes core.val → completes (.loop core arg) s fun t =>
    (t.core core.val).loops = ⟨s.pc core.val + 1, arg.val⟩ :: (s.core core.val).loops ∧
    t.pc core.val = (s.pc core.val + 1) % 2 ^ 14) ∧
  (∀ (core : PhysCore) (entry : Fin 4096) (s : State), s.closes core.val → completes (.loopc core entry) s fun t =>
    (t.core core.val).loops = ⟨s.pc core.val + 1,
      (Tab.get (s.core core.val).loopCounts entry.val 0).toNat - 1⟩ :: (s.core core.val).loops ∧
    t.pc core.val = (s.pc core.val + 1) % 2 ^ 14) ∧
  (∀ (core : PhysCore) (x : LoopLevel) (l : List LoopLevel) (s : State), s.closes core.val →
    (s.core core.val).loops = x :: l → completes (.endl core) s fun t =>
      (x.left = 0 → (t.core core.val).loops = l ∧ t.pc core.val = (s.pc core.val + 1) % 2 ^ 14) ∧
      (x.left ≠ 0 → (t.core core.val).loops = { x with left := x.left - 1 } :: l ∧ t.pc core.val = x.top % 2 ^ 14)) ∧
  (∀ (core : PhysCore) (ident : BitVec 8) (j : Job) (l : Nat) (s : State), s.closes core.val → s.krm.job = some j →
    (s.core core.val).logical = some l →
    ((∀ p ∈ j.inScope false (l / 8), p.2 ≠ core.val → ∀ i, (s.core p.2).waitBar = some (false, i) → i = ident.toNat) →
      completes (.barq core ident) s fun t =>
        (t.core core.val).waitBar = some (false, ident.toNat) ∧ t.issuing core.val = false ∧
        t.pc core.val = (s.pc core.val + 1) % 2 ^ 14) ∧
    (∀ p ∈ j.inScope false (l / 8), p.2 ≠ core.val → ∀ i, (s.core p.2).waitBar = some (false, i) → i ≠ ident.toNat →
      completes (.barq core ident) s fun t => t.ended 3 4)) ∧
  (∀ (core : PhysCore) (ident : BitVec 8) (j : Job) (l : Nat) (s : State), s.closes core.val → s.krm.job = some j →
    (s.core core.val).logical = some l →
    ((∀ p ∈ j.inScope true (l / 8), p.2 ≠ core.val → ∀ i, (s.core p.2).waitBar = some (true, i) → i = ident.toNat) →
      completes (.barc core ident) s fun t =>
        (t.core core.val).waitBar = some (true, ident.toNat) ∧ t.issuing core.val = false ∧
        t.pc core.val = (s.pc core.val + 1) % 2 ^ 14) ∧
    (∀ p ∈ j.inScope true (l / 8), p.2 ≠ core.val → ∀ i, (s.core p.2).waitBar = some (true, i) → i ≠ ident.toNat →
      completes (.barc core ident) s fun t => t.ended 3 4)) ∧
  (∀ (core : PhysCore) (tag : Fin 16) (s : State), s.closes core.val →
    ((Tab.get (s.core core.val).tags tag.val {}).busy = false → completes (.waitd core tag) s fun t =>
      t.pc core.val = (s.pc core.val + 1) % 2 ^ 14 ∧ (t.core core.val).held = none) ∧
    ((Tab.get (s.core core.val).tags tag.val {}).busy = true → completes (.waitd core tag) s fun t =>
      (t.core core.val).held = some .waitd ∧ t.issuing core.val = false ∧ sameRegs (fun _ => False) s t ∧ sameBytes s t)) ∧
  (∀ (core : PhysCore) (ph : Fin 8) (j : Job) (s : State), s.closes core.val → s.krm.job = some j →
    completes (.phase core ph) s fun t => t.pc core.val = (s.pc core.val + 1) % 2 ^ 14 ∧
      t.krm.phase = if j.parts.head? = (s.core core.val).logical then ph.val else s.krm.phase) ∧
  (∀ (core : PhysCore) (arg : BitVec 12) (s : State), s.closes core.val → completes (.mark core arg) s fun t =>
    t.fget (pKRMCORE core.val) KCORE_MARK_MARK = arg.toNat ∧ t.pc core.val = (s.pc core.val + 1) % 2 ^ 14) ∧
  (∀ (core : PhysCore) (s : State), s.closes core.val → completes (.endStream core) s fun t =>
    (t.core core.val).retired = true ∧ t.flag (pKRMCORE core.val) KCORE_STAT_RUNNING = false ∧ t.pc core.val = s.pc core.val)

/-- Core start, barriers, DMA, reductions and the watchdog. CORE_START of a participant that has not started lets it run, its start 512 cycles times its rank. BARRIER_RELEASE, once every core in scope waits with one identifier, frees them all, the n-th to issue 512 n cycles after the release cycle. DMA_COMPLETE of a busy tag, whatever upsets are found, frees the tag; a transfer of one line that meets no error moves its 64 bytes, as the decoders deliver them, with their poison and changes no other byte (where no weight range is watched), and one whose first line fails from outside ends the job with FAULT, DMA_ERROR. REDUCTION_COMPLETE replaces the root's row by the combination of the contributors', landing 16 or 48 cycles after the last of them gave its row. KERMES_WATCHDOG of a started, unretired core ends the job with FAULT, WATCHDOG. -/
def Obligations.CoresTogether : Prop :=
  (∀ (core : PhysCore) (j : Job) (l : Nat) (s : State), s.krm.job = some j → j.phase = .running →
    (s.core core.val).logical = some l → (s.core core.val).started = false → (s.core core.val).retired = false →
    completes (.coreStart core) s fun t => t.core core.val = { s.core core.val with
        started := true, start := 512 * j.parts.idxOf l, launchStart := 512 * j.parts.idxOf l
        now := 512 * j.parts.idxOf l, lastIssue := 512 * j.parts.idxOf l } ∧
      t.flag (pKRMCORE core.val) KCORE_STAT_RUNNING = true ∧
      onlyCore (· = pKRMCORE core.val + KCORE_STAT_RUNNING.off) core.val s t) ∧
  (∀ (scope : Option Quad) (j : Job) (i : Nat) (s : State), s.krm.job = some j →
    barrierIdent s scope.isNone (j.inScope scope.isNone ((scope.map Fin.val).getD 0)) = some i →
    ((j.inScope scope.isNone ((scope.map Fin.val).getD 0)).map (·.2)).Nodup →
    completes (.barrierRelease scope) s fun t =>
      ∀ (n : Nat) (h : n < (j.inScope scope.isNone ((scope.map Fin.val).getD 0)).length),
        (t.core (j.inScope scope.isNone ((scope.map Fin.val).getD 0))[n].2).waitBar = none ∧
        (t.core (j.inScope scope.isNone ((scope.map Fin.val).getD 0))[n].2).now =
          (j.inScope scope.isNone ((scope.map Fin.val).getD 0)).foldl (fun m p => max m ((s.core p.2).now - 1)) 0 +
            (if scope.isNone then 32 else 8) + 512 * n) ∧
  (∀ (core : PhysCore) (tag : Fin 16) (err : Option Nat) (found : List Upset) (j : Job) (d : BitVec 256) (src dst : Nat)
    (s u : State), s.krm.job = some j → (s.core core.val).held = none → (Tab.get (s.core core.val).tags tag.val {}).busy = true →
    d = (Tab.get (s.core core.val).tags tag.val {}).desc → (src, dst) = dmaLine j core.val d 0 → u = s.upsets found →
    completes (.dmaComplete core tag err found) s fun t =>
      (Tab.get (t.core core.val).tags tag.val {}).busy = false ∧
      (err = some 0 → j.phase = .running → 0 < descRows d * (descRowBytes d / 64) → t.ended 3 3 ∧ sameBytes (u.noteAccess src 64) t) ∧
      (err = none → descRows d = 1 → descRowBytes d = 64 → s.qw.watch = [] → src % 64 = 0 → dst % 64 = 0 →
        u.dmaFails j core.val d 0 = false → u.reachable dst = true →
        (∀ i, i < 64 → t.byteAt (dst + i) = (u.noteAccess src 64).fabByte (src + i)) ∧
        t.poisonedAt dst 64 = (u.noteAccess src 64).fabPoison src 64 ∧
        ∀ x, x < dst ∨ dst + 64 ≤ x → t.byteAt x = (u.noteAccess src 64).byteAt x)) ∧
  (∀ (entry : Fin 512) (j : Job) (d : RedState) (rest : List RedState) (c : Nat) (s : State), s.krm.job = some j →
    j.phase = .running → takeRed entry.val (Tab.get j.redTab entry.val 0) j.reds = some (d, rest) →
    c = (j.physOf (redRoot (Tab.get j.redTab entry.val 0))).getD 0 → (s.core c).held = none →
    (∀ a ∈ (reduceRows ((s.core c).accRow (redRow (Tab.get j.redTab entry.val 0))) j.fastOk
      ((List.range 32).filterMap fun l => (d.got.find? (·.1 = l)).map (·.2.1))).1.accs, a.2.count ≤ j.maxContrib) →
    completes (.reductionComplete entry) s fun t =>
      (t.core c).accRow (redRow (Tab.get j.redTab entry.val 0)) =
        { (reduceRows ((s.core c).accRow (redRow (Tab.get j.redTab entry.val 0))) j.fastOk
            ((List.range 32).filterMap fun l => (d.got.find? (·.1 = l)).map (·.2.1))).1 with
          land := max ((s.core c).accRow (redRow (Tab.get j.redTab entry.val 0))).land
            (d.got.foldl (fun m g => max m g.2.2) 0 + (if redChip (Tab.get j.redTab entry.val 0) then 48 else 16)) } ∧
      t.krm.job = some { j with reds := rest } ∧ sameBytes s t) ∧
  (∀ (core : PhysCore) (s : State), s.jobRunning = true → (s.core core.val).logical.isSome = true →
    (s.core core.val).started = true → (s.core core.val).retired = false → s.fget pKRMGLOB KG_WDOG ≠ 0 →
    completes (.kermesWatchdog core) s fun t => t.ended 3 5 ∧ sameBytes s t)

/-- Submission, load and launch of a job. An accepted SUBMIT with room puts the class's own submission values at the tail of the host queue; with 16 entries waiting it changes no queue and latches QUEUE_FULL. JOB_LOAD takes the next entry the alternation gives, LOADING or refused with the code of the load check. LOAD_COMPLETE with no core of the job in K3 leaves it loaded, marked late where its tick has passed, and, for a job of one core, that core holding its stream under its logical index. LAUNCH of a job that nothing holds (State.launchWaits: a hold, a full ring, waking or sleeping cores, the digests before it, a counter that is not valid or has not reached its tick) starts it, its launch tick the one named or, where it names none or is late, the counter, with every participating core's vector registers, loop stack, tags and program counter at zero and its rows as ACC_CFG gives them. A job that is late under LATE_POLICY 1 is refused with code LATE at LOAD_COMPLETE or at LAUNCH, where it writes no journal entry. A hold, a full ring or a counter not valid or short of the tick leaves LAUNCH without effect. -/
def Obligations.JobsSubmittedAndLoaded : Prop :=
  (∀ (cls : Cls) (s : State), s.takes cls (pKRMGLOB + 0x13C) 1 →
    (s.krm.hostQ.length < 16 → completes (.submit cls) s fun t => ∃ e : JobSub, t.krm.hostQ = s.krm.hostQ ++ [e] ∧
      e.addr = s.subPair cls KG_SUB_ADDR ∧ e.tick = BitVec.ofNat 64 (s.subPair cls KG_SUB_TICK) ∧
      e.nbase = s.subPair cls KG_SUB_NBASE ∧ e.nsize = s.subPair cls KG_SUB_NSIZE ∧
      e.bbase = s.subPair cls KG_SUB_BBASE ∧ e.bsize = s.subPair cls KG_SUB_BSIZE ∧ e.witness = false ∧
      e.jobId = Tab.get s.copies (clsKey cls (pKRMGLOB + KG_SUB_ID.off)) 0 ∧
      t.krm.witQ = s.krm.witQ ∧ t.krm.job = s.krm.job ∧
      t.fget pKRMGLOB KG_STAT_HQ_DEPTH = s.krm.hostQ.length + 1 ∧ sameBytes s t) ∧
    (16 ≤ s.krm.hostQ.length → completes (.submit cls) s fun t => t.krm = s.krm ∧
      (s.fget pKRMGLOB ERR_CODE_CODE = 0 → t.fget pKRMGLOB ERR_CODE_CODE = 0x101))) ∧
  (∀ (e : JobSub) (r u s : State), s.krm.job = none → s.flag pKRMGLOB KG_CTRL_QHOLD = false → s.hr.lost = false →
    s.cringFull = false → s.modeBits = s.krm.mode → s.pins.mainPwrGood = true → s.takeNext = some (e, r) →
    u = r.showQueues.noteAccess e.addr (readCont r.showQueues e).total →
    completes .jobLoad s fun t => ∃ j, t.krm.job = some j ∧ j.sub = e ∧
      t.krm.hostQ = r.krm.hostQ ∧ t.krm.witQ = r.krm.witQ ∧
      ((loadCheck u e u.jrnFree).1 = 0 → j.phase = .loading ∧ t.flag pKRMGLOB KG_STAT_LOADING = true ∧
        j.parts = (readCont u e).parts) ∧
      ((loadCheck u e u.jrnFree).1 ≠ 0 → j.phase = .ended ∧ j.status = 1 ∧ j.code = (loadCheck u e u.jrnFree).1)) ∧
  (∀ (j : Job) (s : State), s.krm.job = some j → j.phase = .loading →
    (∀ c ∈ j.phys, s.fget (pKRMCORE c) KCORE_STAT_PSTATE ≠ 3) →
    ((s.tickPassed j = false ∨ s.flag pKRMGLOB KG_CTRL_LATE_POLICY = false) →
      completes .loadComplete s fun t => ∃ j', t.krm.job = some j' ∧ j'.phase = .loaded ∧ j'.late = s.tickPassed j ∧
        t.flag pKRMGLOB KG_STAT_LOADING = false ∧
        ∀ l c, j.parts = [l] → j.phys = [c] → (t.core c).logical = some l ∧
          (t.core c).store = loadTable (readCont s j.sub) s 3 l ∧
          (t.core c).storeLen = (readCont s j.sub).entries 3 l ∧ (t.core c).started = false) ∧
    (s.tickPassed j = true → s.flag pKRMGLOB KG_CTRL_LATE_POLICY = true →
      completes .loadComplete s fun t => t.ended 1 0x30 ∧ t.flag pKRMGLOB KG_STAT_LOADING = false)) ∧
  (∀ (j : Job) (s : State), s.krm.job = some j → j.phase = .loaded → s.launchWaits j = false →
    ((s.tickPassed j = false ∨ j.late = true ∨ s.flag pKRMGLOB KG_CTRL_LATE_POLICY = false) →
      completes .launch s fun t => (∃ j', t.krm.job = some j' ∧ j'.phase = .running ∧ j'.late = (j.late || s.tickPassed j) ∧
        j'.strict = s.flag pGEN GEN_MODE_STRICT_ACT ∧ j'.actMap = BitVec.ofNat 64 (s.pget pKRMGLOB KG_ACT_MAP) ∧
        j'.launchTick = if j.sub.tick ≠ 0 ∧ j'.late = false then j.sub.tick else s.tick) ∧
      t.flag pKRMGLOB KG_STAT_RUNNING = true ∧ t.krm.phase = 3 ∧
      ∀ c ∈ j.phys, c < 36 → (t.core c).vregs = [] ∧ (t.core c).loops = [] ∧ (t.core c).tags = [] ∧
        (t.core c).started = false ∧ t.fget (pKRMCORE c) KCORE_PC_PC = 0 ∧
        ∀ r, r < 64 → (t.core c).accRow r = rowOf (Tab.get (s.core c).accCfg r 0)) ∧
    (s.tickPassed j = true → j.late = false → s.flag pKRMGLOB KG_CTRL_LATE_POLICY = true →
      completes .launch s fun t => t.ended 1 0x30 ∧ t.jrn = s.jrn)) ∧
  (∀ (j : Job) (s : State), s.krm.job = some j → j.phase = .loaded →
    (s.flag pKRMGLOB KG_CTRL_QHOLD = true ∨ s.cringFull = true ∨ (j.sub.tick ≠ 0 ∧ s.tick.toNat < j.sub.tick.toNat) ∨
      (j.sub.tick ≠ 0 ∧ s.flag pFFY FFY_STAT_VALID = false)) → exec .launch s = .next s)

/-- Halts, completion records and power states of Kermes. An accepted HALT sets QHOLD and ends a job taken as ABORTED, HALT; an accepted CLR_ARITH clears that core's status word alone. COMPLETION_RECORD of a host job that has ended, with no transfer under way and room in the ring, frees Kermes, counts one entry in the ring and, for a job without digests and a ring in a reachable line no watch covers, leaves the 64 bytes of the record there; it waits while the ring is full; a witness job goes to the witness; a host job aborted by a fence returns once to the head of its queue under FENCE_POLICY 1. PSTATE_ENTER takes each core in service that no job holds, or that a loaded job holds, to the deepest permitted state, none to a shallower one, powering down one that enters K3, and no other core; WAKE sets WAKING while a core of the wake set is not in K0 and latches the request where it still powers down; WAKE_DONE, once none does, brings them to K0. -/
def Obligations.JobsEnd : Prop :=
  (∀ (cls : Cls) (s : State), s.takes cls (pKRMGLOB + 0x100) ((s.rd (pKRMGLOB + 0x100)).toNat / 2 * 2 + 1) →
    completes (.halt cls) s fun t => t.flag pKRMGLOB KG_CTRL_QHOLD = true ∧ sameBytes s t ∧
      ∀ j, s.krm.job = some j → j.phase ≠ .ended → t.ended 2 1) ∧
  (∀ (cls : Cls) (core : PhysCore) (s : State), s.takes cls (pKRMCORE core.val + 0x100) 4 →
    completes (.clrArith cls core) s fun t => t.fget (pKRMCORE core.val) KCORE_ARITH = 0 ∧ t.krm = s.krm ∧
      sameRegs (fun a => pKRMCORE core.val ≤ a ∧ a < pKRMCORE core.val + 0x10C) s t) ∧
  (∀ (j : Job) (s : State), s.krm.job = some j → j.phase = .ended → j.sub.witness = false → s.krm.lastDone = none →
    (∀ c ∈ j.phys, ∀ e ∈ (s.core c).tags, e.2.busy = false) → s.cringFull = false →
    (j.status = 2 → j.code = 2 → s.fget pKRMGLOB KG_CTRL_FENCE_POLICY = 0) →
    completes .completionRecord s fun t => t.krm.job = none ∧ t.krm.hostQ = s.krm.hostQ ∧
      t.fget pKRMGLOB KG_CRING_WR = (s.fget pKRMGLOB KG_CRING_WR + 1) % 2 ^ 32 ∧
      (j.digest = false → s.qw.watch = [] →
        (s.pget pKRMGLOB KG_CRING_BASE + 64 * (s.fget pKRMGLOB KG_CRING_WR % s.cringSize)) % 64 = 0 →
        s.reachable (s.pget pKRMGLOB KG_CRING_BASE + 64 * (s.fget pKRMGLOB KG_CRING_WR % s.cringSize)) = true →
        t.bytesAt (s.pget pKRMGLOB KG_CRING_BASE + 64 * (s.fget pKRMGLOB KG_CRING_WR % s.cringSize)) 64 =
          completionBytes s j)) ∧
  (∀ (j : Job) (s : State), s.krm.job = some j → j.phase = .ended → s.krm.lastDone = none →
    (∀ c ∈ j.phys, ∀ e ∈ (s.core c).tags, e.2.busy = false) →
    (j.sub.witness = true → completes .completionRecord s fun t => t.krm.lastDone = some j ∧ t.krm.job = none ∧ sameBytes s t) ∧
    (j.sub.witness = false → j.status ≠ 2 → s.cringFull = true → exec .completionRecord s = .next s) ∧
    (j.sub.witness = false → j.status = 2 → j.code = 2 → j.sub.resubmitted = false → s.fget pKRMGLOB KG_CTRL_FENCE_POLICY = 1 →
      completes .completionRecord s fun t => t.krm.job = none ∧
        t.krm.hostQ = { j.sub with resubmitted := true } :: s.krm.hostQ ∧ sameBytes s t)) ∧
  (∀ s : State, s.flag pKRMGLOB KG_STAT_WAKING = false → completes .pstateEnter s fun t =>
    (∀ c, c < 36 → s.inService c = true →
      ((s.core c).logical = none ∨ ∃ j, s.krm.job = some j ∧ j.phase = .loaded ∧ c ∈ j.phys) →
      t.fget (pKRMCORE c) KCORE_STAT_PSTATE = max (s.fget (pKRMCORE c) KCORE_STAT_PSTATE) s.deepest ∧
      (s.fget (pKRMCORE c) KCORE_STAT_PSTATE < s.deepest → s.deepest = 3 →
        t.flag (pKRMCORE c) KCORE_STAT_SHUTTING = true ∧ (t.core c).vregs = [] ∧ (t.core c).accs = [])) ∧
    (∀ c, c < 36 → (s.inService c = false ∨
      ((s.core c).logical ≠ none ∧ ∀ j, s.krm.job = some j → j.phase = .loaded → c ∉ j.phys)) →
      t.fget (pKRMCORE c) KCORE_STAT_PSTATE = s.fget (pKRMCORE c) KCORE_STAT_PSTATE ∧ t.core c = s.core c) ∧
    (s.deepest ≠ 3 → sameBytes s t) ∧ t.krm.hostQ = s.krm.hostQ) ∧
  (∀ s : State, (∃ c ∈ s.wakeSet, s.fget (pKRMCORE c) KCORE_STAT_PSTATE ≠ 0) → completes .wake s fun t =>
    t.flag pKRMGLOB KG_STAT_WAKING = true ∧ sameBytes s t ∧
    (∀ c ∈ s.wakeSet, c < 36 → s.fget (pKRMCORE c) KCORE_STAT_PSTATE ≠ 0 → s.flag (pKRMCORE c) KCORE_STAT_SHUTTING = true →
      (t.core c).latched = some .wake ∧ t.flag (pKRMCORE c) KCORE_STAT_RESTART_PEND = true) ∧
    ((∀ c ∈ s.wakeSet, s.flag (pKRMCORE c) KCORE_STAT_SHUTTING = false) → t.krm = s.krm ∧
      sameRegs (· = pKRMGLOB + KG_STAT_WAKING.off) s t)) ∧
  (∀ s : State, s.flag pKRMGLOB KG_STAT_WAKING = true → (∀ c ∈ s.wakeSet, s.flag (pKRMCORE c) KCORE_STAT_SHUTTING = false) →
    completes .wakeDone s fun t => t.flag pKRMGLOB KG_STAT_WAKING = false ∧
      (∀ c ∈ s.wakeSet, c < 36 → t.fget (pKRMCORE c) KCORE_STAT_PSTATE = 0) ∧ t.krm.job = s.krm.job ∧ sameBytes s t)

/-- Fences, self-test, spares and power-down of a core. An accepted FENCE, or CORE_FENCED, of a core in service shows FENCED with the cause's code and ends the job the core takes part in ABORTED, FENCE; an activation of that core under way ends and BUSY is clear. UNFENCE is refused while the quadrant has a spare; otherwise, of a fenced core, it starts the self-test, or latches the request while the core powers down; SELFTEST_DONE with a pass makes it the quadrant's spare in K0, with a failure leaves it fenced with cause SELFTEST. SPARE_ACTIVATE of an empty slot starts the spare's self-test with BUSY set; SPARE_DONE with a pass puts it into the slot, counts it in ACT_CORES and empties SPARE. CORE_POWER_DOWN_DONE loses what the core held, puts it in K3 and starts a latched request. -/
def Obligations.FencesAndSpares : Prop :=
  (∀ (cls : Cls) (core : PhysCore) (s : State), s.takes cls (pKRMCORE core.val + 0x100) 1 →
    s.flag (pKRMCORE core.val) PAGE_STAT_FENCED = false → completes (.fence cls core) s fun t =>
      t.flag (pKRMCORE core.val) PAGE_STAT_FENCED = true ∧ t.fget (pKRMCORE core.val) KCORE_FCAUSE_CAUSE = 1 ∧
      t.flag (pKRMCORE core.val) KCORE_STAT_SHUTTING = true ∧
      ((s.core core.val).activating = true → t.flag (quadPage core.val) KQ_SPARE_BUSY = false) ∧
      ∀ j, s.krm.job = some j → core.val ∈ j.phys → j.phase ≠ .ended → t.ended 2 2) ∧
  (∀ (core : PhysCore) (cause : FenceCause) (s : State), s.pins.mainPwrGood = true →
    s.flag (pKRMCORE core.val) PAGE_STAT_FENCED = false → completes (.coreFenced core cause) s fun t =>
      t.flag (pKRMCORE core.val) PAGE_STAT_FENCED = true ∧
      t.fget (pKRMCORE core.val) KCORE_FCAUSE_CAUSE = fenceCode cause ∧
      ∀ j, s.krm.job = some j → core.val ∈ j.phys → j.phase ≠ .ended → t.ended 2 2) ∧
  (∀ (cls : Cls) (core : PhysCore) (s : State), s.takes cls (pKRMCORE core.val + 0x100) 2 →
    (s.fget (quadPage core.val) KQ_SPARE_SPARE ≠ 0xF → completes (.unfence cls core) s fun t => t.krm = s.krm ∧
      (s.fget (quadPage core.val) ERR_CODE_CODE = 0 → t.fget (quadPage core.val) ERR_CODE_CODE = 0x102)) ∧
    (s.flag (pKRMCORE core.val) PAGE_STAT_FENCED = true → s.fget (quadPage core.val) KQ_SPARE_SPARE = 0xF →
    completes (.unfence cls core) s fun t =>
      (s.flag (pKRMCORE core.val) KCORE_STAT_SHUTTING = false → (t.core core.val).selftest = some .unfence) ∧
      (s.flag (pKRMCORE core.val) KCORE_STAT_SHUTTING = true → (t.core core.val).latched = some .unfence ∧
        t.flag (pKRMCORE core.val) KCORE_STAT_RESTART_PEND = true) ∧
      t.flag (pKRMCORE core.val) PAGE_STAT_FENCED = true)) ∧
  (∀ (core : PhysCore) (s : State), (s.core core.val).selftest = some .unfence →
    (s.fget (quadPage core.val) KQ_SPARE_SPARE = 0xF → completes (.selftestDone core true) s fun t =>
      t.flag (pKRMCORE core.val) PAGE_STAT_FENCED = false ∧ t.fget (quadPage core.val) KQ_SPARE_SPARE = core.val % 9 ∧
      t.flag (pKRMCORE core.val) KCORE_STAT_SPARE = true ∧ t.fget (pKRMCORE core.val) KCORE_STAT_PSTATE = 0 ∧
      (t.core core.val).selftest = none) ∧
    completes (.selftestDone core false) s (fun t => t.fget (pKRMCORE core.val) KCORE_FCAUSE_CAUSE = 5 ∧
      (t.core core.val).selftest = none ∧ sameRegs (· = pKRMCORE core.val + KCORE_FCAUSE_CAUSE.off) s t)) ∧
  (∀ (cls : Cls) (quad : Quad) (slot : Fin 8) (s : State), s.takes cls (pKRMQUAD quad.val + 0x104) (8 + slot.val) →
    s.fget (pKRMQUAD quad.val) (mapSlot slot.val) = 0xF → s.fget (pKRMQUAD quad.val) KQ_SPARE_SPARE < 9 →
    s.flag (pKRMQUAD quad.val) KQ_SPARE_BUSY = false →
    s.flag (pKRMCORE (9 * quad.val + s.fget (pKRMQUAD quad.val) KQ_SPARE_SPARE)) KCORE_STAT_SHUTTING = false →
    completes (.spareActivate cls quad slot) s fun t => t.flag (pKRMQUAD quad.val) KQ_SPARE_BUSY = true ∧
      (t.core (9 * quad.val + s.fget (pKRMQUAD quad.val) KQ_SPARE_SPARE)).selftest = some (.spare slot.val)) ∧
  (∀ (quad : Quad) (c k : Nat) (s : State), c = 9 * quad.val + s.fget (pKRMQUAD quad.val) KQ_SPARE_SPARE →
    s.fget (pKRMQUAD quad.val) KQ_SPARE_SPARE < 9 → k < 8 → (s.core c).selftest = some (.spare k) →
    completes (.spareDone quad true) s (fun t => t.fget (pKRMQUAD quad.val) (mapSlot k) = c % 9 ∧
      t.fget (pKRMQUAD quad.val) KQ_SPARE_SPARE = 0xF ∧ t.flag (pKRMQUAD quad.val) KQ_SPARE_BUSY = false ∧
      t.fget (pKRMCORE c) KCORE_STAT_LOGICAL = 8 * quad.val + k ∧ t.fget (pKRMCORE c) KCORE_STAT_PSTATE = 0 ∧
      t.fget pGEN GEN_FAMILY_ACT_CORES = (s.fget pGEN GEN_FAMILY_ACT_CORES + 1) % 64) ∧
    (s.flag (pKRMCORE c) PAGE_STAT_FENCED = false → completes (.spareDone quad false) s fun t =>
      t.flag (pKRMCORE c) PAGE_STAT_FENCED = true ∧ t.fget (pKRMCORE c) KCORE_FCAUSE_CAUSE = 5)) ∧
  (∀ (core : PhysCore) (s : State), s.flag (pKRMCORE core.val) KCORE_STAT_SHUTTING = true →
    completes (.corePowerDownDone core) s fun t => t.flag (pKRMCORE core.val) KCORE_STAT_SHUTTING = false ∧
      t.fget (pKRMCORE core.val) KCORE_STAT_PSTATE = 3 ∧ (t.core core.val).vregs = [] ∧ (t.core core.val).accs = [] ∧
      (t.core core.val).latched = none ∧
      (∀ r, (s.core core.val).latched = some r → (t.core core.val).selftest = some r) ∧
      ∀ x, sramBase + core.val * sramSize ≤ x → x < sramBase + (core.val + 1) * sramSize → t.byteAt x = 0)

/-- Repair slots, tier write-backs, patrol, readiness, fences and spares of memory. A REPAIR_SLOT of a core in K0 or K1, whatever upsets are found, serves the oldest write-back where no rebuild waits or the last slot was no write-back, the oldest rebuild where no write-back waits or the last slot was one (its blocks are stale no longer), the oldest rewrite of an uncorrectable block where neither waits, and scrubs the next row where nothing waits and SRAM_SCRUB is set; what reads deliver it leaves as it is. TIER_WRITE_BACK takes the line off its channel's list and leaves what reads deliver, and every poison mark, as it is. A PATROL_READ short of the end is a read of the channel's next line, and moves TC_PATROL on one line. TIER_READY sets READY and the channel's bit of TG_READY; an accepted CHANNEL_FENCE sets FENCED with cause COMMAND; TIER_TEMP_READ shows the last temperature given. ROW_SPARING of a candidate on a core that runs no job uses one of the bank's spares, or fences the core with cause SRAM_HARD where none is left; REMAP of a line with an uncorrectable word, or of one remembered for a corrected error, uses one of its memory's spare lines, or shows FAULT on the owner's page where none is left; a first corrected error is remembered. -/
def Obligations.StoredDataIntegrity : Prop :=
  (∀ (core : PhysCore) (bank : Fin 16) (found : List Upset) (k : BankState) (s : State), s.pins.mainPwrGood = true →
    s.fget (pKRMCORE core.val) KCORE_STAT_PSTATE < 2 → k = s.bank core.val bank.val →
    completes (.repairSlot core bank found) s fun t => (∀ x, t.delivered x = (s.upsets found).delivered x) ∧
      (∀ row l, k.writeBacks = row :: l → (k.stale = [] ∨ k.lastWb = false) →
        (t.bank core.val bank.val).writeBacks = l ∧ (t.bank core.val bank.val).stale = k.stale ∧
        (t.bank core.val bank.val).lastWb = true) ∧
      (∀ e l, k.stale = e :: l → (k.writeBacks = [] ∨ k.lastWb = true) →
        (t.bank core.val bank.val).stale = l ∧ (t.bank core.val bank.val).writeBacks = k.writeBacks ∧
        (t.bank core.val bank.val).lastWb = false ∧
        ∀ i, i < 16 → e.mask.getLsbD i = true → rowBase core.val bank.val e.row + 8 * i ∉ t.stale) ∧
      (∀ u l, k.writeBacks = [] → k.stale = [] → k.ueRewrites = u :: l → (t.bank core.val bank.val).ueRewrites = l) ∧
      (k.writeBacks = [] → k.stale = [] → k.ueRewrites = [] → s.flag pINT INT_CTRL_SRAM_SCRUB = true →
        (t.bank core.val bank.val).scrubRow = (k.scrubRow + 1) % 16384)) ∧
  (∀ (line : BitVec 42) (s : State), (inNear (line.toNat * 64) || inBulk (line.toNat * 64)) = true →
    completes (.tierWriteBack line) s fun t =>
      (t.chan (line.toNat * 64)).writeBacks = (s.chan (line.toNat * 64)).writeBacks.filter (·.1 != line.toNat * 64) ∧
      (∀ x, t.delivered x = s.delivered x) ∧ t.poison = s.poison) ∧
  (∀ (chan : TierChan) (found : List Upset) (s : State), (match chan with
      | .near _ => s.flag pINT INT_CTRL_NT_PATROL
      | .bulk _ => s.flag pINT INT_CTRL_BK_PATROL) = true → s.pins.mainPwrGood = true →
    s.flag (chanPage chan) PAGE_STAT_FENCED = false → s.pget (chanPage chan) TC_PATROL + 64 < chanBytes →
    exec (.patrolRead chan found) s = .next (((s.upsets found).see (chanAddr chan (s.pget (chanPage chan) TC_PATROL)) 64).pset
      (chanPage chan) TC_PATROL (s.pget (chanPage chan) TC_PATROL + 64))) ∧
  (∀ (chan : TierChan) (i : Nat) (s : State), i = (match chan with | .near i => i.val | .bulk i => i.val) →
    s.pins.mainPwrGood = true → s.flag (chanPage chan) PAGE_STAT_FENCED = false →
    s.flag (chanPage chan) PAGE_STAT_READY = false → completes (.tierReady chan) s fun t =>
      t.flag (chanPage chan) PAGE_STAT_READY = true ∧ (t.fget (tierGlobal (chanPage chan)) TG_READY).testBit i = true ∧
      sameBytes s t) ∧
  (∀ (cls : Cls) (chan : TierChan) (s : State), s.takes cls (chanPage chan + 0x100) 1 →
    s.flag (chanPage chan) PAGE_STAT_FENCED = false → completes (.channelFence cls chan) s fun t =>
      t.flag (chanPage chan) PAGE_STAT_FENCED = true ∧ t.fget (chanPage chan) TC_STAT_FCAUSE = 3 ∧ sameBytes s t) ∧
  (∀ (pre : List TierTemp) (x : TierTemp) (s : State), s.pins.mainPwrGood = true →
    completes (.tierTempRead (pre ++ [x])) s fun t => t.fget (chanPage x.chan) TC_TEMP_TEMP = x.temp.toNat ∧ sameBytes s t) ∧
  (∀ (core : PhysCore) (bank : Fin 16) (row : BitVec 14) (s : State), s.flag pINT INT_CTRL_AUTO_SPARE = true →
    s.pins.mainPwrGood = true → (∀ j, s.krm.job = some j → j.phase = .running → core.val ∉ j.phys) →
    row.toNat ∈ (s.bank core.val bank.val).candidates →
    ((s.bank core.val bank.val).sparesUsed < 8 → completes (.rowSparing core bank row) s fun t =>
      (t.bank core.val bank.val).sparesUsed = (s.bank core.val bank.val).sparesUsed + 1 ∧
      row.toNat ∉ (t.bank core.val bank.val).candidates ∧
      t.fget pINT INT_SPARE_STAT_FREE = 7 - (s.bank core.val bank.val).sparesUsed ∧
      t.fget pINT INT_SPARE_STAT_CORE = core.val ∧ t.fget pINT INT_SPARE_STAT_BANK = bank.val) ∧
    (8 ≤ (s.bank core.val bank.val).sparesUsed → s.flag (pKRMCORE core.val) PAGE_STAT_FENCED = false →
      completes (.rowSparing core bank row) s fun t => t.flag (pKRMCORE core.val) PAGE_STAT_FENCED = true ∧
        t.fget (pKRMCORE core.val) KCORE_FCAUSE_CAUSE = 4)) ∧
  (∀ (mem : CtrlMem) (line : Nat) (bad : BitVec 8) (s : State), (mem.val, line) ∉ s.integ.remaps →
    (bad ≠ 0 ∨ (mem.val, line) ∈ s.integ.ceLines →
      (s.fget pINT (remapUsed mem) < 16 → completes (.remap mem line bad) s fun t =>
        t.integ.remaps = s.integ.remaps ++ [(mem.val, line)] ∧
        t.fget pINT (remapUsed mem) = s.fget pINT (remapUsed mem) + 1 ∧
        ∀ i, i < 8 → bad.getLsbD i = true → (mem.val, 8 * line + i) ∈ t.integ.badWords) ∧
      (16 ≤ s.fget pINT (remapUsed mem) → completes (.remap mem line bad) s fun t => t.integ.remaps = s.integ.remaps ∧
        t.flag (memPage mem) PAGE_STAT_FAULT = true)) ∧
    ((mem.val, line) ∉ s.integ.ceLines → completes (.remap mem line 0) s fun t =>
      t.integ.ceLines = s.integ.ceLines ++ [(mem.val, line)] ∧ t.integ.remaps = s.integ.remaps ∧
      t.fget pINT (ceCount 3) = sat32 (s.fget pINT (ceCount 3) + 1)))

/-- Firefly loads, slots, received frames and TRAY_SYNC. A receiver reads from the line of any frame that frame, its CRC right. An accepted FFY_LOAD captures FFY_SET on a slot boundary for the next one. A FRAME_SLOT under lock stands at a multiple of 1,024 ticks, consumes the load, and, on a master, sets the counter to it with VALID; FFY_SYNC_OUT, with OUT_EN and no calibration under way or upstream echo to serve, carries the frame of the slot, early by FFY_CABLE, with VALID, DISC where one is owed, UNCAL while not calibrated, and no DISC is owed it after; a follower that stays one counts a slot without an accepted frame. A frame that a follower accepts ends HOLDOVER, gives HOP one more than its own and shows OFFSET; it steps the counter to its tick when it carries DISC, is off by more than 4 ticks or follows a lock return, and owes every output a DISC; otherwise the offset falls by at most two eighths of a tick; the second that counts, 1,024 after the first, gives UPSTREAM_OK and VALID unless its HOP is 63 or more. One with a wrong CRC is counted and changes nothing else of Firefly. HOLDOVER leaves VALID; VALID_LOST after 32 slots clears it. TRAY_SYNC_PULSE on a valid counter with TSYNC_EN stands at a multiple of 2^20; a second driver sets FAULT in every state. -/
def Obligations.FireflyFrames : Prop :=
  (∀ f : SyncFrame, receive f.line = some (f, true)) ∧
  (∀ (cls : Cls) (s : State), s.takes cls (pFFY + 0x118) 1 → completes (.ffyLoad cls) s fun t =>
    t.ffy.load = some (clsCode cls, BitVec.ofNat 64 (s.pget pFFY FFY_SET / 1024 * 1024)) ∧
    t.ffy.counter = s.ffy.counter ∧ t.flag pFFY FFY_STAT_VALID = s.flag pFFY FFY_STAT_VALID ∧ sameBytes s t) ∧
  (∀ (refl : Option Nat) (s : State), s.flag pFFY FFY_STAT_LOCKED = true →
    completes (.frameSlot refl) s fun t => t.ffy.load = none ∧ t.ffy.slotAt = some t.ffy.counter ∧
      t.ffy.role = s.flag pFFY FFY_CTRL_ROLE ∧ sameBytes s t ∧
      (s.ffy.load = none → t.ffy.counter.toNat % 1024 = 0) ∧
      (∀ req v, s.ffy.load = some (req, v) → s.flag pFFY FFY_CTRL_ROLE = false →
        t.ffy.counter = v ∧ t.flag pFFY FFY_STAT_VALID = true) ∧
      (s.flag pFFY FFY_CTRL_OUT_EN = true → s.flag pFFY FFY_STAT_CAL_BUSY = false → s.ffy.echoServe = false →
        ∃ f : SyncFrame, t.outs.getLast? = some (.sync 8 (s.fget pFFY FFY_CABLE_DELAY) t.ffy.counter f.line) ∧
          f.tick = t.ffy.counter + 24 ∧ f.seq = BitVec.ofNat 8 (t.ffy.counter.toNat / 1024) ∧
          f.hop = BitVec.ofNat 8 (t.fget pFFY FFY_STAT_HOP) ∧ f.flags.getLsbD 0 = t.flag pFFY FFY_STAT_VALID ∧
          f.flags.getLsbD 1 = (s.ffy.disc.getLsbD 8 || (s.ffy.load.isSome && !s.flag pFFY FFY_CTRL_ROLE)) ∧
          f.flags.getLsbD 2 = false ∧ f.flags.getLsbD 3 = !s.flag pFFY FFY_STAT_CALIBRATED ∧
          t.ffy.disc.getLsbD 8 = false) ∧
      (s.ffy.role = true → s.flag pFFY FFY_CTRL_ROLE = true → s.ffy.got = false → s.ffy.termOff = false →
        t.ffy.silent = s.ffy.silent + 1 ∧ t.ffy.heard = false)) ∧
  (∀ (line : List Bool) (frac : Fin 8) (f : SyncFrame) (o : Int) (s : State), s.ffy.role = true →
    s.flag pFFY FFY_STAT_LOCKED = true → receive line = some (f, true) → o = s.ffy.ahead f.tick frac →
    (s.ffy.everAccepted = true → s.ffy.inPosition frac = true) → completes (.frameAccept line frac) s fun t =>
      t.ffy.everAccepted = true ∧ t.ffy.heard = true ∧ t.flag pFFY FFY_STAT_HOLDOVER = false ∧
      t.fget pFFY FFY_STAT_HOP = (f.hop.toNat + 1) % 256 ∧
      (-32768 ≤ o → o ≤ 32767 → t.fget pFFY FFY_OFFSET_OFFSET = ofSigned 16 o) ∧
      ((f.flags.getLsbD 1 = true ∨ o > 32 ∨ o < -32 ∨ s.ffy.resync = true) → t.ffy.counter = f.tick ∧ t.ffy.disc = 0x1FF) ∧
      (f.flags.getLsbD 1 = false → -32 ≤ o → o ≤ 32 → s.ffy.resync = false →
        t.ffy.ahead f.tick frac = o + max (-2) (min 2 (-o)) ∧ t.ffy.slew = max (-2) (min 2 (-o)) ∧ t.ffy.disc = s.ffy.disc) ∧
      (f.flags.getLsbD 0 = true → f.flags.getLsbD 3 = false → s.ffy.lastTick = some (f.tick - 1024) →
        t.flag pFFY FFY_STAT_UPSTREAM_OK = true ∧ (f.hop.toNat < 63 → t.flag pFFY FFY_STAT_VALID = true) ∧
        (63 ≤ f.hop.toNat → t.flag pFFY FFY_STAT_CHAIN_LONG = true ∧
          t.flag pFFY FFY_STAT_VALID = s.flag pFFY FFY_STAT_VALID))) ∧
  (∀ (line : List Bool) (frac : Fin 8) (f : SyncFrame) (s : State), s.ffy.role = true → s.flag pFFY FFY_STAT_LOCKED = true →
    receive line = some (f, false) → completes (.frameAccept line frac) s fun t =>
      t.fget pFFY FFY_FRAME_ERR = sat32 (s.fget pFFY FFY_FRAME_ERR + 1) ∧ t.ffy = s.ffy ∧
      sameRegs (· = pFFY + FFY_FRAME_ERR.off) s t) ∧
  (∀ s : State, s.ffy.role = true → s.ffy.everAccepted = true → s.ffy.heard = false → s.flag pFFY FFY_STAT_LOCKED = true →
    s.flag pFFY FFY_STAT_HOLDOVER = false → completes .holdover s fun t => t.flag pFFY FFY_STAT_HOLDOVER = true ∧
      t.flag pFFY FFY_STAT_VALID = s.flag pFFY FFY_STAT_VALID ∧ t.ffy = s.ffy) ∧
  (∀ s : State, s.ffy.role = true → 32 ≤ s.ffy.silent → completes .validLost s fun t => t.flag pFFY FFY_STAT_VALID = false ∧
    t.flag pFFY FFY_STAT_UPSTREAM_OK = false ∧ t.ffy.counter = s.ffy.counter) ∧
  (∀ s : State, s.flag pFFY FFY_STAT_VALID = true → s.flag pFFY FFY_CTRL_TSYNC_EN = true →
    s.flag pFFY FFY_STAT_LOCKED = true → completes (.traySyncPulse false) s fun t =>
      t.ffy.counter.toNat % 1048576 = 0 ∧ t.outs = s.outs ++ [.traySync t.ffy.counter] ∧
      t.ffy.pulseAt = some t.ffy.counter) ∧
  (∀ s : State, completes (.traySyncPulse true) s fun t => t.flag pFFY PAGE_STAT_FAULT = true)

/-- Echo calibration and the timebase lock. An accepted ECHO_GO with OUT_EN starts a calibration with nothing timed yet; without OUT_EN, or while one runs, it latches ECHO_BUSY. In the first slot of a pair FFY_SYNC_OUT asks for an echo; in the second it steps at slot tick 64 and nothing else, and the reflection is timed, or counts as missed when absent or more than 448 ticks after the step; a slot follows an accepted request with the input's termination disconnected. CAL_DONE after 64 pairs ends it: CAL_FAIL after a missed reflection, and otherwise CALIBRATED with half the mean round trip less the pad delay in FFY_CABLE. TIMEBASE_LOSS under lock clears LOCKED and VALID and holds the counter; TIMEBASE_LOCK_RETURN sets LOCKED, a follower to step at its next frame. -/
def Obligations.FireflyCalibrationAndLock : Prop :=
  (∀ (cls : Cls) (s : State), s.takes cls (pFFY + 0x100) (Nat.lor (s.rd (pFFY + 0x100)).toNat 8) →
    (s.flag pFFY FFY_CTRL_OUT_EN = true → s.flag pFFY FFY_STAT_CAL_BUSY = false → completes (.echoGo cls) s fun t =>
      t.flag pFFY FFY_STAT_CAL_BUSY = true ∧ t.ffy.echoPairs = 0 ∧ t.ffy.echoSum = 0 ∧ t.ffy.echoMiss = false ∧
      t.ffy.echoNext = false ∧ t.flag pFFY FFY_STAT_CALIBRATED = s.flag pFFY FFY_STAT_CALIBRATED) ∧
    (s.flag pFFY FFY_CTRL_OUT_EN = false ∨ s.flag pFFY FFY_STAT_CAL_BUSY = true → s.fget pFFY ERR_CODE_CODE = 0 →
      completes (.echoGo cls) s fun t => t.fget pFFY ERR_CODE_CODE = 0x102 ∧ t.ffy = s.ffy)) ∧
  (∀ (refl : Option Nat) (s : State), s.flag pFFY FFY_STAT_LOCKED = true → completes (.frameSlot refl) s fun t =>
    t.ffy.termOff = s.ffy.echoServe ∧
    (s.flag pFFY FFY_STAT_CAL_BUSY = true → s.flag pFFY FFY_CTRL_OUT_EN = true → s.ffy.echoServe = false →
      (s.ffy.echoNext = false → s.ffy.echoPairs < 64 → t.ffy.echoNext = true ∧ ∃ f : SyncFrame,
        t.outs.getLast? = some (.sync 8 (s.fget pFFY FFY_CABLE_DELAY) t.ffy.counter f.line) ∧ f.flags.getLsbD 2 = true ∧
        f.flags.getLsbD 3 = true) ∧
      (s.ffy.echoNext = true → t.ffy.echoNext = false ∧ t.ffy.echoPairs = s.ffy.echoPairs + 1 ∧
        t.outs.getLast? = some (.echoStep (t.ffy.counter + 64)) ∧
        (∀ x, refl = some x → x ≤ 3584 → t.ffy.echoSum = s.ffy.echoSum + x ∧ t.ffy.echoMiss = s.ffy.echoMiss) ∧
        ((∀ x, refl = some x → 3584 < x) → t.ffy.echoMiss = true)))) ∧
  (∀ s : State, s.flag pFFY FFY_STAT_CAL_BUSY = true → 64 ≤ s.ffy.echoPairs →
    (s.ffy.echoMiss = true → completes .calDone s fun t => t.flag pFFY FFY_STAT_CAL_BUSY = false ∧
      t.flag pFFY FFY_STAT_CAL_FAIL = true ∧ t.flag pFFY FFY_STAT_CALIBRATED = s.flag pFFY FFY_STAT_CALIBRATED) ∧
    (s.ffy.echoMiss = false → completes .calDone s fun t => t.flag pFFY FFY_STAT_CAL_BUSY = false ∧
      t.flag pFFY FFY_STAT_CAL_FAIL = false ∧ t.flag pFFY FFY_STAT_CALIBRATED = true ∧
      ∀ d, d < 65536 → s.ffy.echoSum = 128 * (d + s.fuses.padDelay) → t.fget pFFY FFY_CABLE_DELAY = d)) ∧
  (∀ s : State, s.flag pFFY FFY_STAT_LOCKED = true → completes .timebaseLoss s fun t =>
    t.flag pFFY FFY_STAT_LOCKED = false ∧ t.flag pFFY FFY_STAT_VALID = false ∧ t.ffy.counter = s.ffy.counter ∧
    t.fget pCLK CLK_LOSS_CNT = sat32 (s.fget pCLK CLK_LOSS_CNT + 1) ∧ sameBytes s t) ∧
  (∀ s : State, s.flag pFFY FFY_STAT_LOCKED = false → completes .timebaseLockReturn s fun t =>
    t.flag pFFY FFY_STAT_LOCKED = true ∧ t.ffy = { s.ffy with resync := s.ffy.role, everAccepted := false } ∧
    sameRegs (· = pFFY + FFY_STAT_LOCKED.off) s t)

/-- Doorbells of a receipt queue, and reads of BAR4. A doorbell of the right form acts on its queue alone. POST of the host producer within the ring, on a queue that is enabled and not being disabled, moves PROD to INDEX. VACK up to VDONE moves VACK. ENABLE of a disabled queue whose context reads valid and unpoisoned enables it with every index at INDEX and the ring size and bases of the context. DISABLE of an enabled queue marks it. ARM of an enabled queue waits for INDEX, or waits for nothing where VDONE has passed it. QUEUE_DISABLED puts a marked queue whose VDONE equals PROD back to an unused one. A doorbell of the wrong size (reason 0), of another QUEUE (1) or with OP 5 to 7 (2), an ENABLE of an enabled queue (2), a VACK, DISABLE or ARM of one that is not (2), and a POST to one not enabled or being disabled (3) are dropped: DB_ERR counts with saturation, LAST_ERR_Q shows queue and reason, no queue, receipt or byte changes. With MAIN down or the function in D3hot a doorbell does nothing. A BAR4 read with the host link up, in D0, answers the four indexes of an enabled queue for an aligned 8-byte read of its doorbell, and zero otherwise. -/
def Obligations.Doorbells : Prop :=
  (∀ (db : Doorbell) (s : State), s.rings db 0 → (s.queue db.q.toNat).enabled = true →
    (s.queue db.q.toNat).disabling = false → (s.queue db.q.toNat).producer = 8 →
    (doorbellIndex db - (s.queue db.q.toNat).vack).toNat ≤ 2 ^ (s.queue db.q.toNat).log2s →
    ((s.queue db.q.toNat).prod - (s.queue db.q.toNat).vack).toNat ≤ (doorbellIndex db - (s.queue db.q.toNat).vack).toNat →
    completes (.post db) s fun t => (t.queue db.q.toNat).prod = doorbellIndex db ∧
      (t.queue db.q.toNat).disp = (s.queue db.q.toNat).disp ∧ (t.queue db.q.toNat).vdone = (s.queue db.q.toNat).vdone ∧
      (t.queue db.q.toNat).vack = (s.queue db.q.toNat).vack ∧ ∀ q, q ≠ db.q.toNat → t.queue q = s.queue q) ∧
  (∀ (db : Doorbell) (s : State), s.rings db 1 → (s.queue db.q.toNat).enabled = true →
    (doorbellIndex db - (s.queue db.q.toNat).vack).toNat ≤ ((s.queue db.q.toNat).vdone - (s.queue db.q.toNat).vack).toNat →
    completes (.vack db) s fun t => t.queue db.q.toNat = { s.queue db.q.toNat with vack := doorbellIndex db } ∧
      (∀ q, q ≠ db.q.toNat → t.queue q = s.queue q) ∧ sameBytes s t) ∧
  (∀ (db : Doorbell) (ctx : List Byte) (s : State), s.rings db 2 → (s.queue db.q.toNat).enabled = false →
    (s.fabRead (s.pget pQMG QMG_CTX_BASE + 64 * db.q.toNat) 64).1 = ctx →
    (s.fabRead (s.pget pQMG QMG_CTX_BASE + 64 * db.q.toNat) 64).2.1 = false → ctxOk ctx = true →
    completes (.enable db) s fun t => (t.queue db.q.toNat).enabled = true ∧
      (t.queue db.q.toNat).prod = doorbellIndex db ∧ (t.queue db.q.toNat).disp = doorbellIndex db ∧
      (t.queue db.q.toNat).vdone = doorbellIndex db ∧ (t.queue db.q.toNat).vack = doorbellIndex db ∧
      (t.queue db.q.toNat).log2s = fieldLe ctx 2 1 ∧ (t.queue db.q.toNat).ring = fieldLe ctx 8 8 ∧
      (t.queue db.q.toNat).vring = fieldLe ctx 0x10 8 ∧ (∀ q, q ≠ db.q.toNat → t.queue q = s.queue q)) ∧
  (∀ (db : Doorbell) (s : State), s.rings db 3 → (s.queue db.q.toNat).enabled = true →
    completes (.disable db) s fun t => t.queue db.q.toNat = { s.queue db.q.toNat with disabling := true } ∧
      (∀ q, q ≠ db.q.toNat → t.queue q = s.queue q) ∧ sameBytes s t) ∧
  (∀ (db : Doorbell) (s : State), s.rings db 4 → (s.queue db.q.toNat).enabled = true →
    completes (.arm db) s fun t => t.queue db.q.toNat = { s.queue db.q.toNat with
        armed := if (doorbellIndex db - (s.queue db.q.toNat).vack).toNat ≤
          ((s.queue db.q.toNat).vdone - (s.queue db.q.toNat).vack).toNat then none else some (doorbellIndex db) } ∧
      (∀ q, q ≠ db.q.toNat → t.queue q = s.queue q) ∧ sameBytes s t) ∧
  (∀ (q : Queue) (s : State), (s.queue q.toNat).enabled = true → (s.queue q.toNat).disabling = true →
    (s.queue q.toNat).vdone = (s.queue q.toNat).prod → completes (.queueDisabled q) s fun t =>
      t.queue q.toNat = {} ∧ (∀ r, r ≠ q.toNat → t.queue r = s.queue r) ∧ sameBytes s t) ∧
  (∀ (db : Doorbell) (s : State), s.hostPort = false → ∀ c ∈ doorbellRows db, completes c s (· = s)) ∧
  (∀ (db : Doorbell) (s : State), s.hostPort = true → ∀ c ∈ doorbellRows db,
    (db.sizeOk = false → completes c s (dropped db 0 s)) ∧
    (db.sizeOk = true → db.value.toNat / 2 ^ 32 % 2 ^ 20 ≠ db.q.toNat → completes c s (dropped db 1 s)) ∧
    (∀ op, s.rings db op → op = 5 ∨ op = 6 ∨ op = 7 → completes c s (dropped db 2 s)) ∧
    (s.rings db 2 → (s.queue db.q.toNat).enabled = true → completes c s (dropped db 2 s)) ∧
    (∀ op, s.rings db op → op = 1 ∨ op = 3 ∨ op = 4 → (s.queue db.q.toNat).enabled = false → completes c s (dropped db 2 s)) ∧
    (s.rings db 0 → (s.queue db.q.toNat).enabled = false ∨ (s.queue db.q.toNat).disabling = true →
      completes c s (dropped db 3 s))) ∧
  (∀ (off : BitVec 36) (len : Nat) (found : List Upset) (s : State), s.flag pHST HST_LINK_UP = true → s.hr.d3hot = false →
    completes (.bar2Read .bar4 off len found) s fun t => t = { s with outs := s.outs ++ [.bar4
      (if len = 8 ∧ off.toNat % 8 = 0 ∧ off.toNat < 0x800000 ∧ (s.queue (off.toNat / 8)).enabled = true then
        (s.queue (off.toNat / 8)).vack ++ (s.queue (off.toNat / 8)).vdone ++ (s.queue (off.toNat / 8)).disp ++
          (s.queue (off.toNat / 8)).prod else 0)] })

/-- Dispatch passes, seeds and witness slots. DISPATCH_PASS with dispatch on, MAIN up and nothing left of the last pass notes each queue's undispatched receipts, at most WEIGHT of them under BALANCE, and a pass is under way exactly when some are. RECEIPT_DISPATCH of the pass's next queue reads the oldest receipt: a selected one that reads clean meets a full pending list with SHED = 0 and the driver there, and is held; otherwise one receipt counts as dispatched, and a selected clean one joins the pending list where it has room or counts as shed, while any other leaves the list as it is. An accepted SEED_ROTATE counts EPOCH, moves the old seed to WIT_PREV_SEED and, without ENTROPY_SEED, takes the host's seed. An accepted REGISTER of an EMPTY slot starts hashing it, an accepted UNREGISTER of a used one ends with the slot EMPTY and unwatched, and a REGISTER while another is hashed latches CMD_BUSY. SLOT_HASH_DONE ends the command: with STALE for a slot that turned stale, otherwise, where the storage holds no upset, with VALID exactly when the structural checks, the poison check, the format checks, the windows and the weight image pass, and with FAILED else. -/
def Obligations.DispatchAndSlots : Prop :=
  (∀ s : State, s.flag pQMG QMG_CTRL_DISPATCH = true → s.pins.mainPwrGood = true → s.passNext = none → s.qw.heldR = none →
    completes .dispatchPass s fun t => t.qw.queues = s.qw.queues.map (fun e => (e.1, { e.2 with
        noted := if s.krm.mode.balance then min (e.2.prod - e.2.disp).toNat e.2.weight else (e.2.prod - e.2.disp).toNat })) ∧
      t.qw.inPass = t.passNext.isSome ∧ sameBytes s t) ∧
  (∀ (q : Queue) (bytes : List Byte) (clean sel : Bool) (s : State), s.qw.heldR = none →
    s.flag pQMG QMG_CTRL_DISPATCH = true → s.passNext = some q.toNat →
    (s.fabRead (s.oldestAt q.toNat) 128).1 = bytes → (s.fabRead (s.oldestAt q.toNat) 128).2.1 = !clean →
    s.selected (fieldLe bytes 1 1 / 2 % 2 = 1) (s.queue q.toNat).log2k q.toNat
      ((s.queue q.toNat).seqOf (s.queue q.toNat).disp) = sel →
    completes (.receiptDispatch q) s fun t =>
      if clean = true ∧ sel = true ∧ 4096 ≤ s.qw.pendList.length ∧ s.flag pWIT WIT_CTRL_SHED = false ∧ s.hr.lost = false then
        t.qw.heldR.isSome = true ∧ (t.queue q.toNat).disp = (s.queue q.toNat).disp ∧ t.qw.pendList = s.qw.pendList
      else
        t.qw.heldR = none ∧ (t.queue q.toNat).disp = (s.queue q.toNat).disp + 1 ∧
        (t.queue q.toNat).noted = (s.queue q.toNat).noted - 1 ∧
        (clean = true → sel = true → s.qw.pendList.length < 4096 →
          ∃ r, t.qw.pendList = s.qw.pendList ++ [r] ∧ r.queue = q.toNat ∧ r.bytes = bytes ∧ r.retried = false) ∧
        (clean = true → sel = true → 4096 ≤ s.qw.pendList.length → t.qw.pendList = s.qw.pendList ∧
          t.fget pWIT WIT_CNT_SHED = sat32 (s.fget pWIT WIT_CNT_SHED + 1)) ∧
        (clean = false ∨ sel = false → t.qw.pendList = s.qw.pendList)) ∧
  (∀ (cls : Cls) (s : State), s.takes cls (pWIT + 0x138) 1 → completes (.seedRotate cls) s fun t =>
    t.fget pWIT WIT_EPOCH = (s.fget pWIT WIT_EPOCH + 1) % 2 ^ 32 ∧
    (∀ i, i < 8 → t.fget pWIT (seedWord WIT_PREV_SEED i) = fieldLe s.qw.seed (4 * i) 4) ∧
    (s.krm.mode.entropySeed = false → t.qw.seed = s.seedBytes WIT_HSEED) ∧ sameBytes s t) ∧
  (∀ (cls : Cls) (slot : BitVec 8) (s : State), s.takes cls (pWIT + 0x110) (0x100 + slot.toNat) →
    (s.qw.hashing = none → s.slotState slot.toNat = 0 → completes (.register cls slot) s fun t =>
      t.qw.hashing = some slot.toNat ∧ t.flag pWIT WIT_CMD_STAT_BUSY = true ∧ t.fget pWIT WIT_CMD_STAT_STATE = 1 ∧
      t.fget pWIT WIT_CMD_STAT_SLOT = slot.toNat) ∧
    (s.qw.hashing ≠ none → s.fget pWIT ERR_CODE_CODE = 0 → completes (.register cls slot) s fun t =>
      t.fget pWIT ERR_CODE_CODE = 0x101 ∧ t.qw = s.qw ∧ sameBytes s t)) ∧
  (∀ (cls : Cls) (slot : BitVec 8) (s : State), s.takes cls (pWIT + 0x110) (0x200 + slot.toNat) →
    s.qw.hashing = none → s.slotState slot.toNat ≠ 0 → completes (.unregister cls slot) s fun t =>
      t.flag pWIT WIT_CMD_STAT_BUSY = false ∧ t.fget pWIT WIT_CMD_STAT_STATE = 0 ∧
      t.fget pWIT WIT_CMD_STAT_SLOT = slot.toNat ∧ Tab.find? t.qw.watch slot.toNat = none) ∧
  (∀ (i : Nat) (s : State), i < 256 → s.qw.hashing = some i → completes .slotHashDone s fun t =>
    t.qw.hashing = none ∧ t.flag pWIT WIT_CMD_STAT_BUSY = false ∧ t.fget pWIT WIT_CMD_STAT_SLOT = i ∧
    (s.slotState i = 3 → t.fget pWIT WIT_CMD_STAT_STATE = 3) ∧
    (s.slotState i ≠ 3 → s.noUpsets → t.fget pWIT WIT_CMD_STAT_STATE = if s.registers i then 2 else 4))

/-- Witness jobs, their verdicts and replay. WITNESS_SUBMIT acts on the receipt at the head of the pending list with no yield, room in the queue and its slot not being hashed: one that fails a check is taken off the list and counts among the other verdicts; one that passes, reads clean and has no job of its slot in Kermes moves to Kermes and queues one witness job with the slot's number and its PARAM words. WITNESS_VERDICT of a job that ended: COMPLETE on clean data with the receipt's OUTPUT digest counts a MATCH, with another digest a MISMATCH; an abort or fault not yet retried returns the receipt to the head of the list under RETRY; any other end counts among the other verdicts; each frees the place the receipt took. An accepted REPLAY to the witness of a good, clean journal entry puts its receipt at the tail of the list; to an accelerator whose port is up it makes one replay more, and where the port is down, or the entry is no good, it counts among the other verdicts; with a full replay ring it latches RPL_FULL, and to a target from 9 up it does nothing. REPLAY_TIMEOUT ends the replay of that tag that was wholly sent and counts it among the other verdicts. -/
def Obligations.ReExecution : Prop :=
  (∀ (r : WitReceipt) (l : List WitReceipt) (s : State), s.waiting = r :: l → s.krm.witQ.length < 16 → s.gov.yield = false →
    (∀ d, d ≠ 0 → s.receiptCheck r = d → d = 6 ∨ s.qw.hashing ≠ some (fieldLe r.bytes 4 2) →
      completes .witnessSubmit s fun t => t.waiting ++ t.qw.rplWait = l ++ s.qw.rplWait ∧ t.krm.witQ = s.krm.witQ ∧
        t.fget pWIT WIT_CNT_OTHER = sat32 (s.fget pWIT WIT_CNT_OTHER + 1)) ∧
    (s.receiptCheck r = 0 → s.qw.hashing ≠ some (fieldLe r.bytes 4 2) →
      (∀ x ∈ s.qw.inKermes, fieldLe x.bytes 4 2 ≠ fieldLe r.bytes 4 2) →
      s.noUpsets → s.fabPoison r.inAddr (fieldLe r.bytes 0x1C 4) = false → completes .witnessSubmit s fun t =>
        t.waiting ++ t.qw.rplWait = l ++ s.qw.rplWait ∧ t.qw.inKermes.length = s.qw.inKermes.length + 1 ∧
        (∃ e : JobSub, t.krm.witQ = s.krm.witQ ++ [e] ∧ e.witness = true ∧ e.jobId = s.qw.jobNo ∧
          e.params = [0, 1, 2, 3].map fun i => BitVec.ofNat 32 (fieldLe r.bytes (0x30 + 4 * i) 4)) ∧
        t.qw.jobNo = s.qw.jobNo + 1 ∧ t.krm.job = s.krm.job)) ∧
  (∀ (j : Job) (r : WitReceipt) (l : List WitReceipt) (s : State), s.krm.lastDone = some j → s.qw.inKermes = r :: l →
    j.sub.witness = true → (j.status = 0 → j.digDone = true) → completes .witnessVerdict s fun t =>
      t.krm.lastDone = none ∧ t.qw.inKermes.length = l.length ∧
      (j.status = 0 → r.slotDirty = false → j.digPoison = false → j.outputDigest ≠ [] →
        (j.outputDigest = slice r.bytes 0x40 32 → t.fget pWIT WIT_CNT_MATCH = sat32 (s.fget pWIT WIT_CNT_MATCH + 1)) ∧
        (j.outputDigest ≠ slice r.bytes 0x40 32 →
          t.fget pWIT WIT_CNT_MISMATCH = sat32 (s.fget pWIT WIT_CNT_MISMATCH + 1))) ∧
      (2 ≤ j.status → r.retried = false → r.slotDirty = false → s.flag pWIT WIT_CTRL_RETRY = true →
        ∃ x, t.waiting = x :: s.waiting ∧ x.bytes = r.bytes ∧ x.retried = true) ∧
      (r.slotDirty = true ∨ j.status = 1 ∨ (2 ≤ j.status ∧ (r.retried = true ∨ s.flag pWIT WIT_CTRL_RETRY = false)) ∨
          (j.status = 0 ∧ (j.outputDigest = [] ∨ j.digPoison = true)) →
        t.fget pWIT WIT_CNT_OTHER = sat32 (s.fget pWIT WIT_CNT_OTHER + 1))) ∧
  (∀ (cls : Cls) (target : Fin 16) (a n : Nat) (s : State), s.takes cls (pWIT + 0x1A0) (16 + target.val) →
    s.pget pWIT WIT_RPL_ENTRY = a → min segSize (s.fabLe a 4) = n →
    (8 < target.val → completes (.replay cls target) s fun t => t.qw = s.qw ∧ sameBytes s t) ∧
    (target.val ≤ 8 → s.rplFull = true → s.fget pWIT ERR_CODE_CODE = 0 → completes (.replay cls target) s fun t =>
      t.fget pWIT ERR_CODE_CODE = 0x103 ∧ t.qw = s.qw ∧ sameBytes s t) ∧
    (target.val ≤ 8 → s.rplFull = false → s.noUpsets →
      (s.fabPoison a 0xC0 = true ∨ s.fabPoison a n = true ∨ s.entryOk a = false ∨
          (target.val < 8 ∧ s.portUp target.val = false) → completes (.replay cls target) s fun t =>
        t.fget pWIT WIT_CNT_OTHER = sat32 (s.fget pWIT WIT_CNT_OTHER + 1) ∧ t.qw.pendList = s.qw.pendList ∧
        t.qw.replays = s.qw.replays) ∧
      (s.fabPoison a 0xC0 = false → s.fabPoison a n = false → s.entryOk a = true →
        (target.val = 8 → completes (.replay cls target) s fun t =>
          ∃ r, t.waiting ++ t.qw.rplWait = s.waiting ++ s.qw.rplWait ++ [r] ∧ r.replay = true ∧ r.inAddr = a + 0xC0 ∧
            slice r.bytes 2 126 = slice (s.fabBytes (a + 0x40) 128) 2 126 ∧ sameBytes s t) ∧
        (target.val < 8 → s.portUp target.val = true → completes (.replay cls target) s fun t =>
          t.qw.replays.map (·.port) = s.qw.replays.map (·.port) ++ [target.val] ∧ t.qw.pendList = s.qw.pendList)))) ∧
  (∀ (port : Port) (tag : BitVec 16) (x : PortReplay) (s : State), x ∈ s.qw.replays → x.port = port.val → x.tag = tag →
    x.sent = true → (∀ y ∈ s.qw.replays, y.port = port.val → y.sent = true → y.tag = tag → y = x) →
    s.replayUnsent x = false → completes (.replayTimeout port tag) s fun t =>
      t.qw.replays.map (·.receipt) = (s.qw.replays.filter (· != x)).map (·.receipt) ∧
      t.fget pWIT WIT_CNT_OTHER = sat32 (s.fget pWIT WIT_CNT_OTHER + 1))

/-- Output digests, digest records, attestation batches and their signatures. OUTPUT_DIGEST of a digested host job that ended COMPLETE lets the job go and makes one record more to write. Where the storage holds no upset, no byte changes, and with nothing poisoned and batching on the job's RESULT becomes the next leaf of the open batch, which closes at its 65,536th leaf, or joins no batch and counts in UNBATCHED while eight closed ones wait; with poison no batch changes. DIGEST_RECORD_WRITE with room in the ring takes the oldest record held and counts RING_WR, and does nothing without a record or room. BATCH_CLOSE, and BATCH_TIMEOUT where a timeout is set, close the open batch at the present tick and open the next number, and change nothing of a batch with no leaf. BATCH_SIGN, the ledger core running, signs the first closed batch with the present index where it has no signature and an index is left: DGT_KEY_IDX counts, and the mirror in flash holds an end above the index used; the signed record leaves for the ring where MAIN is up and the ring has room. With every batch signed, or no index left, no index is used. -/
def Obligations.DigestsAndBatches : Prop :=
  (∀ (j : Job) (s : State), s.krm.lastDone = some j → j.status = 0 → j.digest = true → j.digDone = false →
    j.sub.witness = false → completes .outputDigest s fun t => t.krm.lastDone = none ∧
      t.dgt.held.length = s.dgt.held.length + 1 ∧
      (s.noUpsets → sameBytes s t ∧
        (j.digPoison = false → s.rangePoison (imageRanges j 3) = false → s.flag pDGT DGT_CTRL_BATCH_EN = true →
          (8 ≤ s.dgt.closed.length → t.dgt.openB = s.dgt.openB ∧ t.dgt.closed = s.dgt.closed ∧
            t.fget pDGT DGT_UNBATCHED = sat32 (s.fget pDGT DGT_UNBATCHED + 1)) ∧
          (s.dgt.closed.length < 8 → s.dgt.openB.leaves.length + 1 ≠ 65536 → t.dgt.closed = s.dgt.closed ∧
            t.dgt.openB.no = s.dgt.openB.no ∧ t.dgt.openB.leaves = s.dgt.openB.leaves ++
              [s.resultDigest { j with outputDigest := outputImageDigest (s.rangeBytes (imageRanges j 3)) }]) ∧
          (s.dgt.closed.length < 8 → s.dgt.openB.leaves.length + 1 = 65536 →
            t.dgt.closed.length = s.dgt.closed.length + 1 ∧ t.dgt.openB = { no := s.dgt.openB.no + 1 })) ∧
        (j.digPoison = true ∨ s.rangePoison (imageRanges j 3) = true →
          t.dgt.openB = s.dgt.openB ∧ t.dgt.closed = s.dgt.closed))) ∧
  (∀ (r : List Byte) (l : List (List Byte)) (s : State), s.dgt.held = r :: l → s.ringFull = false →
    completes .digestRecordWrite s fun t => t.dgt = { s.dgt with held := l } ∧
      t.fget pDGT DGT_RING_WR = (s.fget pDGT DGT_RING_WR + 1) % 2 ^ 32) ∧
  (∀ s : State, (s.dgt.held = [] ∨ s.ringFull = true) → completes .digestRecordWrite s fun t => t = s) ∧
  (∀ s : State, s.fget pDGT DGT_BATCH_TIMEOUT ≠ 0 → completes .batchTimeout s (closesBatch s)) ∧
  (∀ (cls : Cls) (s : State), s.takes cls (pDGT + 0x120) 1 → completes (.batchClose cls) s (closesBatch s)) ∧
  (∀ (b : Batch) (l : List Batch) (s : State), s.ledgerRuns = true → s.flag pDGT DGT_STAT_KEY_EXHAUSTED = false →
    s.dgt.closed = b :: l → b.signed = none → s.pget pDGT DGT_KEY_IDX < keyTotal → completes .batchSign s fun t =>
      t.pget pDGT DGT_KEY_IDX = s.pget pDGT DGT_KEY_IDX + 1 ∧
      (∃ e, t.keyMirror = some e ∧ s.pget pDGT DGT_KEY_IDX < e) ∧ t.dgt.openB = s.dgt.openB ∧
      (s.pget pDGT DGT_KEY_IDX + 1 = keyTotal → t.flag pDGT DGT_STAT_KEY_EXHAUSTED = true) ∧
      (s.bringFull = false → s.pins.mainPwrGood = true → t.dgt.closed = l ∧
        t.fget pDGT DGT_BRING_WR = (s.fget pDGT DGT_BRING_WR + 1) % 2 ^ 32) ∧
      (s.bringFull = true ∨ s.pins.mainPwrGood = false → t.dgt.closed =
        { b with signed := some (s.signedRecord b) } :: l)) ∧
  (∀ s : State, s.ledgerRuns = true → (s.flag pDGT DGT_STAT_KEY_EXHAUSTED = true ∨ ∀ b ∈ s.dgt.closed, b.signed.isSome = true) →
    completes .batchSign s fun t => t.pget pDGT DGT_KEY_IDX = s.pget pDGT DGT_KEY_IDX ∧ t.fuses = s.fuses ∧
      (t.dgt.closed = s.dgt.closed ∨ t.dgt.closed = s.dgt.closed.tail))

/-- Enabling, disabling and sealing the replay journal. The first accepted rise of JRN_CTRL.EN since MAIN power-up opens slot 0 with an empty segment after its header and counts USE_NO; a rise after JRN_BASE or JRN_SEGS was written clears every pin and opens slot 0; any other opens the first unpinned slot after JRN_OPEN, wrapping, or none where every slot is pinned, an owed seal given first. An accepted fall owes the open segment its seal, and no byte changes. SEGMENT_SEAL gives an owed seal and leaves no segment open, with STATE 2 in the header where its lines are in reach, no upset waits in the storage and no witness slot is watched; without one owed it does nothing. -/
def Obligations.JournalOpensAndSeals : Prop :=
  (∀ (cls : Cls) (s : State), s.takes cls (pJRN + 0x100) 1 → s.jrnOn = false →
    (s.jrn.firstRise = true → completes (.journalEnable cls) s fun t => t.jrnOn = true ∧ t.jrn.isOpen = true ∧
      t.fget pJRN JRN_OPEN = 0 ∧ t.jrn.used = 0x80 ∧ t.jrn.entries = 0 ∧ t.jrn.firstRise = false ∧
      t.pget pJRN JRN_USE_NO = (s.pget pJRN JRN_USE_NO + 1) % 2 ^ 64) ∧
    (s.jrn.firstRise = false → s.jrn.relaid = true → completes (.journalEnable cls) s fun t => t.jrnOn = true ∧
      t.jrn.isOpen = true ∧ t.fget pJRN JRN_OPEN = 0 ∧ t.jrn.used = 0x80 ∧ t.jrn.pins = [] ∧ t.fget pJRN JRN_PINNED = 0 ∧
      t.pget pJRN JRN_USE_NO = (s.pget pJRN JRN_USE_NO + 1) % 2 ^ 64) ∧
    (s.jrn.firstRise = false → s.jrn.relaid = false → s.jrn.sealPend = s.jrn.isOpen →
      (∀ i, s.sealedOff.nextSeg = some i → completes (.journalEnable cls) s fun t => t.jrnOn = true ∧ t.jrn.isOpen = true ∧
        t.fget pJRN JRN_OPEN = i ∧ t.jrn.used = 0x80 ∧ t.jrn.pins = s.sealedOff.jrn.pins ∧
        t.pget pJRN JRN_USE_NO = (s.pget pJRN JRN_USE_NO + 1) % 2 ^ 64) ∧
      (s.sealedOff.nextSeg = none → completes (.journalEnable cls) s fun t => t.jrnOn = true ∧ t.jrn.isOpen = false ∧
        t.flag pJRN JRN_STAT_FULL = true))) ∧
  (∀ (cls : Cls) (s : State), s.takes cls (pJRN + 0x100) 0 → s.jrnOn = true → completes (.journalDisable cls) s fun t =>
    t.jrnOn = false ∧ t.jrn = { s.jrn with sealPend := s.jrn.isOpen, relaid := false } ∧
    t.fget pJRN JRN_OPEN = s.fget pJRN JRN_OPEN ∧ sameBytes s t) ∧
  (∀ s : State, s.jrn.sealPend = true → s.jrn.isOpen = true → completes .segmentSeal s fun t =>
    t.jrn.isOpen = false ∧ t.jrn.sealPend = false ∧ t.jrn.entries = s.jrn.entries ∧
    t.fget pJRN JRN_OPEN = s.fget pJRN JRN_OPEN ∧
    (s.flag pJRN JRN_STAT_PIN_PEND = false → t.jrn.pins = s.jrn.pins) ∧
    (s.noUpsets → s.qw.watch = [] → (∀ x, s.segAddr s.segOpen ≤ x → x < s.segAddr s.segOpen + 0x80 →
        s.reachable (x / 64 * 64) = true) → t.byteAt (s.segAddr s.segOpen + 6) = 2)) ∧
  (∀ s : State, s.jrn.sealPend = false → completes .segmentSeal s fun t => t = s)

/-- PIN and UNPIN of a journal slot. An accepted PIN of a slot of the ring that is not open, not pinned and whose header reads STATE 2 (sealed) pins it at once; of the open slot, neither pinned nor pending, it sets PIN_PEND, and sealing the open segment pins a pending slot and clears PIN_PEND. UNPIN clears a PIN_PEND of the open slot, or the pin of a slot that has none pending. A PIN of a slot pinned or pending, and an UNPIN of a slot neither pinned nor pending, latch PIN_STATE (0x102) where no error stands, and change no pin. Where no witness slot is watched and no upset waits in the storage, no byte of memory changes but the slot's own PIN byte. -/
def Obligations.PinsOfTheJournal : Prop :=
  (∀ (cls : Cls) (slot : BitVec 10) (s : State), s.takes cls (pJRN + 0x120) (0x10000 + slot.toNat) →
    slot.toNat < s.fget pJRN JRN_SEGS →
    ((s.jrn.isOpen = false ∨ s.segOpen ≠ slot.toNat) → slot.toNat ∉ s.jrn.pins → s.fabByte (s.segAddr slot.toNat + 6) = 2 →
      completes (.pin cls slot) s fun t => (∀ i, i ∈ t.jrn.pins ↔ i = slot.toNat ∨ i ∈ s.jrn.pins) ∧
        t.flag pJRN JRN_STAT_PIN_PEND = s.flag pJRN JRN_STAT_PIN_PEND ∧
        (s.qw.watch = [] → s.noUpsets → ∀ x, x ≠ s.segAddr slot.toNat + 7 → t.byteAt x = s.byteAt x)) ∧
    (s.jrn.isOpen = true → s.segOpen = slot.toNat → slot.toNat ∉ s.jrn.pins → s.flag pJRN JRN_STAT_PIN_PEND = false →
      completes (.pin cls slot) s fun t => t.flag pJRN JRN_STAT_PIN_PEND = true ∧ t.jrn = s.jrn ∧ sameBytes s t) ∧
    ((slot.toNat ∈ s.jrn.pins ∨ s.pinPends slot.toNat) → s.fget pJRN ERR_CODE_CODE = 0 →
      completes (.pin cls slot) s fun t => t.fget pJRN ERR_CODE_CODE = 0x102 ∧
        t.jrn = s.jrn ∧ t.flag pJRN JRN_STAT_PIN_PEND = s.flag pJRN JRN_STAT_PIN_PEND ∧ sameBytes s t)) ∧
  (∀ s : State, s.jrn.isOpen = true → s.flag pJRN JRN_STAT_PIN_PEND = true →
    s.sealSeg.jrn.isOpen = false ∧ s.sealSeg.flag pJRN JRN_STAT_PIN_PEND = false ∧
    ∀ i, i ∈ s.sealSeg.jrn.pins ↔ i = s.segOpen ∨ i ∈ s.jrn.pins) ∧
  (∀ (cls : Cls) (slot : BitVec 10) (s : State), s.takes cls (pJRN + 0x120) (0x20000 + slot.toNat) →
    slot.toNat < s.fget pJRN JRN_SEGS →
    (s.pinPends slot.toNat →
      completes (.unpin cls slot) s fun t => t.flag pJRN JRN_STAT_PIN_PEND = false ∧ t.jrn = s.jrn ∧ sameBytes s t) ∧
    (slot.toNat ∈ s.jrn.pins → ¬s.pinPends slot.toNat → completes (.unpin cls slot) s fun t =>
      (∀ i, i ∈ t.jrn.pins ↔ i ∈ s.jrn.pins ∧ i ≠ slot.toNat) ∧
      (s.qw.watch = [] → s.noUpsets → ∀ x, x ≠ s.segAddr slot.toNat + 7 → t.byteAt x = s.byteAt x)) ∧
    (slot.toNat ∉ s.jrn.pins → ¬s.pinPends slot.toNat → s.fget pJRN ERR_CODE_CODE = 0 →
      completes (.unpin cls slot) s fun t => t.fget pJRN ERR_CODE_CODE = 0x102 ∧ t.jrn = s.jrn ∧ sameBytes s t))

/-- Enabling a lockstep pair, and a checkpoint that does not arrive. An accepted rise of a pair's EN empties its buffers, puts MATCHED, the K of its divergence record and MORE at 0 and sets STATE RUNNING, other pairs standing; an accepted fall sets OFF. CHECKPOINT_TIMEOUT of a running or diverged pair with a timeout set and an uncompared checkpoint drops the oldest of these: the first divergence records its K with KIND 2, TILE and TICK of the missing member as all ones and the TILE of the other, and sets STATE DIVERGED under POLICY 1, HALTED under 0; a later one counts in MORE and keeps STATE and the recorded K. -/
def Obligations.LockstepPairs : Prop :=
  (∀ (cls : Cls) (pair : Fin 4) (cfg : BitVec 32) (s : State), s.takes cls (pLKS + 0x140 + 0x40 * pair.val) cfg.toNat →
    (s.flag pLKS (lksFld LKS_CFG_EN pair.val) = false → (lksFld LKS_CFG_EN pair.val).get cfg = 1 →
      completes (.lockstepEnable cls pair cfg) s fun t => t.lksState pair.val = 1 ∧ t.pair pair.val = {} ∧
        t.pget pLKS (lksFld LKS_MATCHED pair.val) = 0 ∧ t.pget pLKS (lksFld LKS_DIV_K pair.val) = 0 ∧
        t.fget pLKS (lksFld LKS_STAT_MORE pair.val) = 0 ∧ (∀ i, i ≠ pair.val → t.pair i = s.pair i) ∧ sameBytes s t) ∧
    (s.flag pLKS (lksFld LKS_CFG_EN pair.val) = true → (lksFld LKS_CFG_EN pair.val).get cfg = 0 →
      completes (.lockstepEnable cls pair cfg) s fun t => t.lksState pair.val = 0 ∧ t.lks = s.lks ∧ sameBytes s t)) ∧
  (∀ (pair : Fin 4) (y : Bool) (c : Checkpoint) (s : State), (s.pair pair.val).oldest = some (y, c) →
    s.fget pLKS LKS_TIMEOUT ≠ 0 → (s.lksState pair.val = 1 ∨ s.lksState pair.val = 2) →
    completes (.checkpointTimeout pair) s fun t => (t.pair pair.val).diverged = true ∧
      (∀ d ∈ (t.pair pair.val).buf y, d.k ≠ c.k) ∧ (t.pair pair.val).buf (!y) = (s.pair pair.val).buf (!y) ∧
      ((s.pair pair.val).diverged = false → t.fget pLKS (lksFld LKS_STAT_KIND pair.val) = 2 ∧
        t.pget pLKS (lksFld LKS_DIV_K pair.val) = c.k.toNat ∧
        t.pget pLKS (lksFld (if y then LKS_DIV_TILE_X else LKS_DIV_TILE_Y) pair.val) = 2 ^ 64 - 1 ∧
        t.pget pLKS (lksFld (if y then LKS_DIV_TICK_X else LKS_DIV_TICK_Y) pair.val) = 2 ^ 64 - 1 ∧
        t.pget pLKS (lksFld (if y then LKS_DIV_TILE_Y else LKS_DIV_TILE_X) pair.val) = c.tile.toNat ∧
        t.lksState pair.val = if s.flag pLKS (lksFld LKS_CFG_POLICY pair.val) then 2 else 3) ∧
      ((s.pair pair.val).diverged = true → t.lksState pair.val = s.lksState pair.val ∧
        t.pget pLKS (lksFld LKS_DIV_K pair.val) = s.pget pLKS (lksFld LKS_DIV_K pair.val) ∧
        t.fget pLKS (lksFld LKS_STAT_MORE pair.val) = min 0xFFFF (s.fget pLKS (lksFld LKS_STAT_MORE pair.val) + 1)))

/-- Memory, receipt, checkpoint and replay units at a Silk port. At an UP port in L0: a MEM_WR of whole lines inside the window, all within reach and no weights watched, leaves exactly its payload there, each line poisoned exactly where PMASK marks it; outside the window it changes no byte and is dropped with reason 1. MEM_RD inside the window, with credit and nothing waiting, is answered with the bytes and the marks its read delivers, and changes no byte where no upset waits; outside it is answered with zeros, PMASK 0xFF and ERR, and dropped with reason 2. A RCPT its queue takes moves PROD by one, shows its tag, and leaves its payload in its slot where that is within reach and no weights are watched; a refused one counts in NAK_CNT and moves no queue. A CHKPT that no enabled pair names changes no pair; of a running or lagging pair, one in order that meets its equal counterpart of the right tile counts a match, and one in order with no counterpart yet is kept where the buffer has room. A REPLAY_RSP of no outstanding replay is dropped with reason 3; one of the only outstanding replay with its tag ends it and counts MATCH or MISMATCH. -/
def Obligations.DataUnits : Prop :=
  (∀ (port : Port) (u : SilkUnit) (s : State), s.hears port.val 5 1 u → u.payload.length = u.len.toNat →
    64 ≤ u.len.toNat → u.len.toNat ≤ 512 → u.len.toNat % 64 = 0 → lineOk u.arg.toNat u.len.toNat = true →
    (s.qw.watch = [] → s.inWindow port.val u.arg.toNat u.len.toNat = true →
      (∀ i, i < u.len.toNat / 64 → s.reachable (u.arg.toNat + 64 * i) = true) → completes (.memWr port u) s fun t =>
        (∀ (i : Nat) (h : i < u.payload.length), t.fabByte (u.arg.toNat + i) = u.payload[i]) ∧
        (∀ i, i < u.len.toNat / 64 → t.fabPoison (u.arg.toNat + 64 * i) 64 = u.pmask.getLsbD i) ∧
        ∀ x, x < u.arg.toNat ∨ u.arg.toNat + u.payload.length ≤ x → t.byteAt x = s.byteAt x) ∧
    (s.inWindow port.val u.arg.toNat u.len.toNat = false → completes (.memWr port u) s fun t => sameBytes s t ∧
      t.fget (pSLK port.val) SLK_DROP = sat32 (s.fget (pSLK port.val) SLK_DROP + 1) ∧
      t.fget (pSLK port.val) SLK_LAST_DROP_REASON = 1 ∧ t.fget (pSLK port.val) SLK_LAST_DROP_TYPE = 1)) ∧
  (∀ (port : Port) (u : SilkUnit) (a m : Nat) (s : State), s.hears port.val 5 0x10 u → u.len = 0 → m < 8 → a < 2 ^ 48 →
    u.arg.toNat = m * 2 ^ 48 + a → lineOk a (64 * (m + 1)) = true → s.clearPort port.val →
    m + 2 ≤ nth (s.port port.val).cred 3 →
    (s.inWindow port.val a (64 * (m + 1)) = true → completes (.memRd port u) s fun t =>
      (∃ l, t.outs = s.outs ++ l ++ [.silk port.val
        { typ := 0x20, flags := 0, len := BitVec.ofNat 16 (64 * (m + 1)), tag := u.tag, rsv := 0, arg := 0
          pmask := BitVec.ofNat 8 ((s.fabRead a (64 * (m + 1))).2.2.lineMask a (m + 1))
          payload := (s.fabRead a (64 * (m + 1))).1 }]) ∧ (s.noUpsets → sameBytes s t)) ∧
    (s.inWindow port.val a (64 * (m + 1)) = false → completes (.memRd port u) s fun t =>
      (∃ l, t.outs = s.outs ++ l ++ [.silk port.val
        { typ := 0x20, flags := 2, len := BitVec.ofNat 16 (64 * (m + 1)), tag := u.tag, pmask := 0xFF, rsv := 0, arg := 0
          payload := List.replicate (64 * (m + 1)) 0 }]) ∧ sameBytes s t ∧
      t.fget (pSLK port.val) SLK_DROP = sat32 (s.fget (pSLK port.val) SLK_DROP + 1) ∧
      t.fget (pSLK port.val) SLK_LAST_DROP_REASON = 2 ∧ t.fget (pSLK port.val) SLK_LAST_DROP_TYPE = 0x10)) ∧
  (∀ (port : Port) (u : SilkUnit) (s : State), s.hears port.val 5 2 u → u.len = 128 → u.arg.toNat < 2 ^ 20 →
    (s.nakReason port.val u.arg.toNat = 0 → completes (.rcpt port u) s fun t =>
      (t.queue u.arg.toNat).prod = (s.queue u.arg.toNat).prod + 1 ∧
      (∀ q, q ≠ u.arg.toNat → t.queue q = s.queue q) ∧
      t.fget (pSLK port.val) SLK_LAST_RCPT_TAG = u.tag.toNat ∧
      t.flag (pSLK port.val) SLK_STAT_RCPT_TAG_VALID = true ∧
      ∀ a, a = (s.queue u.arg.toNat).slot ((s.queue u.arg.toNat).seqOf (s.queue u.arg.toNat).prod) → s.qw.watch = [] →
        u.payload.length = 128 → s.reachable a = true → s.reachable (a + 64) = true → a % 64 = 0 →
        ∀ (i : Nat) (h : i < u.payload.length), t.fabByte (a + i) = u.payload[i]) ∧
    (s.nakReason port.val u.arg.toNat ≠ 0 → completes (.rcpt port u) s fun t =>
      t.fget pQMG QMG_NAK_CNT = sat32 (s.fget pQMG QMG_NAK_CNT + 1) ∧ t.qw = s.qw ∧ sameBytes s t)) ∧
  (∀ (port : Port) (u : SilkUnit) (s : State), s.hears port.val 5 3 u → u.len = 48 → fieldLe u.payload 0x28 8 = 0 →
    (s.memberOf port.val = none → completes (.chkpt port u) s fun t => t.lks = s.lks ∧ sameBytes s t) ∧
    (∀ i y, s.memberOf port.val = some (i, y) → (s.lksState i = 1 ∨ s.lksState i = 2) →
      (readCk u.payload).k = (s.pair i).next y →
      (∀ d, ((s.pair i).buf (!y)).find? (·.k = (readCk u.payload).k) = some d → d.digest = (readCk u.payload).digest →
        d.tile = BitVec.ofNat 64 (s.lksTile i (readCk u.payload).k.toNat) → d.tile = (readCk u.payload).tile →
        completes (.chkpt port u) s fun t => t.pget pLKS (lksFld LKS_MATCHED i) =
            (s.pget pLKS (lksFld LKS_MATCHED i) + 1) % 2 ^ 64 ∧ t.lksState i = s.lksState i ∧
          (t.pair i).buf (!y) = ((s.pair i).buf (!y)).filter (·.k != (readCk u.payload).k) ∧
          (t.pair i).next y = (s.pair i).next y + 1) ∧
      (((s.pair i).buf (!y)).find? (·.k = (readCk u.payload).k) = none →
        (s.pair i).next (!y) ≤ (readCk u.payload).k → ((s.pair i).buf y).length < 2048 →
        completes (.chkpt port u) s fun t => (t.pair i).buf y = (s.pair i).buf y ++ [readCk u.payload] ∧
          t.lksState i = s.lksState i ∧ (t.pair i).next y = (s.pair i).next y + 1))) ∧
  (∀ (port : Port) (u : SilkUnit) (s : State), s.hears port.val 5 0x23 u → u.len = 32 →
    ((∀ x ∈ s.qw.replays, ¬(x.port = port.val ∧ x.tag = u.tag ∧ x.sent = true)) →
      completes (.replayRsp port u) s fun t => t.qw = s.qw ∧ sameBytes s t ∧
        t.fget (pSLK port.val) SLK_LAST_DROP_REASON = 3) ∧
    (∀ x ∈ s.qw.replays, x.port = port.val → x.tag = u.tag → x.sent = true →
      (∀ y ∈ s.qw.replays, y.port = port.val → y.sent = true → y.tag = u.tag → y = x) →
      completes (.replayRsp port u) s fun t =>
        t.qw.replays.map (·.receipt) = (s.qw.replays.filter (· != x)).map (·.receipt) ∧
        (slice u.payload 0 32 = slice x.receipt.bytes 0x40 32 →
          t.fget pWIT WIT_CNT_MATCH = sat32 (s.fget pWIT WIT_CNT_MATCH + 1)) ∧
        (slice u.payload 0 32 ≠ slice x.receipt.bytes 0x40 32 →
          t.fget pWIT WIT_CNT_MISMATCH = sat32 (s.fget pWIT WIT_CNT_MISMATCH + 1))))

/-- Control units at a Silk port, credits, and units that are not taken. At an UP port in L0: HALT_ACK sets HALTED; CAP_ACK shows its GEN and, of the latest GEN sent, ends ACK_LATE, while any other leaves the governor as it is; ALERT_INFO is latched; TELEMETRY is shown field for field; CREDIT adds to each class where nothing waits, and the counts of flit retries and FEC corrections that come with it are added (the model's choice, log 90). QUIESCE_ACK ends a shutdown in OFF. At a port in INIT, an INIT that R275 permits takes it to UP with the accelerator's identity and a first SET_CAP at the fallback cap where its version is 1 and its credits suffice; of another version it takes an enabled port DOWN with cause 3, with too few credits with cause 7; and an INIT of version 1.0 with a reserved field set takes it DOWN with cause 8. CREDIT_RETURN of what is owed in L0 sends it in one CREDIT unit. No arrival changes anything outside L0; filler changes no register, byte or port; and any other unit that R275 does not permit or that has a reserved bit set takes an enabled UP port DOWN with cause 8. -/
def Obligations.ControlUnits : Prop :=
  (∀ (port : Port) (u : SilkUnit) (s : State), s.hears port.val 5 0x38 u → u.len = 16 → completes (.haltAck port u) s fun t =>
    t.flag (pSLK port.val) SLK_STAT_HALTED = true ∧ t.portState port.val = 5 ∧ sameBytes s t) ∧
  (∀ (port : Port) (u : SilkUnit) (s : State), s.hears port.val 5 0x39 u → u.len = 16 → completes (.capAck port u) s fun t =>
    t.fget (pGOVACC port.val) GA_GEN_ACKED = fieldLe u.payload 0 2 ∧
    (fieldLe u.payload 0 2 = s.fget (pGOVACC port.val) GA_GEN_SENT → (t.govAcc port.val).ackDue = none ∧
      t.flag (pGOVACC port.val) GA_STAT_ACK_LATE = false) ∧
    (fieldLe u.payload 0 2 ≠ s.fget (pGOVACC port.val) GA_GEN_SENT → t.gov = s.gov)) ∧
  (∀ (port : Port) (u : SilkUnit) (s : State), s.hears port.val 5 0x3B u → u.len = 16 →
    completes (.alertInfo port u) s fun t =>
      t.rd (pSLK port.val + SLK_ALERT_CLASS.off) = BitVec.ofNat 32 (fieldLe u.payload 0 4) ∧ sameBytes s t) ∧
  (∀ (port : Port) (u : SilkUnit) (s : State), s.hears port.val 5 0x3C u → u.len = 16 → fieldLe u.payload 4 2 < 16 →
    completes (.telemetry port u) s fun t => t.fget (pSLK port.val) SLK_TEL_PWR_EST = fieldLe u.payload 0 2 ∧
      t.fget (pSLK port.val) SLK_TEL_PWR_TEMP = fieldLe u.payload 2 2 ∧
      t.fget (pSLK port.val) SLK_TEL_STATE_STATE = fieldLe u.payload 4 2 ∧
      t.fget (pSLK port.val) SLK_TEL_STATE_GEN = fieldLe u.payload 6 2 ∧
      t.pget (pSLK port.val) SLK_TEL_TICK = fieldLe u.payload 8 8 ∧ (t.port port.val).telStale = false ∧
      t.flag (pSLK port.val) SLK_STAT_FALLBACK = decide (fieldLe u.payload 4 2 / 2 % 2 = 1)) ∧
  (∀ (port : Port) (u : SilkUnit) (s : State), s.hears port.val 6 0x3A u → u.len = 16 → leNat u.payload = 0 →
    completes (.quiesceAck port u) s fun t => t.portState port.val = 0 ∧ (t.port port.val).inL0 = false ∧
      t.flag (pSLK port.val) SLK_STAT_PG = false) ∧
  (∀ (port : Port) (u : SilkUnit) (s : State), s.hears port.val 4 0x3E u →
    (unitOk u = true → fieldLe u.payload 0 1 = 1 → 4 ≤ fieldLe u.payload 4 2 → 32 ≤ fieldLe u.payload 10 2 → 18 ≤ fieldLe u.payload 12 2 →
      completes (.silkInit port u) s fun t => t.portState port.val = 5 ∧
        t.pget (pSLK port.val) SLK_ACC_ID = fieldLe u.payload 0x10 8 ∧
        t.fget (pSLK port.val) SLK_CRED0_CONTROL = fieldLe u.payload 4 2 ∧
        (t.govAcc port.val).cap = s.fget (pGOVACC port.val) GA_FALLBACK ∧
        t.fget (pGOVACC port.val) GA_GEN_SENT = (s.fget (pGOVACC port.val) GA_GEN_SENT + 1) % 65536) ∧
    (unitOk u = true → fieldLe u.payload 0 1 ≠ 1 → s.flag (pSLK port.val) SLK_CTRL_EN = true →
      completes (.silkInit port u) s fun t => wentDown port.val 3 s t) ∧
    (unitOk u = true → fieldLe u.payload 0 1 = 1 → s.flag (pSLK port.val) SLK_CTRL_EN = true →
      fieldLe u.payload 4 2 < 4 ∨ fieldLe u.payload 10 2 < 32 ∨ fieldLe u.payload 12 2 < 18 →
      completes (.silkInit port u) s fun t => wentDown port.val 7 s t) ∧
    (u.len = 32 → fieldLe u.payload 0 2 = 1 → s.flag (pSLK port.val) SLK_CTRL_EN = true →
      2 ≤ fieldLe u.payload 2 1 ∨ fieldLe u.payload 3 1 ≠ 0 ∨ fieldLe u.payload 0x18 8 ≠ 0 →
      completes (.silkInit port u) s fun t => wentDown port.val 8 s t)) ∧
  (∀ (port : Port) (u : SilkUnit) (retries corrected : Nat) (s : State), s.hears port.val 5 0x3F u → u.len = 16 →
    fieldLe u.payload 10 6 = 0 →
    s.clearPort port.val → completes (.credit port u retries corrected) s fun t => t.outs = s.outs ∧
      (t.port port.val).owed = (s.port port.val).owed ∧
      t.fget (pSLK port.val) SLK_FLIT_RETRY = sat32 (s.fget (pSLK port.val) SLK_FLIT_RETRY + retries) ∧
      t.fget (pSLK port.val) SLK_FEC_CORR = sat32 (s.fget (pSLK port.val) SLK_FEC_CORR + corrected) ∧
      ∀ i, i < 5 → nth (t.port port.val).cred i = nth (s.port port.val).cred i + fieldLe u.payload (2 * i) 2) ∧
  (∀ (port : Port) (s : State), (s.port port.val).inL0 = true → (∃ n ∈ (s.port port.val).owed, n ≠ 0) →
    completes (.creditReturn port) s fun t => (t.port port.val).owed = [] ∧ sentUnit port.val
      (ctlUnit 0x3F ((List.range 5).flatMap fun i => natLe 2 (nth (s.port port.val).owed i))) s t ∧ sameBytes s t) ∧
  (∀ (port : Port) (u : SilkUnit) (s : State), ∀ c ∈ arrivals port u,
    ((s.port port.val).inL0 = false → completes c s fun t => t = s) ∧
    (u.typ = 0 → completes c s fun t => sameRegs (fun _ => False) s t ∧ sameBytes s t ∧ t.slk = s.slk ∧ t.outs = s.outs) ∧
    (s.pins.mainPwrGood = true → s.portState port.val = 5 → (s.port port.val).inL0 = true →
      s.flag (pSLK port.val) SLK_CTRL_EN = true → u.typ ≠ 0 → u.rsv ≠ 0 ∨ 4 ≤ u.flags.toNat ∨ unitOk u = false →
      completes c s fun t => wentDown port.val 8 s t))

/-- Bring-up, shutdown and retraining of a Silk port. An accepted rise of EN with a legal window brings an OFF or DOWN port up: WAIT_PWR, or with power good RESET, or TRAINING with ATTACH; one while SHUTTING latches RESTART_PEND. A fall of EN takes an UP port to SHUTTING, a port on the way up or DOWN to OFF. The report of ACCp power good from a Carapace that speaks moves a waiting port on, and a report that it is gone drives PG low and moves no port; RST_HOLD expires into TRAINING, or starts the latched bring-up; a link that came up at its rate, width and number enters INIT and sends INIT, any other goes DOWN with cause 2; PORT_RETRY brings a DOWN port up that is enabled and not fenced; RETRAIN takes it DOWN with cause 11; QUIESCE_TIMEOUT ends a shutdown in OFF. -/
def Obligations.PortBringUp : Prop :=
  (∀ (cls : Cls) (port : Port) (s : State), s.slkTakes cls port.val 1 0 → s.flag (pSLK port.val) SLK_CTRL_EN = false →
    s.windowOk port.val = true →
    (s.portState port.val = 0 ∨ s.portState port.val = 7 → completes (.portEnable cls port) s fun t =>
      t.portState port.val = s.broughtUp port.val ∧ t.flag (pSLK port.val) SLK_CTRL_EN = true ∧
      t.fget (pSLK port.val) SLK_DOWN_ATTEMPTS = 0 ∧ t.flag (pSLK port.val) PAGE_STAT_FENCED = false) ∧
    (s.portState port.val = 6 → completes (.portEnable cls port) s fun t => t.portState port.val = 6 ∧
      t.flag (pSLK port.val) SLK_STAT_RESTART_PEND = true)) ∧
  (∀ (cls : Cls) (port : Port) (s : State), s.slkTakes cls port.val 0 1 → s.flag (pSLK port.val) SLK_CTRL_EN = true →
    (s.portState port.val = 5 → completes (.portShutdown cls port) s fun t => t.portState port.val = 6 ∧
      (t.port port.val).quiesced = true ∧ t.flag (pSLK port.val) SLK_CTRL_EN = false ∧
      t.flag (pSLK port.val) SLK_STAT_RESTART_PEND = false) ∧
    (s.portState port.val ≠ 0 → s.portState port.val ≠ 5 → s.portState port.val ≠ 6 →
      completes (.portShutdown cls port) s fun t => t.portState port.val = 0 ∧ (t.port port.val).inL0 = false ∧
        t.flag (pSLK port.val) SLK_STAT_PG = false)) ∧
  (∀ (cls : Cls) (port : Port) (s : State), s.slkTakes cls port.val 0x200 0 → s.flag (pSLK port.val) SLK_CTRL_EN = true →
    s.plainCtrl port.val → 1 ≤ s.portState port.val → s.portState port.val ≤ 5 →
    completes (.retrain cls port) s fun t => wentDown port.val 11 s t) ∧
  (∀ (port : Port) (s : State), s.flag (pCRPBR port.val) CB_STAT_PG = true → s.crp.silent = false →
    s.pins.mainPwrGood = true → completes (.branchPowerGoodReport port) s fun t => (t.port port.val).pgBranch = true ∧
      t.portState port.val = (if s.portState port.val = 1 then (if s.flag (pSLK port.val) SLK_CTRL_ATTACH then 3 else 2)
        else s.portState port.val)) ∧
  (∀ (port : Port) (s : State), s.flag (pCRPBR port.val) CB_STAT_PG = false → s.crp.silent = false →
    s.pins.mainPwrGood = true → completes (.branchPowerGoodReport port) s fun t => (t.port port.val).pgBranch = false ∧
      t.flag (pSLK port.val) SLK_STAT_PG = false ∧ t.portState port.val = s.portState port.val) ∧
  (∀ (port : Port) (s : State),
    (s.portState port.val = 2 → completes (.rstHoldExpiry port) s fun t => t.portState port.val = 3 ∧
      t.flag (pSLK port.val) SLK_STAT_RESET = false) ∧
    (s.portState port.val = 0 → s.flag (pSLK port.val) SLK_STAT_RESTART_PEND = true →
      completes (.rstHoldExpiry port) s fun t => t.portState port.val = s.broughtUp port.val ∧
        t.flag (pSLK port.val) SLK_STAT_RESTART_PEND = false) ∧
    (s.portState port.val = 7 → s.flag (pSLK port.val) SLK_CTRL_EN = true → s.flag (pSLK port.val) PAGE_STAT_FENCED = false →
      completes (.portRetry port) s fun t => t.portState port.val = s.broughtUp port.val) ∧
    (s.portState port.val = 6 → completes (.quiesceTimeout port) s fun t => t.portState port.val = 0)) ∧
  (∀ (port : Port) (rateOk widthOk : Bool) (no : BitVec 8) (s : State), s.portState port.val = 3 →
    (rateOk = true → widthOk = true → no.toNat = port.val → completes (.linkUp port rateOk widthOk no) s fun t =>
      t.portState port.val = 4 ∧ (t.port port.val).inL0 = true ∧ sentUnit port.val (s.initUnit port.val) s t ∧
      sameBytes s t) ∧
    ((rateOk = false ∨ widthOk = false ∨ no.toNat ≠ port.val) → s.flag (pSLK port.val) SLK_CTRL_EN = true →
      completes (.linkUp port rateOk widthOk no) s fun t => wentDown port.val 2 s t))

/-- What takes a Silk port down, and Recovery. TRAIN_TIMEOUT of a training port, INIT_TIMEOUT of one in INIT and RECOVERY_FAIL of an UP port outside L0 take an enabled port DOWN with causes 1, 6 and 5: its link is cut, nothing waits, the attempt counts, and the last permitted one fences it. LINK_RECOVERY takes an UP port out of L0, and DOWN when it is the 65th within a second; LINK_RECOVERY_EXIT brings it back. REMOVED takes an enabled port in INIT or UP back to bring-up with cause 4 and no attempt counted; where the branch is not ON, its report takes an enabled port in RESET to UP to WAIT_PWR with cause 10. -/
def Obligations.PortGoesDown : Prop :=
  (∀ (port : Port) (s : State), s.flag (pSLK port.val) SLK_CTRL_EN = true →
    (s.portState port.val = 3 → completes (.trainTimeout port) s fun t => wentDown port.val 1 s t) ∧
    (s.portState port.val = 4 → completes (.initTimeout port) s fun t => wentDown port.val 6 s t) ∧
    (s.portState port.val = 5 → (s.port port.val).inL0 = false →
      completes (.recoveryFail port) s fun t => wentDown port.val 5 s t) ∧
    (s.portState port.val = 5 → (s.port port.val).inL0 = true →
      (((s.port port.val).recoveries.filter fun t => s.nowNs < t + 1000000000).length < 64 →
        completes (.linkRecovery port) s fun t => t.portState port.val = 5 ∧ (t.port port.val).inL0 = false ∧
          (t.port port.val).waiting = (s.port port.val).waiting ∧ t.outs = s.outs ∧ sameBytes s t) ∧
      (64 ≤ ((s.port port.val).recoveries.filter fun t => s.nowNs < t + 1000000000).length →
        completes (.linkRecovery port) s fun t => wentDown port.val 5 s t)) ∧
    (s.portState port.val = 5 → (s.port port.val).inL0 = false → completes (.linkRecoveryExit port) s fun t =>
      t.portState port.val = 5 ∧ (t.port port.val).inL0 = true ∧ sameBytes s t) ∧
    (s.portState port.val = 4 ∨ s.portState port.val = 5 → completes (.removed port false) s fun t =>
      t.portState port.val = s.broughtUp port.val ∧ t.fget (pSLK port.val) SLK_DOWN_CAUSE = 4 ∧
      t.fget (pSLK port.val) SLK_DOWN_ATTEMPTS = s.fget (pSLK port.val) SLK_DOWN_ATTEMPTS ∧ t.clearPort port.val) ∧
    (2 ≤ s.portState port.val → s.portState port.val ≤ 5 → s.branchOn port.val = false →
      s.pins.mainPwrGood = true → completes (.removed port true) s fun t => t.portState port.val = 1 ∧
        t.fget (pSLK port.val) SLK_DOWN_CAUSE = 10 ∧ (t.port port.val).pgBranch = false))

/-- HALT and RESUME, HEART, telemetry age and ALERT_N of a Silk port. An accepted HALT of an UP port with credit and nothing waiting sends one HALT of reason 1, RESUME sends RESUME and clears HALTED; on a port that is not UP either latches the state error. HEART_TOGGLE inverts a driven heartbeat; TEL_STALE forgets the telemetry held; with MAIN on, a fall of ALERT_N is shown, throttles the accelerator where ALERT_ACT asks for it and sends HALT of reason 3 to an UP port in L0 with credit and nothing waiting where it asks for that, and its rise leaves THROTTLE to the other sources; with MAIN off either moves the level alone. -/
def Obligations.PortSidebands : Prop :=
  (∀ (cls : Cls) (port : Port) (s : State), s.plainCtrl port.val → (s.port port.val).inL0 = true → s.clearPort port.val →
    1 ≤ nth (s.port port.val).cred 0 → s.portState port.val = 5 →
    (s.slkTakes cls port.val 2 0 → completes (.slkHalt cls port) s fun t =>
      sentUnit port.val (ctlUnit 0x30 [1]) s t ∧ t.portState port.val = 5 ∧ sameBytes s t ∧
      t.flag (pSLK port.val) SLK_STAT_HALTED = s.flag (pSLK port.val) SLK_STAT_HALTED) ∧
    (s.slkTakes cls port.val 4 0 → completes (.slkResume cls port) s fun t =>
      sentUnit port.val (ctlUnit 0x31 []) s t ∧ t.portState port.val = 5 ∧ sameBytes s t ∧
      t.flag (pSLK port.val) SLK_STAT_HALTED = false)) ∧
  (∀ (c : Instr) (cls : Cls) (port : Port) (s : State), s.plainCtrl port.val → s.portState port.val ≠ 5 →
    (c = .slkHalt cls port ∧ s.slkTakes cls port.val 2 0) ∨ (c = .slkResume cls port ∧ s.slkTakes cls port.val 4 0) →
    s.fget (pSLK port.val) ERR_CODE_CODE = 0 → completes c s fun t => t.fget (pSLK port.val) ERR_CODE_CODE = 0x102 ∧
      t.portState port.val = s.portState port.val ∧
      (t.port port.val).waiting = (s.port port.val).waiting) ∧
  (∀ (port : Port) (s : State), s.flag (pSLK port.val) SLK_STAT_HEART = true → s.mainP.lnkLost = false →
    completes (.heartToggle port) s fun t => (t.port port.val).heart = !(s.port port.val).heart ∧ sameRegs (fun _ => False) s t ∧
      sameBytes s t) ∧
  (∀ (port : Port) (s : State), s.portState port.val = 5 → completes (.telStale port) s fun t =>
    (t.port port.val).telStale = true ∧ t.portState port.val = 5 ∧ sameBytes s t) ∧
  (∀ (port : Port) (s : State), (s.port port.val).alertLow = false → s.pins.mainPwrGood = true →
    completes (.alert port) s fun t => (t.port port.val).alertLow = true ∧ t.flag (pSLK port.val) SLK_STAT_ALERT = true ∧
      (s.fget (pSLK port.val) SLK_CTRL_ALERT_ACT ≠ 0 → t.flag (pSLK port.val) SLK_STAT_THROTTLE = true) ∧
      (2 ≤ s.fget (pSLK port.val) SLK_CTRL_ALERT_ACT → s.portState port.val = 5 → (s.port port.val).inL0 = true →
        s.clearPort port.val → 1 ≤ nth (s.port port.val).cred 0 →
        .silk port.val (ctlUnit 0x30 [3]) ∈ t.outs.drop s.outs.length) ∧ sameBytes s t) ∧
  (∀ (port : Port) (s : State), (s.port port.val).alertLow = true → s.pins.mainPwrGood = true →
    completes (.alertRelease port) s fun t => (t.port port.val).alertLow = false ∧
      t.flag (pSLK port.val) SLK_STAT_ALERT = false ∧
      t.flag (pSLK port.val) SLK_STAT_THROTTLE = (s.flag (pSLK port.val) SLK_CTRL_THR ||
        (s.pins.rackLimitLow && s.flag (pSLK port.val) SLK_CTRL_RACK_THR_EN)) ∧ t.outs = s.outs ∧ sameBytes s t) ∧
  (∀ (port : Port) (s : State), s.pins.mainPwrGood = false →
    ((s.port port.val).alertLow = false → completes (.alert port) s fun t => t = s.modPort port.val ({ · with alertLow := true })) ∧
    ((s.port port.val).alertLow = true → completes (.alertRelease port) s fun t =>
      t = s.modPort port.val ({ · with alertLow := false })))

/-- The host link, its resets, its security and BAR2. A link that trains at a rate of 1 to 6 on 1, 2, 4 or 8 lanes is UP and READY in D0 with the configuration the host gives it, and where that lets it send messages, every pending vector that is not masked is sent (that configuration comes with the row is the model's choice, log 14). HOST_LINK_DOWN of an UP link ends it with its secure session, PERST besides drops every mailbox request, the session and the configuration, D3HOT_ENTRY of an UP link enters D3hot, and each of them loses the driver. On an UP link SPDM_KEY_EXCHANGE answers with 96 bytes and IDE_KM_KEY_SET then makes the stream secure, IDE_FAIL ends a secure one; GET_CERTIFICATE sends the certificate. In D0 BAR2_READ returns what a fabric read of the range delivers, marked where it is poisoned, which counts a bite; with no upset it changes no byte and no mark. BAR2_WRITE within reach of lines no weights are watched on leaves the bytes written, marked where the write was poisoned, and with no upset every other byte as it was. With the link down or in D3hot neither does anything. -/
def Obligations.HostLink : Prop :=
  (∀ (rate : Fin 8) (width : Fin 16) (s : State), s.pins.mainPwrGood = true → 1 ≤ rate.val → rate.val ≤ 6 →
    (width = 1 ∨ width = 2 ∨ width = 4 ∨ width = 8) → ∀ cfg : PciCfg, completes (.hostLinkUp rate width cfg) s fun t =>
      t.flag pHST HST_LINK_UP = true ∧ t.fget pHST HST_LINK_RATE = rate.val ∧ t.fget pHST HST_LINK_WIDTH = width.val ∧
      t.flag pHST PAGE_STAT_READY = true ∧ t.hr = { s.hr with pci := cfg, d3hot := false } ∧ sameBytes s t ∧
      (cfg.busMaster = true → cfg.msixEnable = true → cfg.functionMask = false → ∀ v, v < 2048 →
        (s.rd (msixPba v)).getLsbD (v % 32) = true → (s.rd (msixCtl v)).getLsbD 0 = false →
        .msix v ∈ t.outs.drop s.outs.length ∧ (t.rd (msixPba v)).getLsbD (v % 32) = false)) ∧
  (∀ s : State, s.flag pHST HST_LINK_UP = true →
    (completes .hostLinkDown s fun t => t.flag pHST HST_LINK_UP = false ∧ t.flag pHST HST_LINK_IDE_ON = false ∧
      t.hr.spdm = false ∧ t.hr.lost = true ∧ t.hr.slotReq = s.hr.slotReq ∧ sameBytes s t) ∧
    (completes .d3hotEntry s fun t => t.hr.d3hot = true ∧ t.hr.lost = true ∧ t.flag pHST HST_LINK_UP = true ∧ sameBytes s t) ∧
    (completes .spdmKeyExchange s fun t => ∃ sig : List Byte, sig.length = 96 ∧
      t = { s with hr.spdm := true, free := s.free + 1, outs := s.outs ++ [.spdm sig] }) ∧
    (s.hr.spdm = true → completes .ideKmKeySet s fun t => t.flag pHST HST_LINK_IDE_ON = true ∧
      t.flag pHST HST_LINK_IDE_FAIL = false ∧ t.hr = s.hr ∧ sameBytes s t) ∧
    (completes .getCertificate s fun t => t = { s with outs := s.outs ++ [.spdm s.fuses.certificate] })) ∧
  (∀ s : State, s.pins.mainPwrGood = true → completes .perst s fun t => t.flag pHST HST_LINK_UP = false ∧
    t.hr.slotReq = [] ∧ t.hr.session = 0 ∧ t.hr.pci = {} ∧ t.hr.d3hot = false ∧ t.hr.lost = true ∧ t.fget pHST HST_MB_STAT_FREE = 0xF ∧
    t.fget pHST HST_MB_STAT_RSP_READY = 0 ∧ t.flag pHST HST_MB_STAT_SESSION_OK = false ∧ sameBytes s t) ∧
  (∀ s : State, s.flag pHST HST_LINK_IDE_ON = true → completes .ideFail s fun t =>
    t.flag pHST HST_LINK_IDE_ON = false ∧ t.flag pHST HST_LINK_IDE_FAIL = true ∧
    t.flag pHST HST_LINK_UP = s.flag pHST HST_LINK_UP ∧ t.hr = s.hr) ∧
  (∀ (off : BitVec 36) (len : Nat) (found : List Upset) (bytes : List Byte) (bad : Bool) (s : State),
    s.flag pHST HST_LINK_UP = true → s.hr.d3hot = false → ((s.upsets found).fabRead (s.barAddr off) len).1 = bytes →
    ((s.upsets found).fabRead (s.barAddr off) len).2.1 = bad → completes (.bar2Read .bar2 off len found) s fun t =>
      t.outs.getLast? = some (.bar2 bytes bad) ∧
      t.fget pINT INT_POISON_CNT = (if bad then sat32 (s.fget pINT INT_POISON_CNT + 1) else s.fget pINT INT_POISON_CNT) ∧
      (s.noUpsets → found = [] → sameBytes s t ∧ t.poison = s.poison ∧
        (bad = false → t.outs = s.outs ++ [.bar2 bytes false]))) ∧
  (∀ (off : BitVec 36) (data : List Byte) (bad : Bool) (s : State), s.flag pHST HST_LINK_UP = true → s.hr.d3hot = false →
    s.qw.watch = [] → (∀ l ∈ linesOf (s.barAddr off) data.length, s.reachable l = true) → completes (.bar2Write off data bad) s fun t =>
      (∀ (i : Nat) (h : i < data.length), t.fabByte (s.barAddr off + i) = data[i]) ∧
      (s.noUpsets → (∀ x, x < s.barAddr off ∨ s.barAddr off + data.length ≤ x → t.byteAt x = s.byteAt x) ∧
        t.outs = s.outs) ∧
      (bad = true → ∀ l ∈ linesOf (s.barAddr off) data.length, t.fabPoison l 64 = true)) ∧
  (∀ (off : BitVec 36) (len : Nat) (data : List Byte) (bad : Bool) (f : List Upset) (s : State),
    s.flag pHST HST_LINK_UP = false ∨ s.hr.d3hot = true → completes (.bar2Read .bar2 off len f) s (fun t => t = s) ∧
      completes (.bar2Write off data bad) s (fun t => t = s))

/-- Mailbox requests, the session, and the operations answered from state. An accepted doorbell takes a free slot: a request whose header is right waits for its operation, any other is answered with the status its header earns while the link core runs; a doorbell of a taken slot latches the state error. An acknowledgement frees a slot that holds a response. HELLO of major version 1 answers OK with a new session, which is not 0 and not the last, the features in effect and the timeout within its bounds; another major version is answered with status 1. Where the power core does not run, what HELLO asks of it waits. GOODBYE answers OK under its request's session and loses the driver, GET_INFO answers OK. SET_HOST_CAP outside its range is answered with status 7 and changes no cap, else it waits for a loop tick with the cap written; SET_WALL_CLOCK waits for the next whole second, and WALL_CLOCK_APPLY sets calendar time to the latest one asked for. -/
def Obligations.Mailbox : Prop :=
  (∀ (cls : Cls) (slot : Fin 4) (s : State), s.takes cls (pHST + 0x118) slot.val →
    (s.fget pHST HST_MB_STAT_FREE / 2 ^ slot.val % 2 = 1 → s.headerStatus slot.val = 0 →
      completes (.mbDoorbell cls slot) s fun t => slot.val ∈ t.hr.slotReq ∧
        t.fget pHST HST_MB_STAT_FREE = s.fget pHST HST_MB_STAT_FREE - 2 ^ slot.val ∧ t.outs = s.outs) ∧
    (s.fget pHST HST_MB_STAT_FREE / 2 ^ slot.val % 2 = 1 → s.headerStatus slot.val ≠ 0 →
      ¬(s.headerStatus slot.val = 1 ∧ s.reqField slot.val 2 2 = 1) → s.runs 2 = true →
      completes (.mbDoorbell cls slot) s fun t => t.status slot.val = s.headerStatus slot.val ∧
        slot.val ∉ t.hr.slotReq ∧ t.fget pHST HST_MB_STAT_RSP_READY / 2 ^ slot.val % 2 = 1 ∧ t.hr.session = s.hr.session) ∧
    (s.fget pHST HST_MB_STAT_FREE / 2 ^ slot.val % 2 = 0 → s.fget pHST ERR_CODE_CODE = 0 →
      completes (.mbDoorbell cls slot) s fun t => t.fget pHST ERR_CODE_CODE = 0x101 ∧ t.hr = s.hr)) ∧
  (∀ (cls : Cls) (slot : Fin 4) (s : State), s.takes cls (pHST + 0x11C) slot.val →
    s.fget pHST HST_MB_STAT_RSP_READY / 2 ^ slot.val % 2 = 1 → completes (.mbAck cls slot) s fun t =>
      t.fget pHST HST_MB_STAT_RSP_READY = s.fget pHST HST_MB_STAT_RSP_READY - 2 ^ slot.val ∧
      t.fget pHST HST_MB_STAT_FREE = Nat.lor (s.fget pHST HST_MB_STAT_FREE) (2 ^ slot.val) ∧ t.hr = s.hr) ∧
  (∀ (slot : Fin 4) (s : State), s.asks slot.val 1 →
    (s.reqField slot.val 0 1 = 1 → completes (.hello slot) s fun t => t.status slot.val = 0 ∧ t.hr.session ≠ 0 ∧
      t.hr.session ≠ s.hr.session ∧ t.flag pHST HST_MB_STAT_SESSION_OK = true ∧ t.hr.helloSince = true ∧
      t.pget pHST HST_FEAT = Nat.land (s.payload slot.val 0 8) 0x1FF ∧ 100 ≤ t.fget pHST HST_VER_TIMEOUT ∧
      t.fget pHST HST_VER_TIMEOUT ≤ 3000 ∧ (s.payload slot.val 8 2 = 0 → t.fget pHST HST_VER_TIMEOUT = 1000) ∧
      t.hr.lost = s.hr.lost ∧ (s.runs 0 = false → t.hr.maskDue = true) ∧ sameBytes s t) ∧
    (s.reqField slot.val 0 1 ≠ 1 → completes (.hello slot) s fun t => t.status slot.val = 1 ∧ t.hr.session = 0 ∧
      t.hr.helloSince = s.hr.helloSince ∧ sameBytes s t)) ∧
  (∀ (slot : Fin 4) (s : State), s.asks slot.val 2 → completes (.goodbye slot) s fun t => t.status slot.val = 0 ∧
    t.respSession slot.val = s.reqField slot.val 12 4 ∧ t.hr.lost = true ∧ t.hr.session = s.hr.session ∧ sameBytes s t) ∧
  (∀ (slot : Fin 4) (s : State), s.asks slot.val 0x10 → completes (.getInfo slot) s fun t => t.status slot.val = 0 ∧
    slot.val ∉ t.hr.slotReq ∧ t.fwc = s.fwc ∧ sameBytes s t) ∧
  (∀ (slot : Fin 4) (s : State), s.asks slot.val 0x20 →
    ((0 < s.payload slot.val 0 4 ∧ s.payload slot.val 0 4 < 500) ∨ 20000 < s.payload slot.val 0 4 →
      completes (.setHostCap slot) s fun t => t.status slot.val = 7 ∧
        t.fget pGOVGLOB GG_HOST_CAP = s.fget pGOVGLOB GG_HOST_CAP ∧ t.hr.capSlots = s.hr.capSlots) ∧
    (s.payload slot.val 0 4 = 0 ∨ (500 ≤ s.payload slot.val 0 4 ∧ s.payload slot.val 0 4 ≤ 20000) → s.runs 0 = true →
      slot.val ∉ s.hr.capSlots → s.takes .fwp (pGOVGLOB + 0x10C) (s.payload slot.val 0 4) →
      completes (.setHostCap slot) s fun t => t.fget pGOVGLOB GG_HOST_CAP = s.payload slot.val 0 4 ∧
        t.hr.capSlots = s.hr.capSlots ++ [slot.val] ∧ t.hr.slotReq = s.hr.slotReq)) ∧
  (∀ (slot : Fin 4) (s : State), s.asks slot.val 0x30 →
    (s.payload slot.val 0 8 < 1577836800 → completes (.setWallClock slot) s fun t => t.status slot.val = 7 ∧
      t.fwc = s.fwc ∧ t.sep = s.sep) ∧
    (1577836800 ≤ s.payload slot.val 0 8 → (∀ w ∈ s.fwc.wall, w.2 ≠ slot.val) → completes (.setWallClock slot) s fun t =>
      t = { s with fwc.wall := s.fwc.wall ++ [(s.payload slot.val 0 8, slot.val)] })) ∧
  (∀ (w : Nat × Nat) (s : State), s.fwc.wall.getLast? = some w → w.1 < 2 ^ 64 → completes .wallClockApply s fun t =>
    t.pget pSEP SEP_CAL = w.1 ∧ t.flag pSEP SEP_STAT_CAL_SET = true ∧ t.fwc.wall = [] ∧ t.sep.opFrac = 0)

/-- The heartbeat, the stops of the tray, and the rack's limit pin. An accepted heartbeat restarts the age and, once a HELLO has come, ends DRIVER_LOST; DRIVER_LOST shows in the rack's alert sources, asks for a new HELLO, and leaves the host's cap to be withdrawn by a power core that does not run. With MAIN up, HALT_KRM sets QHOLD and ends the running job ABORTED, HALT; HALT_ACC sends HALT of reason 1 to every UP port that can take it; DISPATCH_OFF ends dispatching and the pass under way; TRAY_HALT, while another party or the FX9 pulls the line, does both of the first with reason 4 and shows TRAY_HALT, and is no more than the line's release otherwise; TRAY_DRIVE moves the drive bit alone. RACK_LIMIT_ASSERT throttles the ports that follow it and, where a preset is set and PRESET_KRM is 1, forces Kermes, with MAIN up and readings there, to MIN_STEP, and without a preset leaves the step; RACK_LIMIT_RELEASE starts the 1 ms after which PRESET_WITHDRAW ends the preset. -/
def Obligations.DriverAndStops : Prop :=
  (∀ (cls : Cls) (s : State), s.takes cls (pHST + 0x110) 0 → completes (.hbWrite cls) s fun t => t.hr.hbAgeNs = 0 ∧
    t.hr.lost = (s.hr.lost && !s.hr.helloSince) ∧ sameBytes s t) ∧
  (∀ s : State, s.hr.lost = false → s.pins.mainPwrGood = true → completes .driverLost s fun t => t.hr.lost = true ∧
    t.hr.helloSince = false ∧ t.flag pRCK RCK_ALERT_SRC_DRIVER_LOST = true ∧ (s.runs 0 = false → t.hr.capDue = true) ∧ t.hr.session = s.hr.session ∧ sameBytes s t) ∧
  (∀ (cls : Cls) (path : StopPath) (s : State), s.pins.mainPwrGood = true →
    (s.stopTakes cls path (1 + s.driveBit path) → completes (.haltKrm cls path) s fun t =>
      t.flag pKRMGLOB KG_CTRL_QHOLD = true ∧ (∀ j, s.krm.job = some j → j.phase ≠ .ended → t.ended 2 1) ∧
      t.slk = s.slk ∧ sameBytes s t) ∧
    (s.stopTakes cls path (2 + s.driveBit path) → completes (.haltAcc cls path) s fun t => t.krm = s.krm ∧
      t.flag pKRMGLOB KG_CTRL_QHOLD = s.flag pKRMGLOB KG_CTRL_QHOLD ∧ sameBytes s t ∧
      ∀ p, p < 8 → s.halts p → .silk p (ctlUnit 0x30 [1]) ∈ t.outs.drop s.outs.length) ∧
    (∀ pull : Bool, s.stopTakes cls path (bit pull * (match path with | .host => 8 | .rack => 4)) →
      completes (.trayDrive cls path pull) s fun t => t.driveBit path = bit pull * (match path with | .host => 8 | .rack => 4) ∧
        t.krm = s.krm ∧ t.slk = s.slk ∧ t.qw = s.qw ∧ sameBytes s t)) ∧
  (∀ (cls : Cls) (s : State), s.pins.mainPwrGood = true → s.flag pQMG QMG_CTRL_DISPATCH = true →
    s.stopTakes cls .host (4 + s.driveBit .host) → completes (.dispatchOff cls) s fun t =>
      t.flag pQMG QMG_CTRL_DISPATCH = false ∧ t.qw.inPass = false ∧ (∀ e ∈ t.qw.queues, e.2.noted = 0) ∧
      t.krm = s.krm ∧ sameBytes s t) ∧
  (∀ (other : Bool) (s : State), s.pins.mainPwrGood = true →
    other = true ∨ s.flag pHST HST_STOP_TRAY_DRIVE = true ∨ s.flag pRCK RCK_STOP_TRAY_DRIVE = true →
    completes (.trayHalt other) s fun t => t.flag pKRMGLOB KG_CTRL_QHOLD = true ∧ t.pins.trayExtLow = other ∧
    (∀ j, s.krm.job = some j → j.phase ≠ .ended → t.ended 2 1) ∧ t.flag pHST HST_STAT_TRAY_HALT = true ∧
    (∀ p, p < 8 → s.halts p → .silk p (ctlUnit 0x30 [4]) ∈ t.outs.drop s.outs.length) ∧ sameBytes s t) ∧
  (∀ s : State, s.flag pHST HST_STOP_TRAY_DRIVE = false → s.flag pRCK RCK_STOP_TRAY_DRIVE = false →
    completes (.trayHalt false) s fun t => t = { s with pins.trayExtLow := false }) ∧
  (∀ s : State, completes .rackLimitAssert s fun t => t.pins.rackLimitLow = true ∧ t.hr.presetTimer = false ∧
    (∀ p, p < 8 → s.flag (pSLK p) SLK_CTRL_RACK_THR_EN = true → t.flag (pSLK p) SLK_STAT_THROTTLE = true) ∧
    t.gov = s.gov ∧
    (s.fget pRCK RCK_PRESET_CAP = 0 → t.fget pCLK CLK_KRM_STEP = s.fget pCLK CLK_KRM_STEP) ∧
    (s.fget pRCK RCK_PRESET_CAP ≠ 0 → s.flag pGOVGLOB GG_CTRL_PRESET_KRM = true → s.pins.mainPwrGood = true →
      s.flag pGOVGLOB GG_STAT_NO_MEAS = false → t.fget pCLK CLK_KRM_STEP = s.minStep) ∧ sameBytes s t) ∧
  (∀ s : State, s.pins.rackLimitLow = true → completes .rackLimitRelease s fun t => t.pins.rackLimitLow = false ∧
    t.hr.presetTimer = true ∧ t.gov = s.gov ∧ sameBytes s t) ∧
  (∀ s : State, s.hr.presetTimer = true → completes .presetWithdraw s fun t => t.hr.presetTimer = false ∧
    t.gov = s.gov ∧ (s.pins.rackLimitLow = false → t.presetOn = false ∧ t.rackTerm = s.fget pRCK RCK_CAP_CAP) ∧
    t.pins = s.pins ∧ sameBytes s t)

/-- I3C addresses, MCTP control and PLDM reads on the rack ports. ENTDAA, and SETDASA to a port's static address of 0x30 or 0x34 plus the strap, give a port without a dynamic address the one named and change no other; SETDASA to another address changes nothing. A port that has a dynamic address announces each message by an in-band interrupt. SET_ENDPOINT_ID takes every EID but 0 and 0xFF, which are refused. The other commands change no register and no byte and answer once, on the port that asked: the EID, PLDM as the only message type, the TID, the types 0, 2 and 5 and their commands, how many PDRs there are, the PDR a handle names, EFF_CAP, CAP_SOURCE and an effecter's register, and a version of four bytes that nothing constrains. The numbers of commands, codes, sensors and record handles are the model's (log 8). -/
def Obligations.RackAnswers : Prop :=
  (∀ (port : RackPort) (st a : BitVec 7) (s : State),
    (nth s.hr.dynAddr port.val = 0 → completes (.entdaa port a) s (addressed port a s)) ∧
    (nth s.hr.dynAddr port.val ≠ 0 → completes (.entdaa port a) s fun t => t = s) ∧
    (st.toNat = 0x30 + 4 * port.val + s.fget pCRPGLOB CRP_STRAPS_I3C_SADDR → nth s.hr.dynAddr port.val = 0 →
      completes (.setdasa port st a) s (addressed port a s)) ∧
    (st.toNat ≠ 0x30 + 4 * port.val + s.fget pCRPGLOB CRP_STRAPS_I3C_SADDR ∨ nth s.hr.dynAddr port.val ≠ 0 →
      completes (.setdasa port st a) s fun t => t = s)) ∧
  (∀ (port : RackPort) (eid : BitVec 8) (s : State),
    (eid ≠ 0 → eid ≠ 0xFF → completes (.setEndpointId port eid) s fun t => t.fget pRCK (eidOf port) = eid.toNat ∧
      answered port 0 [0, eid, 0] s t ∧ sameRegs (· = pRCK + 0x108) s t) ∧
    (eid = 0 ∨ eid = 0xFF → completes (.setEndpointId port eid) s fun t => t.regs = s.regs ∧ answered port 2 [] s t)) ∧
  (∀ (port : RackPort) (s : State),
    completes (.getEndpointId port) s (fun t => answers port 0 [BitVec.ofNat 8 (s.fget pRCK (eidOf port)), 0, 0] s t) ∧
    completes (.getMessageTypeSupport port) s (fun t => answers port 0 [1, 1] s t) ∧
    completes (.getTid port) s (fun t => answers port 0 [s.hr.pldmTid] s t) ∧
    completes (.getPldmTypes port) s (fun t => answers port 0 [0x25, 0, 0, 0, 0, 0, 0, 0] s t) ∧
    completes (.getPdrRepositoryInfo port) s (fun t => answers port 0 (natLe 4 s.hr.pdrs.length) s t) ∧
    completes (.getMctpVersionSupport port) s (fun t => ∃ v : List Byte, v.length = 4 ∧ answers port 0 (1 :: v) s { t with free := s.free }) ∧
    completes (.getSensorReading port 1) s (fun t => answers port 0 (natLe 4 (s.fget pGOVGLOB GG_EFF_CAP)) s t) ∧
    completes (.getStateSensorReadings port 2) s (fun t =>
      answers port 0 [BitVec.ofNat 8 (s.fget pGOVGLOB GG_STAT_SOURCE)] s t) ∧
    completes (.getNumericEffecterValue port .rackCap) s (fun t => answers port 0 (natLe 4 (s.fget pRCK RCK_CAP_CAP)) s t) ∧
    completes (.getNumericEffecterValue port .rackPreset) s (fun t =>
      answers port 0 (natLe 4 (s.fget pRCK RCK_PRESET_CAP)) s t)) ∧
  (∀ (port : RackPort) (x : BitVec 16) (s : State),
    (x ≠ 1 → completes (.getSensorReading port x) s fun t => answers port 0x80 [] s t) ∧
    (x ≠ 2 → completes (.getStateSensorReadings port x) s fun t => answers port 0x80 [] s t)) ∧
  (∀ (port : RackPort) (type : BitVec 8) (s : State),
    (type = 0 ∨ type = 2 ∨ type = 5 → completes (.getPldmVersion port type) s (fun t => ∃ v : List Byte, v.length = 4 ∧
        answers port 0 v s { t with free := s.free }) ∧
      completes (.getPldmCommands port type) s (fun t => ∃ m : List Byte, m.length = 32 ∧ answers port 0 m s t)) ∧
    (type ≠ 0 → type ≠ 2 → type ≠ 5 → completes (.getPldmVersion port type) s (fun t => answers port 2 [] s t) ∧
      completes (.getPldmCommands port type) s (fun t => answers port 2 [] s t))) ∧
  (∀ (port : RackPort) (h : BitVec 32) (s : State),
    (∀ r, s.hr.pdrs[h.toNat - 1]? = some r → completes (.getPdr port h) s fun t => answers port 0 r s t) ∧
    (s.hr.pdrs[h.toNat - 1]? = none → completes (.getPdr port h) s fun t => answers port 0x82 [] s t))

/-- Effecters and events over PLDM. SET_NUMERIC_EFFECTER_VALUE of a value in range that the page takes is the register's new value and answers 0; a value out of range is refused with 2 and changes nothing. SET_STATE_EFFECTER_STATES that the page takes stops what its bits ask for, as a write of RCK_STOP does. POLL_FOR_PLATFORM_EVENT_MESSAGE answers the oldest event and forgets it, and with the last one clears the alert source. The numbers of the answers are the model's (log 8). -/
def Obligations.RackControl : Prop :=
  (∀ (port : RackPort) (e : Effecter) (v : BitVec 32) (s : State),
    (v = 0 ∨ (500 ≤ v.toNat ∧ v.toNat ≤ 20000) → s.takes .rack (pRCK + (effecterReg e).off) v.toNat →
      completes (.setNumericEffecterValue port e v) s fun t => t.fget pRCK (effecterReg e) = v.toNat ∧
        t.outs.getLast? = some (.mctp port.val 0 []) ∧ t.krm = s.krm ∧ sameBytes s t) ∧
    ((v ≠ 0 ∧ v.toNat < 500) ∨ 20000 < v.toNat → completes (.setNumericEffecterValue port e v) s fun t =>
      answers port 2 [] s t)) ∧
  (∀ (port : RackPort) (stop : BitVec 3) (s : State), s.takes .rack (pRCK + 0x114) stop.toNat →
    s.pins.mainPwrGood = true → completes (.setStateEffecterStates port stop) s fun t =>
      t.outs.getLast? = some (.mctp port.val 0 []) ∧ sameBytes s t ∧
      (stop.getLsbD 0 = true → t.flag pKRMGLOB KG_CTRL_QHOLD = true ∧
        ∀ j, s.krm.job = some j → j.phase ≠ .ended → t.ended 2 1) ∧
      (stop.getLsbD 0 = false → t.krm = s.krm) ∧
      (stop.getLsbD 1 = true → ∀ p, p < 8 → s.halts p → .silk p (ctlUnit 0x30 [1]) ∈ t.outs.drop s.outs.length) ∧
      (stop.getLsbD 1 = false → t.slk = s.slk)) ∧
  (∀ (port : RackPort) (e : PldmEvent) (l : List PldmEvent) (s : State), s.hr.events = e :: l →
    completes (.pollForPlatformEventMessage port) s fun t => t.hr.events = l ∧
      answered port 0 (natLe 2 e.sensor ++ natLe 4 e.value) s t ∧
      (l = [] → t.flag pRCK RCK_ALERT_SRC_EVENT = false) ∧ (l ≠ [] → t.regs = s.regs)) ∧
  (∀ (port : RackPort) (s : State), s.hr.events = [] → completes (.pollForPlatformEventMessage port) s fun t =>
    t.hr.events = [] ∧ answered port 0 [] s t ∧ t.flag pRCK RCK_ALERT_SRC_EVENT = false)

/-- A firmware update over PLDM, step by step. While neither the link core nor ROM recovery can serve Type 5, every request of it is answered ERROR_NOT_READY and nothing else changes; a component table beyond 4,096 bytes of message is counted as malformed and not answered. REQUEST_UPDATE starts an update when none runs and is refused otherwise; the component table, the component, the transfer, the check and the apply follow in turn, the component erasing its whole slot and asking for the image, the check ending the update where its code is not 0. ACTIVATE_FIRMWARE of a staged slot ends the update and makes that slot active and TRIAL in the record written; CANCEL_UPDATE of a staging ends it with state 4 and code 9. GET_STATUS answers the step, state and code, GET_FIRMWARE_PARAMETERS the two versions, and QUERY_DEVICE_IDENTIFIERS eight bytes that nothing constrains. The numbers of the answers are the model's (log 8). -/
def Obligations.PldmUpdate : Prop :=
  (∀ (port : RackPort) (table : List Byte) (s : State), 4092 < table.length → completes (.passComponentTable port table) s fun t =>
    t.fget pRCK RCK_ERR_CNT = sat32 (s.fget pRCK RCK_ERR_CNT + 1) ∧ t.outs = s.outs ∧ t.hr = s.hr) ∧
  (∀ (port : RackPort) (table image : List Byte) (s : State), s.runs 2 = false → s.fwc.recovery = false → table.length ≤ 4092 →
    ∀ c ∈ [.queryDeviceIdentifiers port, .getFirmwareParameters port, .requestUpdate port, .passComponentTable port table,
      .updateComponent port image, .activateFirmware port, .getStatus port, .cancelUpdate port],
    completes c s fun t => answers port 4 [] s t) ∧
  (∀ (port : RackPort) (table image : List Byte) (s : State), s.runs 2 = true ∨ s.fwc.recovery = true →
    (s.fwUpdate = false → s.hr.pldmUpd = 0 → completes (.requestUpdate port) s fun t => t.hr.pldmUpd = 1 ∧
      t.outs.getLast? = some (.mctp port.val 0 []) ∧ t.fwc = s.fwc ∧ sameBytes s t) ∧
    (s.fwUpdate = true ∨ s.hr.pldmUpd ≠ 0 → completes (.requestUpdate port) s fun t => answers port 0x81 [] s t) ∧
    (s.hr.pldmUpd = 1 ∨ s.hr.pldmUpd = 2 → table.length ≤ 4092 → completes (.passComponentTable port table) s fun t =>
      t.hr.pldmUpd = 2 ∧ answered port 0 [] s t ∧ t.regs = s.regs ∧ sameBytes s t) ∧
    (s.hr.pldmUpd = 2 → image.length ≤ slotSize → completes (.updateComponent port image) s fun t =>
      t.hr.pldmUpd = 3 ∧ t.updState = 1 ∧
      (∃ g, t.fwc.stage = some g ∧ g.pldm = true ∧ g.image = image ∧ g.slot = if s.fwc.recovery then 0 else s.inactive) ∧
      (∀ x, slotBase (if s.fwc.recovery then 0 else s.inactive) ≤ x →
        x < slotBase (if s.fwc.recovery then 0 else s.inactive) + slotSize → memByte t.flash 0xFF x = 0xFF)) ∧
    (s.hr.pldmUpd ≠ 2 → completes (.updateComponent port image) s fun t =>
      answers port (if s.hr.pldmUpd = 0 then 0x80 else 2) [] s t) ∧
    (s.hr.pldmUpd = 3 → completes (.transferComplete port) s fun t => t.hr.pldmUpd = 4 ∧ t.updState = 2 ∧
      t.outs.getLast? = some (.pldmReq port.val 0x16 [0])) ∧
    (s.hr.pldmUpd = 4 → s.fwc.recovery = false → ∀ (g : StageReq) (flashErr : Bool), s.fwc.stage = some g →
      completes (.verifyComplete port flashErr) s fun t => t.fwc.stage = none ∧
        (t.fget pFWC FWC_UPD_STAT_CODE = 0 → t.hr.pldmUpd = 5 ∧ t.updState = 3 ∧ flashErr = false) ∧
        (t.fget pFWC FWC_UPD_STAT_CODE ≠ 0 → t.hr.pldmUpd = 0 ∧ t.updState = 4)) ∧
    (s.hr.pldmUpd = 5 → completes (.applyComplete port) s fun t => t.hr.pldmUpd = 6 ∧
      t.outs = s.outs ++ s.rackOut port (.pldmReq port.val 0x18 [0]) ∧ t.fwc = s.fwc ∧ t.regs = s.regs) ∧
    (∀ k, s.stagedSlot = some k → s.activating = false → completes (.activateFirmware port) s fun t =>
      t.hr.pldmUpd = 0 ∧ wroteBcr { s.bcr.2.setSlot k 2 with active := k, tries := 2 } s t) ∧
    (s.stagedSlot = none → completes (.activateFirmware port) s fun t =>
      answers port (if s.hr.pldmUpd = 0 then 0x80 else 1) [] s t) ∧
    (∀ g, s.hr.pldmUpd ≠ 0 → s.fwc.stage = some g → g.pldm = true → completes (.cancelUpdate port) s fun t =>
      t.hr.pldmUpd = 0 ∧ t.fwc.stage = none ∧ t.updState = 4 ∧ t.fget pFWC FWC_UPD_STAT_CODE = 9) ∧
    (s.hr.pldmUpd = 0 → completes (.cancelUpdate port) s fun t => answers port 0x80 [] s t) ∧
    (completes (.getStatus port) s fun t =>
      answers port 0 (natLe 1 s.hr.pldmUpd ++ natLe 1 s.updState ++ natLe 1 (s.fget pFWC FWC_UPD_STAT_CODE)) s t) ∧
    (completes (.getFirmwareParameters port) s fun t => answers port 0
      (natLe 4 (s.imgField (s.bcr.2.active % 2) 8 4) ++ natLe 4 (s.imgField (1 - s.bcr.2.active % 2) 8 4)) s t) ∧
    (completes (.queryDeviceIdentifiers port) s fun t => ∃ v : List Byte, v.length = 8 ∧
      answers port 0 v s { t with free := s.free }))

/-- Staging, activation, trial, commit and revert of firmware. FW_STAGE of an image that fits, with no update under way, answers OK and erases the inactive slot to receive it; a longer one is answered 5, one during an update 6. UPD_DONE ends a mailbox staging while the link core runs: code 8 where the bytes were poisoned, 7 on a flash error, else that of the image check on what was copied, STAGED at 0 and REJECTED otherwise. FW_ACTIVATE ACTIVATE of a staged slot writes the record that makes it active and TRIAL with two boots, and is refused without one or while an activation runs. CONFIRM of a trial, and the end of a trial with AUTO_CONFIRM, commit it: COMMITTED in the record, the old slot STAGED, the rollback floor raised where the image burns it and never lowered; CANCEL, and the end of a trial without AUTO_CONFIRM, revert it where no staging is under way: the old slot active and COMMITTED, the new one REJECTED. In an emergency a commit by AUTO_CONFIRM waits, and follows once it is over; PWR_PENDING_RELEASE without an emergency ends the hold on a running power core, which restarts into the new slot in an activation. -/
def Obligations.FirmwareUpdate : Prop :=
  (∀ (slot : Fin 4) (s : State), s.asks slot.val 0x50 →
    (slotSize < s.payload slot.val 8 4 → completes (.fwStage slot) s fun t => t.status slot.val = 5 ∧ t.fwc = s.fwc ∧
      t.flash = s.flash) ∧
    (s.payload slot.val 8 4 ≤ slotSize → s.fwUpdate = true ∨ s.hr.pldmUpd ≠ 0 → completes (.fwStage slot) s fun t =>
      t.status slot.val = 6 ∧ t.fwc = s.fwc ∧ t.flash = s.flash) ∧
    (s.payload slot.val 8 4 ≤ slotSize → s.fwUpdate = false → s.hr.pldmUpd = 0 → completes (.fwStage slot) s fun t =>
      t.status slot.val = 0 ∧ t.updState = 1 ∧
      t.fwc.stage = some ⟨false, s.inactive, s.payload slot.val 0 8, s.payload slot.val 8 4, []⟩ ∧
      ∀ x, slotBase s.inactive ≤ x → x < slotBase s.inactive + slotSize → memByte t.flash 0xFF x = 0xFF)) ∧
  (∀ (g : StageReq) (flashErr : Bool) (s : State), s.fwc.stage = some g → g.pldm = false → s.runs 2 = true →
    completes (.updDone flashErr) s fun t => t.fwc.stage = none ∧ (s.noUpsets → ∀ a, t.byteAt a = s.byteAt a) ∧
      (t.updState = if t.fget pFWC FWC_UPD_STAT_CODE = 0 then 3 else 4) ∧
      ((s.fabRead g.addr g.len).2.1 = true → t.fget pFWC FWC_UPD_STAT_CODE = 8) ∧
      ((s.fabRead g.addr g.len).2.1 = false → flashErr = true → t.fget pFWC FWC_UPD_STAT_CODE = 7) ∧
      ((s.fabRead g.addr g.len).2.1 = false → flashErr = false → t.fget pFWC FWC_UPD_STAT_CODE =
        (s.putFlash (slotBase g.slot) (s.fabRead g.addr g.len).1).checkImage g.slot)) ∧
  (∀ (slot : Fin 4) (s : State), s.asks slot.val 0x51 → s.payload slot.val 0 1 = 1 →
    (∀ k, s.activating = false → s.stagedSlot = some k → completes (.activate slot) s fun t => t.status slot.val = 0 ∧
      wroteBcr { s.bcr.2.setSlot k 2 with active := k, tries := 2 } s t ∧ t.fuses = s.fuses) ∧
    (s.activating = true ∨ s.stagedSlot = none → completes (.activate slot) s fun t => t.status slot.val = 7 ∧
      t.fwc = s.fwc ∧ t.flash = s.flash)) ∧
  (∀ (slot : Fin 4) (s : State), s.asks slot.val 0x51 → s.payload slot.val 0 1 = 2 →
    (s.updState = 7 → completes (.confirm slot) s fun t => t.status slot.val = 0 ∧ commits s t) ∧
    (s.updState ≠ 7 → completes (.confirm slot) s fun t => t.status slot.val = 7 ∧ t.fuses = s.fuses ∧
      t.flash = s.flash)) ∧
  (∀ (slot : Fin 4) (s : State), s.asks slot.val 0x51 → s.payload slot.val 0 1 = 3 → s.fwc.stage = none →
    s.updState = 7 → completes (.cancel slot) s fun t => t.status slot.val = 0 ∧ reverts 9 s t) ∧
  (∀ s : State, s.updState = 7 → s.fwc.commitDefer = false → s.fwc.stage = none →
    (s.flag pFWC FWC_CTRL_AUTO_CONFIRM = false → completes .trialExpiry s fun t => reverts 0 s t) ∧
    (s.flag pFWC FWC_CTRL_AUTO_CONFIRM = true → s.emergency = false → completes .trialExpiry s fun t => commits s t) ∧
    (s.flag pFWC FWC_CTRL_AUTO_CONFIRM = true → s.emergency = true → completes .trialExpiry s fun t => t.updState = 7 ∧
      t.fwc.commitDefer = true ∧ t.fget pFWC FWC_TRIAL_LEFT = 0 ∧ t.fuses = s.fuses ∧ sameBytes s t)) ∧
  (∀ s : State, s.fwc.commitDefer = true → s.updState = 7 → s.emergency = false → completes .deferredCommit s fun t =>
    commits s t ∧ t.fwc.commitDefer = false) ∧
  (∀ s : State, s.flag pFWC FWC_STAT_PWR_PENDING = true → s.emergency = false → s.fwc.stage = none →
    s.fwc.actStage = 4 → s.coreState 0 = 2 → completes .pwrPendingRelease s fun t =>
      t.flag pFWC FWC_STAT_PWR_PENDING = false ∧ t.fuses = s.fuses ∧
      (s.fwc.reverting = false → t.updState = 5 ∧ t.coreState 0 = 3))

/-- Restarts, halts, the log ring and the trace points of the firmware cores. A watchdog, exception or digest fault of a running core that is not on a trial slot restarts it with its cause, counted, and the third within 60 s leaves it FAILED; on the trial slot, with no staging under way, it reverts the update; of a core restarting or loading it latches a restart; of any other it does nothing. An accepted RESTART restarts a core that is not, with its fault count forgotten; HALT stops every running core but the power core, RUN lets a halted one go on. CORE_RESTART_DONE brings a restarting core with nothing latched, outside an activation, to RUNNING, its section as it lay where it stays on its slot and the supervisor's check of it holds; the link core has then started and kept no request waiting. (RUN and RESTART_DONE where the power-up of MAIN owes nothing to the core.) A log record that its threshold lets through stands at the write point with length, core, level, number and tick, and a trace point enabled counts and shows itself. -/
def Obligations.FirmwareCores : Prop :=
  (∀ (core : FwCore) (s : State), completes (.coreWatchdog core) s (faultTaken (coreIdx core) 2 s) ∧
    completes (.coreException core) s (faultTaken (coreIdx core) 3 s) ∧
    completes (.sectionDigestFail core) s (faultTaken (coreIdx core) 6 s)) ∧
  (∀ (cls : Cls) (core : FwCore) (s : State),
    (s.takes cls (pFWC + 0x200 + 0x40 * coreIdx core) 1 → s.coreState (coreIdx core) ≠ 1 → s.coreState (coreIdx core) ≠ 3 →
      completes (.coreRestart cls core) s fun t => restarted (coreIdx core) 1 s t ∧
        (t.fwCore (coreIdx core)).faults = []) ∧
    (s.takes cls (pFWC + 0x200 + 0x40 * coreIdx core) 2 → s.coreState (coreIdx core) = 2 →
      completes (.coreHalt cls core) s fun t => t.coreState (coreIdx core) = (if core = .power then 2 else 4) ∧
        t.fwc = s.fwc ∧ sameBytes s t) ∧
    (s.takes cls (pFWC + 0x200 + 0x40 * coreIdx core) 4 → s.coreState (coreIdx core) = 4 → s.mainP.profDue = false →
      s.mainP.silkDue = false →
      completes (.coreRun cls core) s fun t => t.coreState (coreIdx core) = 2 ∧
        t.fwc = s.fwc ∧ sameBytes s t)) ∧
  (∀ (core : FwCore) (s : State), s.coreState (coreIdx core) = 3 → s.fwc.actStage = 0 →
    s.flag pFWC (FWC_CORE_STAT_RESTART_PEND.nth (coreIdx core) 0x40) = false → s.mainP.profDue = false →
      s.mainP.silkDue = false →
    completes (.coreRestartDone core) s fun t => t.coreState (coreIdx core) = 2 ∧
      (core = .link → t.pins.linkCoreStarted = true ∧ t.fwc.wall = []) ∧
      (s.targetSlot (coreIdx core) = s.coreSlot (coreIdx core) →
        s.fget pFWC (FWC_CORE_STAT_CAUSE.nth (coreIdx core) 0x40) ≠ 6 → s.residentOk (coreIdx core) = true →
        t.fwc.sram = s.fwc.sram) ∧
      ∀ a, t.byteAt a = s.byteAt a) ∧
  (∀ (core : FwCore) (level : Fin 5) (body : List Byte) (len : Nat) (s : State), s.runs (coreIdx core) = true →
    (level = 4 ∨ level.val ≤ FWL_LEVEL_LEVEL0.get (s.rd (pFWL + 0x114) >>> (4 * coreIdx core))) → body.length ≤ 1008 →
    len = 16 + (body.length + 7) / 8 * 8 → len ≤ ringSize - s.pget pFWL FWL_WR % ringSize →
    s.pget pFWL FWL_WR + len < 2 ^ 64 → completes (.logRecord core level body) s fun t =>
      t.pget pFWL FWL_WR = s.pget pFWL FWL_WR + len ∧ t.fwc.logSeq = s.fwc.logSeq + 1 ∧
      memBytes t.fwc.sram 0 (ringBase + s.pget pFWL FWL_WR % ringSize) (16 + body.length) =
        natLe 2 len ++ natLe 1 (coreIdx core) ++ natLe 1 level.val ++ natLe 4 s.fwc.logSeq.toNat ++
          natLe 8 s.ffy.counter.toNat ++ body ∧
      (∀ a, t.byteAt a = s.byteAt a) ∧ t.flash = s.flash) ∧
  (∀ (point : BitVec 8) (arg : BitVec 32) (s : State), s.runs (point.toNat / 64) = true →
    (s.rd (pTRC + TRC_EN.off + point.toNat / 32 * 4)).getLsbD (point.toNat % 32) = true →
    completes (.tracePoint point arg) s fun t => t.fget pTRC (TRC_CNT.nth point.toNat 4) =
        sat32 (s.fget pTRC (TRC_CNT.nth point.toNat 4) + 1) ∧ t.fget pTRC TRC_LAST_POINT = point.toNat ∧
      t.fget pTRC TRC_LAST_CORE = point.toNat / 64 ∧ t.fget pTRC TRC_LAST_ARG = arg.toNat ∧
      t.fwc.logSeq = s.fwc.logSeq + 1)

/-- Writing, storing and applying the tray profile. PROFILE_WRITE of length 0 answers the state of the last one and changes nothing; while one is being written it is answered 6, with the identity key exhausted 7. A wrong length is answered 5. An image of the right length that reads poisoned is rejected with the flash as it was (its code is a value the spec does not give, log 1); one that reads clean and passes every check is stamped and stands at the start of the profile's range with STATE 2; one that fails a check leaves STATE 5, its code and the flash as it was. PROFILE_STORED seals the image with the next state index, writes the VALID word and leaves STATE 3, to be applied later where the safe profile is in force and HOST is not ON. PROFILE_VALIDATE at start-up leaves either the stored profile in force or the safe profile with its alert source set. -/
def Obligations.TrayProfile : Prop :=
  (∀ (slot : Fin 4) (s : State), s.asks slot.val 0x40 →
    (s.payload slot.val 8 4 = 0 → completes (.profileWrite slot) s fun t => t.status slot.val = 0 ∧ t.fwc = s.fwc ∧
      t.flash = s.flash) ∧
    (s.payload slot.val 8 4 ≠ 0 → s.fwc.profState = 2 → completes (.profileWrite slot) s fun t =>
      t.status slot.val = 6 ∧ t.fwc = s.fwc ∧ t.flash = s.flash) ∧
    (s.payload slot.val 8 4 ≠ 0 → s.fwc.profState ≠ 2 → s.flag pDGT DGT_STAT_KEY_EXHAUSTED = true →
      completes (.profileWrite slot) s fun t => t.status slot.val = 7 ∧ t.fwc = s.fwc ∧ t.flash = s.flash) ∧
    (∀ (img : List Byte) (bad : Bool) (u : State),
      s.fabRead (s.payload slot.val 0 8) (s.payload slot.val 8 4) = (img, bad, u) → s.payload slot.val 8 4 ≠ 0 →
      s.fwc.profState ≠ 2 → s.flag pDGT DGT_STAT_KEY_EXHAUSTED = false →
      (s.payload slot.val 8 4 ≠ 0x80 + 12 * fieldLe img 0x1C 4 → completes (.profileWrite slot) s fun t =>
        t.status slot.val = 5 ∧ t.fwc = s.fwc ∧ t.flash = s.flash) ∧
      (s.payload slot.val 8 4 = 0x80 + 12 * fieldLe img 0x1C 4 →
        (bad = true → completes (.profileWrite slot) s fun t => t.status slot.val = 0 ∧ t.fwc.profState = 5 ∧
          t.flash = s.flash) ∧
        (bad = false → u.dryCode img = 0 → completes (.profileWrite slot) s fun t => t.status slot.val = 0 ∧
          t.fwc.profState = 2 ∧ t.flashAt profBase (s.payload slot.val 8 4) = s.stampImage img) ∧
        (bad = false → u.dryCode img ≠ 0 → completes (.profileWrite slot) s fun t => t.status slot.val = 0 ∧
          t.fwc.profState = 5 ∧ t.fwc.profCode = u.dryCode img ∧ t.flash = s.flash)))) ∧
  (∀ s : State, s.fwc.profState = 2 → s.runs 2 = true → s.ledgerRuns = true →
    s.flag pDGT DGT_STAT_KEY_EXHAUSTED = false → s.pget pDGT DGT_KEY_IDX < keyTotal →
    (s.fwc.safeProfile = false ∨ s.hostOn = false) → completes .profileStored s fun t => t.fwc.profState = 3 ∧
      t.pget pDGT DGT_KEY_IDX = s.pget pDGT DGT_KEY_IDX + 1 ∧ leNat (t.flashAt (profBase + 0xFFFFC) 4) = validMark ∧
      (s.fwc.safeProfile = true → t.fwc.profLate = true) ∧ ∀ a, t.byteAt a = s.byteAt a) ∧
  (∀ s : State, s.runs 0 = true → s.crp.on = true → s.crpDeaf = false → s.fwc.profValid = false →
    s.fwc.safeProfile = false → completes .profileValidate s fun t =>
      (t.fwc.profValid = true ∧ t.fwc.safeProfile = false ∧ s.readRecords.profileCode = 0) ∨
      (t.fwc.safeProfile = true ∧ t.fwc.profValid = false ∧ t.flag pRCK RCK_ALERT_SRC_SAFE_PROFILE = true))

/-- The bin a sample goes into. SEPIA_SAMPLE, one sample a kind, of each kind that is recorded adds one, saturating at 0xFFFF_FFFF, to the count of one bin of that kind and to no other bin: bin 0 below BIN_LO, bin 31 from BIN_LO + 30 BIN_W up, bin 1 + floor((v - BIN_LO) / BIN_W) between. -/
def Obligations.SepiaBins : Prop :=
  ∀ (xs : List SepSample) (s : State), s.flag pSEP SEP_CTRL_EN = true → xs.Pairwise (fun x y => x.kind ≠ y.kind) →
    completes (.sepiaSample xs) s fun t => t.regs = s.regs ∧ sameBytes s t ∧
      (∀ k, (∀ x ∈ xs, x.kind.val ≠ k) → ∀ c, t.binCount k c = s.binCount k c) ∧
      ∀ x ∈ xs, s.sep.kindEff.getLsbD x.kind.val = true → (mainKind x.kind.val = true → s.pins.mainPwrGood = true) →
        ∃ b : Nat, b < 32 ∧
          (x.value < (kindBins x.kind.val).1 → b = 0) ∧
          ((kindBins x.kind.val).1 + 30 * (kindBins x.kind.val).2 ≤ x.value → b = 31) ∧
          ((kindBins x.kind.val).1 ≤ x.value → x.value < (kindBins x.kind.val).1 + 30 * (kindBins x.kind.val).2 →
            (b : Int) = 1 + (x.value - (kindBins x.kind.val).1) / ((kindBins x.kind.val).2 : Int)) ∧
          t.binCount x.kind.val b = min 0xFFFFFFFF (s.binCount x.kind.val b + 1) ∧
          ∀ c, c ≠ b → t.binCount x.kind.val c = s.binCount x.kind.val c

/-- Intervals, records, the action log and clears. An interval close, or an accepted FLUSH which marks the sets PARTIAL, makes every enabled kind pending with its accumulators, merged into a set still pending, and starts new intervals. While the ledger core runs, no clear is under way and the region has room, SEPIA_RECORD_WRITE puts the record of the first pending kind with its mark into slot SEP_NEXT and nothing elsewhere; a slot that fails verification gets no mark and the set stays. OPSEC_COMMIT commits operating time while the ledger core runs. With the ledger core running and no clear under way, ACTION_ENTRY_WRITE leaves an action of Carapace whose POST intervals have not passed; otherwise it writes the oldest action under the next number, into the pinned sector while it has room, with the readings that Carapace took for its own actions and the command's for the others, and with an entry before it where actions were lost. SEPIA_CLEAR draws a new nonce unless its length is wrong, and starts the clear exactly when its token passes; CLEAR_DONE, while the ledger core runs, erases what the scope names and ends with one entry, the first of a cleared action log. -/
def Obligations.SepiaRecordsAndLog : Prop :=
  (∀ s : State, completes .sepiaIntervalClose s (intervalEnds false s)) ∧
  (∀ (cls : Cls) (s : State), s.takes cls (pSEP + 0x100) (2 + s.fget pSEP SEP_CTRL_EN) →
    completes (.flush cls) s (intervalEnds true s)) ∧
  (∀ (k : Nat) (l : List Nat) (s : State), s.sep.pendKinds = k :: l → s.ledgerRuns = true →
    s.flag pSEP SEP_STAT_FULL = false → s.flag pSEP SEP_STAT_CLEARING = false → s.fget pSEP SEP_NEXT < 65536 →
    (completes (.sepiaRecordWrite false) s fun t => t.sep.pendKinds = l ∧
      t.fget pSEP SEP_NEXT = s.fget pSEP SEP_NEXT + 1 ∧
      (s.fget pSEP SEP_NEXT = 65535 → t.flag pSEP SEP_STAT_FULL = true) ∧
      t.flashAt (sepSlot (s.fget pSEP SEP_NEXT)) 512 =
        s.recordBody k (Tab.get s.sep.pend k {}) ++ natLe 4 0xA5A55A5A ∧
      (∀ x, x < sepSlot (s.fget pSEP SEP_NEXT) ∨ sepSlot (s.fget pSEP SEP_NEXT) + 512 ≤ x →
        memByte t.flash 0xFF x = memByte s.flash 0xFF x)) ∧
    (completes (.sepiaRecordWrite true) s fun t => t.sep.pendKinds = k :: l ∧
      t.fget pSEP SEP_NEXT = s.fget pSEP SEP_NEXT + 1 ∧
      (∀ x, x < sepSlot (s.fget pSEP SEP_NEXT) ∨ sepSlot (s.fget pSEP SEP_NEXT) + 508 ≤ x →
        memByte t.flash 0xFF x = memByte s.flash 0xFF x))) ∧
  (∀ s : State, s.ledgerRuns = true → completes .opsecCommit s fun t => t.sep.cjOp = s.opSec ∧ t.regs = s.regs ∧
    sameBytes s t) ∧
  (∀ (a : ActionRec) (l : List ActionRec) (pre post : List Half) (s : State), s.sep.actQ = a :: l → s.ledgerRuns = true →
    s.flag pSEP SEP_STAT_CLEARING = false →
    (s.postDue a = true → exec (.actionEntryWrite pre post) s = .next s) ∧
    (s.postDue a = false → s.sep.lostSince = 0 → completes (.actionEntryWrite pre post) s fun t => t.sep.actQ = l ∧
      t.fget pALG ALG_NO = (s.fget pALG ALG_NO + 1) % 2 ^ 32 ∧ t.fget pALG ALG_HEAD = s.entrySlot ∧
      t.sep.pinCount = (if s.sep.pinCount < 64 then s.sep.pinCount + 1 else s.sep.pinCount) ∧
      leNat (t.flashAt (algSlot s.entrySlot) 4) = s.fget pALG ALG_NO ∧
      leNat (t.flashAt (algSlot s.entrySlot + 0x0E) 1) = a.code % 256 ∧
      leNat (t.flashAt (algSlot s.entrySlot + 0x14) 4) = a.arg % 2 ^ 32 ∧
      t.flashAt (algSlot s.entrySlot + 0x18) 32 =
        (if crpCode a.code = true then readings a.pre ++ readings (intervalMeans a.post) else readings pre ++ readings post) ∧
      leNat (t.flashAt (algSlot s.entrySlot + 0x3E) 2) = 0x5AA5 ∧ ∀ x, t.byteAt x = s.byteAt x) ∧
    (s.postDue a = false → s.sep.lostSince ≠ 0 → completes (.actionEntryWrite pre post) s fun t => t.sep.actQ = l ∧ t.sep.lostSince = 0 ∧
      t.fget pALG ALG_NO = (s.fget pALG ALG_NO + 2) % 2 ^ 32)) ∧
  (∀ (slot : Fin 4) (s : State), s.asks slot.val 0x31 →
    (s.payload slot.val 8 4 ≠ 2852 → completes (.sepiaClear slot) s fun t => t.status slot.val = 5 ∧
      t.pget pSEP SEP_NONCE = s.pget pSEP SEP_NONCE ∧ t.sep = s.sep) ∧
    (s.payload slot.val 8 4 = 2852 → completes (.sepiaClear slot) s fun t =>
      t.pget pSEP SEP_NONCE = (Config.freeWord s.free).toNat ∧ t.flash = s.flash ∧
      ((s.clearDetail slot.val = 0 ∧ t.status slot.val = 0 ∧ t.flag pSEP SEP_STAT_CLEARING = true) ∨
        (s.clearDetail slot.val ≠ 0 ∧ t.status slot.val = 7 ∧
          t.flag pSEP SEP_STAT_CLEARING = s.flag pSEP SEP_STAT_CLEARING ∧ t.sep = s.sep)))) ∧
  (∀ s : State, s.flag pSEP SEP_STAT_CLEARING = true → s.ledgerRuns = true →
    completes .clearDone s fun t => t.flag pSEP SEP_STAT_CLEARING = false ∧ t.sep.clearScope = 0 ∧
      t.sep.cjOp = s.sep.cjOp ∧ t.sep.actQ = s.sep.actQ ∧
      (s.sep.clearScope % 2 = 1 → t.fget pSEP SEP_NEXT = 0 ∧ t.flag pSEP SEP_STAT_FULL = false ∧
        ∀ x, 0x2000000 ≤ x → x < 0x4000000 → memByte t.flash 0xFF x = 0xFF) ∧
      (2 ≤ s.sep.clearScope → t.fget pALG ALG_NO = 1 ∧ t.sep.pinCount = 1 ∧
        ∀ x, 0x80000 ≤ x → x < 0x90000 → x < algSlot (t.fget pALG ALG_HEAD) ∨ algSlot (t.fget pALG ALG_HEAD) + 64 ≤ x →
          memByte t.flash 0xFF x = 0xFF) ∧
      (s.sep.clearScope < 2 → t.fget pALG ALG_NO = (s.fget pALG ALG_NO + 1) % 2 ^ 32))

/-- Carapace's feeds: qualification, closing, transfer, trips and bus loss. A feed in range goes from OPEN to QUAL and from QUAL to READY. Above 66 V it leaves them for OPEN with OV set; a CLOSED one is transferred away when the other is READY and stays otherwise. An accepted EN = 0 opens a CLOSING or CLOSED feed with cause 6. With EN, no feed closing, closed or tripped and no transfer waiting, the first READY feed in order is driven once the other's V_GS is below 1 V. Undervoltage, reverse voltage, a return and a switch open the CLOSED feed with causes 1, 2, 7 and 7 and drive a READY other one if the first one's V_GS is below 1 V, and otherwise let it wait for that; a waiting feed is driven in the sample that finds the opened one's V_GS below 1 V and waits on in any other. A switch without a READY other feed latches NO_FEED. The comparator trips a driven feed with cause 4, and CLEAR takes a tripped one to OPEN. A bus loss, once until a feed has closed, shuts every branch in RAMP or ON with cause 7, its restart latched and its trip counted. -/
def Obligations.Feeds : Prop :=
  (∀ (feed : Feed) (s : State), let i := feedIdx feed
    (s.feedState i = 0 → 5400 ≤ s.vin i → s.vin i ≤ 6200 → completes (.feedQual feed) s (feedMoved i 1 s)) ∧
    (s.feedState i = 1 → 5400 ≤ s.vin i → s.vin i ≤ 6200 → completes (.feedReady feed) s (feedMoved i 2 s)) ∧
    (6600 < s.vin i →
      (s.feedState i = 1 ∨ s.feedState i = 2 → completes (.feedOv feed) s fun t => feedMoved i 0 s t ∧
        t.flag pCRPFEED (ovFld i) = true) ∧
      (s.feedState i = 4 → s.spareFeed (1 - i) = true → completes (.feedOv feed) s (transferred i 3 s)) ∧
      (s.feedState i = 4 → s.spareFeed (1 - i) = false → completes (.feedOv feed) s fun t => feedMoved i 4 s t ∧
        t.flag pCRPFEED (ovFld i) = true)) ∧
    (s.feedState i = 4 → s.spareFeed (1 - i) = true →
      (s.vin i < 25 * s.fget pCRPFEED CF_CFG_UV → completes (.feedUv feed) s (transferred i 1 s)) ∧
      completes (.feedReverse feed) s (transferred i 2 s)) ∧
    (s.feedState i = 4 → s.spareFeed (1 - i) = false → completes (.feedReverse feed) s (feedMoved i 0 s)) ∧
    (∀ peak, s.feedState i = 3 ∨ s.feedState i = 4 → (s.feed i).blank = 0 → completes (.feedInst feed peak) s fun t =>
      feedMoved i 5 s t ∧ t.fget pCRPFEED CF_STAT_CAUSE = 4 ∧ t.crp.gap = none)) ∧
  (∀ (cls : Cls) (en : Bool) (s : State), s.takes cls (pCRPFEED + 0x100) (bit en + 2 * s.fget pCRPFEED CF_CTRL_RETURN) →
    completes (.feedEn cls en) s fun t => t.flag pCRPFEED CF_CTRL_EN = en ∧
      t.fget pCRPFEED CF_CTRL_RETURN = s.fget pCRPFEED CF_CTRL_RETURN ∧ sameBytes s t ∧
      ∀ i, i < 2 → t.feedState i =
        if en = false ∧ s.flag pCRPFEED CF_CTRL_EN = true ∧ (s.feedState i = 3 ∨ s.feedState i = 4) then 0
        else s.feedState i) ∧
  (∀ (i : Nat) (s : State), s.flag pCRPFEED CF_CTRL_EN = true → s.feedState 0 < 3 → s.feedState 1 < 3 →
    s.crp.closing = none → s.feedOrder.find? (fun i => s.feedState i = 2) = some i → (s.feed (1 - i)).vgs < 100 →
    completes .feedClose s fun t => t.feedState i = 3 ∧ t.feedState (1 - i) = s.feedState (1 - i) ∧ sameBytes s t ∧
      (5000 < s.busVolts → (t.feed i).blank = 10)) ∧
  (∀ s : State, s.flag pCRPFEED CF_CTRL_RETURN = true → s.feedState 1 = 4 → s.spareFeed 0 = true →
    completes .feedReturn s (transferred 1 7 s)) ∧
  (∀ (cls : Cls) (s : State), s.takes cls (pCRPFEED + 0x100) (s.feedBits + 4) →
    (∀ i, s.closedFeed = some i → s.spareFeed (1 - i) = true → completes (.feedSwitch cls) s (transferred i 7 s)) ∧
    (s.closedFeed = none → s.fget pCRPFEED ERR_CODE_CODE = 0 → completes (.feedSwitch cls) s fun t =>
      t.fget pCRPFEED ERR_CODE_CODE = 0x0101 ∧ t.feedState 0 = s.feedState 0 ∧ t.feedState 1 = s.feedState 1)) ∧
  (∀ (cls : Cls) (s : State), s.takes cls (pCRPFEED + 0x100) (s.feedBits + 8) → completes (.feedClear cls) s fun t =>
    sameBytes s t ∧ ∀ i, i < 2 → t.feedState i = if s.feedState i = 5 then 0 else s.feedState i) ∧
  (∀ (sample : CrpSample) (j : Nat) (s : State), s.crp.on = true → j < 2 → s.crp.closing = some j →
    s.spareFeed j = true → s.feedState (1 - j) = 0 →
    let r := if j = 0 then sample.feedA else sample.feedB
    let o := if j = 0 then sample.feedB else sample.feedA
    5400 ≤ r.vin → r.vin ≤ 6200 → completes (.carapaceSample sample) s fun t => t.feedState (1 - j) = 0 ∧
      if o.vgs < 100 then t.feedState j = 3 ∧ t.crp.closing = none else t.feedState j = 2 ∧ t.crp.closing = some j) ∧
  (∀ s : State, (s.closedFeed ≠ none ∨ s.crp.busLost = true → exec .busLoss s = .next s)) ∧
  (∀ s : State, s.closedFeed = none → s.crp.busLost = false → completes .busLoss s fun t => t.crp.busLost = true ∧
    sameBytes s t ∧ ∀ b, b < 12 → if s.driven b = true then t.branchState b = 4 ∧ t.fget (pCRPBR b) CB_STAT_CAUSE = 7 ∧
      t.flag (pCRPBR b) CB_STAT_RESTART_PEND = true ∧
      t.fget (pCRPBR b) CB_TRIPS = min 0xFFFFFFFF (s.fget (pCRPBR b) CB_TRIPS + 1) else t.branchState b = s.branchState b)

/-- Branches come up, trip and go down. An accepted EN = 1 takes an OFF branch to WAIT, latches a restart while SHUTTING, and leaves the other states; one that R350 drops latches its error and leaves EN and the state. EN = 0 shuts a driven branch with cause 9, takes WAIT and BACKOFF to OFF and forgets the latched restart. CLEAR takes LOCKOUT and GATE_FAULT to OFF with EN cleared. CURVE_LOAD makes a valid shadow curve live and leaves the live one otherwise. The first waiting branch in order takes a free ramp slot; power good takes it to ON, and its loss leaves it ON without PG. BACKOFF ends in WAIT, and a retry reset clears the retries. A shutdown ends in LOCKOUT, BACKOFF, WAIT or OFF as what began it asks. A lag (cause 4) or a timeout (5) of a ramp, and the instantaneous comparator (1) of a driven branch, are retriable trips: the branch shuts, then retries with its backoff doubled each time, or locks out once its retries are spent. A gate stuck in the ramp and one that collapses when ON are gate faults. None of these touches another branch or a feed. On a branch that a trip of the same sample has taken out of its ramp, a gate fault governs, with RETRIES as before that trip, and another trip only lowers the cause. -/
def Obligations.BranchControl : Prop :=
  (∀ (cls : Cls) (branch : Branch) (s : State), let b := branch.val
    (s.takes cls (pCRPBR b + 0x100) 1 → s.enableError b = 0 → completes (.branchEn cls branch true) s fun t =>
      onlyBranch b s t ∧ t.flag (pCRPBR b) CB_CTRL_EN = true ∧
      t.branchState b = (if s.branchState b = 0 then 1 else s.branchState b) ∧
      (s.branchState b = 4 → t.flag (pCRPBR b) CB_STAT_RESTART_PEND = true)) ∧
    (s.takes cls (pCRPBR b + 0x100) 1 → s.enableError b ≠ 0 → s.fget (pCRPBR b) ERR_CODE_CODE = 0 →
      completes (.branchEn cls branch true) s fun t => onlyBranch b s t ∧ t.branchState b = s.branchState b ∧
        t.fget (pCRPBR b) CB_CTRL_EN = s.fget (pCRPBR b) CB_CTRL_EN ∧
        t.fget (pCRPBR b) ERR_CODE_CODE = s.enableError b) ∧
    (s.takes cls (pCRPBR b + 0x100) 0 → completes (.branchEn cls branch false) s fun t => onlyBranch b s t ∧
      t.flag (pCRPBR b) CB_CTRL_EN = false ∧ t.flag (pCRPBR b) CB_STAT_RESTART_PEND = false ∧
      (if s.driven b = true then t.branchState b = 4 ∧ t.fget (pCRPBR b) CB_STAT_CAUSE = 9 ∧ (t.branch b).after = .off
       else t.branchState b = if s.branchState b = 1 ∨ s.branchState b = 5 then 0 else s.branchState b)) ∧
    (s.takes cls (pCRPBR b + 0x100) 2 → 6 ≤ s.branchState b → completes (.branchClear cls branch) s fun t =>
      onlyBranch b s t ∧ t.branchState b = 0 ∧ t.flag (pCRPBR b) CB_CTRL_EN = false) ∧
    (s.takes cls (pCRPBR b + 0x100) (4 + s.fget (pCRPBR b) CB_CTRL_EN) → completes (.curveLoad cls branch) s fun t =>
      sameBytes s t ∧ t.liveCurve b =
        if curveValid (s.shadowCurve b) (s.fget (pCRPBR b) CB_IINST_IINST) = true then s.shadowCurve b else s.liveCurve b)) ∧
  (∀ (branch : Branch) (s : State), let b := branch.val
    (rampOrder.find? s.mayRamp = some b →
      (branchList.filter fun c => s.branchState c = 2).length < s.fget pCRPGLOB CRP_GCTRL_MAX_RAMP →
      completes (.rampStart branch) s fun t => t.branchState b = 2 ∧ onlyBranch b s t) ∧
    (s.driven b = true → 900 ≤ s.fget (pCRPBR b) CB_VOLT_V_GS → s.fget (pCRPBR b) CB_MEAS_V_DS < 100 →
      completes (.powerGood branch) s fun t => t.branchState b = 3 ∧ t.flag (pCRPBR b) CB_STAT_PG = true ∧ onlyBranch b s t) ∧
    (s.branchState b = 3 →
      (s.fget (pCRPBR b) CB_VOLT_V_GS < 850 ∨ 250 ≤ s.fget (pCRPBR b) CB_MEAS_V_DS →
        completes (.powerGoodLoss branch) s fun t => t.branchState b = 3 ∧ t.flag (pCRPBR b) CB_STAT_PG = false ∧
          onlyBranch b s t) ∧
      completes (.retryReset branch) s fun t => t.branchState b = 3 ∧ t.fget (pCRPBR b) CB_STAT_RETRIES = 0 ∧
        onlyBranch b s t) ∧
    (completes (.backoffExpiry branch) s fun t => (t.branch b).tmr = 0 ∧ onlyBranch b s t ∧
      t.branchState b = if s.branchState b = 5 then 1 else s.branchState b) ∧
    (∀ held, s.branchState b = 4 → s.fget (pCRPBR b) CB_VOLT_V_GS < 100 →
      decide (s.fget (pCRPBR b) CB_VOLT_V_OUT < 500) = !held →
      completes (.shutdownComplete branch held) s fun t => onlyBranch b s t ∧
        t.flag (pCRPBR b) CB_STAT_OUT_HELD = held ∧ t.flag (pCRPBR b) CB_STAT_RESTART_PEND = false ∧
        t.branchState b = match (s.branch b).after with
          | .lockout => 6
          | .backoff => if s.flag (pCRPBR b) CB_CTRL_EN = false then 0 else if (s.branch b).tmr = 0 then 1 else 5
          | .off => if s.flag (pCRPBR b) CB_STAT_RESTART_PEND = true then 1 else 0)) ∧
  (∀ (branch : Branch) (s : State), let b := branch.val
    (s.branchState b = 2 →
      completes (.rampLag branch) s (tripped b 4 s) ∧ completes (.rampTimeout branch) s (tripped b 5 s) ∧
      (s.fget (pCRPBR b) CB_VOLT_V_GS < 10 * CB_CFG_VGS_MIN.get (s.branch b).cfg →
        completes (.gateStuck branch) s (gateFaulted b s))) ∧
    (s.driven b = true → completes (.branchInst branch) s (tripped b 1 s)) ∧
    (s.branchState b = 3 → s.fget (pCRPBR b) CB_VOLT_V_GS < 300 → completes (.gateCollapse branch) s (gateFaulted b s)) ∧
    (∀ m, s.branchState b = 4 → (s.branch b).met = some m → m.trip = true → m.state = 2 → m.retries < 8 →
      (s.fget (pCRPBR b) CB_VOLT_V_GS < 10 * CB_CFG_VGS_MIN.get (s.branch b).cfg →
        completes (.gateStuck branch) s fun t => t.branchState b = 7 ∧ t.fget (pCRPBR b) CB_STAT_RETRIES = m.retries ∧
          onlyBranch b s t) ∧
      completes (.branchInst branch) s fun t => t.branchState b = 4 ∧ onlyBranch b s t ∧
        t.fget (pCRPBR b) CB_STAT_CAUSE = min 1 (s.fget (pCRPBR b) CB_STAT_CAUSE) ∧
        t.fget (pCRPBR b) CB_STAT_RETRIES = s.fget (pCRPBR b) CB_STAT_RETRIES))

/-- Carapace's power-on, its samples, its link and its keeper. Carapace's power-on samples the straps, and every duty is FAN_SAFE with the link silent. A sample's readings are in the registers: the bus, both feeds, and every branch's current and voltages. A valid frame of the running power core, or a hold frame while it restarts or loads, ends a silence; an acknowledgement ends the wait for one; a rejected frame only counts. Silence drives CRP_ALERT_N, and after 5 s of it no duty is below FAN_SAFE. The power-on reset leaves registers, memory and Carapace at reset and keeps flash and fuses. -/
def Obligations.CarapaceLink : Prop :=
  (∀ (pins : StrapPins) (s : State), s.crp.on = false → completes (.carapacePowerOn pins) s fun t =>
    t.crp.on = true ∧ t.crp.silent = true ∧ t.rd (pCRPGLOB + 0x100) = strapWord pins ∧
    (∀ n, n < 16 → t.heldDuty n = t.fanSafe) ∧ t.fget pHZDSENS HZ_SHDN_CFG_THR = t.strapThr ∧ sameBytes s t) ∧
  (∀ (sample : CrpSample) (s : State),
    (s.crp.on = true → completes (.carapaceSample sample) s fun t => sameBytes s t ∧
      t.busVolts = sat16 sample.vbus ∧ t.vin 0 = sat16 sample.feedA.vin ∧ t.vin 1 = sat16 sample.feedB.vin ∧
      ∀ b, b < 12 → let r := sample.branches.getD b noReading
        t.fget (pCRPBR b) CB_MEAS_I = sat16 r.i ∧ t.fget (pCRPBR b) CB_MEAS_V_DS = sat16 r.vds ∧
        t.fget (pCRPBR b) CB_VOLT_V_OUT = sat16 r.vout ∧ t.fget (pCRPBR b) CB_VOLT_V_GS = sat16 r.vgs) ∧
    (s.crp.on = false → exec (.carapaceSample sample) s = .next s)) ∧
  (∀ (ack : Bool) (s : State), s.crp.on = true → s.runs 0 = true →
    completes (.carapaceFrame true ack) s (frameTaken ack s) ∧
    exec (.carapaceFrame false ack) s = .next (s.count pCRPGLOB CRP_LINK_ERR)) ∧
  (∀ s : State, s.crp.on = true → s.coreState 0 = 3 ∨ s.coreState 0 = 1 → completes .holdFrame s (frameTaken false s)) ∧
  (∀ s : State, s.crp.on = true →
    (s.crp.silent = false → completes .linkSilence s fun t => t.crp.silent = true ∧ t.crp.silentFrom = s.nowNs ∧
      t.flag pCRPGLOB CRP_GSTAT_ALERT_OUT = true ∧ (∀ n, t.heldDuty n = s.heldDuty n) ∧ sameBytes s t) ∧
    (s.crp.silent = true → s.crp.keeperActed = false → completes .keeperSafeDuty s fun t =>
      t.flag pCRPGLOB CRP_GSTAT_SAFE_DUTY = true ∧ (∀ n, n < 16 → t.heldDuty n = max (s.heldDuty n) s.fanSafe) ∧
      sameBytes s t)) ∧
  (∀ s : State, completes .carapacePowerOnReset s fun t => t.flash = s.flash ∧ t.fuses = s.fuses ∧ t.crp.on = false ∧
    (∀ a, t.byteAt a = 0) ∧
    ∀ a, ¬(pSEP + SEP_OPSEC.off ≤ a ∧ a < pSEP + SEP_OPSEC.off + 8) → t.rd a = regReset a)

/-- The loop tick: the cap in force, paced rises, emergencies, trust in estimates. A tick puts the lowest cap term in force, with its lowest bit as SOURCE. No accelerator's cap rises by more than 10 us of its own slope, and none rises while readings are missing or on a tick at which the cap in force fell. In an emergency the witness yields, and Kermes, while MAIN is up and the link speaks, is at MIN_STEP. Ten ticks of headroom allow one step up; a hundred end a yield. A reading of the rails is K while MAIN is up; missing readings set NO_MEAS, and no step rises while the Carapace link is silent. Each tick without an estimate of an accelerator is a disagreeing one, in service or not. After 100 disagreeing ticks TRUST becomes MISMATCH, after 10,000 MISMATCH becomes DISTRUST; 100 agreeing ticks end MISMATCH, 100,000 end DISTRUST, and so does an accepted RETRUST, from which disagreement counts anew. None of them moves another accelerator's trust. An acknowledgement late by 100 us sets ACK_LATE and throttles the port. -/
def Obligations.Governor : Prop :=
  (∀ (fresh : Bool) (s : State), completes (.governorTick fresh) s fun t => t.gov.tickN = s.gov.tickN + 1 ∧
    t.gov.pEff = (lowestTerm (s.capTerms s.rackTerm s.feedTerm)).2 ∧
    t.fget pGOVGLOB GG_STAT_SOURCE = (lowestTerm (s.capTerms s.rackTerm s.feedTerm)).1 ∧
    (∀ a, a < 8 → (t.govAcc a).cap ≤ (s.govAcc a).cap + 10 * s.fget (pGOVACC a) GA_SLOPE) ∧
    (s.crp.silent = true ∨ (s.flag pGOVGLOB GG_STAT_NO_MEAS = true ∧ fresh = false) ∨ t.gov.pEff < s.gov.pEff →
      ∀ a, a < 8 → (t.govAcc a).cap ≤ (s.govAcc a).cap) ∧
    (s.emergency = true → t.gov.yield = true ∧
      (s.pins.mainPwrGood = true → s.crp.silent = false → fresh = true → t.fget pCLK CLK_KRM_STEP = s.minStep)) ∧
    (s.crp.silent = true → t.flag pGOVGLOB GG_STAT_NO_MEAS = true ∧
      t.fget pCLK CLK_KRM_STEP ≤ s.fget pCLK CLK_KRM_STEP) ∧
    (∀ a, a < 8 → s.estimated a = none → (t.govAcc a).disagree = (s.govAcc a).disagree + 1 ∧ (t.govAcc a).agree = 0)) ∧
  (∀ s : State, 10 ≤ s.gov.upN → s.flag pGOVGLOB GG_STAT_NO_MEAS = false → s.emergency = false →
    s.krmForced = false → s.pins.mainPwrGood = true → s.fget pCLK CLK_KRM_STEP < s.preferred →
    s.fget pCLK CLK_KRM_STEP < s.fget pCLK CLK_KRM_LIMIT_LIMIT → completes .krmStepUp s fun t =>
      t.fget pCLK CLK_KRM_STEP = s.fget pCLK CLK_KRM_STEP + 1 ∧ t.gov.upN = 0 ∧ sameBytes s t) ∧
  (∀ s : State, 100 ≤ s.gov.yieldN → s.emergency = false → completes .yieldEnd s fun t =>
    t.gov = { s.gov with yield := false } ∧ sameBytes s t) ∧
  (∀ (watts : Nat) (s : State),
    (s.pins.mainPwrGood = true → exec (.avsbusRead watts) s = .next { s with gov := { s.gov with k := watts } }) ∧
    (s.pins.mainPwrGood = false → exec (.avsbusRead watts) s = .next s)) ∧
  (∀ s : State, completes .noMeas s fun t => t.flag pGOVGLOB GG_STAT_NO_MEAS = true ∧ t.gov = s.gov ∧ sameBytes s t) ∧
  (∀ (acc : Port) (s : State), let a := acc.val
    (s.fget (pGOVACC a) GA_STAT_TRUST = 0 → 100 ≤ (s.govAcc a).disagree → completes (.mismatch acc) s (trustMoved a 1 s)) ∧
    (s.fget (pGOVACC a) GA_STAT_TRUST = 1 → 10000 ≤ (s.govAcc a).disagree → completes (.distrust acc) s (trustMoved a 2 s)) ∧
    (s.fget (pGOVACC a) GA_STAT_TRUST = 1 → 100 ≤ (s.govAcc a).agree → completes (.trustRestored acc) s (trustMoved a 0 s)) ∧
    (s.fget (pGOVACC a) GA_STAT_TRUST = 2 → (s.govAcc a).agree < 100000 → exec (.trustRestored acc) s = .next s) ∧
    (s.fget (pGOVACC a) GA_STAT_TRUST = 2 → 100000 ≤ (s.govAcc a).agree →
      completes (.trustRestored acc) s (trustMoved a 0 s)) ∧
    (∀ cls, s.takes cls (pGOVACC a + 0x100) (Nat.lor (s.rd (pGOVACC a + 0x100)).toNat 8) →
      s.fget (pGOVACC a) GA_STAT_TRUST = 2 → completes (.retrust cls acc) s fun t =>
        t.fget (pGOVACC a) GA_STAT_TRUST = 0 ∧ (t.govAcc a).disagree = 0 ∧ (t.govAcc a).agree = 0 ∧
        (t.govAcc a).cap = (s.govAcc a).cap ∧ t.fget (pGOVACC a) GA_CTRL_PHASE = s.fget (pGOVACC a) GA_CTRL_PHASE ∧
        (∀ b, b < 8 → b ≠ a → t.fget (pGOVACC b) GA_STAT_TRUST = s.fget (pGOVACC b) GA_STAT_TRUST) ∧ sameBytes s t) ∧
    ((s.govAcc a).ackDue ≠ none → s.portUp a = true → s.flag (pGOVACC a) GA_STAT_ACK_LATE = false →
      completes (.ackLate acc) s fun t => t.flag (pGOVACC a) GA_STAT_ACK_LATE = true ∧
        t.flag (pSLK a) SLK_CTRL_THR = true ∧ t.flag (pSLK a) SLK_STAT_THROTTLE = true ∧ t.gov = s.gov ∧ sameBytes s t))

/-- The caps that sharing gives never exceed what it shares. Whatever the accelerators in service, their floors, demands and positive weights, the weighted max-min sharing of a budget that is not negative gives caps whose sum does not exceed the budget; that holds where the floors exceed it too, since the cap outranks the floors. Of a budget below zero every cap is 0. -/
def Obligations.SharesStayWithinTheBudget : Prop :=
  ∀ (budget : Int) (l : List Claim), l.Pairwise (fun c d => c.acc ≠ d.acc) → l.length ≤ 8 →
    (∀ c ∈ l, 0 ≤ c.floor ∧ 0 < c.weight ∧ 0 ≤ c.demand) →
    (0 ≤ budget → ((divide budget l).1.map fun x => (x.cap : Int) * quarter).foldl (· + ·) 0 ≤ budget) ∧
    (budget < 0 → ∀ x ∈ (divide budget l).1, x.cap = 0)

/-- How a fan channel starts, stalls and stops, and its duty. While the conductor die speaks to Carapace, a spin-up without a tach period ends in PROBE. A probe that finds the signature ends in RUN with TACH_LOST, one that does not in RETRY_WAIT, or in STALLED after the third retry; RETRY_WAIT ends in a spin-up with ATTEMPT one more. A running channel without tach periods is probed, unless its tach is lost already. A tach period shows the speed and takes a spin-up to RUN; ten valid ones end TACH_LOST with ATTEMPT at 0. STOPPING ends in OFF, or in the spin-up asked for meanwhile. An accepted rise of EN starts an OFF channel and is remembered by a stopping one; EN = 0 stops a running one; CLEAR takes a stalled one to OFF, which starts it while EN is set. No other channel moves. Every 10 ms each channel's composed duty is formed from the states before the step. One that rises from 0 starts an enabled OFF channel, and 0 stops an enabled running one. The sequences and the duties pause while the conductor die is silent: none of these steps then changes a channel's state, and a tach period only shows the speed. FAN_DRV is low at a duty of 0 and high at 100%, and otherwise, outside a probe and a stretch, high for the duty's share of each period, which begins n/16 of a period after channel 0's. While Carapace hears, an enabled running channel is driven at the composed duty at least and 100% at most, at 100% while SYS_SHDN_N is asserted, and a stalled one at 0. -/
def Obligations.FanChannels : Prop :=
  (∀ (chan : FanChan) (s : State), s.crp.silent = false → let n := chan.val
    (s.fanState n = 1 → completes (.spinupEnd chan) s (fanMoved n 2 s)) ∧
    (∀ ripple, s.fanState n = 2 →
      (s.fget pLCWGLOB LCW_RIPPLE_THR_THR ≤ ripple → completes (.probeEnd chan ripple) s fun t => fanMoved n 3 s t ∧
        t.ch n LCW_CH_STAT_TACH_LOST = 1) ∧
      (ripple < s.fget pLCWGLOB LCW_RIPPLE_THR_THR →
        (s.ch n LCW_CH_STAT_ATTEMPT < 3 → completes (.probeEnd chan ripple) s (fanMoved n 4 s)) ∧
        (s.ch n LCW_CH_STAT_ATTEMPT = 3 → completes (.probeEnd chan ripple) s fun t => fanMoved n 5 s t ∧
          t.stalled n = true))) ∧
    (s.fanState n = 4 → s.ch n LCW_CH_STAT_ATTEMPT < 3 → completes (.retryWaitEnd chan) s fun t => fanMoved n 1 s t ∧
      t.ch n LCW_CH_STAT_ATTEMPT = s.ch n LCW_CH_STAT_ATTEMPT + 1) ∧
    (s.fanState n = 3 →
      (s.ch n LCW_CH_STAT_TACH_LOST = 0 → completes (.tachTimeout chan) s (fanMoved n 2 s)) ∧
      (s.ch n LCW_CH_STAT_TACH_LOST = 1 → completes (.tachTimeout chan) s fun t => fanMoved n 3 s t ∧
        (t.fan n).validRun = 0) ∧
      (s.ch n LCW_CH_STAT_TACH_LOST = 1 → 10 ≤ (s.fan n).validRun → completes (.tachRecovered chan) s fun t =>
        fanMoved n 3 s t ∧ t.ch n LCW_CH_STAT_TACH_LOST = 0 ∧ t.ch n LCW_CH_STAT_ATTEMPT = 0)) ∧
    (∀ us, 0 < us → completes (.tachPeriod chan us) s fun t =>
      fanMoved n (if s.fanState n = 1 then 3 else s.fanState n) s t ∧ (t.fan n).tLast = us ∧
      t.ch n LCW_CH_SPEED_RPM = min 0xFFFF (60000000 / ((s.ch n LCW_CH_CFG_PPR + 1) * us))) ∧
    (s.fanState n = 6 → completes (.stoppingEnd chan) s fun t => t.ch n LCW_CH_STAT_RESTART_PEND = 0 ∧
      fanMoved n (if s.ch n LCW_CH_STAT_RESTART_PEND = 1 then 1 else 0) s t)) ∧
  (∀ (chan : FanChan) (ripple us : Nat) (s : State), s.crp.silent = true →
    exec (.spinupEnd chan) s = .next s ∧ exec (.probeEnd chan ripple) s = .next s ∧ exec (.retryWaitEnd chan) s = .next s ∧
    exec (.tachTimeout chan) s = .next s ∧ exec (.stoppingEnd chan) s = .next s ∧
    (completes (.tachPeriod chan us) s fun t => t.fanState chan.val = s.fanState chan.val ∧ t.crp = s.crp) ∧
    ∀ vRail iRail, exec (.dutyCompose vRail iRail) s = .next s) ∧
  (∀ (n : Nat) (s : State), s.crp.on = true → (s.heldDuty n = 0 → s.fanDrv n = false) ∧
    (1000 ≤ s.heldDuty n → s.fanDrv n = true) ∧
    (0 < s.heldDuty n → s.heldDuty n < 1000 → s.fanState n ≠ 2 → (s.fan n).stretchN = 0 →
      s.fanDrv n = decide ((s.crp.switchUs * s.fget pLCWGLOB LCW_CFG_FSW + 1000000 - 62500 * n) % 1000000 < 1000 * s.heldDuty n))) ∧
  (∀ (cls : Cls) (chan : FanChan) (s : State), let n := chan.val
    (s.takes cls (pLCWCHAN + 0x100 + 0x20 * n) 1 → completes (.fanEn cls chan true) s fun t => t.fanOn n = true ∧
      fanMoved n (if s.fanOn n = false ∧ s.fanState n = 0 then 1 else s.fanState n) s t ∧
      (s.fanOn n = false → s.fanState n = 6 → t.ch n LCW_CH_STAT_RESTART_PEND = 1)) ∧
    (s.takes cls (pLCWCHAN + 0x100 + 0x20 * n) 0 → completes (.fanEn cls chan false) s fun t => t.fanOn n = false ∧
      t.ch n LCW_CH_STAT_RESTART_PEND = 0 ∧
      fanMoved n (if 1 ≤ s.fanState n ∧ s.fanState n ≤ 4 then 6 else s.fanState n) s t) ∧
    (s.takes cls (pLCWCHAN + 0x100 + 0x20 * n) (2 + s.ch n LCW_CH_CTRL_EN) → s.fanState n = 5 →
      completes (.fanClear cls chan) s fun t => t.ch n LCW_CH_STAT_ATTEMPT = 0 ∧ t.fanOn n = s.fanOn n ∧
        fanMoved n (if s.fanOn n = true then 1 else 0) s t)) ∧
  (∀ (vRail iRail : Nat) (s : State), s.crp.silent = false → completes (.dutyCompose vRail iRail) s fun t => sameBytes s t ∧
    t.fget pLCWGLOB LCW_RAIL_I_RAIL = min 0xFFFF iRail ∧ ∀ n, n < 16 → (t.fan n).composed = s.compose n ∧
    (s.fanOn n = true → (s.fan n).composed = 0 → s.compose n ≠ 0 → s.fanState n = 0 → t.fanState n = 1) ∧
    (s.fanOn n = true → s.compose n = 0 → 1 ≤ s.fanState n → s.fanState n ≤ 4 → t.fanState n = 6) ∧
    (s.fanOn n = true → s.compose n ≠ 0 → s.fanState n = 3 → t.fanState n = 3 ∧ (s.crpDeaf = false →
      s.compose n ≤ t.ch n LCW_CH_STAT_APPLIED ∧ t.ch n LCW_CH_STAT_APPLIED ≤ 1000 ∧
      (s.shdn = true → t.ch n LCW_CH_STAT_APPLIED = 1000))) ∧
    (s.fanState n = 5 → t.fanState n = 5 ∧ (s.crpDeaf = false → t.ch n LCW_CH_STAT_APPLIED = 0)) ∧
    (s.crpDeaf = false → t.flag pCRPGLOB CRP_GSTAT_SAFE_DUTY = false))

/-- Table mode, commissioning and ageing. A cause of table mode enters it and ends a commissioning; an accepted RESUME leaves it unless a cause remains, and duties then fall no faster than from the applied ones. An accepted TBL_LOAD makes a valid shadow table live and leaves the live one otherwise. COMMISSION begins outside table mode only. Its end stores the record of every enabled channel in RUN, keeps those of the others and ends the ageing of the recorded. An evaluation shows the ratio and counts those above 1.15 in a row: the third sets AGEING. -/
def Obligations.FanTableAndAgeing : Prop :=
  (∀ s : State,
    (s.tableCause = true → s.flag pLCWGLOB LCW_STAT_AUTO = false → completes .tableModeEntry s fun t =>
      t.flag pLCWGLOB LCW_STAT_AUTO = true ∧ t.flag pLCWGLOB LCW_STAT_COMMISSIONING = false ∧ sameBytes s t ∧
      ∀ n, n < 16 → (t.fan n).fall = 0 ∧ t.fanState n = s.fanState n) ∧
    (s.tableCause = false → exec .tableModeEntry s = .next s)) ∧
  (∀ (cls : Cls) (s : State),
    (s.lcwTakes cls 1 → completes (.resume cls) s fun t => sameBytes s t ∧
      t.flag pLCWGLOB LCW_STAT_AUTO = (s.flag pLCWGLOB LCW_STAT_AUTO && s.tableCause) ∧
      (s.flag pLCWGLOB LCW_STAT_AUTO = true → s.tableCause = false → ∀ n, n < 16 →
        (t.fan n).fall = 10 * s.ch n LCW_CH_STAT_APPLIED)) ∧
    (s.lcwTakes cls 8 → completes (.tblLoad cls) s fun t => sameBytes s t ∧
      t.liveTable = if s.tableValid s.shadowTable = true then s.shadowTable else s.liveTable) ∧
    (s.lcwTakes cls 2 → completes (.commission cls) s fun t => sameBytes s t ∧
      t.flag pLCWGLOB LCW_STAT_COMMISSIONING =
        (s.flag pLCWGLOB LCW_STAT_COMMISSIONING || !s.flag pLCWGLOB LCW_STAT_AUTO))) ∧
  (∀ (points : List CommissPoint) (s : State),
    (s.flag pLCWGLOB LCW_STAT_COMMISSIONING = false → exec (.commissDone points) s = .next s) ∧
    (s.flag pLCWGLOB LCW_STAT_COMMISSIONING = true → completes (.commissDone points) s fun t =>
      t.flag pLCWGLOB LCW_STAT_COMMISSIONING = false ∧
      (∀ p ∈ points, s.fanOn p.chan.val = true → s.fanState p.chan.val = 3 → t.ch p.chan.val LCW_CH_STAT_AGEING = 0 ∧
        ⟨p.chan.val, p.sMax, p.d25, p.d50, p.d75, s.inletTemp⟩ ∈ t.lcw.commis) ∧
      ∀ r ∈ s.lcw.commis, (∀ p ∈ points, p.chan.val ≠ r.chan) → r ∈ t.lcw.commis)) ∧
  (∀ (chan : FanChan) (r : CommissRec) (q : Nat × Nat) (s : State), let n := chan.val
    s.lcw.commis.find? (fun r => r.chan = n) = some r → baseAt r.points (4 * s.ch n LCW_CH_SPEED_RPM) = some q →
    s.runs 1 = true → s.fanState n = 3 → q.1 * kelvin r.tc ≠ 0 → completes (.ageingEvaluation chan) s fun t =>
      t.fanState n = 3 ∧ sameBytes s t ∧ t.ch n LCW_CH_AGE_RATIO = min 0xFFFF
        (1024 * s.ch n LCW_CH_STAT_APPLIED * q.2 * kelvin s.inletTemp / (q.1 * kelvin r.tc)) ∧
      (if 115 * q.1 * kelvin r.tc < 100 * s.ch n LCW_CH_STAT_APPLIED * q.2 * kelvin s.inletTemp then
        (t.fan n).ageRun = (s.fan n).ageRun + 1 ∧ (2 ≤ (s.fan n).ageRun → t.ch n LCW_CH_STAT_AGEING = 1)
      else (t.fan n).ageRun = 0 ∧ t.ch n LCW_CH_STAT_AGEING = s.ch n LCW_CH_STAT_AGEING))

/-- Thermistors, drip ropes, shutdown and its release. A conversion shows each reading; while VSNS_1P8 stays out every sensor converted is OPEN; otherwise an open resistance puts the sensor in OPEN, a short one in SHORT, one in range without a jump leaves its faults. A clear in range ends OPEN and SHORT, and RATE where no jump stands. The third missed power step in a row of a running climate core marks a sensor STUCK; an answered one ends the count. VSNS_FAULT makes every sensor OPEN and holds VSNS_1P8 out until a conversion finds it in range. A rope reading waits until its class change, which shows it, and WET latches. With a cause, SYS_SHDN_N is asserted with the lowest one named: its branches shut or go OFF, those with EN = 1 due to be enabled again, running fans and enabled ones not yet started are at 100%, silence or not, and the rack is told; nothing masks it. REL_OK rises where its condition holds. Three release writes in order, by one class within 100 ms each, release it unless a cause stands, and the running power core then enables again, with a profile in force, each branch due that is OFF; any other write, and a late one, restarts the sequence with REL_SEQ. -/
def Obligations.HazardSensing : Prop :=
  (∀ (vsnsOk : Bool) (readings : List ThReading) (s : State), readings.Pairwise (fun a b => a.th ≠ b.th) →
    let out := s.hzd.vsnsOut && !vsnsOk
    completes (.thermistorConversion vsnsOk readings) s fun t => sameBytes s t ∧ t.hzd.vsnsOut = out ∧
      (∀ k, k < 32 → (∀ r ∈ readings, r.th.val ≠ k) → t.thClass k = s.thClass k ∧ t.thTemp k = s.thTemp k) ∧
      ∀ r ∈ readings, (-32768 ≤ r.temp → r.temp < 32768 → t.thTemp r.th.val = r.temp) ∧
        (out = true ∨ rawClass r.ohms = 1 → t.thClass r.th.val = 1) ∧
        (out = false → rawClass r.ohms = 2 → s.faultBit HZ_FLT_OPEN r.th.val = false → t.thClass r.th.val = 2) ∧
        (out = false → rawClass r.ohms = 0 → s.rateBroken (s.therm r.th.val).hist r.temp = false →
          t.thClass r.th.val = s.faultClass r.th.val)) ∧
  (∀ (th : Therm) (s : State), (s.therm th.val).raw = 0 →
    (s.thClass th.val = 1 ∨ s.thClass th.val = 2 → completes (.sensorFaultClear th) s fun t => onlyTherm th.val s t ∧
      t.thClass th.val = if s.faultBit HZ_FLT_RATE th.val = true then 3
        else if s.faultBit HZ_FLT_STUCK th.val = true then 4 else 0) ∧
    (s.thClass th.val = 3 → s.faultClass th.val = 3 →
      ((s.therm th.val).hist.any fun x => s.rateBroken (s.therm th.val).hist x) = false →
      completes (.sensorFaultClear th) s fun t => onlyTherm th.val s t ∧
        t.thClass th.val = if s.faultBit HZ_FLT_STUCK th.val = true then 4 else 0)) ∧
  (∀ (th : Therm) (step move : Int) (s : State), s.runs 1 = true → s.fget pHZDSENS (HZ_THCFG_ASSOC.nth th.val 4) < 12 →
    ((s.fget pHZDSENS HZ_CORR_DP : Nat) : Int) ≤ max step (-step) →
    ((if 0 < step then 16 ≤ move else move ≤ -16) → completes (.powerStepCheck th step move) s fun t =>
      (t.therm th.val).missed = 0 ∧ (t.therm th.val).answered = (s.therm th.val).answered + 1 ∧ sameBytes s t) ∧
    (¬(if 0 < step then 16 ≤ move else move ≤ -16) → completes (.powerStepCheck th step move) s fun t =>
      (t.therm th.val).missed = (s.therm th.val).missed + 1 ∧ sameBytes s t ∧
      (2 ≤ (s.therm th.val).missed → s.faultBit HZ_FLT_STUCK th.val = false →
        s.takes .fwc (pHZDSENS + HZ_FLT_STUCK.off) (Nat.lor (s.fget pHZDSENS HZ_FLT_STUCK) (2 ^ th.val)) →
        t.faultBit HZ_FLT_STUCK th.val = true ∧ t.thClass th.val ≠ 0))) ∧
  (∀ s : State, completes .vsnsFault s fun t => sameBytes s t ∧ t.hzd.vsnsOut = true ∧
    ∀ k, k < 32 → t.thClass k = 1 ∧ (t.therm k).raw = 1) ∧
  (∀ (readings : List DripReading) (s : State), readings.Pairwise (fun a b => a.rope ≠ b.rope) →
    completes (.dripClassify readings) s fun t => sameBytes s t ∧ (∀ k, k < 4 → t.rope k = s.rope k) ∧
      ∀ d ∈ readings, s.ropeOn d.rope.val = true → Tab.get t.hzd.dripNext d.rope.val 0 = ropeClass d.res) ∧
  (∀ (rope : Rope) (s : State), s.ropeOn rope.val = true → Tab.get s.hzd.dripNext rope.val 0 < 3 →
    completes (.dripClassChange rope) s fun t => sameBytes s t ∧ t.rope rope.val = Tab.get s.hzd.dripNext rope.val 0 ∧
      (∀ k, k < 4 → k ≠ rope.val → t.rope k = s.rope k) ∧
      (Tab.get s.hzd.dripNext rope.val 0 = 1 → s.rope rope.val ≠ 1 → t.flag pHZDSENS HZ_LATCH_WET = true)) ∧
  (∀ s : State, (s.shdnCauses = [] → exec .shdnAssert s = .next s) ∧
    ∀ cause first rest, s.shdnCauses = (cause, first) :: rest → s.shdn = false → completes .shdnAssert s fun t =>
      t.shdn = true ∧ t.fget pHZDSENS HZ_SHDN_STAT_CAUSE = cause ∧ t.fget pHZDSENS HZ_SHDN_STAT_FIRST = first ∧
      t.flag pRCK RCK_ALERT_SRC_SHDN = true ∧ t.flag pHZDSENS HZ_LATCH_SHDN_SEEN = true ∧ sameBytes s t ∧
      (∀ b, b ∈ t.fwc.shdnDue ↔ b < 12 ∧ shdnSet b = true ∧ s.flag (pCRPBR b) CB_CTRL_EN = true) ∧
      (∀ n, n < 16 → s.fanState n = 3 ∨ (s.fanState n = 0 ∧ s.fanOn n = true) → t.fanState n = s.fanState n ∧
        t.ch n LCW_CH_STAT_APPLIED = 1000 ∧ t.heldDuty n = 1000) ∧
      ∀ b, b < 12 → t.branchState b = if shdnSet b = false then s.branchState b else if s.driven b = true then 4
        else if s.branchState b = 1 ∨ s.branchState b = 5 then 0 else s.branchState b) ∧
  (∀ s : State, (s.relCond = true → completes .relOk s fun t => t.flag pHZDSENS HZ_SHDN_STAT_REL_OK = true ∧
      t.shdn = s.shdn ∧ sameBytes s t) ∧ (s.relCond = false → exec .relOk s = .next s) ∧
    (s.fget pHZDSENS HZ_SHDN_STAT_REL_STEP ≠ 0 → s.fget pHZDSENS ERR_CODE_CODE = 0 → completes .relSeq s fun t =>
      t.fget pHZDSENS HZ_SHDN_STAT_REL_STEP = 0 ∧ t.fget pHZDSENS ERR_CODE_CODE = 0x0102 ∧ t.shdn = s.shdn)) ∧
  (∀ (cls : Cls) (v : BitVec 32) (s : State), s.takes cls (pHZDSENS + HZ_SHDN_REL.off) v.toNat →
    (s.shdn = true → s.relNext cls v.toNat →
      (v.toNat < 3 → completes (.shdnReleaseWrite cls v) s fun t => t.shdn = true ∧
        t.fget pHZDSENS HZ_SHDN_STAT_REL_STEP = v.toNat ∧ t.hzd.relCls = some (clsCode cls)) ∧
      (v.toNat = 3 → completes (.shdnReleaseWrite cls v) s fun t => t.fget pHZDSENS HZ_SHDN_STAT_REL_STEP = 0 ∧
        t.shdn = !s.shdnCauses.isEmpty ∧
        (s.shdnCauses = [] → s.runs 0 = true → s.crpDeaf = false → s.flag pCRPGLOB CRP_GCTRL_PROFILE_OK = true →
          ∀ b ∈ s.fwc.shdnDue, b < 12 → s.branchState b = 0 → s.takes .fwp (pCRPBR b + 0x100) 1 → t.branchState b = 1))) ∧
    (s.shdn = true → ¬s.relNext cls v.toNat → completes (.shdnReleaseWrite cls v) s fun t => t.shdn = true ∧
      t.fget pHZDSENS HZ_SHDN_STAT_REL_STEP = 0 ∧ t.hzd.relCls = none ∧
      (s.fget pHZDSENS ERR_CODE_CODE = 0 → t.fget pHZDSENS ERR_CODE_CODE = 0x0102)))

/-- ROM, the ALWAYS reset and the rise of MAIN. ROM runs once Carapace is on, once; with neither image good it leaves the machine in recovery. An ALWAYS reset leaves flash and fuses, Carapace with its registers and the hazard state, and every other register at reset with MAIN down and no memory; with Carapace on, the gates stand as they were, RACK_ALERT_N and MAIN_PWR_EN are low, and every other pin of the die has its level of R486's Reset column. MAIN is asserted once a profile is in force and HOST is ON; its power good ends the attempt, fences each channel that failed, shows the loss as the cause of the ports it took down, and is followed by what the cores owe MAIN; three timeouts leave it off with FAULT, and a retry or a recovery asserts it again, the recovery only with HOST ON and SYS_SHDN_N released. A MAIN loss fences every MAIN page, takes ports down, loses memory and the job, and is recovered from unless it is the third within 60 s. -/
def Obligations.StartupAndResets : Prop :=
  (∀ s : State,
    (s.crp.on = true → s.fwc.romDone = false → completes .romBoot s fun t => t.fwc.romDone = true ∧
      (∀ a, t.byteAt a = s.byteAt a) ∧
      (s.bcr.2.slot (s.bcr.2.active % 2) ≠ 2 → s.checkImage 0 ≠ 0 → s.checkImage 1 ≠ 0 → t.fwc.recovery = true)) ∧
    (s.crp.on = false ∨ s.fwc.romDone = true → exec .romBoot s = .next s)) ∧
  (∀ s : State, s.regsOk = true → completes .alwaysReset s fun t => t.flash = s.flash ∧ t.fuses = s.fuses ∧
    t.crp = s.crp ∧ t.hzd = s.hzd ∧ t.pins.mainPwrGood = false ∧ t.pins.mainPwrEn = false ∧ (∀ a, t.byteAt a = 0) ∧
    ∀ a, ¬(pSEP + SEP_OPSEC.off ≤ a ∧ a < pSEP + SEP_OPSEC.off + 8) →
      t.rd a = if carapaceWord a = true then s.rd a else regReset a) ∧
  (∀ s : State, s.regsOk = true → s.crp.on = true → completes .alwaysReset s fun t => ∀ pin : OutPin, match pin with
    | .fdGate _ | .brGate _ | .sysShdnN | .crpAlertN | .vsns1p8 => t.level pin = s.level pin
    | .fanDrv _ => t.crp.heldDuty = s.crp.heldDuty
    | .rackAlertN | .traySync | .ffySyncOut | .mainPwrEn | .silkSync _ | .silkPg _ | .silkThrottle _ | .silkHeart _ =>
      t.level pin = .low
    | .trayHaltN | .silkResetN _ => t.level pin = .released
    | .xspiCsN => t.level pin = .high
    | .i3c | .vrAvs | .xspi | .hostLanes | .clkreqN | .wakeN | .silkLanes _ | .tdo => t.level pin = .highZ) ∧
  (∀ s : State,
    (s.fwc.profValid = true ∨ s.fwc.safeProfile = true → s.hostOn = true → s.runs 0 = true → s.pins.mainPwrEn = false →
      s.mainP.gaveUp = false → s.mainP.waiting = false → exec .mainPowerUp s = .next s.mainOn) ∧
    (s.mainP.waiting = true → s.runs 0 = true →
      (s.mainP.tries ≠ 0 → exec .mainRetry s = .next s.mainOn) ∧
      (s.mainP.tries = 0 → s.hostOn = true → s.shdn = false → exec .mainRecovery s = .next s.mainOn) ∧
      (s.mainP.tries = 0 → s.hostOn = false ∨ s.shdn = true → exec .mainRecovery s = .next s)) ∧
    (s.pins.mainPwrEn = true → s.pins.mainPwrGood = false →
      (s.runs 0 = true → completes .mainPwrTimeout s fun t => t.pins.mainPwrEn = false ∧ t.mainP.tries = s.mainP.tries + 1 ∧
        sameBytes s t ∧ t.mainP.waiting = decide (s.mainP.tries < 2) ∧
        (2 ≤ s.mainP.tries → t.mainP.gaveUp = true ∧ t.flag pGEN PAGE_STAT_FAULT = true)) ∧
      ∀ failed : List ChanFail, completes (.mainPowerGood failed) s fun t => ∃ u : State, t = u.dueDuties ∧
        u.pins.mainPwrGood = true ∧ u.mainP = { s.mainP with
          tries := 0, waiting := false, silkLost := [], profDue := true, silkDue := true } ∧
        u.krm = s.krm ∧ sameBytes s u ∧ (∀ f ∈ failed, u.flag (chanPage f.chan) PAGE_STAT_FENCED = true) ∧
        ∀ p ∈ s.mainP.silkLost, u.fget (pSLK p) SLK_DOWN_CAUSE = 9)) ∧
  (∀ s : State, s.pins.mainPwrEn = true → s.pins.mainPwrGood = true → completes .mainLoss s fun t =>
    t.pins.mainPwrGood = false ∧ t.pins.mainPwrEn = false ∧ (∀ b ∈ mainPages, t.flag b PAGE_STAT_FENCED = true) ∧
    (∀ p, p < 8 → t.portState p = if s.portState p = 0 then 0 else 7) ∧ t.krm.job = none ∧ (∀ a, t.byteAt a = 0) ∧
    t.flash = s.flash ∧ t.crp.heldDuty = s.crp.heldDuty ∧ (∀ b, b < 12 → t.branchState b = s.branchState b) ∧
    t.mainP.gaveUp = (s.mainP.gaveUp || decide (2 ≤ (s.mainP.losses.filter fun x => s.nowNs < x + 60000000000).length)))

/-- What the loss of each clock does, and its return. A lock that stands and falls shows so. TB's stops the timebase and its validity, FW's goes to the fallback oscillator and back with the lock, KRM's ends the running job and fences every core, FAB's takes MAIN down, NT's and BK's fence every channel of their tier, and LNK's takes the host link down and loses the driver, and until it returns no HEART line toggles. With MAIN on a lock that returns shows so, and no other lock with it. A lock but TB's that does not stand is not lost again. -/
def Obligations.ClocksLostAndBack : Prop :=
  (∀ (dom : ClkDomain) (s : State), dom ≠ .tb → s.flag pCLK (lockBit dom) = false → exec (.pllLockLoss dom) s = .next s) ∧
  (∀ s : State,
    (s.flag pFFY FFY_STAT_LOCKED = true → completes (.pllLockLoss .tb) s fun t => t.flag pFFY FFY_STAT_LOCKED = false ∧
      t.flag pFFY FFY_STAT_VALID = false ∧ t.ffy.counter = s.ffy.counter ∧ sameBytes s t) ∧
    (s.flag pFFY FFY_STAT_LOCKED = false → completes (.pllLockReturn .tb) s fun t => t.flag pFFY FFY_STAT_LOCKED = true ∧
      t.ffy.counter = s.ffy.counter ∧ sameBytes s t) ∧
    (s.flag pCLK CLK_STAT_FW_LOCK = true → completes (.pllLockLoss .fw) s fun t => t.flag pCLK CLK_STAT_FW_LOCK = false ∧
      t.flag pCLK CLK_STAT_FW_FALLBACK = true ∧ sameBytes s t) ∧
    (completes (.pllLockReturn .fw) s fun t => t.flag pCLK CLK_STAT_FW_LOCK = true ∧
      t.flag pCLK CLK_STAT_FW_FALLBACK = false ∧ sameBytes s t) ∧
    (s.flag pCLK CLK_STAT_KRM_LOCK = true → completes (.pllLockLoss .krm) s fun t => t.flag pCLK CLK_STAT_KRM_LOCK = false ∧
      (∀ c, c < 36 → t.flag (pKRMCORE c) PAGE_STAT_FENCED = true) ∧
      (∀ j, s.krm.job = some j → j.phase ≠ .ended → t.ended 2 1)) ∧
    (s.flag pCLK CLK_STAT_FAB_LOCK = true → s.pins.mainPwrEn = true → s.pins.mainPwrGood = true →
      completes (.pllLockLoss .fab) s fun t => t.pins.mainPwrGood = false ∧ t.pins.mainPwrEn = false ∧
        t.flag pCLK CLK_STAT_FAB_LOCK = false ∧ t.krm.job = none) ∧
    (s.flag pCLK CLK_STAT_NT_LOCK = true → completes (.pllLockLoss .nt) s fun t => t.flag pCLK CLK_STAT_NT_LOCK = false ∧
      (∀ k, k < 6 → t.flag (pNTRCHAN k) PAGE_STAT_FENCED = true) ∧ sameBytes s t) ∧
    (s.flag pCLK CLK_STAT_BK_LOCK = true → completes (.pllLockLoss .bk) s fun t => t.flag pCLK CLK_STAT_BK_LOCK = false ∧
      (∀ k, k < 24 → t.flag (pBLKCHAN k) PAGE_STAT_FENCED = true) ∧ sameBytes s t) ∧
    (s.flag pCLK CLK_STAT_LNK_LOCK = true → completes (.pllLockLoss .lnk) s fun t => t.flag pCLK CLK_STAT_LNK_LOCK = false ∧
      t.flag pHST HST_LINK_UP = false ∧ t.mainP.lnkLost = true ∧ t.hr.lost = true ∧ sameBytes s t) ∧
    (s.pins.mainPwrGood = true → completes (.pllLockReturn .lnk) s fun t => t.flag pCLK CLK_STAT_LNK_LOCK = true ∧
      t.mainP.lnkLost = false ∧ sameBytes s t) ∧
    (s.mainP.lnkLost = true → ∀ port : Port, exec (.heartToggle port) s = .next s)) ∧
  (∀ (dom : ClkDomain) (s : State), s.pins.mainPwrGood = true → dom ≠ .tb → completes (.pllLockReturn dom) s fun t =>
    t.flag pCLK (lockBit dom) = true ∧ ∀ e, e ≠ dom → t.flag pCLK (lockBit e) = s.flag pCLK (lockBit e))
end

