-- ==== Sys2Proof/Laws/Tab.lean ====
section
/-! SUPPORT. Sparse tables: what reading after writing gives, and that writing keeps the canonical form. -/

namespace Sys2Proof.Machine

theorem Tab.find?_insert_same {α : Type} (t : Tab α) (k : Nat) (v : α) : (t.insert k v).find? k = some v := by
  induction t with
  | nil => simp [Tab.insert, Tab.find?]
  | cons e t ih =>
    obtain ⟨j, w⟩ := e
    unfold Tab.insert
    split
    · simp [Tab.find?]
    · split
      · simp [Tab.find?]
      · rename_i h
        simpa [Tab.find?, Ne.symm h] using ih

theorem Tab.find?_insert_ne {α : Type} (t : Tab α) (k i : Nat) (v : α) (h : i ≠ k) :
    (t.insert k v).find? i = t.find? i := by
  induction t with
  | nil => simp [Tab.insert, Tab.find?, h.symm]
  | cons e t ih =>
    obtain ⟨j, w⟩ := e
    unfold Tab.insert
    split
    · simp [Tab.find?, h.symm]
    · split
      · rename_i hj
        subst hj
        simp [Tab.find?, h.symm]
      · simp only [Tab.find?]
        split
        · rfl
        · exact ih

theorem Tab.find?_erase_same {α : Type} (t : Tab α) (k : Nat) : (t.erase k).find? k = none := by
  induction t with
  | nil => rfl
  | cons e t ih =>
    by_cases h : e.1 = k
    · simpa [Tab.erase, h] using ih
    · simpa [Tab.erase, Tab.find?, h] using ih

theorem Tab.find?_erase_ne {α : Type} (t : Tab α) (k i : Nat) (h : i ≠ k) : (t.erase k).find? i = t.find? i := by
  induction t with
  | nil => rfl
  | cons e t ih =>
    by_cases hk : e.1 = k
    · have : e.1 ≠ i := fun he => h (he.symm.trans hk)
      simpa [Tab.erase, Tab.find?, hk, this, Ne.symm h] using ih
    · by_cases hi : e.1 = i
      · simp [Tab.erase, Tab.find?, hi, h]
      · simpa [Tab.erase, Tab.find?, hk, hi] using ih

/-- Reading the key just written. -/
@[simp] theorem Tab.get_set_same {α : Type} [DecidableEq α] (t : Tab α) (k : Nat) (v d : α) : (t.set k v d).get k d = v := by
  unfold Tab.set Tab.get
  split
  · simp [Tab.find?_erase_same, *]
  · simp [Tab.find?_insert_same]

/-- Reading another key, whatever it reads as when unlisted. -/
theorem Tab.get_set_ne {α : Type} [DecidableEq α] (t : Tab α) (k i : Nat) (v d e : α) (h : i ≠ k) :
    (t.set k v d).get i e = t.get i e := by
  unfold Tab.set Tab.get
  split
  · rw [Tab.find?_erase_ne _ _ _ h]
  · rw [Tab.find?_insert_ne _ _ _ _ h]

/-! ### Canonical form -/

theorem Tab.sorted_iff {α : Type} (t : Tab α) : t.sorted = true ↔ (t.map Prod.fst).Pairwise (· < ·) := by
  induction t with
  | nil => simp [Tab.sorted]
  | cons a t ih =>
    cases t with
    | nil => simp [Tab.sorted]
    | cons b t =>
      rw [Tab.sorted, Bool.and_eq_true, decide_eq_true_eq, ih]
      simp only [List.map_cons, List.pairwise_cons]
      constructor
      · rintro ⟨h, hb, ht⟩
        exact ⟨by intro x hx; rcases List.mem_cons.1 hx with rfl | hx <;> [exact h; exact h.trans (hb x hx)], hb, ht⟩
      · rintro ⟨ha, hb, ht⟩
        exact ⟨ha _ (List.mem_cons_self ..), hb, ht⟩

theorem Tab.mem_insert {α : Type} (t : Tab α) (k : Nat) (v : α) (e : Nat × α) (h : e ∈ t.insert k v) :
    e = (k, v) ∨ e ∈ t := by
  induction t with
  | nil => simpa [Tab.insert] using h
  | cons a t ih =>
    obtain ⟨j, w⟩ := a
    unfold Tab.insert at h
    split at h
    · simpa using h
    · split at h
      · rcases List.mem_cons.1 h with h | h
        · exact .inl h
        · exact .inr (List.mem_cons_of_mem _ h)
      · rcases List.mem_cons.1 h with h | h
        · exact .inr (h ▸ List.mem_cons_self ..)
        · exact (ih h).imp_right (List.mem_cons_of_mem _)

theorem Tab.sorted_insert {α : Type} (t : Tab α) (k : Nat) (v : α) (h : t.sorted = true) : (t.insert k v).sorted = true := by
  rw [Tab.sorted_iff] at *
  induction t with
  | nil => simp [Tab.insert]
  | cons a t ih =>
    obtain ⟨j, w⟩ := a
    simp only [List.map_cons, List.pairwise_cons] at h
    unfold Tab.insert
    split
    · simp only [List.map_cons, List.pairwise_cons]
      refine ⟨?_, h⟩
      intro x hx
      rcases List.mem_cons.1 hx with rfl | hx
      · assumption
      · exact lt_trans ‹_› (h.1 x hx)
    · split
      · rename_i hk
        subst hk
        simpa only [List.map_cons, List.pairwise_cons] using h
      · simp only [List.map_cons, List.pairwise_cons]
        refine ⟨?_, ih h.2⟩
        intro x hx
        obtain ⟨e, he, rfl⟩ := List.mem_map.1 hx
        rcases Tab.mem_insert t k v e he with rfl | he
        · show j < k
          omega
        · exact h.1 _ (List.mem_map_of_mem he)

theorem Tab.sorted_filter {α : Type} (t : Tab α) (p : Nat × α → Bool) (h : t.sorted = true) :
    Tab.sorted (t.filter p) = true := by
  rw [Tab.sorted_iff] at *
  exact h.sublist (List.Sublist.map _ List.filter_sublist)

/-- Dropping entries keeps the canonical form. -/
theorem Tab.wf_filter {α : Type} [DecidableEq α] (d : Nat → α) (t : Tab α) (p : Nat × α → Bool) (h : Tab.wf d t = true) :
    Tab.wf d (t.filter p) = true := by
  simp only [Tab.wf, Bool.and_eq_true, List.all_eq_true] at *
  exact ⟨Tab.sorted_filter t p h.1, fun e he => h.2 e (List.mem_of_mem_filter he)⟩

/-- Inserting a value other than what the key reads as when unlisted keeps the canonical form. -/
theorem Tab.wf_insert {α : Type} [DecidableEq α] (d : Nat → α) (t : Tab α) (k : Nat) (v : α) (hv : v ≠ d k)
    (h : Tab.wf d t = true) : Tab.wf d (t.insert k v) = true := by
  simp only [Tab.wf, Bool.and_eq_true, List.all_eq_true] at *
  refine ⟨Tab.sorted_insert t k v h.1, fun e he => ?_⟩
  rcases Tab.mem_insert t k v e he with rfl | he
  · simpa using hv
  · exact h.2 e he

/-- Writing keeps the canonical form. -/
theorem Tab.wf_set {α : Type} [DecidableEq α] (d : Nat → α) (t : Tab α) (k : Nat) (v : α) (h : Tab.wf d t = true) :
    Tab.wf d (t.set k v (d k)) = true := by
  unfold Tab.set
  split
  · exact Tab.wf_filter d t _ h
  · exact Tab.wf_insert d t k v ‹_› h

theorem Tab.wf_nil {α : Type} [DecidableEq α] (d : Nat → α) : Tab.wf d [] = true := rfl

end Sys2Proof.Machine
end

