-- ==== Sys2Proof/Laws/Ops.lean ====
section
/-! SUPPORT. Registers, fields and byte memories: what reading after writing gives. -/

namespace Sys2Proof.Machine

/-! ### Register words -/

@[simp] theorem State.rd_wr_same (s : State) (a : Nat) (v : BitVec 32) : (s.wr a v).rd a = v := by
  simp [State.rd, State.wr]

theorem State.rd_wr_ne (s : State) (a b : Nat) (v : BitVec 32) (h : b ≠ a) : (s.wr a v).rd b = s.rd b := by
  simp [State.rd, State.wr, Tab.get_set_ne _ _ _ _ _ _ h]

/-- A register reads as `regs` has it, whatever else the state holds. -/
theorem State.rd_eq (s t : State) (a : Nat) (h : t.regs = s.regs) : t.rd a = s.rd a := by simp [State.rd, h]

/-! ### Fields -/

/-- A field within the word. -/
abbrev Fld.inWord (f : Fld) : Prop := f.lo + f.w ≤ 32

/-- Two fields that share no bit. -/
abbrev Fld.apart (f g : Fld) : Prop := f.lo + f.w ≤ g.lo ∨ g.lo + g.w ≤ f.lo

theorem Fld.get_testBit (f : Fld) (v : BitVec 32) (i : Nat) :
    (f.get v).testBit i = (decide (i < f.w) && v.getLsbD (f.lo + i)) := by
  simp [Fld.get, Nat.testBit_mod_two_pow, ← BitVec.testBit_toNat]

theorem Fld.mask_getLsbD (f : Fld) (i : Nat) :
    f.mask.getLsbD i = (decide (i < 32) && decide (f.lo ≤ i) && decide (i - f.lo < f.w)) := by
  unfold Fld.mask
  rw [BitVec.getLsbD_shiftLeft, BitVec.getLsbD_ofNat, Nat.testBit_two_pow_sub_one]
  by_cases h1 : i < 32 <;> by_cases h2 : f.lo ≤ i <;> by_cases h3 : i - f.lo < f.w <;> simp [h1, h2, h3] <;> omega

theorem Fld.put_getLsbD (f : Fld) (v : BitVec 32) (x i : Nat) (hi : i < 32) :
    (f.put v x).getLsbD i =
      if f.lo ≤ i ∧ i < f.lo + f.w then x.testBit (i - f.lo) else v.getLsbD i := by
  unfold Fld.put
  rw [BitVec.getLsbD_or, BitVec.getLsbD_and, BitVec.getLsbD_not, Fld.mask_getLsbD, BitVec.getLsbD_shiftLeft,
    BitVec.getLsbD_ofNat, Nat.testBit_mod_two_pow]
  by_cases h2 : f.lo ≤ i
  · by_cases h3 : i < f.lo + f.w
    · have : i - f.lo < f.w := by omega
      have h4 : i - f.lo < 32 := by omega
      simp [hi, h2, h3, this, h4, Nat.not_lt.2 h2]
    · have : ¬ i - f.lo < f.w := by omega
      simp [hi, h2, h3, this]
  · have : i < f.lo := by omega
    simp [hi, h2, this]

/-- The field just put. -/
theorem Fld.get_put_same (f : Fld) (v : BitVec 32) (x : Nat) (h : f.inWord) : f.get (f.put v x) = x % 2 ^ f.w := by
  apply Nat.eq_of_testBit_eq
  intro i
  rw [Fld.get_testBit, Nat.testBit_mod_two_pow]
  by_cases hi : i < f.w
  · rw [Fld.put_getLsbD _ _ _ _ (by unfold Fld.inWord at h; omega), if_pos ⟨by omega, by omega⟩]
    simp [hi]
  · simp [hi]

/-- A field apart from the one put. -/
theorem Fld.get_put_apart (f g : Fld) (v : BitVec 32) (x : Nat) (h : g.inWord) (ha : Fld.apart f g) :
    g.get (f.put v x) = g.get v := by
  apply Nat.eq_of_testBit_eq
  intro i
  rw [Fld.get_testBit, Fld.get_testBit]
  by_cases hi : i < g.w
  · rw [Fld.put_getLsbD _ _ _ _ (by unfold Fld.inWord at h; omega), if_neg (by unfold Fld.apart at ha; omega)]
  · simp [hi]

/-- The field just written. -/
theorem State.fget_fset_same (s : State) (b : Nat) (f : Fld) (x : Nat) (h : f.inWord) :
    (s.fset b f x).fget b f = x % 2 ^ f.w := by
  simp [State.fget, State.fset, Fld.get_put_same _ _ _ h]

/-- A field of another word. -/
theorem State.fget_fset_ne (s : State) (b c : Nat) (f g : Fld) (x : Nat) (h : c + g.off ≠ b + f.off) :
    (s.fset b f x).fget c g = s.fget c g := by
  simp [State.fget, State.fset, State.rd_wr_ne _ _ _ _ h]

/-- Another field of the same word. -/
theorem State.fget_fset_apart (s : State) (b : Nat) (f g : Fld) (x : Nat) (ho : g.off = f.off) (h : g.inWord)
    (ha : Fld.apart f g) : (s.fset b f x).fget b g = s.fget b g := by
  simp [State.fget, State.fset, ho, Fld.get_put_apart _ _ _ _ h ha]

/-- A word other than the field's. -/
theorem State.rd_fset_ne (s : State) (b : Nat) (f : Fld) (x a : Nat) (h : a ≠ b + f.off) : (s.fset b f x).rd a = s.rd a :=
  State.rd_wr_ne _ _ _ _ h

theorem State.fget_eq (s t : State) (b : Nat) (f : Fld) (h : t.regs = s.regs) : t.fget b f = s.fget b f := by
  simp [State.fget, State.rd, h]

theorem State.flag_eq_fget (s : State) (b : Nat) (f : Fld) : s.flag b f = (s.fget b f != 0) := rfl

theorem bit_lt (b : Bool) : bit b < 2 := by cases b <;> decide

/-! ### Byte memories -/

@[simp] theorem memByte_set_same (m : List Host.Cell) (d b : Byte) (a : Nat) : memByte (Tab.set m a b d) d a = b := by
  simp [memByte]

theorem memByte_set_ne (m : List Host.Cell) (d b : Byte) (a i : Nat) (h : i ≠ a) :
    memByte (Tab.set m a b d) d i = memByte m d i := by
  simp [memByte, Tab.get_set_ne _ _ _ _ _ _ h]

/-- A byte outside the string written. -/
theorem memByte_put_out (m : List Host.Cell) (d : Byte) (l : List Byte) (a i : Nat) (h : i < a ∨ a + l.length ≤ i) :
    memByte (memPut m d a l) d i = memByte m d i := by
  induction l generalizing m a with
  | nil => rfl
  | cons b t ih =>
    rw [memPut, ih, memByte_set_ne]
    · simp at h; omega
    · simp at h; omega

/-- A byte within it. -/
theorem memByte_put_in (m : List Host.Cell) (d : Byte) (l : List Byte) (a k : Nat) (h : k < l.length) :
    memByte (memPut m d a l) d (a + k) = l[k] := by
  induction l generalizing m a k with
  | nil => simp at h
  | cons b t ih =>
    rw [memPut]
    cases k with
    | zero => rw [memByte_put_out _ _ _ _ _ (.inl (by omega))]; simp
    | succ k =>
      have := ih (Tab.set m a b d) (a + 1) k (by simpa using h)
      rw [show a + 1 + k = a + (k + 1) by omega] at this
      simpa using this

/-- Writing a byte string keeps the canonical form. -/
theorem memPut_wf (m : List Host.Cell) (d : Byte) (a : Nat) (l : List Byte) (h : Tab.wf (fun _ => d) m = true) :
    Tab.wf (fun _ => d) (memPut m d a l) = true := by
  induction l generalizing m a with
  | nil => exact h
  | cons b t ih => exact ih _ _ (Tab.wf_set (fun _ => d) m a b h)

/-- A byte of device memory outside the string written. -/
theorem State.byteAt_put_out (s : State) (a i : Nat) (l : List Byte) (h : i < a ∨ a + l.length ≤ i) :
    (s.putBytes a l).byteAt i = s.byteAt i := memByte_put_out _ _ _ _ _ h

/-- A byte of device memory within it. -/
theorem State.byteAt_put_in (s : State) (a k : Nat) (l : List Byte) (h : k < l.length) :
    (s.putBytes a l).byteAt (a + k) = l[k] := memByte_put_in _ _ _ _ _ h

end Sys2Proof.Machine
end

