-- ==== Sys2Proof/Laws/State.lean ====
section
/-! SUPPORT. What the register operations leave alone: one lemma per field per operation. -/

namespace Sys2Proof.Machine

/-! ### wr -/

@[simp] theorem State.wr_copies (s : State) (a : Nat) (v : BitVec 32) : (s.wr a v).copies = s.copies := rfl
@[simp] theorem State.wr_hiLatch (s : State) (a : Nat) (v : BitVec 32) : (s.wr a v).hiLatch = s.hiLatch := rfl
@[simp] theorem State.wr_loShadow (s : State) (a : Nat) (v : BitVec 32) : (s.wr a v).loShadow = s.loShadow := rfl
@[simp] theorem State.wr_mem (s : State) (a : Nat) (v : BitVec 32) : (s.wr a v).mem = s.mem := rfl
@[simp] theorem State.wr_poison (s : State) (a : Nat) (v : BitVec 32) : (s.wr a v).poison = s.poison := rfl
@[simp] theorem State.wr_stale (s : State) (a : Nat) (v : BitVec 32) : (s.wr a v).stale = s.stale := rfl
@[simp] theorem State.wr_flash (s : State) (a : Nat) (v : BitVec 32) : (s.wr a v).flash = s.flash := rfl
@[simp] theorem State.wr_fuses (s : State) (a : Nat) (v : BitVec 32) : (s.wr a v).fuses = s.fuses := rfl
@[simp] theorem State.wr_pins (s : State) (a : Nat) (v : BitVec 32) : (s.wr a v).pins = s.pins := rfl
@[simp] theorem State.wr_mainP (s : State) (a : Nat) (v : BitVec 32) : (s.wr a v).mainP = s.mainP := rfl
@[simp] theorem State.wr_krm (s : State) (a : Nat) (v : BitVec 32) : (s.wr a v).krm = s.krm := rfl
@[simp] theorem State.wr_integ (s : State) (a : Nat) (v : BitVec 32) : (s.wr a v).integ = s.integ := rfl
@[simp] theorem State.wr_ffy (s : State) (a : Nat) (v : BitVec 32) : (s.wr a v).ffy = s.ffy := rfl
@[simp] theorem State.wr_qw (s : State) (a : Nat) (v : BitVec 32) : (s.wr a v).qw = s.qw := rfl
@[simp] theorem State.wr_dgt (s : State) (a : Nat) (v : BitVec 32) : (s.wr a v).dgt = s.dgt := rfl
@[simp] theorem State.wr_jrn (s : State) (a : Nat) (v : BitVec 32) : (s.wr a v).jrn = s.jrn := rfl
@[simp] theorem State.wr_lks (s : State) (a : Nat) (v : BitVec 32) : (s.wr a v).lks = s.lks := rfl
@[simp] theorem State.wr_slk (s : State) (a : Nat) (v : BitVec 32) : (s.wr a v).slk = s.slk := rfl
@[simp] theorem State.wr_hr (s : State) (a : Nat) (v : BitVec 32) : (s.wr a v).hr = s.hr := rfl
@[simp] theorem State.wr_crp (s : State) (a : Nat) (v : BitVec 32) : (s.wr a v).crp = s.crp := rfl
@[simp] theorem State.wr_gov (s : State) (a : Nat) (v : BitVec 32) : (s.wr a v).gov = s.gov := rfl
@[simp] theorem State.wr_lcw (s : State) (a : Nat) (v : BitVec 32) : (s.wr a v).lcw = s.lcw := rfl
@[simp] theorem State.wr_hzd (s : State) (a : Nat) (v : BitVec 32) : (s.wr a v).hzd = s.hzd := rfl
@[simp] theorem State.wr_fwc (s : State) (a : Nat) (v : BitVec 32) : (s.wr a v).fwc = s.fwc := rfl
@[simp] theorem State.wr_sep (s : State) (a : Nat) (v : BitVec 32) : (s.wr a v).sep = s.sep := rfl
@[simp] theorem State.wr_nowNs (s : State) (a : Nat) (v : BitVec 32) : (s.wr a v).nowNs = s.nowNs := rfl
@[simp] theorem State.wr_free (s : State) (a : Nat) (v : BitVec 32) : (s.wr a v).free = s.free := rfl
@[simp] theorem State.wr_outs (s : State) (a : Nat) (v : BitVec 32) : (s.wr a v).outs = s.outs := rfl
@[simp] theorem State.wr_pending (s : State) (a : Nat) (v : BitVec 32) : (s.wr a v).pending = s.pending := rfl

/-! ### fset -/

@[simp] theorem State.fset_copies (s : State) (b : Nat) (f : Fld) (x : Nat) : (s.fset b f x).copies = s.copies := rfl
@[simp] theorem State.fset_hiLatch (s : State) (b : Nat) (f : Fld) (x : Nat) : (s.fset b f x).hiLatch = s.hiLatch := rfl
@[simp] theorem State.fset_loShadow (s : State) (b : Nat) (f : Fld) (x : Nat) : (s.fset b f x).loShadow = s.loShadow := rfl
@[simp] theorem State.fset_mem (s : State) (b : Nat) (f : Fld) (x : Nat) : (s.fset b f x).mem = s.mem := rfl
@[simp] theorem State.fset_poison (s : State) (b : Nat) (f : Fld) (x : Nat) : (s.fset b f x).poison = s.poison := rfl
@[simp] theorem State.fset_stale (s : State) (b : Nat) (f : Fld) (x : Nat) : (s.fset b f x).stale = s.stale := rfl
@[simp] theorem State.fset_flash (s : State) (b : Nat) (f : Fld) (x : Nat) : (s.fset b f x).flash = s.flash := rfl
@[simp] theorem State.fset_fuses (s : State) (b : Nat) (f : Fld) (x : Nat) : (s.fset b f x).fuses = s.fuses := rfl
@[simp] theorem State.fset_pins (s : State) (b : Nat) (f : Fld) (x : Nat) : (s.fset b f x).pins = s.pins := rfl
@[simp] theorem State.fset_mainP (s : State) (b : Nat) (f : Fld) (x : Nat) : (s.fset b f x).mainP = s.mainP := rfl
@[simp] theorem State.fset_krm (s : State) (b : Nat) (f : Fld) (x : Nat) : (s.fset b f x).krm = s.krm := rfl
@[simp] theorem State.fset_integ (s : State) (b : Nat) (f : Fld) (x : Nat) : (s.fset b f x).integ = s.integ := rfl
@[simp] theorem State.fset_ffy (s : State) (b : Nat) (f : Fld) (x : Nat) : (s.fset b f x).ffy = s.ffy := rfl
@[simp] theorem State.fset_qw (s : State) (b : Nat) (f : Fld) (x : Nat) : (s.fset b f x).qw = s.qw := rfl
@[simp] theorem State.fset_dgt (s : State) (b : Nat) (f : Fld) (x : Nat) : (s.fset b f x).dgt = s.dgt := rfl
@[simp] theorem State.fset_jrn (s : State) (b : Nat) (f : Fld) (x : Nat) : (s.fset b f x).jrn = s.jrn := rfl
@[simp] theorem State.fset_lks (s : State) (b : Nat) (f : Fld) (x : Nat) : (s.fset b f x).lks = s.lks := rfl
@[simp] theorem State.fset_slk (s : State) (b : Nat) (f : Fld) (x : Nat) : (s.fset b f x).slk = s.slk := rfl
@[simp] theorem State.fset_hr (s : State) (b : Nat) (f : Fld) (x : Nat) : (s.fset b f x).hr = s.hr := rfl
@[simp] theorem State.fset_crp (s : State) (b : Nat) (f : Fld) (x : Nat) : (s.fset b f x).crp = s.crp := rfl
@[simp] theorem State.fset_gov (s : State) (b : Nat) (f : Fld) (x : Nat) : (s.fset b f x).gov = s.gov := rfl
@[simp] theorem State.fset_lcw (s : State) (b : Nat) (f : Fld) (x : Nat) : (s.fset b f x).lcw = s.lcw := rfl
@[simp] theorem State.fset_hzd (s : State) (b : Nat) (f : Fld) (x : Nat) : (s.fset b f x).hzd = s.hzd := rfl
@[simp] theorem State.fset_fwc (s : State) (b : Nat) (f : Fld) (x : Nat) : (s.fset b f x).fwc = s.fwc := rfl
@[simp] theorem State.fset_sep (s : State) (b : Nat) (f : Fld) (x : Nat) : (s.fset b f x).sep = s.sep := rfl
@[simp] theorem State.fset_nowNs (s : State) (b : Nat) (f : Fld) (x : Nat) : (s.fset b f x).nowNs = s.nowNs := rfl
@[simp] theorem State.fset_free (s : State) (b : Nat) (f : Fld) (x : Nat) : (s.fset b f x).free = s.free := rfl
@[simp] theorem State.fset_outs (s : State) (b : Nat) (f : Fld) (x : Nat) : (s.fset b f x).outs = s.outs := rfl
@[simp] theorem State.fset_pending (s : State) (b : Nat) (f : Fld) (x : Nat) : (s.fset b f x).pending = s.pending := rfl

/-! ### pset -/

@[simp] theorem State.pset_copies (s : State) (b : Nat) (f : Fld) (x : Nat) : (s.pset b f x).copies = s.copies := rfl
@[simp] theorem State.pset_hiLatch (s : State) (b : Nat) (f : Fld) (x : Nat) : (s.pset b f x).hiLatch = s.hiLatch := rfl
@[simp] theorem State.pset_loShadow (s : State) (b : Nat) (f : Fld) (x : Nat) : (s.pset b f x).loShadow = s.loShadow := rfl
@[simp] theorem State.pset_mem (s : State) (b : Nat) (f : Fld) (x : Nat) : (s.pset b f x).mem = s.mem := rfl
@[simp] theorem State.pset_poison (s : State) (b : Nat) (f : Fld) (x : Nat) : (s.pset b f x).poison = s.poison := rfl
@[simp] theorem State.pset_stale (s : State) (b : Nat) (f : Fld) (x : Nat) : (s.pset b f x).stale = s.stale := rfl
@[simp] theorem State.pset_flash (s : State) (b : Nat) (f : Fld) (x : Nat) : (s.pset b f x).flash = s.flash := rfl
@[simp] theorem State.pset_fuses (s : State) (b : Nat) (f : Fld) (x : Nat) : (s.pset b f x).fuses = s.fuses := rfl
@[simp] theorem State.pset_pins (s : State) (b : Nat) (f : Fld) (x : Nat) : (s.pset b f x).pins = s.pins := rfl
@[simp] theorem State.pset_mainP (s : State) (b : Nat) (f : Fld) (x : Nat) : (s.pset b f x).mainP = s.mainP := rfl
@[simp] theorem State.pset_krm (s : State) (b : Nat) (f : Fld) (x : Nat) : (s.pset b f x).krm = s.krm := rfl
@[simp] theorem State.pset_integ (s : State) (b : Nat) (f : Fld) (x : Nat) : (s.pset b f x).integ = s.integ := rfl
@[simp] theorem State.pset_ffy (s : State) (b : Nat) (f : Fld) (x : Nat) : (s.pset b f x).ffy = s.ffy := rfl
@[simp] theorem State.pset_qw (s : State) (b : Nat) (f : Fld) (x : Nat) : (s.pset b f x).qw = s.qw := rfl
@[simp] theorem State.pset_dgt (s : State) (b : Nat) (f : Fld) (x : Nat) : (s.pset b f x).dgt = s.dgt := rfl
@[simp] theorem State.pset_jrn (s : State) (b : Nat) (f : Fld) (x : Nat) : (s.pset b f x).jrn = s.jrn := rfl
@[simp] theorem State.pset_lks (s : State) (b : Nat) (f : Fld) (x : Nat) : (s.pset b f x).lks = s.lks := rfl
@[simp] theorem State.pset_slk (s : State) (b : Nat) (f : Fld) (x : Nat) : (s.pset b f x).slk = s.slk := rfl
@[simp] theorem State.pset_hr (s : State) (b : Nat) (f : Fld) (x : Nat) : (s.pset b f x).hr = s.hr := rfl
@[simp] theorem State.pset_crp (s : State) (b : Nat) (f : Fld) (x : Nat) : (s.pset b f x).crp = s.crp := rfl
@[simp] theorem State.pset_gov (s : State) (b : Nat) (f : Fld) (x : Nat) : (s.pset b f x).gov = s.gov := rfl
@[simp] theorem State.pset_lcw (s : State) (b : Nat) (f : Fld) (x : Nat) : (s.pset b f x).lcw = s.lcw := rfl
@[simp] theorem State.pset_hzd (s : State) (b : Nat) (f : Fld) (x : Nat) : (s.pset b f x).hzd = s.hzd := rfl
@[simp] theorem State.pset_fwc (s : State) (b : Nat) (f : Fld) (x : Nat) : (s.pset b f x).fwc = s.fwc := rfl
@[simp] theorem State.pset_sep (s : State) (b : Nat) (f : Fld) (x : Nat) : (s.pset b f x).sep = s.sep := rfl
@[simp] theorem State.pset_nowNs (s : State) (b : Nat) (f : Fld) (x : Nat) : (s.pset b f x).nowNs = s.nowNs := rfl
@[simp] theorem State.pset_free (s : State) (b : Nat) (f : Fld) (x : Nat) : (s.pset b f x).free = s.free := rfl
@[simp] theorem State.pset_outs (s : State) (b : Nat) (f : Fld) (x : Nat) : (s.pset b f x).outs = s.outs := rfl
@[simp] theorem State.pset_pending (s : State) (b : Nat) (f : Fld) (x : Nat) : (s.pset b f x).pending = s.pending := rfl

/-! ### count -/

@[simp] theorem State.count_copies (s : State) (b : Nat) (f : Fld) (n : Nat) : (s.count b f n).copies = s.copies := rfl
@[simp] theorem State.count_hiLatch (s : State) (b : Nat) (f : Fld) (n : Nat) : (s.count b f n).hiLatch = s.hiLatch := rfl
@[simp] theorem State.count_loShadow (s : State) (b : Nat) (f : Fld) (n : Nat) : (s.count b f n).loShadow = s.loShadow := rfl
@[simp] theorem State.count_mem (s : State) (b : Nat) (f : Fld) (n : Nat) : (s.count b f n).mem = s.mem := rfl
@[simp] theorem State.count_poison (s : State) (b : Nat) (f : Fld) (n : Nat) : (s.count b f n).poison = s.poison := rfl
@[simp] theorem State.count_stale (s : State) (b : Nat) (f : Fld) (n : Nat) : (s.count b f n).stale = s.stale := rfl
@[simp] theorem State.count_flash (s : State) (b : Nat) (f : Fld) (n : Nat) : (s.count b f n).flash = s.flash := rfl
@[simp] theorem State.count_fuses (s : State) (b : Nat) (f : Fld) (n : Nat) : (s.count b f n).fuses = s.fuses := rfl
@[simp] theorem State.count_pins (s : State) (b : Nat) (f : Fld) (n : Nat) : (s.count b f n).pins = s.pins := rfl
@[simp] theorem State.count_mainP (s : State) (b : Nat) (f : Fld) (n : Nat) : (s.count b f n).mainP = s.mainP := rfl
@[simp] theorem State.count_krm (s : State) (b : Nat) (f : Fld) (n : Nat) : (s.count b f n).krm = s.krm := rfl
@[simp] theorem State.count_integ (s : State) (b : Nat) (f : Fld) (n : Nat) : (s.count b f n).integ = s.integ := rfl
@[simp] theorem State.count_ffy (s : State) (b : Nat) (f : Fld) (n : Nat) : (s.count b f n).ffy = s.ffy := rfl
@[simp] theorem State.count_qw (s : State) (b : Nat) (f : Fld) (n : Nat) : (s.count b f n).qw = s.qw := rfl
@[simp] theorem State.count_dgt (s : State) (b : Nat) (f : Fld) (n : Nat) : (s.count b f n).dgt = s.dgt := rfl
@[simp] theorem State.count_jrn (s : State) (b : Nat) (f : Fld) (n : Nat) : (s.count b f n).jrn = s.jrn := rfl
@[simp] theorem State.count_lks (s : State) (b : Nat) (f : Fld) (n : Nat) : (s.count b f n).lks = s.lks := rfl
@[simp] theorem State.count_slk (s : State) (b : Nat) (f : Fld) (n : Nat) : (s.count b f n).slk = s.slk := rfl
@[simp] theorem State.count_hr (s : State) (b : Nat) (f : Fld) (n : Nat) : (s.count b f n).hr = s.hr := rfl
@[simp] theorem State.count_crp (s : State) (b : Nat) (f : Fld) (n : Nat) : (s.count b f n).crp = s.crp := rfl
@[simp] theorem State.count_gov (s : State) (b : Nat) (f : Fld) (n : Nat) : (s.count b f n).gov = s.gov := rfl
@[simp] theorem State.count_lcw (s : State) (b : Nat) (f : Fld) (n : Nat) : (s.count b f n).lcw = s.lcw := rfl
@[simp] theorem State.count_hzd (s : State) (b : Nat) (f : Fld) (n : Nat) : (s.count b f n).hzd = s.hzd := rfl
@[simp] theorem State.count_fwc (s : State) (b : Nat) (f : Fld) (n : Nat) : (s.count b f n).fwc = s.fwc := rfl
@[simp] theorem State.count_sep (s : State) (b : Nat) (f : Fld) (n : Nat) : (s.count b f n).sep = s.sep := rfl
@[simp] theorem State.count_nowNs (s : State) (b : Nat) (f : Fld) (n : Nat) : (s.count b f n).nowNs = s.nowNs := rfl
@[simp] theorem State.count_free (s : State) (b : Nat) (f : Fld) (n : Nat) : (s.count b f n).free = s.free := rfl
@[simp] theorem State.count_outs (s : State) (b : Nat) (f : Fld) (n : Nat) : (s.count b f n).outs = s.outs := rfl
@[simp] theorem State.count_pending (s : State) (b : Nat) (f : Fld) (n : Nat) : (s.count b f n).pending = s.pending := rfl

/-! ### seqUp -/

@[simp] theorem State.seqUp_copies (s : State) (b : Nat) : (s.seqUp b).copies = s.copies := rfl
@[simp] theorem State.seqUp_hiLatch (s : State) (b : Nat) : (s.seqUp b).hiLatch = s.hiLatch := rfl
@[simp] theorem State.seqUp_loShadow (s : State) (b : Nat) : (s.seqUp b).loShadow = s.loShadow := rfl
@[simp] theorem State.seqUp_mem (s : State) (b : Nat) : (s.seqUp b).mem = s.mem := rfl
@[simp] theorem State.seqUp_poison (s : State) (b : Nat) : (s.seqUp b).poison = s.poison := rfl
@[simp] theorem State.seqUp_stale (s : State) (b : Nat) : (s.seqUp b).stale = s.stale := rfl
@[simp] theorem State.seqUp_flash (s : State) (b : Nat) : (s.seqUp b).flash = s.flash := rfl
@[simp] theorem State.seqUp_fuses (s : State) (b : Nat) : (s.seqUp b).fuses = s.fuses := rfl
@[simp] theorem State.seqUp_pins (s : State) (b : Nat) : (s.seqUp b).pins = s.pins := rfl
@[simp] theorem State.seqUp_mainP (s : State) (b : Nat) : (s.seqUp b).mainP = s.mainP := rfl
@[simp] theorem State.seqUp_krm (s : State) (b : Nat) : (s.seqUp b).krm = s.krm := rfl
@[simp] theorem State.seqUp_integ (s : State) (b : Nat) : (s.seqUp b).integ = s.integ := rfl
@[simp] theorem State.seqUp_ffy (s : State) (b : Nat) : (s.seqUp b).ffy = s.ffy := rfl
@[simp] theorem State.seqUp_qw (s : State) (b : Nat) : (s.seqUp b).qw = s.qw := rfl
@[simp] theorem State.seqUp_dgt (s : State) (b : Nat) : (s.seqUp b).dgt = s.dgt := rfl
@[simp] theorem State.seqUp_jrn (s : State) (b : Nat) : (s.seqUp b).jrn = s.jrn := rfl
@[simp] theorem State.seqUp_lks (s : State) (b : Nat) : (s.seqUp b).lks = s.lks := rfl
@[simp] theorem State.seqUp_slk (s : State) (b : Nat) : (s.seqUp b).slk = s.slk := rfl
@[simp] theorem State.seqUp_hr (s : State) (b : Nat) : (s.seqUp b).hr = s.hr := rfl
@[simp] theorem State.seqUp_crp (s : State) (b : Nat) : (s.seqUp b).crp = s.crp := rfl
@[simp] theorem State.seqUp_gov (s : State) (b : Nat) : (s.seqUp b).gov = s.gov := rfl
@[simp] theorem State.seqUp_lcw (s : State) (b : Nat) : (s.seqUp b).lcw = s.lcw := rfl
@[simp] theorem State.seqUp_hzd (s : State) (b : Nat) : (s.seqUp b).hzd = s.hzd := rfl
@[simp] theorem State.seqUp_fwc (s : State) (b : Nat) : (s.seqUp b).fwc = s.fwc := rfl
@[simp] theorem State.seqUp_sep (s : State) (b : Nat) : (s.seqUp b).sep = s.sep := rfl
@[simp] theorem State.seqUp_nowNs (s : State) (b : Nat) : (s.seqUp b).nowNs = s.nowNs := rfl
@[simp] theorem State.seqUp_free (s : State) (b : Nat) : (s.seqUp b).free = s.free := rfl
@[simp] theorem State.seqUp_outs (s : State) (b : Nat) : (s.seqUp b).outs = s.outs := rfl
@[simp] theorem State.seqUp_pending (s : State) (b : Nat) : (s.seqUp b).pending = s.pending := rfl

/-! ### emit -/

@[simp] theorem State.emit_regs (s : State) (o : Out) : (s.emit o).regs = s.regs := rfl
@[simp] theorem State.emit_copies (s : State) (o : Out) : (s.emit o).copies = s.copies := rfl
@[simp] theorem State.emit_hiLatch (s : State) (o : Out) : (s.emit o).hiLatch = s.hiLatch := rfl
@[simp] theorem State.emit_loShadow (s : State) (o : Out) : (s.emit o).loShadow = s.loShadow := rfl
@[simp] theorem State.emit_mem (s : State) (o : Out) : (s.emit o).mem = s.mem := rfl
@[simp] theorem State.emit_poison (s : State) (o : Out) : (s.emit o).poison = s.poison := rfl
@[simp] theorem State.emit_stale (s : State) (o : Out) : (s.emit o).stale = s.stale := rfl
@[simp] theorem State.emit_flash (s : State) (o : Out) : (s.emit o).flash = s.flash := rfl
@[simp] theorem State.emit_fuses (s : State) (o : Out) : (s.emit o).fuses = s.fuses := rfl
@[simp] theorem State.emit_pins (s : State) (o : Out) : (s.emit o).pins = s.pins := rfl
@[simp] theorem State.emit_mainP (s : State) (o : Out) : (s.emit o).mainP = s.mainP := rfl
@[simp] theorem State.emit_krm (s : State) (o : Out) : (s.emit o).krm = s.krm := rfl
@[simp] theorem State.emit_integ (s : State) (o : Out) : (s.emit o).integ = s.integ := rfl
@[simp] theorem State.emit_ffy (s : State) (o : Out) : (s.emit o).ffy = s.ffy := rfl
@[simp] theorem State.emit_qw (s : State) (o : Out) : (s.emit o).qw = s.qw := rfl
@[simp] theorem State.emit_dgt (s : State) (o : Out) : (s.emit o).dgt = s.dgt := rfl
@[simp] theorem State.emit_jrn (s : State) (o : Out) : (s.emit o).jrn = s.jrn := rfl
@[simp] theorem State.emit_lks (s : State) (o : Out) : (s.emit o).lks = s.lks := rfl
@[simp] theorem State.emit_slk (s : State) (o : Out) : (s.emit o).slk = s.slk := rfl
@[simp] theorem State.emit_hr (s : State) (o : Out) : (s.emit o).hr = s.hr := rfl
@[simp] theorem State.emit_crp (s : State) (o : Out) : (s.emit o).crp = s.crp := rfl
@[simp] theorem State.emit_gov (s : State) (o : Out) : (s.emit o).gov = s.gov := rfl
@[simp] theorem State.emit_lcw (s : State) (o : Out) : (s.emit o).lcw = s.lcw := rfl
@[simp] theorem State.emit_hzd (s : State) (o : Out) : (s.emit o).hzd = s.hzd := rfl
@[simp] theorem State.emit_fwc (s : State) (o : Out) : (s.emit o).fwc = s.fwc := rfl
@[simp] theorem State.emit_sep (s : State) (o : Out) : (s.emit o).sep = s.sep := rfl
@[simp] theorem State.emit_nowNs (s : State) (o : Out) : (s.emit o).nowNs = s.nowNs := rfl
@[simp] theorem State.emit_free (s : State) (o : Out) : (s.emit o).free = s.free := rfl
@[simp] theorem State.emit_pending (s : State) (o : Out) : (s.emit o).pending = s.pending := rfl

/-! ### hwSet -/

@[simp] theorem State.hwSet_copies (s : State) (b : Nat) (f : Fld) (x : Nat) : (s.hwSet b f x).copies = s.copies := by
  unfold State.hwSet; split <;> rfl
@[simp] theorem State.hwSet_hiLatch (s : State) (b : Nat) (f : Fld) (x : Nat) : (s.hwSet b f x).hiLatch = s.hiLatch := by
  unfold State.hwSet; split <;> rfl
@[simp] theorem State.hwSet_loShadow (s : State) (b : Nat) (f : Fld) (x : Nat) : (s.hwSet b f x).loShadow = s.loShadow := by
  unfold State.hwSet; split <;> rfl
@[simp] theorem State.hwSet_mem (s : State) (b : Nat) (f : Fld) (x : Nat) : (s.hwSet b f x).mem = s.mem := by
  unfold State.hwSet; split <;> rfl
@[simp] theorem State.hwSet_poison (s : State) (b : Nat) (f : Fld) (x : Nat) : (s.hwSet b f x).poison = s.poison := by
  unfold State.hwSet; split <;> rfl
@[simp] theorem State.hwSet_stale (s : State) (b : Nat) (f : Fld) (x : Nat) : (s.hwSet b f x).stale = s.stale := by
  unfold State.hwSet; split <;> rfl
@[simp] theorem State.hwSet_flash (s : State) (b : Nat) (f : Fld) (x : Nat) : (s.hwSet b f x).flash = s.flash := by
  unfold State.hwSet; split <;> rfl
@[simp] theorem State.hwSet_fuses (s : State) (b : Nat) (f : Fld) (x : Nat) : (s.hwSet b f x).fuses = s.fuses := by
  unfold State.hwSet; split <;> rfl
@[simp] theorem State.hwSet_pins (s : State) (b : Nat) (f : Fld) (x : Nat) : (s.hwSet b f x).pins = s.pins := by
  unfold State.hwSet; split <;> rfl
@[simp] theorem State.hwSet_mainP (s : State) (b : Nat) (f : Fld) (x : Nat) : (s.hwSet b f x).mainP = s.mainP := by
  unfold State.hwSet; split <;> rfl
@[simp] theorem State.hwSet_krm (s : State) (b : Nat) (f : Fld) (x : Nat) : (s.hwSet b f x).krm = s.krm := by
  unfold State.hwSet; split <;> rfl
@[simp] theorem State.hwSet_integ (s : State) (b : Nat) (f : Fld) (x : Nat) : (s.hwSet b f x).integ = s.integ := by
  unfold State.hwSet; split <;> rfl
@[simp] theorem State.hwSet_ffy (s : State) (b : Nat) (f : Fld) (x : Nat) : (s.hwSet b f x).ffy = s.ffy := by
  unfold State.hwSet; split <;> rfl
@[simp] theorem State.hwSet_qw (s : State) (b : Nat) (f : Fld) (x : Nat) : (s.hwSet b f x).qw = s.qw := by
  unfold State.hwSet; split <;> rfl
@[simp] theorem State.hwSet_dgt (s : State) (b : Nat) (f : Fld) (x : Nat) : (s.hwSet b f x).dgt = s.dgt := by
  unfold State.hwSet; split <;> rfl
@[simp] theorem State.hwSet_jrn (s : State) (b : Nat) (f : Fld) (x : Nat) : (s.hwSet b f x).jrn = s.jrn := by
  unfold State.hwSet; split <;> rfl
@[simp] theorem State.hwSet_lks (s : State) (b : Nat) (f : Fld) (x : Nat) : (s.hwSet b f x).lks = s.lks := by
  unfold State.hwSet; split <;> rfl
@[simp] theorem State.hwSet_slk (s : State) (b : Nat) (f : Fld) (x : Nat) : (s.hwSet b f x).slk = s.slk := by
  unfold State.hwSet; split <;> rfl
@[simp] theorem State.hwSet_hr (s : State) (b : Nat) (f : Fld) (x : Nat) : (s.hwSet b f x).hr = s.hr := by
  unfold State.hwSet; split <;> rfl
@[simp] theorem State.hwSet_crp (s : State) (b : Nat) (f : Fld) (x : Nat) : (s.hwSet b f x).crp = s.crp := by
  unfold State.hwSet; split <;> rfl
@[simp] theorem State.hwSet_gov (s : State) (b : Nat) (f : Fld) (x : Nat) : (s.hwSet b f x).gov = s.gov := by
  unfold State.hwSet; split <;> rfl
@[simp] theorem State.hwSet_lcw (s : State) (b : Nat) (f : Fld) (x : Nat) : (s.hwSet b f x).lcw = s.lcw := by
  unfold State.hwSet; split <;> rfl
@[simp] theorem State.hwSet_hzd (s : State) (b : Nat) (f : Fld) (x : Nat) : (s.hwSet b f x).hzd = s.hzd := by
  unfold State.hwSet; split <;> rfl
@[simp] theorem State.hwSet_fwc (s : State) (b : Nat) (f : Fld) (x : Nat) : (s.hwSet b f x).fwc = s.fwc := by
  unfold State.hwSet; split <;> rfl
@[simp] theorem State.hwSet_sep (s : State) (b : Nat) (f : Fld) (x : Nat) : (s.hwSet b f x).sep = s.sep := by
  unfold State.hwSet; split <;> rfl
@[simp] theorem State.hwSet_nowNs (s : State) (b : Nat) (f : Fld) (x : Nat) : (s.hwSet b f x).nowNs = s.nowNs := by
  unfold State.hwSet; split <;> rfl
@[simp] theorem State.hwSet_free (s : State) (b : Nat) (f : Fld) (x : Nat) : (s.hwSet b f x).free = s.free := by
  unfold State.hwSet; split <;> rfl
@[simp] theorem State.hwSet_outs (s : State) (b : Nat) (f : Fld) (x : Nat) : (s.hwSet b f x).outs = s.outs := by
  unfold State.hwSet; split <;> rfl
@[simp] theorem State.hwSet_pending (s : State) (b : Nat) (f : Fld) (x : Nat) : (s.hwSet b f x).pending = s.pending := by
  unfold State.hwSet; split <;> rfl

/-! ### sendMsix -/

@[simp] theorem State.sendMsix_copies (s : State) (v : Nat) : (s.sendMsix v).copies = s.copies := by
  unfold State.sendMsix; split <;> [split <;> rfl; rfl]
@[simp] theorem State.sendMsix_hiLatch (s : State) (v : Nat) : (s.sendMsix v).hiLatch = s.hiLatch := by
  unfold State.sendMsix; split <;> [split <;> rfl; rfl]
@[simp] theorem State.sendMsix_loShadow (s : State) (v : Nat) : (s.sendMsix v).loShadow = s.loShadow := by
  unfold State.sendMsix; split <;> [split <;> rfl; rfl]
@[simp] theorem State.sendMsix_mem (s : State) (v : Nat) : (s.sendMsix v).mem = s.mem := by
  unfold State.sendMsix; split <;> [split <;> rfl; rfl]
@[simp] theorem State.sendMsix_poison (s : State) (v : Nat) : (s.sendMsix v).poison = s.poison := by
  unfold State.sendMsix; split <;> [split <;> rfl; rfl]
@[simp] theorem State.sendMsix_stale (s : State) (v : Nat) : (s.sendMsix v).stale = s.stale := by
  unfold State.sendMsix; split <;> [split <;> rfl; rfl]
@[simp] theorem State.sendMsix_flash (s : State) (v : Nat) : (s.sendMsix v).flash = s.flash := by
  unfold State.sendMsix; split <;> [split <;> rfl; rfl]
@[simp] theorem State.sendMsix_fuses (s : State) (v : Nat) : (s.sendMsix v).fuses = s.fuses := by
  unfold State.sendMsix; split <;> [split <;> rfl; rfl]
@[simp] theorem State.sendMsix_pins (s : State) (v : Nat) : (s.sendMsix v).pins = s.pins := by
  unfold State.sendMsix; split <;> [split <;> rfl; rfl]
@[simp] theorem State.sendMsix_mainP (s : State) (v : Nat) : (s.sendMsix v).mainP = s.mainP := by
  unfold State.sendMsix; split <;> [split <;> rfl; rfl]
@[simp] theorem State.sendMsix_krm (s : State) (v : Nat) : (s.sendMsix v).krm = s.krm := by
  unfold State.sendMsix; split <;> [split <;> rfl; rfl]
@[simp] theorem State.sendMsix_integ (s : State) (v : Nat) : (s.sendMsix v).integ = s.integ := by
  unfold State.sendMsix; split <;> [split <;> rfl; rfl]
@[simp] theorem State.sendMsix_ffy (s : State) (v : Nat) : (s.sendMsix v).ffy = s.ffy := by
  unfold State.sendMsix; split <;> [split <;> rfl; rfl]
@[simp] theorem State.sendMsix_qw (s : State) (v : Nat) : (s.sendMsix v).qw = s.qw := by
  unfold State.sendMsix; split <;> [split <;> rfl; rfl]
@[simp] theorem State.sendMsix_dgt (s : State) (v : Nat) : (s.sendMsix v).dgt = s.dgt := by
  unfold State.sendMsix; split <;> [split <;> rfl; rfl]
@[simp] theorem State.sendMsix_jrn (s : State) (v : Nat) : (s.sendMsix v).jrn = s.jrn := by
  unfold State.sendMsix; split <;> [split <;> rfl; rfl]
@[simp] theorem State.sendMsix_lks (s : State) (v : Nat) : (s.sendMsix v).lks = s.lks := by
  unfold State.sendMsix; split <;> [split <;> rfl; rfl]
@[simp] theorem State.sendMsix_slk (s : State) (v : Nat) : (s.sendMsix v).slk = s.slk := by
  unfold State.sendMsix; split <;> [split <;> rfl; rfl]
@[simp] theorem State.sendMsix_hr (s : State) (v : Nat) : (s.sendMsix v).hr = s.hr := by
  unfold State.sendMsix; split <;> [split <;> rfl; rfl]
@[simp] theorem State.sendMsix_crp (s : State) (v : Nat) : (s.sendMsix v).crp = s.crp := by
  unfold State.sendMsix; split <;> [split <;> rfl; rfl]
@[simp] theorem State.sendMsix_gov (s : State) (v : Nat) : (s.sendMsix v).gov = s.gov := by
  unfold State.sendMsix; split <;> [split <;> rfl; rfl]
@[simp] theorem State.sendMsix_lcw (s : State) (v : Nat) : (s.sendMsix v).lcw = s.lcw := by
  unfold State.sendMsix; split <;> [split <;> rfl; rfl]
@[simp] theorem State.sendMsix_hzd (s : State) (v : Nat) : (s.sendMsix v).hzd = s.hzd := by
  unfold State.sendMsix; split <;> [split <;> rfl; rfl]
@[simp] theorem State.sendMsix_fwc (s : State) (v : Nat) : (s.sendMsix v).fwc = s.fwc := by
  unfold State.sendMsix; split <;> [split <;> rfl; rfl]
@[simp] theorem State.sendMsix_sep (s : State) (v : Nat) : (s.sendMsix v).sep = s.sep := by
  unfold State.sendMsix; split <;> [split <;> rfl; rfl]
@[simp] theorem State.sendMsix_nowNs (s : State) (v : Nat) : (s.sendMsix v).nowNs = s.nowNs := by
  unfold State.sendMsix; split <;> [split <;> rfl; rfl]
@[simp] theorem State.sendMsix_free (s : State) (v : Nat) : (s.sendMsix v).free = s.free := by
  unfold State.sendMsix; split <;> [split <;> rfl; rfl]
@[simp] theorem State.sendMsix_pending (s : State) (v : Nat) : (s.sendMsix v).pending = s.pending := by
  unfold State.sendMsix; split <;> [split <;> rfl; rfl]

/-! ### setIrq -/

@[simp] theorem State.setIrq_copies (s : State) (b : Nat) (v : BitVec 32) : (s.setIrq b v).copies = s.copies := by
  simp only [State.setIrq]; split <;> simp
@[simp] theorem State.setIrq_hiLatch (s : State) (b : Nat) (v : BitVec 32) : (s.setIrq b v).hiLatch = s.hiLatch := by
  simp only [State.setIrq]; split <;> simp
@[simp] theorem State.setIrq_loShadow (s : State) (b : Nat) (v : BitVec 32) : (s.setIrq b v).loShadow = s.loShadow := by
  simp only [State.setIrq]; split <;> simp
@[simp] theorem State.setIrq_mem (s : State) (b : Nat) (v : BitVec 32) : (s.setIrq b v).mem = s.mem := by
  simp only [State.setIrq]; split <;> simp
@[simp] theorem State.setIrq_poison (s : State) (b : Nat) (v : BitVec 32) : (s.setIrq b v).poison = s.poison := by
  simp only [State.setIrq]; split <;> simp
@[simp] theorem State.setIrq_stale (s : State) (b : Nat) (v : BitVec 32) : (s.setIrq b v).stale = s.stale := by
  simp only [State.setIrq]; split <;> simp
@[simp] theorem State.setIrq_flash (s : State) (b : Nat) (v : BitVec 32) : (s.setIrq b v).flash = s.flash := by
  simp only [State.setIrq]; split <;> simp
@[simp] theorem State.setIrq_fuses (s : State) (b : Nat) (v : BitVec 32) : (s.setIrq b v).fuses = s.fuses := by
  simp only [State.setIrq]; split <;> simp
@[simp] theorem State.setIrq_pins (s : State) (b : Nat) (v : BitVec 32) : (s.setIrq b v).pins = s.pins := by
  simp only [State.setIrq]; split <;> simp
@[simp] theorem State.setIrq_mainP (s : State) (b : Nat) (v : BitVec 32) : (s.setIrq b v).mainP = s.mainP := by
  simp only [State.setIrq]; split <;> simp
@[simp] theorem State.setIrq_krm (s : State) (b : Nat) (v : BitVec 32) : (s.setIrq b v).krm = s.krm := by
  simp only [State.setIrq]; split <;> simp
@[simp] theorem State.setIrq_integ (s : State) (b : Nat) (v : BitVec 32) : (s.setIrq b v).integ = s.integ := by
  simp only [State.setIrq]; split <;> simp
@[simp] theorem State.setIrq_ffy (s : State) (b : Nat) (v : BitVec 32) : (s.setIrq b v).ffy = s.ffy := by
  simp only [State.setIrq]; split <;> simp
@[simp] theorem State.setIrq_qw (s : State) (b : Nat) (v : BitVec 32) : (s.setIrq b v).qw = s.qw := by
  simp only [State.setIrq]; split <;> simp
@[simp] theorem State.setIrq_dgt (s : State) (b : Nat) (v : BitVec 32) : (s.setIrq b v).dgt = s.dgt := by
  simp only [State.setIrq]; split <;> simp
@[simp] theorem State.setIrq_jrn (s : State) (b : Nat) (v : BitVec 32) : (s.setIrq b v).jrn = s.jrn := by
  simp only [State.setIrq]; split <;> simp
@[simp] theorem State.setIrq_lks (s : State) (b : Nat) (v : BitVec 32) : (s.setIrq b v).lks = s.lks := by
  simp only [State.setIrq]; split <;> simp
@[simp] theorem State.setIrq_slk (s : State) (b : Nat) (v : BitVec 32) : (s.setIrq b v).slk = s.slk := by
  simp only [State.setIrq]; split <;> simp
@[simp] theorem State.setIrq_hr (s : State) (b : Nat) (v : BitVec 32) : (s.setIrq b v).hr = s.hr := by
  simp only [State.setIrq]; split <;> simp
@[simp] theorem State.setIrq_crp (s : State) (b : Nat) (v : BitVec 32) : (s.setIrq b v).crp = s.crp := by
  simp only [State.setIrq]; split <;> simp
@[simp] theorem State.setIrq_gov (s : State) (b : Nat) (v : BitVec 32) : (s.setIrq b v).gov = s.gov := by
  simp only [State.setIrq]; split <;> simp
@[simp] theorem State.setIrq_lcw (s : State) (b : Nat) (v : BitVec 32) : (s.setIrq b v).lcw = s.lcw := by
  simp only [State.setIrq]; split <;> simp
@[simp] theorem State.setIrq_hzd (s : State) (b : Nat) (v : BitVec 32) : (s.setIrq b v).hzd = s.hzd := by
  simp only [State.setIrq]; split <;> simp
@[simp] theorem State.setIrq_fwc (s : State) (b : Nat) (v : BitVec 32) : (s.setIrq b v).fwc = s.fwc := by
  simp only [State.setIrq]; split <;> simp
@[simp] theorem State.setIrq_sep (s : State) (b : Nat) (v : BitVec 32) : (s.setIrq b v).sep = s.sep := by
  simp only [State.setIrq]; split <;> simp
@[simp] theorem State.setIrq_nowNs (s : State) (b : Nat) (v : BitVec 32) : (s.setIrq b v).nowNs = s.nowNs := by
  simp only [State.setIrq]; split <;> simp
@[simp] theorem State.setIrq_free (s : State) (b : Nat) (v : BitVec 32) : (s.setIrq b v).free = s.free := by
  simp only [State.setIrq]; split <;> simp
@[simp] theorem State.setIrq_pending (s : State) (b : Nat) (v : BitVec 32) : (s.setIrq b v).pending = s.pending := by
  simp only [State.setIrq]; split <;> simp

/-! ### raiseBits -/

@[simp] theorem State.raiseBits_copies (s : State) (b bits : Nat) : (s.raiseBits b bits).copies = s.copies := by
  simp [State.raiseBits]
@[simp] theorem State.raiseBits_hiLatch (s : State) (b bits : Nat) : (s.raiseBits b bits).hiLatch = s.hiLatch := by
  simp [State.raiseBits]
@[simp] theorem State.raiseBits_loShadow (s : State) (b bits : Nat) : (s.raiseBits b bits).loShadow = s.loShadow := by
  simp [State.raiseBits]
@[simp] theorem State.raiseBits_mem (s : State) (b bits : Nat) : (s.raiseBits b bits).mem = s.mem := by
  simp [State.raiseBits]
@[simp] theorem State.raiseBits_poison (s : State) (b bits : Nat) : (s.raiseBits b bits).poison = s.poison := by
  simp [State.raiseBits]
@[simp] theorem State.raiseBits_stale (s : State) (b bits : Nat) : (s.raiseBits b bits).stale = s.stale := by
  simp [State.raiseBits]
@[simp] theorem State.raiseBits_flash (s : State) (b bits : Nat) : (s.raiseBits b bits).flash = s.flash := by
  simp [State.raiseBits]
@[simp] theorem State.raiseBits_fuses (s : State) (b bits : Nat) : (s.raiseBits b bits).fuses = s.fuses := by
  simp [State.raiseBits]
@[simp] theorem State.raiseBits_pins (s : State) (b bits : Nat) : (s.raiseBits b bits).pins = s.pins := by
  simp [State.raiseBits]
@[simp] theorem State.raiseBits_mainP (s : State) (b bits : Nat) : (s.raiseBits b bits).mainP = s.mainP := by
  simp [State.raiseBits]
@[simp] theorem State.raiseBits_krm (s : State) (b bits : Nat) : (s.raiseBits b bits).krm = s.krm := by
  simp [State.raiseBits]
@[simp] theorem State.raiseBits_integ (s : State) (b bits : Nat) : (s.raiseBits b bits).integ = s.integ := by
  simp [State.raiseBits]
@[simp] theorem State.raiseBits_ffy (s : State) (b bits : Nat) : (s.raiseBits b bits).ffy = s.ffy := by
  simp [State.raiseBits]
@[simp] theorem State.raiseBits_qw (s : State) (b bits : Nat) : (s.raiseBits b bits).qw = s.qw := by
  simp [State.raiseBits]
@[simp] theorem State.raiseBits_dgt (s : State) (b bits : Nat) : (s.raiseBits b bits).dgt = s.dgt := by
  simp [State.raiseBits]
@[simp] theorem State.raiseBits_jrn (s : State) (b bits : Nat) : (s.raiseBits b bits).jrn = s.jrn := by
  simp [State.raiseBits]
@[simp] theorem State.raiseBits_lks (s : State) (b bits : Nat) : (s.raiseBits b bits).lks = s.lks := by
  simp [State.raiseBits]
@[simp] theorem State.raiseBits_slk (s : State) (b bits : Nat) : (s.raiseBits b bits).slk = s.slk := by
  simp [State.raiseBits]
@[simp] theorem State.raiseBits_hr (s : State) (b bits : Nat) : (s.raiseBits b bits).hr = s.hr := by
  simp [State.raiseBits]
@[simp] theorem State.raiseBits_crp (s : State) (b bits : Nat) : (s.raiseBits b bits).crp = s.crp := by
  simp [State.raiseBits]
@[simp] theorem State.raiseBits_gov (s : State) (b bits : Nat) : (s.raiseBits b bits).gov = s.gov := by
  simp [State.raiseBits]
@[simp] theorem State.raiseBits_lcw (s : State) (b bits : Nat) : (s.raiseBits b bits).lcw = s.lcw := by
  simp [State.raiseBits]
@[simp] theorem State.raiseBits_hzd (s : State) (b bits : Nat) : (s.raiseBits b bits).hzd = s.hzd := by
  simp [State.raiseBits]
@[simp] theorem State.raiseBits_fwc (s : State) (b bits : Nat) : (s.raiseBits b bits).fwc = s.fwc := by
  simp [State.raiseBits]
@[simp] theorem State.raiseBits_sep (s : State) (b bits : Nat) : (s.raiseBits b bits).sep = s.sep := by
  simp [State.raiseBits]
@[simp] theorem State.raiseBits_nowNs (s : State) (b bits : Nat) : (s.raiseBits b bits).nowNs = s.nowNs := by
  simp [State.raiseBits]
@[simp] theorem State.raiseBits_free (s : State) (b bits : Nat) : (s.raiseBits b bits).free = s.free := by
  simp [State.raiseBits]
@[simp] theorem State.raiseBits_pending (s : State) (b bits : Nat) : (s.raiseBits b bits).pending = s.pending := by
  simp [State.raiseBits]

/-! ### raise -/

@[simp] theorem State.raise_copies (s : State) (b i : Nat) : (s.raise b i).copies = s.copies := by
  simp [State.raise]
@[simp] theorem State.raise_hiLatch (s : State) (b i : Nat) : (s.raise b i).hiLatch = s.hiLatch := by
  simp [State.raise]
@[simp] theorem State.raise_loShadow (s : State) (b i : Nat) : (s.raise b i).loShadow = s.loShadow := by
  simp [State.raise]
@[simp] theorem State.raise_mem (s : State) (b i : Nat) : (s.raise b i).mem = s.mem := by
  simp [State.raise]
@[simp] theorem State.raise_poison (s : State) (b i : Nat) : (s.raise b i).poison = s.poison := by
  simp [State.raise]
@[simp] theorem State.raise_stale (s : State) (b i : Nat) : (s.raise b i).stale = s.stale := by
  simp [State.raise]
@[simp] theorem State.raise_flash (s : State) (b i : Nat) : (s.raise b i).flash = s.flash := by
  simp [State.raise]
@[simp] theorem State.raise_fuses (s : State) (b i : Nat) : (s.raise b i).fuses = s.fuses := by
  simp [State.raise]
@[simp] theorem State.raise_pins (s : State) (b i : Nat) : (s.raise b i).pins = s.pins := by
  simp [State.raise]
@[simp] theorem State.raise_mainP (s : State) (b i : Nat) : (s.raise b i).mainP = s.mainP := by
  simp [State.raise]
@[simp] theorem State.raise_krm (s : State) (b i : Nat) : (s.raise b i).krm = s.krm := by
  simp [State.raise]
@[simp] theorem State.raise_integ (s : State) (b i : Nat) : (s.raise b i).integ = s.integ := by
  simp [State.raise]
@[simp] theorem State.raise_ffy (s : State) (b i : Nat) : (s.raise b i).ffy = s.ffy := by
  simp [State.raise]
@[simp] theorem State.raise_qw (s : State) (b i : Nat) : (s.raise b i).qw = s.qw := by
  simp [State.raise]
@[simp] theorem State.raise_dgt (s : State) (b i : Nat) : (s.raise b i).dgt = s.dgt := by
  simp [State.raise]
@[simp] theorem State.raise_jrn (s : State) (b i : Nat) : (s.raise b i).jrn = s.jrn := by
  simp [State.raise]
@[simp] theorem State.raise_lks (s : State) (b i : Nat) : (s.raise b i).lks = s.lks := by
  simp [State.raise]
@[simp] theorem State.raise_slk (s : State) (b i : Nat) : (s.raise b i).slk = s.slk := by
  simp [State.raise]
@[simp] theorem State.raise_hr (s : State) (b i : Nat) : (s.raise b i).hr = s.hr := by
  simp [State.raise]
@[simp] theorem State.raise_crp (s : State) (b i : Nat) : (s.raise b i).crp = s.crp := by
  simp [State.raise]
@[simp] theorem State.raise_gov (s : State) (b i : Nat) : (s.raise b i).gov = s.gov := by
  simp [State.raise]
@[simp] theorem State.raise_lcw (s : State) (b i : Nat) : (s.raise b i).lcw = s.lcw := by
  simp [State.raise]
@[simp] theorem State.raise_hzd (s : State) (b i : Nat) : (s.raise b i).hzd = s.hzd := by
  simp [State.raise]
@[simp] theorem State.raise_fwc (s : State) (b i : Nat) : (s.raise b i).fwc = s.fwc := by
  simp [State.raise]
@[simp] theorem State.raise_sep (s : State) (b i : Nat) : (s.raise b i).sep = s.sep := by
  simp [State.raise]
@[simp] theorem State.raise_nowNs (s : State) (b i : Nat) : (s.raise b i).nowNs = s.nowNs := by
  simp [State.raise]
@[simp] theorem State.raise_free (s : State) (b i : Nat) : (s.raise b i).free = s.free := by
  simp [State.raise]
@[simp] theorem State.raise_pending (s : State) (b i : Nat) : (s.raise b i).pending = s.pending := by
  simp [State.raise]

/-! ### latch -/

@[simp] theorem State.latch_copies (s : State) (b code req detail : Nat) : (s.latch b code req detail).copies = s.copies := by
  unfold State.latch; split <;> [simp; (split <;> simp)]
@[simp] theorem State.latch_hiLatch (s : State) (b code req detail : Nat) : (s.latch b code req detail).hiLatch = s.hiLatch := by
  unfold State.latch; split <;> [simp; (split <;> simp)]
@[simp] theorem State.latch_loShadow (s : State) (b code req detail : Nat) : (s.latch b code req detail).loShadow = s.loShadow := by
  unfold State.latch; split <;> [simp; (split <;> simp)]
@[simp] theorem State.latch_mem (s : State) (b code req detail : Nat) : (s.latch b code req detail).mem = s.mem := by
  unfold State.latch; split <;> [simp; (split <;> simp)]
@[simp] theorem State.latch_poison (s : State) (b code req detail : Nat) : (s.latch b code req detail).poison = s.poison := by
  unfold State.latch; split <;> [simp; (split <;> simp)]
@[simp] theorem State.latch_stale (s : State) (b code req detail : Nat) : (s.latch b code req detail).stale = s.stale := by
  unfold State.latch; split <;> [simp; (split <;> simp)]
@[simp] theorem State.latch_flash (s : State) (b code req detail : Nat) : (s.latch b code req detail).flash = s.flash := by
  unfold State.latch; split <;> [simp; (split <;> simp)]
@[simp] theorem State.latch_fuses (s : State) (b code req detail : Nat) : (s.latch b code req detail).fuses = s.fuses := by
  unfold State.latch; split <;> [simp; (split <;> simp)]
@[simp] theorem State.latch_pins (s : State) (b code req detail : Nat) : (s.latch b code req detail).pins = s.pins := by
  unfold State.latch; split <;> [simp; (split <;> simp)]
@[simp] theorem State.latch_mainP (s : State) (b code req detail : Nat) : (s.latch b code req detail).mainP = s.mainP := by
  unfold State.latch; split <;> [simp; (split <;> simp)]
@[simp] theorem State.latch_krm (s : State) (b code req detail : Nat) : (s.latch b code req detail).krm = s.krm := by
  unfold State.latch; split <;> [simp; (split <;> simp)]
@[simp] theorem State.latch_integ (s : State) (b code req detail : Nat) : (s.latch b code req detail).integ = s.integ := by
  unfold State.latch; split <;> [simp; (split <;> simp)]
@[simp] theorem State.latch_ffy (s : State) (b code req detail : Nat) : (s.latch b code req detail).ffy = s.ffy := by
  unfold State.latch; split <;> [simp; (split <;> simp)]
@[simp] theorem State.latch_qw (s : State) (b code req detail : Nat) : (s.latch b code req detail).qw = s.qw := by
  unfold State.latch; split <;> [simp; (split <;> simp)]
@[simp] theorem State.latch_dgt (s : State) (b code req detail : Nat) : (s.latch b code req detail).dgt = s.dgt := by
  unfold State.latch; split <;> [simp; (split <;> simp)]
@[simp] theorem State.latch_jrn (s : State) (b code req detail : Nat) : (s.latch b code req detail).jrn = s.jrn := by
  unfold State.latch; split <;> [simp; (split <;> simp)]
@[simp] theorem State.latch_lks (s : State) (b code req detail : Nat) : (s.latch b code req detail).lks = s.lks := by
  unfold State.latch; split <;> [simp; (split <;> simp)]
@[simp] theorem State.latch_slk (s : State) (b code req detail : Nat) : (s.latch b code req detail).slk = s.slk := by
  unfold State.latch; split <;> [simp; (split <;> simp)]
@[simp] theorem State.latch_hr (s : State) (b code req detail : Nat) : (s.latch b code req detail).hr = s.hr := by
  unfold State.latch; split <;> [simp; (split <;> simp)]
@[simp] theorem State.latch_crp (s : State) (b code req detail : Nat) : (s.latch b code req detail).crp = s.crp := by
  unfold State.latch; split <;> [simp; (split <;> simp)]
@[simp] theorem State.latch_gov (s : State) (b code req detail : Nat) : (s.latch b code req detail).gov = s.gov := by
  unfold State.latch; split <;> [simp; (split <;> simp)]
@[simp] theorem State.latch_lcw (s : State) (b code req detail : Nat) : (s.latch b code req detail).lcw = s.lcw := by
  unfold State.latch; split <;> [simp; (split <;> simp)]
@[simp] theorem State.latch_hzd (s : State) (b code req detail : Nat) : (s.latch b code req detail).hzd = s.hzd := by
  unfold State.latch; split <;> [simp; (split <;> simp)]
@[simp] theorem State.latch_fwc (s : State) (b code req detail : Nat) : (s.latch b code req detail).fwc = s.fwc := by
  unfold State.latch; split <;> [simp; (split <;> simp)]
@[simp] theorem State.latch_sep (s : State) (b code req detail : Nat) : (s.latch b code req detail).sep = s.sep := by
  unfold State.latch; split <;> [simp; (split <;> simp)]
@[simp] theorem State.latch_nowNs (s : State) (b code req detail : Nat) : (s.latch b code req detail).nowNs = s.nowNs := by
  unfold State.latch; split <;> [simp; (split <;> simp)]
@[simp] theorem State.latch_free (s : State) (b code req detail : Nat) : (s.latch b code req detail).free = s.free := by
  unfold State.latch; split <;> [simp; (split <;> simp)]
@[simp] theorem State.latch_pending (s : State) (b code req detail : Nat) : (s.latch b code req detail).pending = s.pending := by
  unfold State.latch; split <;> [simp; (split <;> simp)]

/-! ### setStat -/

@[simp] theorem State.setStat_copies (s : State) (b : Nat) (f : Fld) (x : Bool) : (s.setStat b f x).copies = s.copies := by
  simp only [State.setStat]; split <;> [rfl; (split <;> [simp; (split <;> simp)])]
@[simp] theorem State.setStat_hiLatch (s : State) (b : Nat) (f : Fld) (x : Bool) : (s.setStat b f x).hiLatch = s.hiLatch := by
  simp only [State.setStat]; split <;> [rfl; (split <;> [simp; (split <;> simp)])]
@[simp] theorem State.setStat_loShadow (s : State) (b : Nat) (f : Fld) (x : Bool) : (s.setStat b f x).loShadow = s.loShadow := by
  simp only [State.setStat]; split <;> [rfl; (split <;> [simp; (split <;> simp)])]
@[simp] theorem State.setStat_mem (s : State) (b : Nat) (f : Fld) (x : Bool) : (s.setStat b f x).mem = s.mem := by
  simp only [State.setStat]; split <;> [rfl; (split <;> [simp; (split <;> simp)])]
@[simp] theorem State.setStat_poison (s : State) (b : Nat) (f : Fld) (x : Bool) : (s.setStat b f x).poison = s.poison := by
  simp only [State.setStat]; split <;> [rfl; (split <;> [simp; (split <;> simp)])]
@[simp] theorem State.setStat_stale (s : State) (b : Nat) (f : Fld) (x : Bool) : (s.setStat b f x).stale = s.stale := by
  simp only [State.setStat]; split <;> [rfl; (split <;> [simp; (split <;> simp)])]
@[simp] theorem State.setStat_flash (s : State) (b : Nat) (f : Fld) (x : Bool) : (s.setStat b f x).flash = s.flash := by
  simp only [State.setStat]; split <;> [rfl; (split <;> [simp; (split <;> simp)])]
@[simp] theorem State.setStat_fuses (s : State) (b : Nat) (f : Fld) (x : Bool) : (s.setStat b f x).fuses = s.fuses := by
  simp only [State.setStat]; split <;> [rfl; (split <;> [simp; (split <;> simp)])]
@[simp] theorem State.setStat_pins (s : State) (b : Nat) (f : Fld) (x : Bool) : (s.setStat b f x).pins = s.pins := by
  simp only [State.setStat]; split <;> [rfl; (split <;> [simp; (split <;> simp)])]
@[simp] theorem State.setStat_mainP (s : State) (b : Nat) (f : Fld) (x : Bool) : (s.setStat b f x).mainP = s.mainP := by
  simp only [State.setStat]; split <;> [rfl; (split <;> [simp; (split <;> simp)])]
@[simp] theorem State.setStat_krm (s : State) (b : Nat) (f : Fld) (x : Bool) : (s.setStat b f x).krm = s.krm := by
  simp only [State.setStat]; split <;> [rfl; (split <;> [simp; (split <;> simp)])]
@[simp] theorem State.setStat_integ (s : State) (b : Nat) (f : Fld) (x : Bool) : (s.setStat b f x).integ = s.integ := by
  simp only [State.setStat]; split <;> [rfl; (split <;> [simp; (split <;> simp)])]
@[simp] theorem State.setStat_ffy (s : State) (b : Nat) (f : Fld) (x : Bool) : (s.setStat b f x).ffy = s.ffy := by
  simp only [State.setStat]; split <;> [rfl; (split <;> [simp; (split <;> simp)])]
@[simp] theorem State.setStat_qw (s : State) (b : Nat) (f : Fld) (x : Bool) : (s.setStat b f x).qw = s.qw := by
  simp only [State.setStat]; split <;> [rfl; (split <;> [simp; (split <;> simp)])]
@[simp] theorem State.setStat_dgt (s : State) (b : Nat) (f : Fld) (x : Bool) : (s.setStat b f x).dgt = s.dgt := by
  simp only [State.setStat]; split <;> [rfl; (split <;> [simp; (split <;> simp)])]
@[simp] theorem State.setStat_jrn (s : State) (b : Nat) (f : Fld) (x : Bool) : (s.setStat b f x).jrn = s.jrn := by
  simp only [State.setStat]; split <;> [rfl; (split <;> [simp; (split <;> simp)])]
@[simp] theorem State.setStat_lks (s : State) (b : Nat) (f : Fld) (x : Bool) : (s.setStat b f x).lks = s.lks := by
  simp only [State.setStat]; split <;> [rfl; (split <;> [simp; (split <;> simp)])]
@[simp] theorem State.setStat_slk (s : State) (b : Nat) (f : Fld) (x : Bool) : (s.setStat b f x).slk = s.slk := by
  simp only [State.setStat]; split <;> [rfl; (split <;> [simp; (split <;> simp)])]
@[simp] theorem State.setStat_hr (s : State) (b : Nat) (f : Fld) (x : Bool) : (s.setStat b f x).hr = s.hr := by
  simp only [State.setStat]; split <;> [rfl; (split <;> [simp; (split <;> simp)])]
@[simp] theorem State.setStat_crp (s : State) (b : Nat) (f : Fld) (x : Bool) : (s.setStat b f x).crp = s.crp := by
  simp only [State.setStat]; split <;> [rfl; (split <;> [simp; (split <;> simp)])]
@[simp] theorem State.setStat_gov (s : State) (b : Nat) (f : Fld) (x : Bool) : (s.setStat b f x).gov = s.gov := by
  simp only [State.setStat]; split <;> [rfl; (split <;> [simp; (split <;> simp)])]
@[simp] theorem State.setStat_lcw (s : State) (b : Nat) (f : Fld) (x : Bool) : (s.setStat b f x).lcw = s.lcw := by
  simp only [State.setStat]; split <;> [rfl; (split <;> [simp; (split <;> simp)])]
@[simp] theorem State.setStat_hzd (s : State) (b : Nat) (f : Fld) (x : Bool) : (s.setStat b f x).hzd = s.hzd := by
  simp only [State.setStat]; split <;> [rfl; (split <;> [simp; (split <;> simp)])]
@[simp] theorem State.setStat_fwc (s : State) (b : Nat) (f : Fld) (x : Bool) : (s.setStat b f x).fwc = s.fwc := by
  simp only [State.setStat]; split <;> [rfl; (split <;> [simp; (split <;> simp)])]
@[simp] theorem State.setStat_sep (s : State) (b : Nat) (f : Fld) (x : Bool) : (s.setStat b f x).sep = s.sep := by
  simp only [State.setStat]; split <;> [rfl; (split <;> [simp; (split <;> simp)])]
@[simp] theorem State.setStat_nowNs (s : State) (b : Nat) (f : Fld) (x : Bool) : (s.setStat b f x).nowNs = s.nowNs := by
  simp only [State.setStat]; split <;> [rfl; (split <;> [simp; (split <;> simp)])]
@[simp] theorem State.setStat_free (s : State) (b : Nat) (f : Fld) (x : Bool) : (s.setStat b f x).free = s.free := by
  simp only [State.setStat]; split <;> [rfl; (split <;> [simp; (split <;> simp)])]
@[simp] theorem State.setStat_pending (s : State) (b : Nat) (f : Fld) (x : Bool) : (s.setStat b f x).pending = s.pending := by
  simp only [State.setStat]; split <;> [rfl; (split <;> [simp; (split <;> simp)])]

/-! ### putBytes -/

@[simp] theorem State.putBytes_regs (s : State) (a : Nat) (l : List Byte) : (s.putBytes a l).regs = s.regs := rfl
@[simp] theorem State.putBytes_copies (s : State) (a : Nat) (l : List Byte) : (s.putBytes a l).copies = s.copies := rfl
@[simp] theorem State.putBytes_hiLatch (s : State) (a : Nat) (l : List Byte) : (s.putBytes a l).hiLatch = s.hiLatch := rfl
@[simp] theorem State.putBytes_loShadow (s : State) (a : Nat) (l : List Byte) : (s.putBytes a l).loShadow = s.loShadow := rfl
@[simp] theorem State.putBytes_poison (s : State) (a : Nat) (l : List Byte) : (s.putBytes a l).poison = s.poison := rfl
@[simp] theorem State.putBytes_stale (s : State) (a : Nat) (l : List Byte) : (s.putBytes a l).stale = s.stale := rfl
@[simp] theorem State.putBytes_flash (s : State) (a : Nat) (l : List Byte) : (s.putBytes a l).flash = s.flash := rfl
@[simp] theorem State.putBytes_fuses (s : State) (a : Nat) (l : List Byte) : (s.putBytes a l).fuses = s.fuses := rfl
@[simp] theorem State.putBytes_pins (s : State) (a : Nat) (l : List Byte) : (s.putBytes a l).pins = s.pins := rfl
@[simp] theorem State.putBytes_mainP (s : State) (a : Nat) (l : List Byte) : (s.putBytes a l).mainP = s.mainP := rfl
@[simp] theorem State.putBytes_krm (s : State) (a : Nat) (l : List Byte) : (s.putBytes a l).krm = s.krm := rfl
@[simp] theorem State.putBytes_integ (s : State) (a : Nat) (l : List Byte) : (s.putBytes a l).integ = s.integ := rfl
@[simp] theorem State.putBytes_ffy (s : State) (a : Nat) (l : List Byte) : (s.putBytes a l).ffy = s.ffy := rfl
@[simp] theorem State.putBytes_qw (s : State) (a : Nat) (l : List Byte) : (s.putBytes a l).qw = s.qw := rfl
@[simp] theorem State.putBytes_dgt (s : State) (a : Nat) (l : List Byte) : (s.putBytes a l).dgt = s.dgt := rfl
@[simp] theorem State.putBytes_jrn (s : State) (a : Nat) (l : List Byte) : (s.putBytes a l).jrn = s.jrn := rfl
@[simp] theorem State.putBytes_lks (s : State) (a : Nat) (l : List Byte) : (s.putBytes a l).lks = s.lks := rfl
@[simp] theorem State.putBytes_slk (s : State) (a : Nat) (l : List Byte) : (s.putBytes a l).slk = s.slk := rfl
@[simp] theorem State.putBytes_hr (s : State) (a : Nat) (l : List Byte) : (s.putBytes a l).hr = s.hr := rfl
@[simp] theorem State.putBytes_crp (s : State) (a : Nat) (l : List Byte) : (s.putBytes a l).crp = s.crp := rfl
@[simp] theorem State.putBytes_gov (s : State) (a : Nat) (l : List Byte) : (s.putBytes a l).gov = s.gov := rfl
@[simp] theorem State.putBytes_lcw (s : State) (a : Nat) (l : List Byte) : (s.putBytes a l).lcw = s.lcw := rfl
@[simp] theorem State.putBytes_hzd (s : State) (a : Nat) (l : List Byte) : (s.putBytes a l).hzd = s.hzd := rfl
@[simp] theorem State.putBytes_fwc (s : State) (a : Nat) (l : List Byte) : (s.putBytes a l).fwc = s.fwc := rfl
@[simp] theorem State.putBytes_sep (s : State) (a : Nat) (l : List Byte) : (s.putBytes a l).sep = s.sep := rfl
@[simp] theorem State.putBytes_nowNs (s : State) (a : Nat) (l : List Byte) : (s.putBytes a l).nowNs = s.nowNs := rfl
@[simp] theorem State.putBytes_free (s : State) (a : Nat) (l : List Byte) : (s.putBytes a l).free = s.free := rfl
@[simp] theorem State.putBytes_outs (s : State) (a : Nat) (l : List Byte) : (s.putBytes a l).outs = s.outs := rfl
@[simp] theorem State.putBytes_pending (s : State) (a : Nat) (l : List Byte) : (s.putBytes a l).pending = s.pending := rfl

/-! ### putFlash -/

@[simp] theorem State.putFlash_regs (s : State) (a : Nat) (l : List Byte) : (s.putFlash a l).regs = s.regs := rfl
@[simp] theorem State.putFlash_copies (s : State) (a : Nat) (l : List Byte) : (s.putFlash a l).copies = s.copies := rfl
@[simp] theorem State.putFlash_hiLatch (s : State) (a : Nat) (l : List Byte) : (s.putFlash a l).hiLatch = s.hiLatch := rfl
@[simp] theorem State.putFlash_loShadow (s : State) (a : Nat) (l : List Byte) : (s.putFlash a l).loShadow = s.loShadow := rfl
@[simp] theorem State.putFlash_mem (s : State) (a : Nat) (l : List Byte) : (s.putFlash a l).mem = s.mem := rfl
@[simp] theorem State.putFlash_poison (s : State) (a : Nat) (l : List Byte) : (s.putFlash a l).poison = s.poison := rfl
@[simp] theorem State.putFlash_stale (s : State) (a : Nat) (l : List Byte) : (s.putFlash a l).stale = s.stale := rfl
@[simp] theorem State.putFlash_fuses (s : State) (a : Nat) (l : List Byte) : (s.putFlash a l).fuses = s.fuses := rfl
@[simp] theorem State.putFlash_pins (s : State) (a : Nat) (l : List Byte) : (s.putFlash a l).pins = s.pins := rfl
@[simp] theorem State.putFlash_mainP (s : State) (a : Nat) (l : List Byte) : (s.putFlash a l).mainP = s.mainP := rfl
@[simp] theorem State.putFlash_krm (s : State) (a : Nat) (l : List Byte) : (s.putFlash a l).krm = s.krm := rfl
@[simp] theorem State.putFlash_integ (s : State) (a : Nat) (l : List Byte) : (s.putFlash a l).integ = s.integ := rfl
@[simp] theorem State.putFlash_ffy (s : State) (a : Nat) (l : List Byte) : (s.putFlash a l).ffy = s.ffy := rfl
@[simp] theorem State.putFlash_qw (s : State) (a : Nat) (l : List Byte) : (s.putFlash a l).qw = s.qw := rfl
@[simp] theorem State.putFlash_dgt (s : State) (a : Nat) (l : List Byte) : (s.putFlash a l).dgt = s.dgt := rfl
@[simp] theorem State.putFlash_jrn (s : State) (a : Nat) (l : List Byte) : (s.putFlash a l).jrn = s.jrn := rfl
@[simp] theorem State.putFlash_lks (s : State) (a : Nat) (l : List Byte) : (s.putFlash a l).lks = s.lks := rfl
@[simp] theorem State.putFlash_slk (s : State) (a : Nat) (l : List Byte) : (s.putFlash a l).slk = s.slk := rfl
@[simp] theorem State.putFlash_hr (s : State) (a : Nat) (l : List Byte) : (s.putFlash a l).hr = s.hr := rfl
@[simp] theorem State.putFlash_crp (s : State) (a : Nat) (l : List Byte) : (s.putFlash a l).crp = s.crp := rfl
@[simp] theorem State.putFlash_gov (s : State) (a : Nat) (l : List Byte) : (s.putFlash a l).gov = s.gov := rfl
@[simp] theorem State.putFlash_lcw (s : State) (a : Nat) (l : List Byte) : (s.putFlash a l).lcw = s.lcw := rfl
@[simp] theorem State.putFlash_hzd (s : State) (a : Nat) (l : List Byte) : (s.putFlash a l).hzd = s.hzd := rfl
@[simp] theorem State.putFlash_fwc (s : State) (a : Nat) (l : List Byte) : (s.putFlash a l).fwc = s.fwc := rfl
@[simp] theorem State.putFlash_sep (s : State) (a : Nat) (l : List Byte) : (s.putFlash a l).sep = s.sep := rfl
@[simp] theorem State.putFlash_nowNs (s : State) (a : Nat) (l : List Byte) : (s.putFlash a l).nowNs = s.nowNs := rfl
@[simp] theorem State.putFlash_free (s : State) (a : Nat) (l : List Byte) : (s.putFlash a l).free = s.free := rfl
@[simp] theorem State.putFlash_outs (s : State) (a : Nat) (l : List Byte) : (s.putFlash a l).outs = s.outs := rfl
@[simp] theorem State.putFlash_pending (s : State) (a : Nat) (l : List Byte) : (s.putFlash a l).pending = s.pending := rfl

/-! ### eraseFlash -/

@[simp] theorem State.eraseFlash_regs (s : State) (a n : Nat) : (s.eraseFlash a n).regs = s.regs := rfl
@[simp] theorem State.eraseFlash_copies (s : State) (a n : Nat) : (s.eraseFlash a n).copies = s.copies := rfl
@[simp] theorem State.eraseFlash_hiLatch (s : State) (a n : Nat) : (s.eraseFlash a n).hiLatch = s.hiLatch := rfl
@[simp] theorem State.eraseFlash_loShadow (s : State) (a n : Nat) : (s.eraseFlash a n).loShadow = s.loShadow := rfl
@[simp] theorem State.eraseFlash_mem (s : State) (a n : Nat) : (s.eraseFlash a n).mem = s.mem := rfl
@[simp] theorem State.eraseFlash_poison (s : State) (a n : Nat) : (s.eraseFlash a n).poison = s.poison := rfl
@[simp] theorem State.eraseFlash_stale (s : State) (a n : Nat) : (s.eraseFlash a n).stale = s.stale := rfl
@[simp] theorem State.eraseFlash_fuses (s : State) (a n : Nat) : (s.eraseFlash a n).fuses = s.fuses := rfl
@[simp] theorem State.eraseFlash_pins (s : State) (a n : Nat) : (s.eraseFlash a n).pins = s.pins := rfl
@[simp] theorem State.eraseFlash_mainP (s : State) (a n : Nat) : (s.eraseFlash a n).mainP = s.mainP := rfl
@[simp] theorem State.eraseFlash_krm (s : State) (a n : Nat) : (s.eraseFlash a n).krm = s.krm := rfl
@[simp] theorem State.eraseFlash_integ (s : State) (a n : Nat) : (s.eraseFlash a n).integ = s.integ := rfl
@[simp] theorem State.eraseFlash_ffy (s : State) (a n : Nat) : (s.eraseFlash a n).ffy = s.ffy := rfl
@[simp] theorem State.eraseFlash_qw (s : State) (a n : Nat) : (s.eraseFlash a n).qw = s.qw := rfl
@[simp] theorem State.eraseFlash_dgt (s : State) (a n : Nat) : (s.eraseFlash a n).dgt = s.dgt := rfl
@[simp] theorem State.eraseFlash_jrn (s : State) (a n : Nat) : (s.eraseFlash a n).jrn = s.jrn := rfl
@[simp] theorem State.eraseFlash_lks (s : State) (a n : Nat) : (s.eraseFlash a n).lks = s.lks := rfl
@[simp] theorem State.eraseFlash_slk (s : State) (a n : Nat) : (s.eraseFlash a n).slk = s.slk := rfl
@[simp] theorem State.eraseFlash_hr (s : State) (a n : Nat) : (s.eraseFlash a n).hr = s.hr := rfl
@[simp] theorem State.eraseFlash_crp (s : State) (a n : Nat) : (s.eraseFlash a n).crp = s.crp := rfl
@[simp] theorem State.eraseFlash_gov (s : State) (a n : Nat) : (s.eraseFlash a n).gov = s.gov := rfl
@[simp] theorem State.eraseFlash_lcw (s : State) (a n : Nat) : (s.eraseFlash a n).lcw = s.lcw := rfl
@[simp] theorem State.eraseFlash_hzd (s : State) (a n : Nat) : (s.eraseFlash a n).hzd = s.hzd := rfl
@[simp] theorem State.eraseFlash_fwc (s : State) (a n : Nat) : (s.eraseFlash a n).fwc = s.fwc := rfl
@[simp] theorem State.eraseFlash_sep (s : State) (a n : Nat) : (s.eraseFlash a n).sep = s.sep := rfl
@[simp] theorem State.eraseFlash_nowNs (s : State) (a n : Nat) : (s.eraseFlash a n).nowNs = s.nowNs := rfl
@[simp] theorem State.eraseFlash_free (s : State) (a n : Nat) : (s.eraseFlash a n).free = s.free := rfl
@[simp] theorem State.eraseFlash_outs (s : State) (a n : Nat) : (s.eraseFlash a n).outs = s.outs := rfl
@[simp] theorem State.eraseFlash_pending (s : State) (a n : Nat) : (s.eraseFlash a n).pending = s.pending := rfl

end Sys2Proof.Machine
end

