-- ==== Sys2Proof/Laws/Shared.lean ====
section
/-! SUPPORT. What the shared operations can do, said once each: interrupts, errors, status bits, whole register writes,
actions, folds over units, and the canonical form of memories. -/

namespace Sys2Proof.Machine

/-! ### Completion -/

theorem completes_of_next {c : Instr} {s t : State} {P : State → Prop} (h : exec c s = .next t) (hp : P t) :
    completes c s P := ⟨t, h, hp⟩

theorem completes_mono {c : Instr} {s : State} {P Q : State → Prop} (h : completes c s P) (hpq : ∀ t, P t → Q t) :
    completes c s Q := let ⟨t, ht, hp⟩ := h; ⟨t, ht, hpq t hp⟩

/-- A write that the page takes is followed by its action. -/
theorem writeThen_of_takes {s : State} {cls : Cls} {a v : Nat} (act : State → State) (h : s.takes cls a v) :
    writeThen s cls a v act = act (regWrite s cls a 4 v).2 := by
  simp [writeThen, show (regWrite s cls a 4 v).1 = true from h]

/-! ### Folds over units -/

/-- What every step of a fold keeps, the fold keeps. -/
theorem State.each_inv (P : State → Prop) (l : List Nat) (f : State → Nat → State) (s : State)
    (h : ∀ s, ∀ n ∈ l, P s → P (f s n)) (hs : P s) : P (s.each l f) := by
  unfold State.each
  induction l generalizing s with
  | nil => exact hs
  | cons a t ih =>
    exact ih _ (fun s n hn => h s n (List.mem_cons_of_mem _ hn)) (h s a (List.mem_cons_self ..) hs)

/-- What no step of a fold changes, the fold does not change. -/
theorem State.each_eq {α : Type} (g : State → α) (l : List Nat) (f : State → Nat → State) (s : State)
    (h : ∀ s, ∀ n ∈ l, g (f s n) = g s) : g (s.each l f) = g s :=
  State.each_inv (fun t => g t = g s) l f s (fun t n hn ht => (h t n hn).trans ht) rfl

/-- The same for a fold over anything. -/
theorem foldl_eq {α β : Type} (g : State → α) (l : List β) (f : State → β → State) (s : State)
    (h : ∀ s, ∀ x ∈ l, g (f s x) = g s) : g (l.foldl f s) = g s := by
  induction l generalizing s with
  | nil => rfl
  | cons a t ih =>
    exact (ih _ fun s x hx => h s x (List.mem_cons_of_mem _ hx)).trans (h s a (List.mem_cons_self ..))

/-! ### Interrupts, errors and status bits: which words they can change -/

theorem msixPba_word (v : Nat) (h : v < 0x800) : msixWord (msixPba v) := by unfold msixWord msixPba; omega

theorem pageVector_lt (b : Nat) : pageVector b < 26 := by
  unfold pageVector
  generalize b / 0x10000 = p
  show (if _ then _ else _ : Nat) < 26
  repeat' refine iteInduction (motive := fun n => n < 26) (fun h => ?_) (fun h => ?_)
  all_goals first | decide | (simp only [Bool.and_eq_true, decide_eq_true_eq] at h; omega)

/-- Sending a message touches the pending bits alone. -/
theorem State.rd_sendMsix (s : State) (v a : Nat) (hv : v < 0x800) (h : ¬msixWord a) : (s.sendMsix v).rd a = s.rd a := by
  have ha : a ≠ msixPba v := fun e => h (e ▸ msixPba_word v hv)
  unfold State.sendMsix
  split
  · split
    · exact State.rd_wr_ne _ _ _ _ ha
    · rfl
  · rfl

theorem State.rd_setIrq (s : State) (b a : Nat) (v : BitVec 32) (h : a ≠ b + IRQ_STAT.off) (hm : ¬msixWord a) :
    (s.setIrq b v).rd a = s.rd a := by
  simp only [State.setIrq]
  split
  · rw [State.rd_sendMsix _ _ _ (by have := pageVector_lt b; omega) hm, State.rd_wr_ne _ _ _ _ h]
  · exact State.rd_wr_ne _ _ _ _ h

/-- A raised cause touches IRQ_STAT of its page and the pending bits alone. -/
theorem State.rd_raise (s : State) (b i a : Nat) (h : a ≠ b + IRQ_STAT.off) (hm : ¬msixWord a) :
    (s.raise b i).rd a = s.rd a := State.rd_setIrq _ _ _ _ h hm

theorem State.rd_seqUp (s : State) (b a : Nat) (h : a ≠ b + PAGE_SEQ.off) : (s.seqUp b).rd a = s.rd a :=
  State.rd_fset_ne _ _ _ _ _ h

/-- A latched error touches the error words, PAGE_SEQ and IRQ_STAT of its page and the pending bits alone. -/
theorem State.rd_latch (s : State) (b code req detail a : Nat) (h1 : a ≠ b + IRQ_STAT.off) (h2 : a ≠ b + ERR_CODE_CODE.off)
    (h3 : a ≠ b + ERR_INFO_REQ.off) (h4 : a ≠ b + PAGE_SEQ.off) (hm : ¬msixWord a) :
    (s.latch b code req detail).rd a = s.rd a := by
  unfold State.latch
  split
  · rw [State.rd_raise _ _ _ _ h1 hm, State.rd_seqUp _ _ _ h4, State.rd_fset_ne _ b ERR_INFO_DETAIL _ a h3,
      State.rd_fset_ne _ b ERR_INFO_REQ _ a h3, State.rd_fset_ne _ b ERR_CODE_CODE _ a h2]
  · split
    · rfl
    · rw [State.rd_seqUp _ _ _ h4, State.rd_fset_ne _ b ERR_CODE_MORE _ a h2]

/-- A status bit touches PAGE_STAT, PAGE_SEQ and IRQ_STAT of its page and the pending bits alone. -/
theorem State.rd_setStat (s : State) (b : Nat) (f : Fld) (x : Bool) (a : Nat) (h1 : a ≠ b + f.off)
    (h2 : a ≠ b + PAGE_SEQ.off) (h3 : a ≠ b + IRQ_STAT.off) (hm : ¬msixWord a) : (s.setStat b f x).rd a = s.rd a := by
  simp only [State.setStat]
  split
  · rfl
  · split
    · rw [State.rd_raise _ _ _ _ h3 hm, State.rd_seqUp _ _ _ h2, State.rd_fset_ne _ _ _ _ _ h1]
    · split
      · rw [State.rd_raise _ _ _ _ h3 hm, State.rd_seqUp _ _ _ h2, State.rd_fset_ne _ _ _ _ _ h1]
      · rw [State.rd_seqUp _ _ _ h2, State.rd_fset_ne _ _ _ _ _ h1]

/-- A hardware change of a field touches its word and PAGE_SEQ alone. -/
theorem State.rd_hwSet (s : State) (b : Nat) (f : Fld) (x a : Nat) (h1 : a ≠ b + f.off) (h2 : a ≠ b + PAGE_SEQ.off) :
    (s.hwSet b f x).rd a = s.rd a := by
  unfold State.hwSet
  split
  · rfl
  · rw [State.rd_seqUp _ _ _ h2, State.rd_fset_ne _ _ _ _ _ h1]

/-- The first error of a page is the one its ERR_CODE shows. -/
theorem State.latch_code (s : State) (b code req detail : Nat) (h : s.fget b ERR_CODE_CODE = 0) (hc : code < 0x10000)
    (hm : ¬msixWord (b + ERR_CODE_CODE.off)) : (s.latch b code req detail).fget b ERR_CODE_CODE = code := by
  unfold State.latch
  rw [if_pos h]
  show ERR_CODE_CODE.get (State.rd _ _) = code
  rw [State.rd_raise _ _ _ _ (by simp only [ERR_CODE_CODE, IRQ_STAT]; omega) hm,
    State.rd_seqUp _ _ _ (by simp only [ERR_CODE_CODE, PAGE_SEQ]; omega),
    State.rd_fset_ne _ _ _ _ _ (by simp only [ERR_CODE_CODE, ERR_INFO_DETAIL]; omega),
    State.rd_fset_ne _ _ _ _ _ (by simp only [ERR_CODE_CODE, ERR_INFO_REQ]; omega)]
  show State.fget _ b ERR_CODE_CODE = code
  rw [State.fget_fset_same _ _ _ _ (by decide)]
  exact Nat.mod_eq_of_lt hc

/-! ### Whole register writes: nothing but registers and messages -/

/-- Everything of a state but its registers, their copies and latches, the three values outside them that registers show and
a soft reset puts back, and what it sent. -/
abbrev State.behind (s : State) : State :=
  { s with regs := [], copies := [], hiLatch := [], loShadow := [], outs := [], free := 0, ffy.counter := 0, hr.hbAgeNs := 0 }

theorem State.behind_latch (s : State) (b code req detail : Nat) : (s.latch b code req detail).behind = s.behind := by
  simp [State.behind]

theorem State.behind_setIrq (s : State) (b : Nat) (v : BitVec 32) : (s.setIrq b v).behind = s.behind := by
  simp [State.behind]

theorem State.behind_ite {c : Prop} [Decidable c] {x y : Bool × State} {b : State} (hx : x.2.behind = b)
    (hy : y.2.behind = b) : (if c then x else y).2.behind = b := by split <;> assumption

theorem State.behind_ite' {c : Prop} [Decidable c] {x y : State} {b : State} (hx : x.behind = b)
    (hy : y.behind = b) : (if c then x else y).behind = b := by split <;> assumption

theorem State.behind_denied (s : State) (cls : Cls) (a d : Nat) : (denied s cls a d).behind = s.behind := by
  simp [State.behind, denied]

theorem State.behind_badSize (s : State) (cls : Cls) (a : Nat) : (badSize s cls a).behind = s.behind := by
  unfold badSize; rw [State.behind_latch, State.behind_denied]

theorem State.behind_seqUp (s : State) (b : Nat) : (s.seqUp b).behind = s.behind := by simp [State.behind]

theorem State.behind_dropWrite (s : State) (cls : Cls) (a code : Nat) : (dropWrite s cls a code).behind = s.behind := by
  unfold dropWrite
  exact State.behind_ite' (State.behind_seqUp ..) ((State.behind_latch ..).trans (State.behind_seqUp ..))

theorem State.behind_blockGate (s : State) (cls : Cls) (a : Nat) (f : Bool) : (blockGate s cls a f).2.behind = s.behind := by
  simp only [blockGate]
  split
  · exact State.behind_dropWrite s cls a 1
  · split
    · exact State.behind_dropWrite s cls a 2
    · rfl

theorem State.behind_writeGate (s : State) (cls : Cls) (a size v : Nat) : (writeGate s cls a size v).2.behind = s.behind := by
  unfold writeGate
  cases findPage (a / 0x10000) with
  | none => rfl
  | some p =>
    simp only
    repeat' refine State.behind_ite ?_ ?_
    any_goals first | rfl | exact State.behind_badSize .. | exact State.behind_denied ..
    cases findReg p.1.regs (a % 0x10000) with
    | none =>
      simp only
      repeat' first | exact State.behind_blockGate .. | refine State.behind_ite ?_ ?_
      all_goals first | rfl | exact State.behind_denied ..
    | some r =>
      simp only
      repeat' first | exact State.behind_blockGate .. | refine State.behind_ite ?_ ?_
      all_goals first | rfl | exact State.behind_denied ..

theorem State.behind_wr (s : State) (a : Nat) (v : BitVec 32) : (s.wr a v).behind = s.behind := by simp [State.behind]

theorem State.behind_putWord (s : State) (cls : Cls) (r : RRow) (a : Nat) (w : BitVec 32) :
    (putWord s cls r a w).behind = s.behind := by
  unfold putWord; split
  · rfl
  · exact State.behind_wr ..

theorem State.behind_emit (s : State) (o : Out) : (s.emit o).behind = s.behind := by simp [State.behind]

theorem State.behind_fset (s : State) (b : Nat) (f : Fld) (x : Nat) : (s.fset b f x).behind = s.behind := by simp [State.behind]

theorem State.behind_writeBlock (s : State) (cls : Cls) (p : PRow) (r : RRow) (a size v b : Nat) :
    (writeBlock s cls p r a size v b).2.behind = s.behind := by
  unfold writeBlock
  cases commitValue s cls r a size v b with
  | none => rfl
  | some c =>
    simp only
    refine State.behind_ite ?_ ?_
    · exact (State.behind_dropWrite ..).trans rfl
    · generalize blockRule _ p.kind _ _ _ = o
      cases o with
      | some e => exact (State.behind_dropWrite ..).trans rfl
      | none =>
        refine State.behind_ite ?_ ?_
        · show (State.seqUp _ _).behind = _
          rw [State.behind_seqUp, State.behind_putWord, State.behind_putWord]
        · show (State.seqUp _ _).behind = _
          rw [State.behind_seqUp, State.behind_putWord]

theorem State.behind_pset (s : State) (b : Nat) (f : Fld) (x : Nat) : (s.pset b f x).behind = s.behind := by simp [State.behind]

theorem State.behind_fusedPage (s : State) (b : Nat) : (s.fusedPage b).behind = s.behind := by
  unfold State.fusedPage
  exact State.behind_ite' ((State.behind_fset ..).trans (State.behind_wr ..))
    (State.behind_ite' ((State.behind_fset ..).trans (State.behind_fset ..)) (State.behind_ite' (State.behind_pset ..) rfl))

theorem State.behind_dynamicReset (t s : State) (b : Nat) : (t.dynamicReset b s).behind = s.behind := by
  have h : ((keptFields.filter fun e => e.1 = b).foldl (fun s e => s.fset b e.2 (t.fget b e.2)) (s.fusedPage b)).behind =
      s.behind := (foldl_eq State.behind _ _ _ fun _ _ _ => State.behind_fset ..).trans (State.behind_fusedPage ..)
  unfold State.dynamicReset
  refine State.behind_ite' ?_ (State.behind_ite' ?_ (State.behind_ite' ?_ h)) <;> exact h

theorem State.behind_softReset (s : State) (b : Nat) : (softReset s b).behind = s.behind := by
  unfold softReset
  rw [State.behind_seqUp, State.behind_fset, State.behind_fset, State.behind_dynamicReset, State.behind_wr, State.behind_wr,
    State.behind_wr]

theorem State.behind_sendMsix (s : State) (v : Nat) : (s.sendMsix v).behind = s.behind := by simp [State.behind]

theorem State.behind_writeHeader (s : State) (p : PRow) (a v : Nat) : (writeHeader s p a v).behind = s.behind := by
  unfold writeHeader
  refine State.behind_ite' ?_ (State.behind_ite' ?_ (State.behind_ite' ?_ (State.behind_ite' ?_ (State.behind_ite' ?_ ?_))))
  · exact State.behind_ite' ((State.behind_softReset ..).trans rfl) ((State.behind_seqUp ..).trans rfl)
  · exact (State.behind_seqUp ..).trans rfl
  · refine State.behind_ite' ((State.behind_sendMsix ..).trans ?_) ?_ <;> exact (State.behind_seqUp ..).trans rfl
  · exact State.behind_setIrq ..
  · exact State.behind_ite' rfl rfl
  · rfl

theorem State.behind_writeMsix (s : State) (a size v : Nat) : (writeMsix s a size v).behind = s.behind := by
  simp only [writeMsix]
  split
  · exact Eq.refl s.behind
  · split
    · split
      · rw [State.behind_emit, State.behind_wr, State.behind_wr, State.behind_wr]
      · rw [State.behind_wr, State.behind_wr]
    · split
      · rw [State.behind_emit, State.behind_wr, State.behind_wr]
      · rw [State.behind_wr]

/-- A register write, accepted or not, changes registers and sends messages, and nothing else (R41-R52). -/
theorem State.behind_regWrite (s : State) (cls : Cls) (a size v : Nat) : (regWrite s cls a size v).2.behind = s.behind := by
  unfold regWrite
  refine State.behind_ite (State.behind_writeGate ..) ?_
  cases findPage (a / 0x10000) with
  | none => rfl
  | some p =>
    refine State.behind_ite (State.behind_writeMsix ..) (State.behind_ite (State.behind_writeHeader ..) ?_)
    cases findReg p.1.regs (a % 0x10000) with
    | none => rfl
    | some r => exact State.behind_writeBlock ..

/-- So does a write that is a row of its own, before its action. -/
theorem State.mem_regWrite (s : State) (cls : Cls) (a size v : Nat) : (regWrite s cls a size v).2.mem = s.mem :=
  (congrArg State.mem (State.behind_regWrite s cls a size v) :)

theorem State.flash_regWrite (s : State) (cls : Cls) (a size v : Nat) : (regWrite s cls a size v).2.flash = s.flash :=
  (congrArg State.flash (State.behind_regWrite s cls a size v) :)

theorem State.fuses_regWrite (s : State) (cls : Cls) (a size v : Nat) : (regWrite s cls a size v).2.fuses = s.fuses :=
  (congrArg State.fuses (State.behind_regWrite s cls a size v) :)

theorem State.fwc_regWrite (s : State) (cls : Cls) (a size v : Nat) : (regWrite s cls a size v).2.fwc = s.fwc :=
  (congrArg State.fwc (State.behind_regWrite s cls a size v) :)

theorem State.pending_regWrite (s : State) (cls : Cls) (a size v : Nat) : (regWrite s cls a size v).2.pending = s.pending :=
  (congrArg State.pending (State.behind_regWrite s cls a size v) :)

/-- An action that changes no byte, after a register write. -/
theorem sameBytes_writeThen (s : State) (cls : Cls) (a v : Nat) (act : State → State)
    (h : ∀ t, t.behind = s.behind → sameBytes t (act t)) : sameBytes s (writeThen s cls a v act) := by
  have hb := State.behind_regWrite s cls a 4 v
  have hs : sameBytes s (regWrite s cls a 4 v).2 :=
    ⟨fun x => by simp [State.byteAt, State.mem_regWrite], fun x => by rw [State.flash_regWrite], fun x => by rw [State.fwc_regWrite]⟩
  show sameBytes s (if _ then _ else _)
  split
  · have := h _ hb
    exact ⟨fun x => (this.1 x).trans (hs.1 x), fun x => (this.2.1 x).trans (hs.2.1 x), fun x => (this.2.2 x).trans (hs.2.2 x)⟩
  · exact hs

/-! ### Bytes -/

theorem sameBytes_refl (s : State) : sameBytes s s := ⟨fun _ => rfl, fun _ => rfl, fun _ => rfl⟩

theorem sameBytes_trans {s t u : State} (h : sameBytes s t) (k : sameBytes t u) : sameBytes s u :=
  ⟨fun a => (k.1 a).trans (h.1 a), fun a => (k.2.1 a).trans (h.2.1 a), fun a => (k.2.2 a).trans (h.2.2 a)⟩

/-- Memories that are the same lists hold the same bytes. -/
theorem sameBytes_of_eq {s t : State} (h : t.mem = s.mem) (hf : t.flash = s.flash) (hw : t.fwc.sram = s.fwc.sram) :
    sameBytes s t := ⟨fun _ => by simp [State.byteAt, h], fun _ => by rw [hf], fun _ => by rw [hw]⟩

theorem sameBytes_each (l : List Nat) (f : State → Nat → State) (s : State) (h : ∀ s, ∀ n ∈ l, sameBytes s (f s n)) :
    sameBytes s (s.each l f) :=
  State.each_inv (sameBytes s) l f s (fun t n hn ht => sameBytes_trans ht (h t n hn)) (sameBytes_refl s)

/-! ### Actions of the log (R460, R461) -/

/-- Queueing an action changes the queue and its losses, and the registers that show them. -/
theorem State.queueAction_sep (s : State) (r : ActionRec) :
    { (s.queueAction r).behind with sep := s.sep } = s.behind := by
  unfold State.queueAction; split
  · rfl
  · simp [State.behind]

theorem State.act_sep (s : State) (code source cause arg : Nat) :
    { (s.act code source cause arg).behind with sep := s.sep } = s.behind := State.queueAction_sep ..

/-- Carapace's actions change its buffer or the queue, and the registers that show them. -/
theorem State.crpAct_sep (s : State) (code source cause arg : Nat) :
    { (s.crpAct code source cause arg).behind with sep := s.sep, crp := s.crp } = s.behind := by
  unfold State.crpAct; split
  · split
    · rfl
    · simp [State.behind]
  · have h := State.queueAction_sep s (s.crpRec code source cause arg)
    calc _ = { (s.behind) with crp := s.crp } := by rw [← h]
         _ = s.behind := rfl

/-! ### The canonical form of memories and registers -/

theorem State.memOk_putBytes (s : State) (a : Nat) (l : List Byte) (h : s.memOk = true) : (s.putBytes a l).memOk = true := by
  simp only [State.memOk, Memory.wf, Bool.and_eq_true] at *
  exact ⟨⟨memPut_wf _ _ _ _ h.1.1, h.1.2⟩, h.2⟩

theorem State.memOk_putFlash (s : State) (a : Nat) (l : List Byte) (h : s.memOk = true) : (s.putFlash a l).memOk = true := by
  simp only [State.memOk, Memory.wf, Bool.and_eq_true] at *
  exact ⟨⟨h.1.1, memPut_wf _ _ _ _ h.1.2⟩, h.2⟩

theorem State.memOk_eraseFlash (s : State) (a n : Nat) (h : s.memOk = true) : (s.eraseFlash a n).memOk = true := by
  simp only [State.memOk, Memory.wf, Bool.and_eq_true] at *
  exact ⟨⟨h.1.1, Tab.wf_filter _ _ _ h.1.2⟩, h.2⟩

/-- Memories that are the same lists are as canonical. -/
theorem State.memOk_of_eq {s t : State} (h : t.mem = s.mem) (hf : t.flash = s.flash) (hw : t.fwc.sram = s.fwc.sram) :
    t.memOk = s.memOk := by simp [State.memOk, h, hf, hw]

theorem State.memOk_regWrite (s : State) (cls : Cls) (a size v : Nat) : (regWrite s cls a size v).2.memOk = s.memOk :=
  State.memOk_of_eq (State.mem_regWrite ..) (State.flash_regWrite ..) (by rw [State.fwc_regWrite])

theorem State.regsOk_wr (s : State) (a : Nat) (v : BitVec 32) (h : s.regsOk = true) : (s.wr a v).regsOk = true :=
  Tab.wf_set regReset s.regs a v h

theorem State.regsOk_fset (s : State) (b : Nat) (f : Fld) (x : Nat) (h : s.regsOk = true) : (s.fset b f x).regsOk = true :=
  State.regsOk_wr _ _ _ h

theorem State.regsOk_sendMsix (s : State) (v : Nat) (h : s.regsOk = true) : (s.sendMsix v).regsOk = true := by
  unfold State.sendMsix
  repeat' (first | exact h | exact State.regsOk_wr _ _ _ h | split)

theorem State.regsOk_setIrq (s : State) (b : Nat) (v : BitVec 32) (h : s.regsOk = true) : (s.setIrq b v).regsOk = true := by
  simp only [State.setIrq]
  split
  · exact State.regsOk_sendMsix _ _ (State.regsOk_wr _ _ _ h)
  · exact State.regsOk_wr _ _ _ h

theorem State.regsOk_raise (s : State) (b i : Nat) (h : s.regsOk = true) : (s.raise b i).regsOk = true :=
  State.regsOk_setIrq _ _ _ h

theorem State.regsOk_latch (s : State) (b code req detail : Nat) (h : s.regsOk = true) :
    (s.latch b code req detail).regsOk = true := by
  unfold State.latch
  split
  · exact State.regsOk_raise _ _ _ (State.regsOk_fset _ _ _ _ (State.regsOk_fset _ _ _ _ (State.regsOk_fset _ _ _ _
      (State.regsOk_fset _ _ _ _ h))))
  · split
    · exact h
    · exact State.regsOk_fset _ _ _ _ (State.regsOk_fset _ _ _ _ h)

theorem State.regsOk_setStat (s : State) (b : Nat) (f : Fld) (x : Bool) (h : s.regsOk = true) :
    (s.setStat b f x).regsOk = true := by
  have k := State.regsOk_fset _ b PAGE_SEQ ((s.fset b f (bit x)).fget b PAGE_SEQ + 1) (State.regsOk_fset s b f (bit x) h)
  simp only [State.setStat]
  repeat' (first | exact h | exact k | exact State.regsOk_raise _ _ _ k | split)

end Sys2Proof.Machine
end

