-- ==== Sys2Proof/WellFormed.lean ====
section
/-! DEFINITION. Well-formed commands: what the operands of a command must satisfy beyond their types for it to be a
command the outside can send. exec gives every command a meaning, well-formed or not. -/

namespace Sys2Proof

/-- An optional number below a bound. -/
def optBelow (o : Option Nat) (n : Nat) : Bool :=
  match o with
  | none => true
  | some v => v < n

/-- Whether a command is well-formed. -/
def wellFormed : Instr → Bool
  | .registerWrite _ _ size _ => size = 1 || size = 2 || size = 4 || size = 8
  | .carapaceSample sample => sample.branches.length = 12
  | .bar2Read _ _ len _ => 1 ≤ len && len ≤ 4096
  | .bar2Write _ data _ => 1 ≤ data.length && data.length ≤ 512
  | .memWr _ u => u.payload.length = u.len.toNat
  | .rcpt _ u => u.payload.length = u.len.toNat
  | .chkpt _ u => u.payload.length = u.len.toNat
  | .replayRsp _ u => u.payload.length = u.len.toNat
  | .actionEntryWrite pre post => pre.length = 8 && post.length = 8
  | .hostLinkUp rate width _ => (1 ≤ rate.val && rate.val ≤ 6) && (width = 1 || width = 2 || width = 4 || width = 8)
  | .remap m line _ => line < (if m = 0 then 65536 else if m = 1 then 131072 else if m = 2 then 32768 else 16384)
  | .logRecord _ _ body => body.length ≤ 1008
  | _ => true

end Sys2Proof
end

