-- ==== Sys2Proof/Tests/Slice0.lean ====
section
/-! SUPPORT. The model's own tests: ill-formed commands refused, and for each statement a state and operands that meet the
hypotheses of its clauses. -/

set_option maxRecDepth 100000

namespace Sys2Proof.Tests

open Sys2Proof.Machine

/-! ### States the tests start from -/

/-- A register or field write of a test, so that states are built in a line each. -/
def puts (s : State) (l : List (Nat × Fld × Nat)) : State := l.foldl (fun s e => s.fset e.1 e.2.1 e.2.2) s

/-- MAIN is up, and the link to Carapace too. -/
def up : State :=
  { State.reset with
    pins := { mainPwrEn := true, mainPwrGood := true }
    crp.on := true
    crp.silent := false
    crp.ackWait := false }

/-- A core that issues bundles: it holds an operand generator at 0 and one at 8. -/
def issueCore : Core1 := { logical := some 6, started := true }

/-- A job runs on core 7. -/
def busy : State :=
  { up with
    krm.job := some { phase := .running, parts := [6], phys := [7], maxContrib := 9 }
    krm.cores := [(7, issueCore)] }

/-- `busy` with formats E4M3 x E4M3, E2M1 x E2M1 and binary16 x binary16 in the format table, and a generator at 8. -/
def dotBusy : State :=
  { busy with krm.cores := [(7, { issueCore with fmtTab := [(1, 0x44), (2, 0x99)], ags := [(1, { base := 8 }), (2, { base := 127 })] })] }

/-- Data through generator 0, scales through it too. -/
def dotSrc : DpuSrc := ⟨⟨0, false⟩, ⟨0, false⟩⟩

/-- `dotBusy` in a job whose programs may contribute nothing. -/
def fullRow : State := { dotBusy with krm.job := dotBusy.krm.job.map fun j => { j with maxContrib := 0 } }

theorem witness_StepRunsFront : (⟨[.pstateEnter], up⟩ : List Instr × State).1 ≠ [] ∧
    ∃ t, step { up with pending := [.nop 0, .vnop 1] } = .next t ∧ t.pending = [.vnop 1] := ⟨by decide, _, rfl, by decide⟩

theorem witness_IdleTick : up.pending = [] := rfl

theorem witness_ResetState : ∃ p, findPage (pKRMGLOB / 0x10000) = some (p, 0) ∧ p.main = true := ⟨_, rfl, rfl⟩

theorem witness_EveryStepKeepsCanonicalForm : up.memOk = true ∧ up.regsOk = true ∧ ∃ t, step up = .next t :=
  ⟨by decide, by decide, _, rfl⟩

theorem witness_FusesOnlyRise : ∃ t, step { up with pending := [.romBoot] } = .next t := ⟨_, rfl⟩

theorem witness_UnpoweredPages : (∃ p, findPage ((0x100100#26).toNat / 0x10000) = some (p, 0) ∧ p.main = true) ∧
    State.reset.pins.mainPwrGood = false ∧ State.reset.reaches .fwl = true := ⟨⟨_, rfl, rfl⟩, rfl, rfl⟩

theorem witness_AccessMaskIsFwps : (∃ p, findPage (0x3FF#10).toNat = none ∧ findPage (0xC2#10).toNat = some (p, 0)) ∧
    up.pins.mainPwrGood = true ∧ Cls.rack ≠ .fwp ∧ up.reaches .host = true := ⟨⟨_, rfl, rfl⟩, rfl, by decide, rfl⟩

theorem witness_RegisterReads : (0x62#26 * 0x10000 + 0x108).toNat % 8 = 0 ∧
    pageUp up ((0x62#26 * 0x10000 + 0x108).toNat / 0x10000) = true ∧ loAt (0x62#26 * 0x10000 + 0x108).toNat = true ∧
    rcMask (pCLK + 0x10C) = 0xFFFFFFFF ∧ pageUp up ((0xD0010C#26).toNat / 0x10000) = true ∧ up.reaches .host = true ∧
    msixAt 0xD0010C = false ∧ loAt 0xD0010C = false := by decide
/-- A read of _HI returns the latch of the class that read _LO, and 0 to another (R58). -/
theorem test_loRead : ∃ t, exec (.loRead .host 0x620108 4) { up with ffy.counter := 0x500000007 } = .next t ∧
    readWord t .host 0x62010C = 5 ∧ readWord t .fwp 0x62010C = 0 := ⟨_, rfl, by decide⟩

theorem witness_RegisterWrites : (∃ p i r e, findPage (0xD00104 / 0x10000) = some (p, i) ∧
      findReg p.regs (0xD00104 % 0x10000) = some (r, e, 0) ∧ p.kind = .clk ∧ r.pair = false ∧ r.percls = false) ∧
    State.takes up .fwp 0xD00104 40 ∧ up.mainP.profDue = false ∧ up.mainP.silkDue = false ∧
    (∃ p i r e, findPage (0x78010C / 0x10000) = some (p, i) ∧ findReg p.regs (0x78010C % 0x10000) = some (r, e, 4) ∧
      r.pair = true ∧ r.percls = false) ∧
    State.takes { up with loShadow := [(0x780108, some 0x40000000)] } .host 0x78010C 3 := by
  refine ⟨⟨_, _, _, _, rfl, rfl, rfl, rfl, rfl⟩, ?_, rfl, rfl, ⟨_, _, _, _, rfl, rfl, rfl, rfl⟩, ?_⟩ <;>
    (unfold State.takes; decide)

theorem witness_HeaderCommands : (∃ p, findPage (0x62#10).toNat = some (p, 0) ∧ p.nosr = false ∧ p.kind = .ffy) ∧
    State.headerTakes up .host (pageBase 0x62 + 0x10) (2 + up.fget (pageBase 0x62) PAGE_CTRL_ENABLE) ∧
    (puts up [(pFFY, PAGE_CTRL_SOFT_RESET, 1)]).flag (pageBase 0x62) PAGE_CTRL_SOFT_RESET = true ∧ ¬mirrors 0x62 ∧
    pageBase 0x77 = pSLK 7 ∧ (puts up [(pSLK 7, PAGE_CTRL_SOFT_RESET, 1)]).portState 7 = 0 ∧
    State.headerTakes up .fwl (pageBase 0x62 + 0x20) 8 ∧ State.headerTakes up .fwp (pageBase 0x62 + 0x2C) 1 := by
  refine ⟨⟨_, rfl, rfl, rfl⟩, ?_, ?_, ?_, ?_, ?_, ?_, ?_⟩ <;> first | decide | (unfold State.headerTakes; decide) | (unfold mirrors; decide)

theorem witness_ModesAndLimits : State.takes up .host (pGEN + 0x104) 1 ∧
    State.takes (puts up [(pGEN, GEN_MODE_STRICT, 1)]) .host (pGEN + 0x104) (9 * 2) ∧
    State.takes up .host (pGEN + 0x104) (3 * 2 + up.fget pGEN GEN_MODE_STRICT) ∧
    (up.krm.job = none ∧ up.qw.heldR = none) ∧
    State.takes up .fwp (pCLK + 0x104) 12 := by
  refine ⟨?_, ?_, ?_, by decide, ?_⟩ <;> (unfold State.takes; decide)
/-- A limit above the fused ceiling is dropped and latches LIMIT (R31). -/
theorem test_limit : ∃ t, exec (.clkKrmLimitWrite .fwp 63) up = .next t ∧ t.fget pCLK ERR_CODE_CODE = 0x101 ∧
    t.fget pCLK CLK_KRM_LIMIT_LIMIT = 40 := ⟨_, rfl, by decide⟩

theorem witness_VectorOfTwoAndThree : State.takesSlot busy 7 := by unfold State.takesSlot; decide
/-- 1 + 1 = 2 in lane 0, landing 4 cycles after issue (R96, R114). -/
theorem test_vadd : ∃ t, exec (.vadd 7 2 0 0) { busy with krm.cores := [(7, { issueCore with vregs := [(0, { bits := 0x3F800000 })] })] } = .next t ∧
    (t.core 7).pending = [.vreg 2 { bits := 0x40000000 } 4] := ⟨_, rfl, by decide⟩

theorem witness_VectorOfOne : State.takesSlot busy 7 := by unfold State.takesSlot; decide

theorem witness_Contributions :
    State.takesSlot dotBusy 7 ∧ scaledOf ((dotBusy.core 7).fmtPair 0).1 = some .e4m3 ∧
    scaledOf ((dotBusy.core 7).fmtPair 0).2 = some .e4m3 ∧ scaledOf ((dotBusy.core 7).fmtPair 1).1 = some .e2m1 ∧
    scaledOf ((dotBusy.core 7).fmtPair 1).2 = some .e2m1 ∧ halfOf ((dotBusy.core 7).fmtPair 2).1 = some fmtF16 ∧
    halfOf ((dotBusy.core 7).fmtPair 2).2 = some fmtF16 ∧
    (dotBusy.core 7).dotAligned ⟨0, dotSrc, dotSrc, .init, 3⟩ .e4m3 1 = true ∧
    (dotBusy.core 7).dotAligned ⟨0, ⟨⟨1, false⟩, ⟨0, false⟩⟩, dotSrc, .init, 3⟩ .e4m3 1 = false ∧
    (dotBusy.core 7).dotAligned ⟨1, dotSrc, dotSrc, .add, 63⟩ .e2m1 2 = true ∧
    (dotBusy.core 7).dotAligned ⟨1, dotSrc, ⟨⟨0, false⟩, ⟨2, false⟩⟩, .add, 63⟩ .e2m1 2 = false ∧
    (dotBusy.core 7).agAddr ⟨0, false⟩ % 128 = 0 ∧ (dotBusy.core 7).agAddr ⟨1, false⟩ % 128 ≠ 0 ∧
    blockAligned ((dotBusy.core 7).agAddr ⟨2, false⟩) 64 = false := by
  unfold State.takesSlot; decide
theorem witness_Contributions_fits :
    State.fits dotBusy 7 3 .init (dotBusy.dots 7 ⟨0, dotSrc, dotSrc, .init, 3⟩ .e4m3 .e4m3 1) ∧
    State.fits dotBusy 7 63 .add (dotBusy.dots 7 ⟨1, dotSrc, dotSrc, .add, 63⟩ .e2m1 .e2m1 2) := by
  constructor <;> exact Or.inr fun j hj => by cases hj; decide
theorem witness_Contributions_group :
    State.fits dotBusy 7 3 .init (dotBusy.groupDots 7 ⟨2, dotSrc, dotSrc, .init, 3⟩ fmtF16 fmtF16) := 
  Or.inr fun j hj => by cases hj; decide
theorem witness_Contributions_count :
    ¬State.fits fullRow 7 0 .add ((fullRow.lanes 7 0).map fun a => [laneContrib a]) ∧
    ¬State.fits fullRow 7 3 .init (fullRow.dots 7 ⟨0, dotSrc, dotSrc, .init, 3⟩ .e4m3 .e4m3 1) ∧
    ¬State.fits fullRow 7 3 .init (fullRow.dots 7 ⟨1, dotSrc, dotSrc, .init, 3⟩ .e2m1 .e2m1 2) ∧
    ¬State.fits fullRow 7 3 .init (fullRow.groupDots 7 ⟨2, dotSrc, dotSrc, .init, 3⟩ fmtF16 fmtF16) := by
  refine ⟨?_, ?_, ?_, ?_⟩ <;>
    exact fun h => h.elim (by decide) fun h => absurd (h _ rfl) (by decide)
theorem test_look_none : State.look dotBusy 7 [] ((dotBusy.core 7).groupRanges ⟨2, dotSrc, dotSrc, .init, 3⟩) = dotBusy := by rfl

theorem witness_SlotEncodings : slotOf (.vquant 3 31 4 .e5m2 true) = some (3, 1) ∧ Slots.fit ⟨255, 65535, 0, 4095, 0, 0, 65535⟩ := by
  unfold Slots.fit; decide
/-- The example bundle of R501. -/
theorem test_bundle : decodeBundle 0 0x2444C051808500000000000000000000 =
    some [.dot 0 ⟨1, ⟨⟨0, true⟩, ⟨1, true⟩⟩, ⟨⟨2, false⟩, ⟨3, false⟩⟩, .add, 5⟩ [], .vnop 0, .mnop 0, .snop 0] := by decide

theorem witness_LoadsAndStores : State.takesSlot dotBusy 7 ∧ (dotBusy.core 7).agAddr ⟨0, true⟩ % 128 = 0 ∧
    (dotBusy.core 7).agAddr ⟨1, false⟩ % 128 ≠ 0 ∧ (dotBusy.core 7).agAddr ⟨2, false⟩ % 64 ≠ 0 ∧
    blockAligned ((dotBusy.core 7).agAddr ⟨1, false⟩) (scaledBytes .e5m2) = true ∧
    blockAligned ((dotBusy.core 7).agAddr ⟨2, false⟩) (scaledBytes .e2m1) = false := by
  unfold State.takesSlot; decide
/-- STV notes lane 0 little-endian at the generator's address (R113, R120). -/
theorem test_stv : ∃ t, exec (.stv 7 0 ⟨0, false⟩)
      { busy with krm.cores := [(7, { issueCore with vregs := [(0, { bits := 0x11223344 })] })] } = .next t ∧
    (t.core 7).stores.map (fun x => x.bytes.take 4) = [[0x44, 0x33, 0x22, 0x11]] := ⟨_, rfl, by decide⟩

theorem witness_OtherMoves : State.takesSlot busy 7 ∧ ∃ j, busy.krm.job = some j := by
  unfold State.takesSlot; exact ⟨by decide, _, rfl⟩

/-- `busy` with a bundle of noted effects and an open loop. -/
def closing : State := { busy with krm.cores := [(7, { issueCore with
  pending := [.vreg 3 { bits := 9 } 4], loops := [⟨5, 1⟩], setags := [(1, 2)], dmaIssue := [3], redIssue := [4] })] }
/-- `busy` with one store of a bundle: a whole block, or one byte. -/
def storing (n : Bool) : State := { busy with krm.cores := [(7, { issueCore with
  stores := [⟨8, if n then [5] else [1, 2, 3, 4, 5, 6, 7, 8], true, n⟩], steps := [1], pending := [.readout 1 2] })] }
/-- `busy` with tag 2 in transfer. -/
def tagBusy : State := { busy with krm.cores := [(7, { issueCore with pending := [.acc 1 {} 6], tags := [(2, { busy := true })] })] }
/-- `busy` with core 8 at the chip barrier 3 as logical core 7. -/
def barWaits : State := { busy with
  krm.job := busy.krm.job.map fun j => { j with parts := [6, 7], phys := [7, 8] }
  krm.cores := [(7, issueCore), (8, { issueCore with logical := some 7, waitBar := some (true, 3) })] }
theorem witness_BundlesClose : State.closes closing 7 ∧ (closing.core 7).pending = [.vreg 3 { bits := 9 } 4] ∧
    (closing.core 7).stores = [] ∧ (closing.core 7).loops = [⟨5, 1⟩] ∧ (Tab.get (closing.core 7).tags 2 {}).busy = false ∧
    (∃ j, closing.krm.job = some j ∧ j.parts.head? = (closing.core 7).logical) ∧ (closing.core 7).logical = some 6 ∧
    State.closes tagBusy 7 ∧ (Tab.get (tagBusy.core 7).tags 2 {}).busy = true ∧
    (Tab.get (tagBusy.core 7).tags 15 {}).busy = false := by
  unfold State.closes
  refine ⟨by decide, rfl, rfl, rfl, rfl, ⟨_, rfl, rfl⟩, rfl, by decide, rfl, rfl⟩
theorem witness_BundlesClose_stores : State.closes (storing true) 7 ∧ State.closes (storing false) 7 ∧ blockAligned 8 8 = true ∧
    ((storing false).core 7).stores = [⟨8, [1, 2, 3, 4, 5, 6, 7, 8], true, false⟩] := by
  unfold State.closes; refine ⟨by decide, by decide, by decide, rfl⟩
theorem witness_BundlesClose_barriers : State.closes barWaits 7 ∧ (barWaits.core 7).logical = some 6 ∧
    (∃ j, barWaits.krm.job = some j ∧ (7, 8) ∈ j.inScope true 0) ∧ (barWaits.core 8).waitBar = some (true, 3) := by
  unfold State.closes; exact ⟨by decide, rfl, ⟨_, rfl, by decide⟩, rfl⟩
/-- A narrow store as SNOP closes the bundle: the byte is written and its block is stale (R182). -/
theorem test_narrow : ∃ t, exec (.snop 7) (storing true) = .next t ∧ t.byteAt (sramAddr 7 8) = 5 ∧
    t.stale = [sramAddr 7 8] := ⟨_, rfl, by decide, by decide⟩

/-- `busy` before its core starts; and with core 7 at a chip barrier. -/
def unstarted : State := { busy with krm.cores := [(7, { issueCore with started := false })] }
def atBarrier : State := { busy with krm.cores := [(7, { issueCore with waitBar := some (true, 3), now := 40 })] }
/-- A transfer of one line from offset 0 to offset 0x1000 of core 7's own SRAM. -/
def moving : State := puts { busy with krm.cores := [(7, { issueCore with tags :=
  [(1, { busy := true, desc := BitVec.ofNat 256 (0x3F * 2 ^ 56 + (0x3F * 2 ^ 56 + 0x1000) * 2 ^ 64 + 64 * 2 ^ 128 + 2 ^ 160) })] })] }
  [(pKRMCORE 7, KCORE_STAT_PSTATE, 0)]
/-- A reduction of row 5 of logical core 6, into itself, complete. -/
def reducing : State := { busy with krm.job := busy.krm.job.map fun j =>
  { j with redTab := [(2, BitVec.ofNat 64 (2 ^ 6 + 5 * 2 ^ 32 + 6 * 2 ^ 39))], reds := [⟨2, [(6, {}, 30)]⟩] } }
theorem witness_CoresTogether : (∃ j, unstarted.krm.job = some j ∧ j.phase = .running) ∧
    (unstarted.core 7).logical = some 6 ∧ (unstarted.core 7).started = false ∧ (unstarted.core 7).retired = false ∧
    (∃ j, atBarrier.krm.job = some j ∧ barrierIdent atBarrier true (j.inScope true 0) = some 3 ∧
      ((j.inScope true 0).map (·.2)).Nodup) ∧
    (∃ j, moving.krm.job = some j ∧ (dmaLine j 7 (Tab.get (moving.core 7).tags 1 {}).desc 0) = (sramAddr 7 0, sramAddr 7 0x1000) ∧
      moving.reachable (sramAddr 7 0) = true ∧ moving.reachable (sramAddr 7 0x1000) = true) ∧
    (moving.core 7).held = none ∧ (Tab.get (moving.core 7).tags 1 {}).busy = true ∧ moving.qw.watch = [] ∧
    descRows (Tab.get (moving.core 7).tags 1 {}).desc = 1 ∧ descRowBytes (Tab.get (moving.core 7).tags 1 {}).desc = 64 ∧
    (∃ j d, reducing.krm.job = some j ∧ takeRed 2 (Tab.get j.redTab 2 0) j.reds = some (d, []) ∧
      j.physOf (redRoot (Tab.get j.redTab 2 0)) = some 7 ∧
      ∀ a ∈ (reduceRows ((reducing.core 7).accRow 5) j.fastOk
        ((List.range 32).filterMap fun l => (d.got.find? (·.1 = l)).map (·.2.1))).1.accs, a.2.count ≤ j.maxContrib) ∧
    busy.jobRunning = true ∧ (puts busy [(pKRMGLOB, KG_WDOG, 4)]).fget pKRMGLOB KG_WDOG ≠ 0 := by
  refine ⟨⟨_, rfl, rfl⟩, rfl, rfl, rfl, ⟨_, rfl, by decide, by decide⟩, ⟨_, rfl, by decide, by decide, by decide⟩, rfl, by decide, rfl,
    by decide, by decide, ⟨_, _, rfl, rfl, by decide, by decide⟩, by decide, by decide⟩

def subbed : State := { up with hr.lost := false, krm.hostQ := [{ addr := 0x1000 }] }
/-- Kermes with a job in a phase on core 7, its core in K0. -/
def jobIn (ph : JobPhase) : State :=
  puts { up with krm.job := some { phase := ph, parts := [6], phys := [7] } } [(pKRMCORE 7, KCORE_STAT_PSTATE, 0)]
/-- A loaded job whose tick has passed under LATE_POLICY 1; and one whose tick lies ahead. -/
def lateJob : State :=
  puts { jobIn .loaded with
    krm.job := some { phase := .loaded, parts := [6], phys := [7], sub := { tick := 4 } }
    ffy.counter := 9 } [(pKRMGLOB, KG_CTRL_LATE_POLICY, 1), (pFFY, FFY_STAT_VALID, 1)]
def earlyJob : State := { lateJob with ffy.counter := 2 }
theorem witness_JobsSubmittedAndLoaded : State.takes up .host (pKRMGLOB + 0x13C) 1 ∧ up.krm.hostQ.length < 16 ∧
    State.takes { up with krm.hostQ := List.replicate 16 {} } .host (pKRMGLOB + 0x13C) 1 ∧
    (subbed.krm.job = none ∧ subbed.flag pKRMGLOB KG_CTRL_QHOLD = false ∧ subbed.hr.lost = false ∧ subbed.cringFull = false ∧
      subbed.modeBits = subbed.krm.mode ∧ (subbed.takeNext.map (·.1)) = some { addr := 0x1000 }) ∧
    (∃ j, (jobIn .loading).krm.job = some j ∧ j.phase = .loading ∧ (jobIn .loading).tickPassed j = false) ∧
    (∃ j, (jobIn .loaded).krm.job = some j ∧ j.phase = .loaded ∧ (jobIn .loaded).launchWaits j = false ∧ (jobIn .loaded).tickPassed j = false ∧
      (∀ c ∈ j.phys, (jobIn .loaded).fget (pKRMCORE c) KCORE_STAT_PSTATE ≠ 3)) ∧
    (∃ j, lateJob.krm.job = some j ∧ j.phase = .loaded ∧ lateJob.launchWaits j = false ∧ lateJob.tickPassed j = true ∧ j.late = false ∧
      lateJob.flag pKRMGLOB KG_CTRL_LATE_POLICY = true) ∧
    (∃ j, earlyJob.krm.job = some j ∧ j.phase = .loaded ∧ j.sub.tick ≠ 0 ∧ earlyJob.tick.toNat < j.sub.tick.toNat) := by
  unfold State.takes
  refine ⟨by decide, by decide, by decide, by decide, ⟨_, rfl, rfl, by decide⟩, ⟨_, rfl, rfl, by decide, by decide, by decide⟩,
    ⟨_, rfl, rfl, by decide, by decide, rfl, by decide⟩, ⟨_, rfl, rfl, by decide, by decide⟩⟩

theorem witness_JobsEnd : State.takes (jobIn .running) .host (pKRMGLOB + 0x100) (((jobIn .running).rd (pKRMGLOB + 0x100)).toNat / 2 * 2 + 1) ∧
    State.takes up .fwp (pKRMCORE 35 + 0x100) 4 ∧
    (∃ j, (jobIn .ended).krm.job = some j ∧ j.phase = .ended ∧ j.sub.witness = false ∧ j.digest = false) ∧
    (jobIn .ended).krm.lastDone = none ∧ (jobIn .ended).cringFull = false ∧ (jobIn .ended).qw.watch = [] ∧
    (jobIn .ended).reachable ((jobIn .ended).pget pKRMGLOB KG_CRING_BASE + 64 * ((jobIn .ended).fget pKRMGLOB KG_CRING_WR % (jobIn .ended).cringSize)) = true ∧
    up.flag pKRMGLOB KG_STAT_WAKING = false ∧ up.inService 35 = true ∧ (up.core 35).logical = none ∧
    0 ∈ up.wakeSet ∧ up.fget (pKRMCORE 0) KCORE_STAT_PSTATE ≠ 0 ∧
    (puts up [(pKRMGLOB, KG_STAT_WAKING, 1)]).flag pKRMGLOB KG_STAT_WAKING = true ∧
    (∀ c ∈ up.wakeSet, up.flag (pKRMCORE c) KCORE_STAT_SHUTTING = false) := by
  unfold State.takes
  refine ⟨by decide, by decide, ⟨_, rfl, rfl, rfl, rfl⟩, rfl, by decide, rfl, by decide, by decide, by decide, rfl, by decide, by decide, by decide,
    by decide⟩

/-- Core 3 is fenced, with no spare in its quadrant. -/
def fenced : State := puts up [(pKRMCORE 3, PAGE_STAT_FENCED, 1), (quadPage 3, KQ_SPARE_SPARE, 15)]
theorem witness_FencesAndSpares : State.takes up .fwp (pKRMCORE 3 + 0x100) 1 ∧
    up.flag (pKRMCORE 3) PAGE_STAT_FENCED = false ∧ State.takes fenced .fwp (pKRMCORE 3 + 0x100) 2 ∧
    fenced.flag (pKRMCORE 3) PAGE_STAT_FENCED = true ∧ fenced.fget (quadPage 3) KQ_SPARE_SPARE = 0xF ∧
    State.takes up .fwp (pKRMCORE 3 + 0x100) 2 ∧ up.fget (quadPage 3) KQ_SPARE_SPARE ≠ 0xF ∧ fenced.flag (pKRMCORE 3) KCORE_STAT_SHUTTING = false ∧
    (puts fenced [(pKRMCORE 3, KCORE_STAT_SHUTTING, 1)]).flag (pKRMCORE 3) KCORE_STAT_SHUTTING = true ∧
    State.takes (puts up [(pKRMQUAD 3, mapSlot 7, 15)]) .fwp (pKRMQUAD 3 + 0x104) (8 + 7) ∧
    (puts up [(pKRMQUAD 3, mapSlot 7, 15)]).fget (pKRMQUAD 3) (mapSlot 7) = 15 ∧
    up.fget (pKRMQUAD 3) KQ_SPARE_SPARE = 8 ∧ up.flag (pKRMQUAD 3) KQ_SPARE_BUSY = false ∧
    up.flag (pKRMCORE 35) KCORE_STAT_SHUTTING = false ∧
    State.core { up with krm.cores := [(35, { selftest := some (.spare 7) })] } 35 = { selftest := some (.spare 7) } ∧
    State.core { up with krm.cores := [(3, { selftest := some .unfence })] } 3 = { selftest := some .unfence } := by
  unfold State.takes; decide
/-- A fence of the spare core clears SPARE (R157, R161). -/
theorem test_fence : ∃ t, exec (.fence .fwp 35) up = .next t ∧ t.fget (quadPage 35) KQ_SPARE_SPARE = 15 ∧
    t.fget (pKRMCORE 35) KCORE_FCAUSE_CAUSE = 1 := ⟨_, rfl, by decide⟩

/-- Bank 15 of core 35 in K0 with the queues given. -/
def bankWith (b : BankState) : State :=
  puts { up with krm.cores := [(35, { banks := [(15, b)] })] } [(pKRMCORE 35, KCORE_STAT_PSTATE, 0)]
theorem witness_StoredDataIntegrity : (bankWith {}).fget (pKRMCORE 35) KCORE_STAT_PSTATE < 2 ∧
    (bankWith {}).pins.mainPwrGood = true ∧ ((bankWith { writeBacks := [7] }).bank 35 15).writeBacks = [7] ∧
    ((bankWith { stale := [⟨7, 1, 0⟩] }).bank 35 15).stale = [⟨7, 1, 0⟩] ∧ ((bankWith {}).bank 35 15) = {} ∧
    (puts (bankWith {}) [(pINT, INT_CTRL_SRAM_SCRUB, 1)]).flag pINT INT_CTRL_SRAM_SCRUB = true ∧
    inBulk ((0x400000000#42).toNat * 64) = true ∧ inNear ((0x17FFFFFFF#42).toNat * 64) = true ∧
    (puts up [(pINT, INT_CTRL_BK_PATROL, 1)]).flag pINT INT_CTRL_BK_PATROL = true ∧
    up.pget (chanPage (.bulk 23)) TC_PATROL + 64 < chanBytes ∧ up.flag (chanPage (.bulk 23)) PAGE_STAT_READY = false ∧
    State.takes up .fwp (chanPage (.near 5) + 0x100) 1 ∧ up.flag (chanPage (.near 5)) PAGE_STAT_FENCED = false ∧
    (puts up [(pINT, INT_CTRL_AUTO_SPARE, 1)]).flag pINT INT_CTRL_AUTO_SPARE = true ∧ up.krm.job = none ∧
    9 ∈ ((bankWith { candidates := [9], sparesUsed := 7 }).bank 35 15).candidates ∧
    (3, 5) ∉ up.integ.remaps ∧ up.fget pINT (remapUsed 3) < 16 ∧ (3, 5) ∉ up.integ.ceLines := by
  unfold State.takes; decide

/-- A locked counter; as a follower whose last slots were empty. -/
def locked : State := puts up [(pFFY, FFY_STAT_LOCKED, 1), (pFFY, FFY_STAT_VALID, 1), (pFFY, FFY_CTRL_TSYNC_EN, 1)]
def follower : State := { locked with ffy.role := true, ffy.everAccepted := true, ffy.silent := 32, ffy.counter := 24 }
/-- The frame of R218's example. -/
def exampleFrame : SyncFrame := ⟨0x3B9ACC18, 1, 0xB3, 0⟩
theorem witness_FireflyFrames : State.takes up .host (pFFY + 0x118) 1 ∧ locked.flag pFFY FFY_STAT_LOCKED = true ∧
    (puts locked [(pFFY, FFY_CTRL_OUT_EN, 1)]).flag pFFY FFY_CTRL_OUT_EN = true ∧
    (puts locked [(pFFY, FFY_CTRL_OUT_EN, 1)]).flag pFFY FFY_STAT_CAL_BUSY = false ∧
    locked.flag pFFY FFY_CTRL_ROLE = false ∧ follower.ffy.role = true ∧ follower.flag pFFY FFY_STAT_LOCKED = true ∧
    follower.ffy.inPosition 7 = true ∧ follower.flag pFFY FFY_STAT_HOLDOVER = false ∧ follower.ffy.everAccepted = true ∧
    follower.ffy.heard = false ∧ 32 ≤ follower.ffy.silent ∧
    (puts follower [(pFFY, FFY_CTRL_ROLE, 1)]).flag pFFY FFY_CTRL_ROLE = true ∧
    locked.flag pFFY FFY_STAT_VALID = true ∧ locked.flag pFFY FFY_CTRL_TSYNC_EN = true := by unfold State.takes; decide
theorem witness_FireflyFrames_received : receive exampleFrame.line = some (exampleFrame, true) ∧
    receive ((exampleFrame.line.take 1023).concat false) = some (exampleFrame, true) ∧
    ((receive ((exampleFrame.line.take 1018) ++ List.replicate 6 true)).map (·.2)) = some false := by decide
/-- The slot at tick 1,500 goes on to tick 2,048 and announces itself (R213). -/
theorem test_frameSlot : ∃ t, exec (.frameSlot none) { locked with ffy.counter := 1500 } = .next t ∧ t.ffy.counter = 2048 :=
  ⟨_, rfl, by decide⟩
/-- R218's example: the counter reads 1,000,000,537.125 at the edge, an offset of 9 eighths, and slews to 7. -/
theorem test_example : ({ counter := 1000000537, phase := 1 } : Ffy).ahead exampleFrame.tick 0 = 9 ∧
    (({ counter := 1000000537, phase := 1 } : Ffy).slewBy (-2)).ahead exampleFrame.tick 0 = 7 := by decide

/-- A calibration in the second slot of a pair. -/
def echoing : State := puts { locked with ffy.echoNext := true } [(pFFY, FFY_STAT_CAL_BUSY, 1), (pFFY, FFY_CTRL_OUT_EN, 1)]
theorem witness_FireflyCalibrationAndLock :
    State.takes (puts up [(pFFY, FFY_CTRL_OUT_EN, 1)]) .fwl (pFFY + 0x100) (Nat.lor ((puts up [(pFFY, FFY_CTRL_OUT_EN, 1)]).rd (pFFY + 0x100)).toNat 8) ∧
    (puts up [(pFFY, FFY_CTRL_OUT_EN, 1)]).flag pFFY FFY_CTRL_OUT_EN = true ∧ up.flag pFFY FFY_STAT_CAL_BUSY = false ∧
    State.takes (puts up [(pFFY, FFY_CTRL_OUT_EN, 0)]) .fwl (pFFY + 0x100) (Nat.lor ((puts up [(pFFY, FFY_CTRL_OUT_EN, 0)]).rd (pFFY + 0x100)).toNat 8) ∧
    (puts up [(pFFY, FFY_CTRL_OUT_EN, 0)]).flag pFFY FFY_CTRL_OUT_EN = false ∧
    echoing.flag pFFY FFY_STAT_LOCKED = true ∧ echoing.flag pFFY FFY_STAT_CAL_BUSY = true ∧
    echoing.flag pFFY FFY_CTRL_OUT_EN = true ∧ echoing.ffy.echoServe = false ∧ echoing.ffy.echoNext = true ∧
    (puts { up with ffy.echoPairs := 64 } [(pFFY, FFY_STAT_CAL_BUSY, 1)]).flag pFFY FFY_STAT_CAL_BUSY = true ∧
    locked.flag pFFY FFY_STAT_LOCKED = true ∧ up.flag pFFY FFY_STAT_LOCKED = false := by unfold State.takes; decide

/-- Queue 5 enabled with 16 entries at the top of the index space; and a doorbell to it. -/
def queued : State := { up with qw.queues := [(5, { enabled := true, log2s := 4, prod := 0xFFFE, vdone := 0xFFFE, disp := 0xFFFE, vack := 0xFFFA, producer := 8, ring := 0x10000000000, vring := 0x10000100000 })] }
def bell (op index : Nat) : Doorbell := ⟨5, true, BitVec.ofNat 64 (5 * 2 ^ 32 + op * 2 ^ 16 + index)⟩
/-- A valid context of queue 5 in memory. -/
def withCtx : State := up.putBytes 0x140 ([0, 63, 4, 8] ++ List.replicate 4 0 ++ natLe 8 0x10000000000 ++ natLe 8 0x10000100000)
theorem witness_Doorbells : State.rings queued (bell 0 0xA) 0 ∧ (queued.queue (bell 0 0xA).q.toNat).enabled = true ∧
    (doorbellIndex (bell 0 0xA) - (queued.queue 5).vack).toNat = 2 ^ (queued.queue 5).log2s ∧
    State.rings queued (bell 1 0xFFFE) 1 ∧ State.rings withCtx (bell 2 0) 2 ∧ (withCtx.queue 5).enabled = false ∧
    (withCtx.fabRead (withCtx.pget pQMG QMG_CTX_BASE + 64 * 5) 64).2.1 = false ∧
    ctxOk (withCtx.fabRead (withCtx.pget pQMG QMG_CTX_BASE + 64 * 5) 64).1 = true ∧ State.rings queued (bell 3 0) 3 ∧
    State.rings queued (bell 4 0xFFFF) 4 ∧ State.rings queued (bell 4 0xFFFE) 4 ∧
    (State.queue { queued with qw.queues := [(5, { enabled := true, disabling := true })] } 5).disabling = true ∧
    State.reset.hostPort = false ∧ up.hostPort = true ∧ State.rings queued (bell 7 0) 7 ∧ State.rings up (bell 1 0) 1 ∧ (up.queue 5).enabled = false ∧
    State.rings queued (bell 2 0) 2 ∧ State.rings up (bell 0 0) 0 ∧
    (⟨4, true, (bell 0 0).value⟩ : Doorbell).value.toNat / 2 ^ 32 % 2 ^ 20 ≠ 4 ∧ (puts up [(pHST, HST_LINK_UP, 1)]).flag pHST HST_LINK_UP = true ∧ up.hr.d3hot = false ∧
    queued.doorbellWord 40 8 = 0xFFFAFFFEFFFEFFFE := by unfold State.rings; decide

/-- A receipt of slot 0 with no input; and a full pending list. -/
def receipt : WitReceipt := { queue := 5, bytes := [1] ++ List.replicate 0x1F 0 ++ natLe 8 0x100 ++ List.replicate 0x58 0, inAddr := 0x100, epoch := 0, strict := false }
def fullList : State := { up with qw.pendList := List.replicate 4096 receipt }
/-- `queued` with one receipt to dispatch, and dispatch on; then noted. -/
def toDispatch : State := puts { queued with qw.queues := [(5, { (queued.queue 5) with prod := 0xFFFF })] } [(pQMG, QMG_CTRL_DISPATCH, 1)]
def noted : State := { toDispatch with qw.queues := [(5, { (toDispatch.queue 5) with noted := 1 })], qw.inPass := true }
theorem witness_DispatchAndSlots : toDispatch.flag pQMG QMG_CTRL_DISPATCH = true ∧ toDispatch.passNext = none ∧
    toDispatch.qw.heldR = none ∧ noted.passNext = some (5#20).toNat ∧ State.takes up .host (pWIT + 0x138) 1 ∧
    (noted.fabRead (noted.oldestAt 5) 128).2.1 = false ∧
    State.selected (puts noted [(pWIT, WIT_CTRL_EN, 1)]) true 63 5 0 = true ∧
    State.takes up .host (pWIT + 0x110) (0x100 + 255) ∧ up.qw.hashing = none ∧ up.slotState 255 = 0 ∧
    State.takes up .host (pWIT + 0x110) (0x200 + 255) ∧ (up.putBytes (up.slotAddr 255) [2]).slotState 255 ≠ 0 ∧
    (up.putBytes (up.slotAddr 255) [3]).slotState 255 = 3 ∧ up.noUpsets ∧ up.registers 255 = false ∧
    fullList.qw.pendList.length = 4096 := by
  unfold State.takes State.noUpsets; refine ⟨?_, ?_, ?_, ?_, ?_, ?_, ?_, ?_, ?_, ?_, ?_, ?_, ?_, ?_, ?_, List.length_replicate⟩ <;> decide

/-- The receipt at the head of the list, its slot VALID. -/
def pendingR : State := { (up.putBytes (up.slotAddr 0) [2]) with qw.pendList := [receipt] }
def judged : State := { up with
  krm.lastDone := some { sub := { witness := true }, phase := .ended, digDone := true, outputDigest := List.replicate 32 0 }
  qw.inKermes := [receipt] }
/-- An entry at 0x10000000000 whose digest holds. -/
def entryAt : State :=
  let head : List Byte := natLe 4 0xC0 ++ [1] ++ List.replicate 27 0
  let s := up.pset pWIT WIT_RPL_ENTRY 0x10000000000
  s.putBytes 0x10000000000 (head ++ shake256 (ascii "FX9-JENT" ++ head ++ List.replicate 0x80 0))
def replaying : State := { up with qw.replays := [{ port := 7, tag := 3, receipt := receipt, sent := true }] }
theorem witness_ReExecution : pendingR.waiting = [receipt] ∧ pendingR.gov.yield = false ∧
    pendingR.receiptCheck receipt = 0 ∧ pendingR.qw.hashing = none ∧ pendingR.qw.inKermes = [] ∧
    pendingR.fabPoison receipt.inAddr (fieldLe receipt.bytes 0x1C 4) = false ∧ up.receiptCheck receipt = 1 ∧
    (judged.krm.lastDone.map (·.digDone)) = some true ∧ slice receipt.bytes 0x40 32 = List.replicate 32 0 ∧
    State.takes up .host (pWIT + 0x1A0) (16 + 8) ∧ State.takes up .host (pWIT + 0x1A0) (16 + 15) ∧ up.rplFull = false ∧
    State.rplFull (puts up [(pWIT, WIT_RPL_WR, 2 ^ up.fget pWIT WIT_RPL_CTRL_LOG2_ENTRIES)]) = true ∧ up.entryOk 0 = false ∧
    entryAt.fabPoison (entryAt.pget pWIT WIT_RPL_ENTRY) 0xC0 = false ∧
    (∀ y ∈ replaying.qw.replays, replaying.replayUnsent y = false) := by unfold State.takes; decide
theorem witness_ReplayEntry : entryAt.entryOk (entryAt.pget pWIT WIT_RPL_ENTRY) = true ∧ entryAt.portUp 7 = false ∧
    (puts entryAt [(pSLK 7, SLK_STAT_STATE, 5)]).portUp 7 = true := by decide

/-- The ledger core runs, with a closed batch of one leaf. -/
def ledger : State := puts { up with dgt.closed := [{ leaves := [[1]] }] } [(pFWC, FWC_CORE_STAT_STATE.nth 3 0x40, 2)]
def digested : State := puts { up with krm.lastDone := some { digest := true, phase := .ended } } [(pDGT, DGT_CTRL_BATCH_EN, 1)]
theorem witness_DigestsAndBatches : (∃ j, digested.krm.lastDone = some j ∧ j.status = 0 ∧ j.digest = true ∧
      j.digDone = false ∧ j.sub.witness = false ∧ j.digPoison = false ∧ digested.rangePoison (imageRanges j 3) = false ∧
      State.rangePoison { up with poison := [0x10000000000] } [(0x10000000000, 64)] = true) ∧
    digested.flag pDGT DGT_CTRL_BATCH_EN = true ∧ up.ringFull = false ∧
    State.ringFull (puts up [(pDGT, DGT_RING_WR, 2 ^ up.fget pDGT DGT_RING_CTRL_LOG2_ENTRIES)]) = true ∧
    (puts up [(pDGT, DGT_BATCH_TIMEOUT, 1)]).fget pDGT DGT_BATCH_TIMEOUT ≠ 0 ∧ State.takes up .host (pDGT + 0x120) 1 ∧
    ledger.ledgerRuns = true ∧ ledger.flag pDGT DGT_STAT_KEY_EXHAUSTED = false ∧ ledger.dgt.closed = [{ leaves := [[1]] }] ∧
    ledger.pget pDGT DGT_KEY_IDX < keyTotal ∧
    State.pget (ledger.pset pDGT DGT_KEY_IDX (2 ^ 40 - 1)) pDGT DGT_KEY_IDX + 1 = keyTotal ∧ ledger.bringFull = false ∧
    ledger.pins.mainPwrGood = true := by
  unfold State.takes
  refine ⟨⟨_, rfl, rfl, rfl, rfl, rfl, rfl, by decide, by decide⟩, by decide⟩
/-- A committed end is read back; an erased mirror has none, and the index resumes past the next fuse. -/
theorem test_mirror : (State.reset.putKeyMirror 0x1000).keyMirror = some 0x1000 ∧ State.reset.keyMirror = none ∧
    State.reset.resumeKey.pget pDGT DGT_KEY_IDX = 2 ^ 30 ∧ State.reset.resumeKey.fuses.keyCtr = 1 := by decide

/-- A journal of four slots whose ring lies at the start of the bulk tier, off; and on with slot 1 open. -/
def jrnOff : State := puts (up.pset pJRN JRN_BASE 0x10000000000) [(pJRN, JRN_SEGS, 4)]
def jrnOpen : State := puts { jrnOff with jrn.isOpen := true, jrn.used := 0x80, jrn.firstRise := false } [(pJRN, JRN_CTRL_EN, 1), (pJRN, JRN_OPEN, 1)]
theorem witness_JournalOpensAndSeals : State.takes jrnOff .host (pJRN + 0x100) 1 ∧ jrnOff.jrnOn = false ∧
    jrnOff.jrn.sealPend = jrnOff.jrn.isOpen ∧ jrnOff.jrn.firstRise = true ∧
    State.takes { jrnOff with jrn.relaid := true, jrn.firstRise := false } .host (pJRN + 0x100) 1 ∧
    State.nextSeg { jrnOff with jrn.pins := [1] } = some 2 ∧ State.nextSeg { jrnOff with jrn.pins := [0, 1, 2, 3] } = none ∧
    State.takes jrnOpen .host (pJRN + 0x100) 0 ∧ jrnOpen.jrnOn = true ∧ jrnOpen.noUpsets ∧ jrnOpen.qw.watch = [] ∧
    jrnOpen.reachable (jrnOpen.segAddr 1) = true ∧
    (∃ t, exec (.journalDisable .host) jrnOpen = .next t ∧ t.jrn.sealPend = true ∧ t.jrn.isOpen = true) := by
  unfold State.takes State.noUpsets
  refine ⟨by decide, by decide, by decide, by decide, by decide, by decide, by decide, by decide, by decide, by decide, by decide, by decide, _, rfl, by decide⟩

/-- Slot 3 sealed; slot 1 open, or with a pending pin. -/
def jrnSealed : State := jrnOpen.putBytes (0x10000000000 + 3 * segSize + 6) [2]
def jrnPend : State := puts jrnOpen [(pJRN, JRN_STAT_PIN_PEND, 1)]
theorem witness_PinsOfTheJournal : State.takes jrnSealed .host (pJRN + 0x120) (0x10000 + 3) ∧
    3 < jrnSealed.fget pJRN JRN_SEGS ∧ jrnSealed.qw.watch = [] ∧ jrnSealed.noUpsets ∧ jrnSealed.segOpen ≠ 3 ∧ 3 ∉ jrnSealed.jrn.pins ∧
    jrnSealed.fabByte (jrnSealed.segAddr 3 + 6) = 2 ∧ jrnOpen.segOpen = 1 ∧ jrnOpen.jrn.isOpen = true ∧
    State.takes jrnOpen .host (pJRN + 0x120) (0x10000 + 1) ∧ jrnOpen.flag pJRN JRN_STAT_PIN_PEND = false ∧
    jrnPend.flag pJRN JRN_STAT_PIN_PEND = true ∧ jrnPend.pinPends 1 ∧ ¬jrnPend.pinPends 3 ∧ jrnPend.fget pJRN ERR_CODE_CODE = 0 ∧
    State.takes jrnPend .host (pJRN + 0x120) (0x20000 + 1) ∧ State.takes jrnOpen .host (pJRN + 0x120) (0x20000 + 3) := by
  unfold State.takes State.noUpsets State.pinPends; decide

/-- Pair 3 runs with checkpoint 5 of member Y waiting. -/
def lockstep (dv : Bool) : State :=
  puts { up with lks := [(3, { bufY := [{ k := 5, tile := 9 }], diverged := dv })] }
    [(pLKS, lksFld LKS_STAT_STATE 3, 1), (pLKS, lksFld LKS_CFG_EN 3, 1), (pLKS, lksFld LKS_CFG_MEMBER_X 3, 2), (pLKS, lksFld LKS_CFG_MEMBER_Y 3, 1), (pLKS, LKS_TIMEOUT, 1000)]
theorem witness_LockstepPairs : State.takes up .host (pLKS + 0x140 + 0x40 * 3) 0x121 ∧
    up.flag pLKS (lksFld LKS_CFG_EN 3) = false ∧ (lksFld LKS_CFG_EN 3).get 0x121 = 1 ∧
    State.takes (lockstep false) .host (pLKS + 0x140 + 0x40 * 3) 0x120 ∧ (lockstep false).flag pLKS (lksFld LKS_CFG_EN 3) = true ∧
    ((lockstep false).pair 3).oldest = some (true, { k := 5, tile := 9 }) ∧ (lockstep false).fget pLKS LKS_TIMEOUT ≠ 0 ∧
    (lockstep true).lksState 3 = 1 ∧ ((lockstep true).pair 3).diverged = true := by unfold State.takes; decide

/-- Port `p` is UP with credits; a unit to it. -/
def upPort (p : Nat) : State :=
  puts { up with slk := [(p, { inL0 := true, cred := [4, 4, 4, 32, 18] })] } [(pSLK p, SLK_STAT_STATE, 5), (pSLK p, SLK_CTRL_EN, 1)]
def unitOf (typ len arg : Nat) (pl : List Byte) : SilkUnit :=
  { typ := BitVec.ofNat 8 typ, flags := 0, len := BitVec.ofNat 16 len, tag := 7, pmask := 0, rsv := 0, arg := BitVec.ofNat 64 arg, payload := pl }
/-- The window of port 7 is the first page of the bulk tier. -/
def windowed : State := ((upPort 7).pset (pSLK 7) SLK_WIN_BASE 0x10000000000).pset (pSLK 7) SLK_WIN_SIZE 0x1000
def rcptQ (pr : Nat) : State := { upPort 7 with qw.queues := [(0xFFFFF, { enabled := true, producer := pr, ring := 0x10000000000 })] }
/-- Port 7 is member X of running pair 3, whose member Y has sent checkpoint 0. -/
def paired (b : List Checkpoint) : State :=
  puts { upPort 7 with lks := [(3, { bufY := b, nextY := BitVec.ofNat 64 b.length })] }
    [(pLKS, lksFld LKS_CFG_EN 3, 1), (pLKS, lksFld LKS_CFG_MEMBER_X 3, 7), (pLKS, lksFld LKS_STAT_STATE 3, 1)]
def ck0 (s : State) : Checkpoint := { tile := BitVec.ofNat 64 (s.lksTile 3 0), digest := 5 }
def ckUnit : SilkUnit := unitOf 3 48 0 (natLe 8 0 ++ natLe 8 ((paired []).lksTile 3 0) ++ natLe 8 0 ++ natLe 16 5 ++ natLe 8 0)
theorem witness_DataUnits : State.hears windowed 7 5 1 (unitOf 1 512 0x10000000E00 (List.replicate 512 3)) ∧
    lineOk 0x10000000E00 512 = true ∧ windowed.inWindow 7 0x10000000E00 512 = true ∧ windowed.qw.watch = [] ∧
    (∀ i, i < 8 → windowed.reachable (0x10000000E00 + 64 * i) = true) ∧ windowed.inWindow 7 0x10000001000 512 = false ∧
    (unitOf 0x10 0 (7 * 2 ^ 48 + 0x10000000E00) []).arg.toNat = 7 * 2 ^ 48 + 0x10000000E00 ∧
    windowed.noUpsets ∧ windowed.clearPort 7 ∧
    windowed.inWindow 7 0x10000000FC0 128 = false ∧
    ((rcptQ 7).queue 0xFFFFF).slot (((rcptQ 7).queue 0xFFFFF).seqOf ((rcptQ 7).queue 0xFFFFF).prod) = 0x10000000000 ∧
    (rcptQ 7).reachable 0x10000000000 = true ∧ (rcptQ 7).reachable 0x10000000040 = true ∧
    7 + 2 ≤ nth (windowed.port 7).cred 3 ∧ (rcptQ 7).nakReason 7 0xFFFFF = 0 ∧ (rcptQ 6).nakReason 7 0xFFFFF = 4 ∧
    (upPort 7).memberOf 7 = none ∧ (paired []).memberOf 7 = some (3, false) ∧ (paired []).lksState 3 = 1 ∧
    (readCk ckUnit.payload).k = ((paired []).pair 3).next false ∧ (readCk ckUnit.payload).digest = (ck0 (paired [])).digest ∧
    (readCk ckUnit.payload).tile = (ck0 (paired [])).tile ∧
    (((paired [ck0 (paired [])]).pair 3).buf true).find? (·.k = (readCk ckUnit.payload).k) = some (ck0 (paired [])) ∧
    ((paired []).pair 3).next true ≤ (readCk ckUnit.payload).k ∧
    (∀ y ∈ replaying.qw.replays, y.port = 7 ∧ y.tag = 3 ∧ y.sent = true) := by
  unfold State.hears State.clearPort State.noUpsets
  repeat' (first | (refine And.intro ?_ ?_) | decide)

def inState (p st : Nat) : State := puts (upPort p) [(pSLK p, SLK_STAT_STATE, st)]
def initPl (ver : Nat) : List Byte := [BitVec.ofNat 8 ver, 0, 0, 0] ++ natLe 2 4 ++ natLe 2 0 ++ natLe 2 0 ++ natLe 2 32 ++ natLe 2 18 ++ List.replicate 10 1 ++ List.replicate 8 0
theorem witness_ControlUnits : State.hears (upPort 7) 7 5 0x38 (unitOf 0x38 16 0 []) ∧
    State.hears (upPort 7) 7 5 0x39 (unitOf 0x39 16 0 [0, 0]) ∧ fieldLe [0, 0] 0 2 = (upPort 7).fget (pGOVACC 7) GA_GEN_SENT ∧
    State.hears (inState 7 6) 7 6 0x3A (unitOf 0x3A 16 0 [0]) ∧ leNat [0] = 0 ∧ fieldLe [0, 0, 0, 0, 15] 4 2 < 16 ∧
    State.hears (inState 7 4) 7 4 0x3E (unitOf 0x3E 32 0 (initPl 1)) ∧ fieldLe (initPl 1) 0 1 = 1 ∧
    4 ≤ fieldLe (initPl 1) 4 2 ∧ 32 ≤ fieldLe (initPl 1) 10 2 ∧ 18 ≤ fieldLe (initPl 1) 12 2 ∧ fieldLe (initPl 2) 0 1 ≠ 1 ∧
    unitOk (unitOf 0x3E 32 0 (initPl 1)) = true ∧ unitOk (unitOf 0x3E 32 0 (initPl 2)) = true ∧
    unitOk (unitOf 0x3E 32 0 ([1, 0, 0, 0] ++ natLe 2 3)) = true ∧ fieldLe ([1, 0, 0, 0] ++ natLe 2 3) 4 2 < 4 ∧
    fieldLe ([1, 0, 2] ++ List.replicate 29 0) 0 2 = 1 ∧ 2 ≤ fieldLe ([1, 0, 2] ++ List.replicate 29 0) 2 1 ∧
    unitOk (unitOf 0x3D 16 0 []) = false ∧ (unitOf 0 16 0 []).typ = 0 ∧
    (inState 7 4).flag (pSLK 7) SLK_CTRL_EN = true ∧ State.hears (upPort 7) 7 5 0x3F (unitOf 0x3F 16 0 [1]) ∧
    fieldLe [1] 10 6 = 0 ∧ (upPort 7).clearPort 7 ∧
    (∃ n ∈ (State.port { up with slk := [(7, { inL0 := true, owed := [0, 2] })] } 7).owed, n ≠ 0) ∧
    (up.port 7).inL0 = false ∧ { unitOf 1 64 0 [] with rsv := 1 }.rsv ≠ 0 := by
  unfold State.hears State.clearPort; decide

theorem witness_PortBringUp : State.slkTakes up .fwl 7 1 0 ∧ up.flag (pSLK 7) SLK_CTRL_EN = false ∧ up.windowOk 7 = true ∧
    up.portState 7 = 0 ∧ State.slkTakes (puts up [(pSLK 7, SLK_STAT_STATE, 6)]) .fwl 7 1 0 ∧
    State.slkTakes (upPort 7) .fwl 7 0 1 ∧ (upPort 7).flag (pSLK 7) SLK_CTRL_EN = true ∧ (upPort 7).portState 7 = 5 ∧
    State.slkTakes (inState 7 7) .fwl 7 0 1 ∧ State.slkTakes (upPort 7) .fwl 7 0x200 0 ∧ (upPort 7).plainCtrl 7 ∧
    (puts up [(pCRPBR 7, CB_STAT_PG, 1)]).flag (pCRPBR 7) CB_STAT_PG = true ∧ up.crp.silent = false ∧
    up.flag (pCRPBR 7) CB_STAT_PG = false ∧ up.pins.mainPwrGood = true ∧
    (inState 7 2).portState 7 = 2 ∧ (inState 7 3).portState 7 = 3 ∧ (inState 7 7).flag (pSLK 7) PAGE_STAT_FENCED = false ∧
    (puts up [(pSLK 7, SLK_STAT_RESTART_PEND, 1)]).flag (pSLK 7) SLK_STAT_RESTART_PEND = true := by
  unfold State.slkTakes State.takes State.plainCtrl; decide

def noL0 : State := puts { up with slk := [(7, {})] } [(pSLK 7, SLK_STAT_STATE, 5), (pSLK 7, SLK_CTRL_EN, 1)]
theorem witness_PortGoesDown : (inState 7 3).flag (pSLK 7) SLK_CTRL_EN = true ∧ (inState 7 4).portState 7 = 4 ∧
    (inState 7 4).flag (pSLK 7) SLK_CTRL_EN = true ∧ noL0.portState 7 = 5 ∧ (noL0.port 7).inL0 = false ∧
    noL0.flag (pSLK 7) SLK_CTRL_EN = true ∧ ((upPort 7).port 7).inL0 = true ∧ ((upPort 7).port 7).recoveries = [] ∧
    64 ≤ ((State.port { up with slk := [(7, { recoveries := List.replicate 64 5 })] } 7).recoveries.filter
      fun t => up.nowNs < t + 1000000000).length ∧
    (upPort 7).branchOn 7 = false := by decide
/-- The last attempt fences the port (R297). -/
theorem test_lastAttempt : ∃ t, exec (.trainTimeout 7) (puts (inState 7 3) [(pSLK 7, SLK_TIMING_MAX_ATTEMPTS, 1)]) = .next t ∧
    t.flag (pSLK 7) PAGE_STAT_FENCED = true := ⟨_, rfl, by decide⟩

theorem witness_PortSidebands : (upPort 7).plainCtrl 7 ∧ (upPort 7).clearPort 7 ∧ 1 ≤ nth ((upPort 7).port 7).cred 0 ∧
    State.slkTakes (upPort 7) .fwl 7 2 0 ∧ State.slkTakes (upPort 7) .fwl 7 4 0 ∧ up.plainCtrl 7 ∧ up.portState 7 ≠ 5 ∧
    State.slkTakes up .fwl 7 2 0 ∧ State.slkTakes up .fwl 7 4 0 ∧
    (puts up [(pSLK 7, SLK_STAT_HEART, 1)]).flag (pSLK 7) SLK_STAT_HEART = true ∧ up.mainP.lnkLost = false ∧
    ((upPort 7).port 7).alertLow = false ∧
    2 ≤ (puts (upPort 7) [(pSLK 7, SLK_CTRL_ALERT_ACT, 2)]).fget (pSLK 7) SLK_CTRL_ALERT_ACT ∧
    (State.port { up with slk := [(7, { alertLow := true })] } 7).alertLow = true ∧ State.reset.pins.mainPwrGood = false ∧
    (State.reset.port 7).alertLow = false ∧
    (State.port { State.reset with slk := [(7, { alertLow := true })] } 7).alertLow = true := by
  unfold State.slkTakes State.takes State.plainCtrl State.clearPort; decide

/-- The host link is up. -/
def linked : State := puts up [(pHST, HST_LINK_UP, 1), (pHST, HST_LINK_IDE_ON, 1)]
theorem witness_HostLink : up.pins.mainPwrGood = true ∧ linked.flag pHST HST_LINK_UP = true ∧
    State.flag { linked with hr.spdm := true } pHST HST_LINK_UP = true ∧ linked.flag pHST HST_LINK_IDE_ON = true ∧
    linked.fabPoison (linked.barAddr 0xFFF) 2 = false ∧
    State.fabPoison { linked with poison := [linked.barAddr 0x1000 / 64 * 64] } (linked.barAddr 0xFFF) 2 = true ∧
    linked.hr.d3hot = false ∧ linked.noUpsets ∧ (linked.fabRead (linked.barAddr 0xFFF) 2).2.1 = false ∧
    State.rd { linked with regs := Tab.set (Tab.set linked.regs (msixPba 2047) 0x80000000#32 0) (msixCtl 2047) 0 1 } (msixCtl 2047) = 0 ∧
    linked.qw.watch = [] ∧ (∀ l ∈ linesOf (linked.barAddr 0xFFF) 2, linked.reachable l = true) ∧
    up.flag pHST HST_LINK_UP = false ∧ State.hostPort { linked with hr.d3hot := true } = false := by
  unfold State.noUpsets; decide
/-- A vector that waits for the host's configuration is sent when it comes (R313). -/
theorem test_pending : ∃ t, exec (.hostLinkUp 6 8 { busMaster := true, msixEnable := true })
    (((puts up [(pHST, PAGE_STAT_READY, 1)]).wr (msixPba 3) 8).wr (msixCtl 3) 0) = .next t ∧ .msix 3 ∈ t.outs := ⟨_, rfl, by decide⟩

/-- The link core runs, and slot 3 holds the request given. -/
def asked (l : List Byte) : State :=
  ((List.range 8).foldl (fun s k => s.wr (pHST + 0x1000 + 0x400 * 3 + 4 * k) (BitVec.ofNat 32 (fieldLe l (4 * k) 4)))
    (puts { up with hr.slotReq := [3] } [(pFWC, FWC_CORE_STAT_STATE.nth 2 0x40, 2), (pHST, HST_FEAT, 0x1FF)]))
def reqOf (major op len : Nat) (pl : List Byte) : List Byte :=
  natLe 1 major ++ [0] ++ natLe 2 op ++ [0, 0] ++ natLe 2 len ++ List.replicate 8 0 ++ pl
theorem witness_Mailbox : State.takes (asked (reqOf 1 1 10 [])) .host (pHST + 0x118) 3 ∧
    (asked (reqOf 1 1 10 [])).fget pHST HST_MB_STAT_FREE / 2 ^ 3 % 2 = 1 ∧ (asked (reqOf 1 1 10 [])).headerStatus 3 = 0 ∧
    (asked (reqOf 1 0x7777 0 [])).headerStatus 3 = 4 ∧ (asked []).runs 2 = true ∧
    (puts up [(pHST, HST_MB_STAT_FREE, 7)]).fget pHST HST_MB_STAT_FREE / 2 ^ 3 % 2 = 0 ∧
    State.takes (puts up [(pHST, HST_MB_STAT_FREE, 7)]) .host (pHST + 0x118) 3 ∧
    State.takes (puts up [(pHST, HST_MB_STAT_RSP_READY, 8)]) .host (pHST + 0x11C) 3 ∧
    State.asks (asked (reqOf 1 1 10 [])) 3 1 ∧ (asked (reqOf 1 1 10 [])).reqField 3 0 1 = 1 ∧
    State.asks (asked (reqOf 2 1 10 [])) 3 1 ∧ (asked (reqOf 2 1 10 [])).reqField 3 0 1 ≠ 1 ∧
    State.asks (asked (reqOf 1 2 0 [])) 3 2 ∧ State.asks (asked (reqOf 1 0x10 0 [])) 3 0x10 ∧
    State.asks (asked (reqOf 1 0x20 4 (natLe 4 499))) 3 0x20 ∧ (asked (reqOf 1 0x20 4 (natLe 4 499))).payload 3 0 4 = 499 ∧
    (asked (reqOf 1 0x20 4 (natLe 4 20000))).payload 3 0 4 = 20000 ∧
    State.runs (puts (asked []) [(pFWC, FWC_CORE_STAT_STATE, 2)]) 0 = true ∧ State.takes (asked []) .fwp (pGOVGLOB + 0x10C) 20000 ∧
    State.asks (asked (reqOf 1 0x30 8 (natLe 8 1577836799))) 3 0x30 ∧
    (asked (reqOf 1 0x30 8 (natLe 8 1577836800))).payload 3 0 8 = 1577836800 ∧
    (asked (reqOf 1 0x30 8 (natLe 8 1577836799))).payload 3 0 8 < 1577836800 ∧
    { up with fwc.wall := [(5, 0), (9, 3)] }.fwc.wall.getLast? = some (9, 3) := by
  unfold State.takes State.asks; decide

theorem witness_DriverAndStops : State.takes up .host (pHST + 0x110) 0 ∧ up.pins.mainPwrGood = true ∧
    State.stopTakes up .host .host 1 ∧ State.stopTakes up .rack .rack 1 ∧ State.stopTakes up .host .host 2 ∧
    State.stopTakes up .rack .rack 2 ∧ State.stopTakes up .host .host 8 ∧ State.stopTakes up .rack .rack 4 ∧
    up.driveBit .host = 0 ∧ up.driveBit .rack = 0 ∧ State.stopTakes toDispatch .host .host 4 ∧
    toDispatch.flag pQMG QMG_CTRL_DISPATCH = true ∧ (upPort 7).halts 7 ∧
    (puts up [(pRCK, RCK_PRESET_CAP, 5000)]).fget pRCK RCK_PRESET_CAP ≠ 0 ∧ up.flag pGOVGLOB GG_CTRL_PRESET_KRM = true ∧
    up.flag pGOVGLOB GG_STAT_NO_MEAS = false ∧ (puts up [(pSLK 7, SLK_CTRL_RACK_THR_EN, 1)]).flag (pSLK 7) SLK_CTRL_RACK_THR_EN = true := by
  unfold State.stopTakes State.takes State.halts State.clearPort; decide

theorem witness_RackAnswers : nth up.hr.dynAddr 1 = 0 ∧ (0x34#7).toNat = 0x30 + 4 * (1 : RackPort).val + up.fget pCRPGLOB CRP_STRAPS_I3C_SADDR ∧ nth { up with hr.dynAddr := [0, 8] }.hr.dynAddr 1 ≠ 0 ∧
    (1#8 ≠ 0 ∧ 1#8 ≠ 0xFF) ∧ { up with hr.pdrs := [[7]] }.hr.pdrs[(1#32).toNat - 1]? = some [7] ∧
    up.hr.pdrs[(1#32).toNat - 1]? = none := by decide

theorem witness_RackControl : State.takes up .rack (pRCK + (effecterReg .rackCap).off) 20000 ∧
    State.takes up .rack (pRCK + (effecterReg .rackPreset).off) 0 ∧ State.takes up .rack (pRCK + 0x114) 7 ∧
    State.takes up .rack (pRCK + 0x114) 4 ∧ up.pins.mainPwrGood = true ∧
    { up with hr.events := [⟨2, 5⟩, ⟨2, 7⟩] }.hr.events = [⟨2, 5⟩, ⟨2, 7⟩] := by unfold State.takes; decide

/-- The link core runs, and the update has reached a step. -/
def updating (n : Nat) : State := puts { up with hr.pldmUpd := n } [(pFWC, FWC_CORE_STAT_STATE.nth 2 0x40, 2)]
def staging : State := { updating 4 with fwc.stage := some ⟨true, 1, 0, 1, [7]⟩ }
/-- Slot B is STAGED beside an active slot A. -/
def stagedB (s : State) : State := s.putBcr fun b => { b with stateA := 3, stateB := 1 }
theorem witness_PldmUpdate : up.runs 2 = false ∧ up.fwc.recovery = false ∧ (updating 0).runs 2 = true ∧
    (updating 0).fwUpdate = false ∧ (updating 0).hr.pldmUpd = 0 ∧ (updating 2).hr.pldmUpd = 2 ∧ [7].length ≤ slotSize ∧
    (updating 3).hr.pldmUpd = 3 ∧ staging.fwc.stage = some ⟨true, 1, 0, 1, [7]⟩ ∧ (updating 5).hr.pldmUpd = 5 ∧
    (stagedB (updating 6)).stagedSlot = some 1 ∧ (stagedB (updating 6)).activating = false ∧
    (stagedB (updating 6)).runs 2 = true ∧ (updating 6).stagedSlot = none := by decide

/-- `asked` with the trial of slot B under way. -/
def trialB (l : List Byte) : State :=
  puts ((asked l).putBcr fun b => { b with active := 1, stateA := 3, stateB := 2, tries := 1 }) [(pFWC, FWC_UPD_STAT_STATE, 7)]
def auto (s : State) : State := puts s [(pFWC, FWC_CTRL_AUTO_CONFIRM, 1)]
/-- An emergency: a WET latch is set. -/
def alarm (s : State) : State := puts s [(pHZDSENS, HZ_LATCH_WET, 1)]
theorem witness_FirmwareUpdate : State.asks (asked (reqOf 1 0x50 12 (natLe 8 0 ++ natLe 4 0x400001))) 3 0x50 ∧
    slotSize < (asked (reqOf 1 0x50 12 (natLe 8 0 ++ natLe 4 0x400001))).payload 3 8 4 ∧
    (asked (reqOf 1 0x50 12 (natLe 8 0 ++ natLe 4 0x400000))).payload 3 8 4 = slotSize ∧
    (asked []).fwUpdate = false ∧ (asked []).hr.pldmUpd = 0 ∧
    (puts (asked []) [(pFWC, FWC_UPD_STAT_STATE, 1)]).fwUpdate = true ∧
    { asked [] with fwc.stage := some ⟨false, 1, 0, 64, []⟩ }.runs 2 = true ∧ ((asked []).fabRead 0 64).2.1 = false ∧
    (State.fabRead { up with poison := [0] } 0 64).2.1 = true ∧ (asked []).noUpsets ∧
    State.asks (stagedB (asked (reqOf 1 0x51 1 [1]))) 3 0x51 ∧ (stagedB (asked (reqOf 1 0x51 1 [1]))).payload 3 0 1 = 1 ∧
    (stagedB (asked (reqOf 1 0x51 1 [1]))).stagedSlot = some 1 ∧ (stagedB (asked (reqOf 1 0x51 1 [1]))).activating = false ∧
    (asked (reqOf 1 0x51 1 [1])).stagedSlot = none ∧ State.asks (trialB (reqOf 1 0x51 1 [2])) 3 0x51 ∧
    (trialB (reqOf 1 0x51 1 [2])).payload 3 0 1 = 2 ∧ (trialB []).updState = 7 ∧ (asked []).updState ≠ 7 ∧
    State.asks (trialB (reqOf 1 0x51 1 [3])) 3 0x51 ∧ (trialB (reqOf 1 0x51 1 [3])).payload 3 0 1 = 3 ∧
    (trialB []).fwc.stage = none ∧ (puts (trialB []) [(pFWC, FWC_CTRL_AUTO_CONFIRM, 0)]).flag pFWC FWC_CTRL_AUTO_CONFIRM = false ∧
    (auto (trialB [])).flag pFWC FWC_CTRL_AUTO_CONFIRM = true ∧ (auto (trialB [])).emergency = false ∧
    (alarm (auto (trialB []))).emergency = true ∧ (alarm (auto (trialB []))).updState = 7 ∧
    (puts { up with fwc.actStage := 4 } [(pFWC, FWC_STAT_PWR_PENDING, 1), (pFWC, FWC_CORE_STAT_STATE, 2)]).coreState 0 = 2 := by
  unfold State.asks State.noUpsets; decide

/-- The SHAKE256 digest of an empty section ("FX9-FWSC" alone), word by word, from outside the model. -/
def emptySection : List Nat :=
  [0x7e84935c, 0x0bf9239c, 0x9672e3e8, 0x283131cf, 0x88b653c9, 0xdce1a98a, 0x39690367, 0xa884f140]
/-- The ledger core in a state. -/
def core3 (n : Nat) : State := puts up [(pFWC, FWC_CORE_STAT_STATE.nth 3 0x40, n)]
theorem witness_FirmwareCores : (core3 2).coreState 3 = 2 ∧ (core3 2).onTrial 3 = false ∧ (core3 0).coreState 3 = 0 ∧
    (puts (trialB []) [(pFWC, FWC_CORE_STAT_STATE.nth 3 0x40, 2), (pFWC, FWC_STAT_TRIAL, 1), (pFWC, FWC_CORE_STAT_SLOT.nth 3 0x40, 1)]).onTrial 3 = true ∧ ((core3 2).fwCore 3).faults = [] ∧
    2 ≤ ((State.fwCore { core3 2 with fwc.cores := [(3, { faults := [0, 0] })] } 3).faults.filter
      fun t => up.nowNs < t + 60000000000).length ∧ (core3 3).coreState 3 = 3 ∧ (core3 1).coreState 3 = 1 ∧
    State.takes (core3 2) .host (pFWC + 0x200 + 0x40 * 3) 1 ∧ State.takes (core3 2) .host (pFWC + 0x200 + 0x40 * 3) 2 ∧
    State.takes (core3 4) .host (pFWC + 0x200 + 0x40 * 3) 4 ∧ (core3 4).coreState 3 = 4 ∧ up.mainP.profDue = false ∧
    up.mainP.silkDue = false ∧ up.fwc.actStage = 0 ∧
    (core3 3).flag pFWC (FWC_CORE_STAT_RESTART_PEND.nth 3 0x40) = false ∧ (core3 3).targetSlot 3 = (core3 3).coreSlot 3 ∧
    (puts (core3 3) (emptySection.zipIdx.map fun w => (pFWC, (FWC_CORE_DIG.nth 3 0x40).nth w.2 4, w.1))).residentOk 3 = true ∧
    (core3 2).runs 3 = true ∧ 1 ≤ FWL_LEVEL_LEVEL0.get ((core3 2).rd (pFWL + 0x114) >>> (4 * 3)) ∧
    16 + (1008 + 7) / 8 * 8 ≤ ringSize - (core3 2).pget pFWL FWL_WR % ringSize ∧
    ((puts (core3 2) [(pTRC, ⟨TRC_EN.off + 28, 31, 1⟩, 1)]).rd (pTRC + TRC_EN.off + 28)).getLsbD 31 = true := by
  unfold State.takes; decide

/-- A PROFILE_WRITE request for an image of no entries at address 0, the image given. -/
def profAsked (img : List Byte) : State := (asked (reqOf 1 0x40 12 (natLe 8 0 ++ natLe 4 0x80))).putBytes 0 img
def profImg : List Byte :=
  natLe 4 0x46525054 ++ [1, 0, 0, 0] ++ natLe 4 (0x80 + 9893) ++ List.replicate 12 0 ++ [9, 0, 0, 0] ++ natLe 4 0 ++
    (List.range 8).flatMap (fun _ => natLe 2 400) ++ List.replicate 12 0 ++ natLe 2 800 ++ natLe 2 1000 ++ natLe 2 500 ++
    List.replicate 62 0
def profDone : State := puts { ledger with fwc.profState := 2 } [(pFWC, FWC_CORE_STAT_STATE.nth 2 0x40, 2)]
theorem witness_TrayProfile : State.asks (asked (reqOf 1 0x40 12 [])) 3 0x40 ∧ (asked (reqOf 1 0x40 12 [])).payload 3 8 4 = 0 ∧
    State.asks (profAsked profImg) 3 0x40 ∧
    (profAsked profImg).payload 3 8 4 = 0x80 + 12 * fieldLe ((profAsked profImg).fabRead 0 0x80).1 0x1C 4 ∧
    (profAsked (List.replicate 0x80 1)).payload 3 8 4 ≠ 0x80 + 12 * fieldLe ((profAsked (List.replicate 0x80 1)).fabRead 0 0x80).1 0x1C 4 ∧
    (State.fabRead { profAsked profImg with poison := [64] } 0 0x80).2.1 = true ∧
    (profAsked profImg).fwc.profState ≠ 2 ∧ (profAsked profImg).flag pDGT DGT_STAT_KEY_EXHAUSTED = false ∧
    (puts up [(pDGT, DGT_STAT_KEY_EXHAUSTED, 1)]).flag pDGT DGT_STAT_KEY_EXHAUSTED = true ∧
    ((profAsked profImg).fabRead 0 0x80).2.1 = false ∧
    ((profAsked profImg).fabRead 0 0x80).2.2.dryCode ((profAsked profImg).fabRead 0 0x80).1 = 0 ∧
    ((profAsked []).fabRead 0 0x80).2.2.dryCode ((profAsked []).fabRead 0 0x80).1 ≠ 0 ∧ profDone.fwc.profState = 2 ∧ profDone.runs 2 = true ∧
    profDone.ledgerRuns = true ∧ profDone.pget pDGT DGT_KEY_IDX < keyTotal ∧ profDone.hostOn = false ∧
    { profDone with fwc.safeProfile := true }.fwc.safeProfile = true ∧
    (puts { up with crp.on := true } [(pFWC, FWC_CORE_STAT_STATE, 2)]).runs 0 = true ∧
    (puts { up with crp.on := true } [(pFWC, FWC_CORE_STAT_STATE, 2)]).crpDeaf = false := by
  unfold State.asks; decide

/-- Recording is on. -/
def recording : State := puts up [(pSEP, SEP_CTRL_EN, 1)]
theorem witness_SepiaBins : recording.flag pSEP SEP_CTRL_EN = true ∧ recording.sep.kindEff.getLsbD 18 = true ∧
    recording.pins.mainPwrGood = true ∧ (kindBins 18).1 = 5000 ∧ (4999 : Int) < 5000 ∧
    (kindBins 18).1 + 30 * (kindBins 18).2 = 6500 := by decide
/-- The last bin below the top, and the top one (R451, R452). -/
theorem test_binOf : binOf 18 6499 = 30 ∧ binOf 18 6500 = 31 ∧ binOf 18 4999 = 0 ∧ binOf 18 5000 = 1 := by decide

/-- The ledger core runs, with kind 18 pending and an action in the queue. -/
def toRecord (n : Nat) : State :=
  puts { ledger with sep.pendKinds := [18], sep.actQ := [{ code := 9, source := 2, cause := 3, arg := 4, opMs := 5, silent := false }], sep.pinCount := 63 } [(pSEP, SEP_NEXT, n)]
theorem witness_SepiaRecordsAndLog : State.takes recording .host (pSEP + 0x100) (2 + recording.fget pSEP SEP_CTRL_EN) ∧
    recording.sep.kindEff.getLsbD 18 = true ∧ 18 ∉ recording.sep.pendKinds ∧ 18 ∈ (toRecord 0).sep.pendKinds ∧
    (toRecord 65535).sep.pendKinds = [18] ∧ (toRecord 65535).ledgerRuns = true ∧
    (toRecord 65535).flag pSEP SEP_STAT_FULL = false ∧ (toRecord 65535).flag pSEP SEP_STAT_CLEARING = false ∧
    (toRecord 65535).fget pSEP SEP_NEXT = 65535 ∧ (toRecord 0).sep.lostSince = 0 ∧
    (toRecord 0).postDue { code := 9, source := 2, cause := 3, arg := 4, opMs := 5, silent := false } = false ∧
    up.postDue { code := 1, source := 2, cause := 3, arg := 4, opMs := 5, silent := false } = true ∧
    { toRecord 0 with sep.lostSince := 3 }.sep.lostSince ≠ 0 ∧ State.asks (asked (reqOf 1 0x31 12 (natLe 8 0 ++ natLe 4 2852))) 3 0x31 ∧
    (asked (reqOf 1 0x31 12 (natLe 8 0 ++ natLe 4 2852))).payload 3 8 4 = 2852 ∧
    (asked (reqOf 1 0x31 12 (natLe 8 0 ++ natLe 4 2851))).payload 3 8 4 ≠ 2852 ∧
    (puts { toRecord 0 with sep.clearScope := 3 } [(pSEP, SEP_STAT_CLEARING, 1)]).flag pSEP SEP_STAT_CLEARING = true := by
  unfold State.takes State.asks; decide

/-- Feed A carries the bus, feed B is READY, EN and RETURN are set, both at 58 V. -/
def fed : State := puts { up with crp := { up.crp with busLost := false } } [(pCRPFEED, CF_CTRL_EN, 1), (pCRPFEED, CF_CTRL_RETURN, 1), (pCRPFEED, stateFld 0, 4),
  (pCRPFEED, stateFld 1, 2), (pCRPFEED, CF_STAT_ON, 1), (pCRPFEED, vinFld 0, 5800), (pCRPFEED, vinFld 1, 5800)]
theorem witness_Feeds : (puts fed [(pCRPFEED, stateFld 0, 0)]).feedState (feedIdx .a) = 0 ∧ 5400 ≤ fed.vin 0 ∧ fed.vin 0 ≤ 6200 ∧
    (puts fed [(pCRPFEED, stateFld 1, 1)]).feedState (feedIdx .b) = 1 ∧ 6600 < (puts fed [(pCRPFEED, vinFld 0, 6601)]).vin 0 ∧
    fed.feedState 0 = 4 ∧ fed.spareFeed 1 = true ∧ (puts fed [(pCRPFEED, stateFld 1, 1)]).spareFeed 1 = false ∧
    (puts fed [(pCRPFEED, vinFld 0, 100)]).vin 0 < 25 * (puts fed [(pCRPFEED, vinFld 0, 100)]).fget pCRPFEED CF_CFG_UV ∧
    (fed.feed 0).blank = 0 ∧ State.takes fed .fwp (pCRPFEED + 0x100) (bit false + 2 * fed.fget pCRPFEED CF_CTRL_RETURN) ∧
    (puts fed [(pCRPFEED, stateFld 0, 0)]).feedOrder.find? (fun i => (puts fed [(pCRPFEED, stateFld 0, 0)]).feedState i = 2) = some 1 ∧
    (fed.feed 0).vgs < 100 ∧ (puts fed [(pCRPFEED, stateFld 0, 2), (pCRPFEED, stateFld 1, 4)]).spareFeed 0 = true ∧
    State.takes fed .fwp (pCRPFEED + 0x100) (fed.feedBits + 4) ∧ fed.closedFeed = some 0 ∧ fed.fget pCRPFEED ERR_CODE_CODE = 0 ∧
    (puts fed [(pCRPFEED, stateFld 0, 5)]).closedFeed = none ∧ State.takes fed .fwp (pCRPFEED + 0x100) (fed.feedBits + 8) ∧
    { fed with crp.closing := some 1 }.crp.closing = some 1 ∧ fed.crp.on = true ∧
    (puts { fed with crp.closing := some 1 } [(pCRPFEED, stateFld 0, 0)]).spareFeed 1 = true ∧ fed.crp.closing = none ∧
    fed.crp.busLost = false := by
  unfold State.takes; decide
/-- A close from an empty bus is soft, with a bus loss (R344, R346). -/
theorem test_softClose : ∃ t, exec .feedClose (puts fed [(pCRPFEED, stateFld 0, 0), (pCRPBR 3, CB_STAT_STATE, 3)]) = .next t ∧
    t.feedState 1 = 3 ∧ t.branchState 3 = 4 ∧ t.flag (pCRPBR 3) CB_STAT_RESTART_PEND = true := ⟨_, rfl, by decide⟩

/-- Branch 3 in a state, the profile accepted. -/
def br3 (st : Nat) : State := puts fed [(pCRPGLOB, CRP_GCTRL_PROFILE_OK, 1), (pCRPBR 3, CB_STAT_STATE, st)]
/-- Branch 3 waits on a good bus, its transistor at 25 C. -/
def waits3 : State := puts (br3 1) [(pCRPFEED, CF_VBUS_VBUS, 5700), (pCRPBR 3, CB_TFET_T_FET, 400)]
theorem witness_BranchControl : State.takes (br3 0) .fwp (pCRPBR 3 + 0x100) 1 ∧ (br3 0).enableError 3 = 0 ∧
    (br3 6).enableError 3 = 0x103 ∧ State.takes (br3 6) .fwp (pCRPBR 3 + 0x100) 1 ∧ (br3 6).fget (pCRPBR 3) ERR_CODE_CODE = 0 ∧
    State.takes (br3 3) .fwp (pCRPBR 3 + 0x100) 0 ∧ State.takes (br3 6) .fwp (pCRPBR 3 + 0x100) 2 ∧ 6 ≤ (br3 7).branchState 3 ∧
    State.takes (br3 0) .fwp (pCRPBR 3 + 0x100) (4 + (br3 0).fget (pCRPBR 3) CB_CTRL_EN) ∧
    rampOrder.find? waits3.mayRamp = some 3 ∧
    (branchList.filter fun c => waits3.branchState c = 2).length < waits3.fget pCRPGLOB CRP_GCTRL_MAX_RAMP ∧
    (puts (br3 2) [(pCRPBR 3, CB_VOLT_V_GS, 900)]).driven 3 = true ∧ 900 ≤ (puts (br3 2) [(pCRPBR 3, CB_VOLT_V_GS, 900)]).fget (pCRPBR 3) CB_VOLT_V_GS ∧
    (br3 3).branchState 3 = 3 ∧ (br3 3).fget (pCRPBR 3) CB_VOLT_V_GS < 850 ∧ (br3 4).branchState 3 = 4 ∧
    decide ((br3 4).fget (pCRPBR 3) CB_VOLT_V_OUT < 500) = !false := by
  unfold State.takes; decide
/-- Without a profile only HOST starts (R350). -/
theorem test_noProfile : up.enableError 8 = 0 ∧ up.enableError 3 = 0x101 := by decide
/-- Branch 3 in the sample in which its lag tripped it. -/
def lag3 : State := (br3 2).retriableTrip 3 4
theorem witness_BranchControl_Met : lag3.branchState 3 = 4 ∧ (lag3.branch 3).met = some ⟨2, 0, 0, true⟩ ∧
    lag3.fget (pCRPBR 3) CB_VOLT_V_GS < 10 * CB_CFG_VGS_MIN.get (lag3.branch 3).cfg := by decide
theorem witness_BranchControl_BranchTrips : (br3 2).branchState 3 = 2 ∧ (br3 2).driven 3 = true ∧ (br3 3).branchState 3 = 3 ∧
    (br3 3).fget (pCRPBR 3) CB_VOLT_V_GS < 300 ∧
    (State.modBranch (br3 2) 3 fun k => { k with cfg := 0xFFFFFFFF }).branchState 3 = 2 ∧
    (State.modBranch (br3 2) 3 fun k => { k with cfg := 0xFFFFFFFF }).fget (pCRPBR 3) CB_VOLT_V_GS <
      10 * CB_CFG_VGS_MIN.get ((State.modBranch (br3 2) 3 fun k => { k with cfg := 0xFFFFFFFF }).branch 3).cfg := by decide

theorem witness_CarapaceLink : State.reset.crp.on = false ∧ up.crp.on = true ∧ up.crp.silent = false ∧
    (puts up [(pFWC, FWC_CORE_STAT_STATE.nth 0 0x40, 2)]).runs 0 = true ∧
    (puts up [(pFWC, FWC_CORE_STAT_STATE.nth 0 0x40, 3)]).coreState 0 = 3 ∧
    ({ up with crp := { up.crp with silent := true } } : State).crp.silent = true ∧ up.crp.keeperActed = false := by decide
/-- The curve trips a branch in the sample that fills its accumulator, with cause 2 (R356). -/
theorem test_curveTrip : ∃ t, exec (.carapaceSample { vbus := 5700, feedA := ⟨5800, 0, 0⟩, feedB := ⟨5800, 0, 0⟩, branches := [] })
    (puts (br3 3) [(pCRPBR 3, CB_ACCUM, 0x2000000)]) = .next t ∧ t.branchState 3 = 4 ∧
    t.fget (pCRPBR 3) CB_STAT_CAUSE = 2 := ⟨_, rfl, by decide⟩

theorem witness_Governor : (State.crp { up with crp := { up.crp with silent := true } }).silent = true ∧
    (puts up [(pGOVGLOB, GG_STAT_NO_MEAS, 1)]).flag pGOVGLOB GG_STAT_NO_MEAS = true ∧
    (puts up [(pHZDSENS, HZ_LATCH_WET, 1)]).emergency = true ∧ up.emergency = false ∧ up.krmForced = false ∧ ((upPort 2).port 2).telStale = false ∧
    (State.modPort up 2 fun k => { k with telStale := true }).estimated 2 = none ∧
    ({ up with gov := { up.gov with upN := 10, yieldN := 100 } } : State).gov.upN = 10 ∧
    up.fget pCLK CLK_KRM_STEP < (puts up [(pCLK, CLK_KRM_CEIL, 20)]).preferred ∧
    up.fget pCLK CLK_KRM_STEP < up.fget pCLK CLK_KRM_LIMIT_LIMIT ∧ up.flag pGOVGLOB GG_STAT_NO_MEAS = false := by decide
/-- The rack's cap, when lowest, is the cap in force and its source (R375). -/
theorem test_rackCap : ∃ t, exec (.governorTick true) (puts up [(pRCK, RCK_CAP_CAP, 5000)]) = .next t ∧
    t.gov.pEff = 5000000000 ∧ t.fget pGOVGLOB GG_STAT_SOURCE = 0 := ⟨_, rfl, by decide⟩
/-- Accelerator 2 in a trust state, with ticks counted both ways and a SET_CAP outstanding. -/
def trusts (st n : Nat) : State :=
  puts (State.modAcc (upPort 2) 2 fun k => { k with disagree := n, agree := n, ackDue := some 1 }) [(pGOVACC 2, GA_STAT_TRUST, st)]
theorem witness_Governor_TrustInEstimates : (trusts 0 100).fget (pGOVACC 2) GA_STAT_TRUST = 0 ∧ 100 ≤ ((trusts 0 100).govAcc 2).disagree ∧
    (trusts 1 10000).fget (pGOVACC 2) GA_STAT_TRUST = 1 ∧ 10000 ≤ ((trusts 1 10000).govAcc 2).disagree ∧
    100 ≤ ((trusts 1 100).govAcc 2).agree ∧ (trusts 2 5).fget (pGOVACC 2) GA_STAT_TRUST = 2 ∧
    100000 ≤ ((trusts 2 100000).govAcc 2).agree ∧
    State.takes (trusts 2 5) .fwp (pGOVACC 2 + 0x100) (Nat.lor ((trusts 2 5).rd (pGOVACC 2 + 0x100)).toNat 8) ∧
    ((trusts 0 5).govAcc 2).ackDue ≠ none ∧ (trusts 0 5).portUp 2 = true ∧
    (trusts 0 5).flag (pGOVACC 2) GA_STAT_ACK_LATE = false := by
  unfold State.takes; decide

/-- Two accelerators share 100 W, one with a demand below its share. -/
def twoClaims : List Claim := [⟨0, 10000000, 1, 90000000⟩, ⟨1, 10000000, 3, 20000000⟩]
theorem witness_SharesStayWithinTheBudget : twoClaims.Pairwise (fun c d => c.acc ≠ d.acc) ∧ twoClaims.length ≤ 8 ∧
    (∀ c ∈ twoClaims, 0 ≤ c.floor ∧ 0 < c.weight ∧ 0 ≤ c.demand) ∧ (0 : Int) ≤ 100000000 := by decide
/-- What the second leaves goes to the first (R381): 80 W and 20 W. -/
theorem test_sharing : (divide 100000000 twoClaims).1.map Share.cap = [320, 80] := by decide

/-- Fan channel 9 enabled in a state. -/
def fan9 (st : Nat) : State := puts up [(pLCWCHAN, LCW_CH_CTRL_EN.nth 9 0x20, 1), (pLCWCHAN, LCW_CH_STAT_STATE.nth 9 0x20, st)]
/-- The same with its tach lost and ten valid periods since. -/
def lost9 : State := puts (State.modFan (fan9 3) 9 fun k => { k with validRun := 10 }) [(pLCWCHAN, LCW_CH_STAT_TACH_LOST.nth 9 0x20, 1)]
/-- Channel 9 as before, Carapace holding 50% for every channel. -/
def held9 (st : Nat) : State := { fan9 st with crp := { (fan9 st).crp with heldDuty := List.replicate 16 500 } }
theorem witness_FanChannels : (held9 1).crp.silent = false ∧ (held9 1).crp.on = true ∧ ((fan9 3).fan 9).stretchN = 0 ∧
    ({ up with crp := { up.crp with silent := true } } : State).crp.silent = true ∧ (held9 1).heldDuty 9 < 1000 ∧ 0 < (held9 1).heldDuty 9 ∧ (held9 1).fanState 9 = 1 ∧ (fan9 2).fanState 9 = 2 ∧
    (fan9 2).fget pLCWGLOB LCW_RIPPLE_THR_THR ≤ 500 ∧ 0 < (fan9 2).fget pLCWGLOB LCW_RIPPLE_THR_THR ∧
    (fan9 2).ch 9 LCW_CH_STAT_ATTEMPT < 3 ∧ (puts (fan9 2) [(pLCWCHAN, LCW_CH_STAT_ATTEMPT.nth 9 0x20, 3)]).ch 9 LCW_CH_STAT_ATTEMPT = 3 ∧
    (fan9 4).fanState 9 = 4 ∧ (fan9 3).ch 9 LCW_CH_STAT_TACH_LOST = 0 ∧ lost9.ch 9 LCW_CH_STAT_TACH_LOST = 1 ∧
    lost9.fanState 9 = 3 ∧ 10 ≤ (lost9.fan 9).validRun ∧ (fan9 6).fanState 9 = 6 ∧
    State.takes (puts up [(pLCWCHAN, LCW_CH_CTRL_EN.nth 9 0x20, 0)]) .fwc (pLCWCHAN + 0x100 + 0x20 * 9) 1 ∧
    State.takes (fan9 3) .fwc (pLCWCHAN + 0x100 + 0x20 * 9) 0 ∧ (fan9 5).fanState 9 = 5 ∧
    State.takes (fan9 5) .fwc (pLCWCHAN + 0x100 + 0x20 * 9) (2 + (fan9 5).ch 9 LCW_CH_CTRL_EN) := by
  unfold State.takes; decide
theorem witness_FanChannels_FanDuties : (fan9 3).fanOn 9 = true ∧ (fan9 0).compose 9 ≠ 0 ∧ ((fan9 0).fan 9).composed = 0 ∧ (fan9 0).fanState 9 = 0 ∧
    (fan9 3).crpDeaf = false ∧ (puts (fan9 3) [(pHZDSENS, HZ_SHDN_STAT_ASSERTED, 1)]).shdn = true ∧
    (puts (fan9 3) [(pLCWGLOB, LCW_STAT_AUTO, 0), (pLCWCHAN, LCW_CH_DUTY_DUTY.nth 9 0x20, 0)]).compose 9 = 0 := by decide

/-- The example of R406: 22 C at commissioning, 38% at half speed, the channel at 42.5%, its inlets at 35 C. -/
def aged : State := puts { fan9 3 with lcw := { (fan9 3).lcw with commis := [⟨9, 8000, 200, 380, 650, 352⟩] } }
  [(pLCWCHAN, LCW_CH_STAT_APPLIED.nth 9 0x20, 425), (pLCWCHAN, LCW_CH_SPEED_RPM.nth 9 0x20, 4000),
    (pFWC, FWC_CORE_STAT_STATE.nth 1 0x40, 2), (pHZDSENS, HZ_THCFG_INLET.nth 5 4, 1), (pHZDSENS, HZ_TH_TEMP.nth 5 4, 560)]
/-- A commissioning runs outside table mode. -/
def commissioning : State := puts (fan9 3) [(pLCWGLOB, LCW_STAT_COMMISSIONING, 1), (pLCWGLOB, LCW_STAT_AUTO, 0)]
/-- No cause of table mode: a heartbeat just came, and the climate core runs. -/
def beating : State := puts { up with hr := { up.hr with hbAgeNs := 0 } } [(pFWC, FWC_CORE_STAT_STATE.nth 1 0x40, 2)]
theorem witness_FanTableAndAgeing : up.tableCause = true ∧
    (puts up [(pLCWGLOB, LCW_STAT_AUTO, 0)]).flag pLCWGLOB LCW_STAT_AUTO = false ∧ beating.tableCause = false ∧
    State.lcwTakes beating .fwc 1 ∧ (puts beating [(pLCWGLOB, LCW_STAT_AUTO, 1)]).flag pLCWGLOB LCW_STAT_AUTO = true ∧
    State.lcwTakes up .fwc 8 ∧ State.lcwTakes up .fwc 2 ∧
    commissioning.flag pLCWGLOB LCW_STAT_COMMISSIONING = true ∧ commissioning.fanOn 9 = true ∧ commissioning.fanState 9 = 3 ∧
    aged.lcw.commis.find? (fun r => r.chan = 9) = some ⟨9, 8000, 200, 380, 650, 352⟩ ∧
    baseAt (CommissRec.points ⟨9, 8000, 200, 380, 650, 352⟩) (4 * aged.ch 9 LCW_CH_SPEED_RPM) = some (380 * 8000, 8000) ∧
    aged.runs 1 = true ∧ aged.fanState 9 = 3 := by
  unfold State.lcwTakes State.takes; decide
/-- The ratio of the example reads 1,195, above 1.15 (R406). -/
theorem test_ageing : (match exec (.ageingEvaluation 9) aged with
    | .next t => t.ch 9 LCW_CH_AGE_RATIO == 1195 && (t.fan 9).ageRun == 1
    | _ => false) = true := by decide

/-- Sensor 5 is in a class by its fault bit, its resistance back in range. -/
def therm5 (f : Fld) (cls : Nat) : State := puts up [(pHZDSENS, f, 32), (pHZDSENS, HZ_TH_CLASS.nth 5 4, cls),
  (pFWC, FWC_CORE_STAT_STATE.nth 1 0x40, 2), (pHZDSENS, HZ_THCFG_ASSOC.nth 5 4, 3)]
/-- SYS_SHDN_N is asserted, its release at a step. -/
def shut (st : Nat) : State := puts { up with hzd := { up.hzd with relCls := some (clsCode .fwc) } }
  [(pHZDSENS, HZ_SHDN_STAT_ASSERTED, 1), (pHZDSENS, HZ_SHDN_STAT_REL_OK, 1), (pHZDSENS, HZ_SHDN_STAT_REL_STEP, st)]
/-- The same before the third write, with branch 11 taken down. -/
def shutDue : State := puts { shut 2 with fwc := { up.fwc with shdnDue := [11] } }
  [(pFWC, FWC_CORE_STAT_STATE, 2), (pCRPGLOB, CRP_GCTRL_PROFILE_OK, 1)]
/-- Rope 2 is enabled and last read wet. -/
def wetting : State := puts { up with hzd := { up.hzd with dripNext := [(2, 1)] } } [(pHZDDRIP, HZ_DRIP_EN_EN, 4)]
theorem witness_HazardSensing : ({ up with hzd := { up.hzd with vsnsOut := true } } : State).hzd.vsnsOut = true ∧ up.hzd.vsnsOut = false ∧
    State.reset.fanState 3 = 0 ∧ State.reset.fanOn 3 = true ∧ (therm5 HZ_FLT_OPEN 1).thClass 5 = 1 ∧ ((therm5 HZ_FLT_OPEN 1).therm 5).raw = 0 ∧
    (therm5 HZ_FLT_RATE 3).faultClass 5 = 3 ∧ rawClass 500000 = 1 ∧ rawClass 200 = 2 ∧ rawClass 10000 = 0 ∧
    up.faultBit HZ_FLT_OPEN 5 = false ∧ up.rateBroken (up.therm 5).hist 400 = false ∧
    (therm5 HZ_FLT_OPEN 1).runs 1 = true ∧ (therm5 HZ_FLT_OPEN 1).fget pHZDSENS (HZ_THCFG_ASSOC.nth 5 4) < 12 ∧
    (((therm5 HZ_FLT_OPEN 1).fget pHZDSENS HZ_CORR_DP : Nat) : Int) ≤ max 1000 (-1000) ∧
    (therm5 HZ_FLT_OPEN 1).faultBit HZ_FLT_STUCK 5 = false ∧ 2 ≤ ((State.modTherm up 5 fun k => { k with missed := 2 }).therm 5).missed ∧
    State.takes (therm5 HZ_FLT_OPEN 1) .fwc (pHZDSENS + HZ_FLT_STUCK.off) (Nat.lor ((therm5 HZ_FLT_OPEN 1).fget pHZDSENS HZ_FLT_STUCK) 32) ∧
    wetting.ropeOn 2 = true ∧ Tab.get wetting.hzd.dripNext 2 0 = 1 ∧ wetting.rope 2 ≠ 1 ∧ up.shdnCauses = [] ∧
    (puts up [(pHZDSENS, HZ_CRIT, 32), (pHZDSENS, HZ_TH_TEMP.nth 5 4, 1700)]).shdnCauses = [(0, 5)] ∧ up.shdn = false ∧
    (puts up [(pHZDSENS, HZ_CRIT, 32)]).relCond = true ∧ (puts up [(pHZDSENS, HZ_CRIT, 32), (pHZDSENS, HZ_TH_CLASS.nth 5 4, 1)]).relCond = false ∧
    State.takes (shut 1) .fwc (pHZDSENS + HZ_SHDN_REL.off) 2 ∧ State.relNext (shut 1) .fwc 2 ∧
    State.relNext (shut 2) .fwc 3 ∧ ¬State.relNext (shut 1) .fwc 3 ∧ (shut 1).shdn = true ∧
    (shut 1).fget pHZDSENS ERR_CODE_CODE = 0 ∧ (shutDue).shdnCauses = [] ∧ shutDue.runs 0 = true ∧ shutDue.crpDeaf = false ∧
    shutDue.flag pCRPGLOB CRP_GCTRL_PROFILE_OK = true ∧ shutDue.fwc.shdnDue = [11] ∧ shutDue.branchState 11 = 0 ∧
    State.takes shutDue .fwp (pCRPBR 11 + 0x100) 1 ∧ State.relNext shutDue .fwc 3 ∧ shutDue.shdn = true := by
  unfold State.relNext State.takes; decide
/-- The third missed step marks the sensor STUCK (R407). -/
theorem test_stuck : ∃ t, exec (.powerStepCheck 5 800 3) (State.modTherm (therm5 HZ_FLT_SHORT 2) 5 fun k => { k with missed := 2 }) = .next t ∧
    t.faultBit HZ_FLT_STUCK 5 = true := ⟨_, rfl, by decide⟩

/-- The power core runs with a valid profile, HOST is ON, and MAIN is off. -/
def starting : State := puts { State.reset with fwc := { State.reset.fwc with profValid := true }, crp := { State.reset.crp with on := true } }
  [(pFWC, FWC_CORE_STAT_STATE.nth 0 0x40, 2), (pCRPBR 8, CB_STAT_STATE, 3)]
/-- The same, waiting to assert MAIN again after `n` failed rises. -/
def retrying (n : Nat) : State := { starting with mainP := { starting.mainP with waiting := true, tries := n } }
theorem witness_StartupAndResets : starting.crp.on = true ∧ starting.fwc.romDone = false ∧
    starting.bcr.2.slot (starting.bcr.2.active % 2) ≠ 2 ∧ starting.checkImage 0 ≠ 0 ∧ starting.checkImage 1 ≠ 0 ∧
    up.regsOk = true ∧ starting.hostOn = true ∧ starting.runs 0 = true ∧ starting.pins.mainPwrEn = false ∧
    starting.mainP.gaveUp = false ∧ starting.mainP.waiting = false ∧ (retrying 1).mainP.tries = 1 ∧ starting.shdn = false ∧
    starting.mainOn.pins.mainPwrEn = true ∧ starting.mainOn.pins.mainPwrGood = false ∧ up.runs 0 = false ∧
    up.pins.mainPwrEn = true ∧ up.pins.mainPwrGood = true := by decide
/-- The third loss within 60 s leaves MAIN off (R472). -/
theorem test_thirdLoss : ∃ t, exec .mainLoss { up with mainP := { up.mainP with losses := [1, 2] } } = .next t ∧
    t.mainP.gaveUp = true ∧ t.flag pKRMGLOB PAGE_STAT_FENCED = true := ⟨_, rfl, by decide⟩

/-- Every PLL is locked. -/
def clocked : State := puts up ((CLK_STAT_FW_LOCK :: mainLocks).map fun f => (pCLK, f, 1))
theorem witness_ClocksLostAndBack : up.flag pCLK (lockBit .nt) = false ∧
    (puts up [(pFFY, FFY_STAT_LOCKED, 1)]).flag pFFY FFY_STAT_LOCKED = true ∧ up.flag pFFY FFY_STAT_LOCKED = false ∧
    clocked.flag pCLK CLK_STAT_FW_LOCK = true ∧ clocked.flag pCLK CLK_STAT_KRM_LOCK = true ∧
    clocked.flag pCLK CLK_STAT_FAB_LOCK = true ∧ clocked.flag pCLK CLK_STAT_NT_LOCK = true ∧
    clocked.flag pCLK CLK_STAT_BK_LOCK = true ∧ clocked.flag pCLK CLK_STAT_LNK_LOCK = true ∧
    ({ up with mainP := { up.mainP with lnkLost := true } } : State).mainP.lnkLost = true ∧
    clocked.pins.mainPwrGood = true ∧ clocked.pins.mainPwrEn = true ∧ clocked.krm.job = none ∧
    ∃ j, busy.krm.job = some j ∧ j.phase ≠ .ended := by
  refine ⟨by decide, by decide, by decide, by decide, by decide, by decide, by decide, by decide, by decide, by decide, by decide,
    by decide, by decide, _, rfl, by decide⟩
/-! ### Ill-formed commands, refused by the check of WellFormed -/

/-- A unit of two bytes that says it holds three. -/
def shortUnit : SilkUnit := unitOf 0x20 3 0 [1, 2]

theorem wf_registerWrite : wellFormed (.registerWrite .host 0x100 3 0) = false ∧
    wellFormed (.registerWrite .host 0x100 4 0) = true := by decide
theorem wf_carapaceSample : wellFormed (.carapaceSample ⟨[], ⟨0, 0, 0⟩, ⟨0, 0, 0⟩, 0, 2⟩) = false ∧
    wellFormed (.carapaceSample ⟨List.replicate 12 noReading, ⟨0, 0, 0⟩, ⟨0, 0, 0⟩, 0, 2⟩) = true := by decide
theorem wf_bar2Read : wellFormed (.bar2Read .bar2 0 4097 []) = false ∧ wellFormed (.bar2Read .bar2 0 4096 []) = true := by decide
theorem wf_bar2Write : wellFormed (.bar2Write 0 [] false) = false ∧ wellFormed (.bar2Write 0 [7] false) = true := by decide
theorem wf_units : wellFormed (.memWr 0 shortUnit) = false ∧ wellFormed (.rcpt 0 shortUnit) = false ∧
    wellFormed (.chkpt 0 shortUnit) = false ∧ wellFormed (.replayRsp 0 shortUnit) = false ∧
    wellFormed (.memWr 0 (unitOf 0x20 2 0 [1, 2])) = true := by decide
theorem wf_actionEntryWrite : wellFormed (.actionEntryWrite [] []) = false ∧
    wellFormed (.actionEntryWrite (List.replicate 8 0) (List.replicate 8 0)) = true := by decide
theorem wf_hostLinkUp : wellFormed (.hostLinkUp 0 8 {}) = false ∧ wellFormed (.hostLinkUp 5 3 {}) = false ∧
    wellFormed (.hostLinkUp 5 8 {}) = true := by decide
theorem wf_remap : wellFormed (.remap 3 16384 0) = false ∧ wellFormed (.remap 3 16383 0) = true := by decide
theorem wf_logRecord : wellFormed (.logRecord .power 0 (List.replicate 1009 0)) = false ∧
    wellFormed (.logRecord .power 0 (List.replicate 1008 0)) = true := by decide

end Sys2Proof.Tests
end

section
/-! SUPPORT. The register tables, denials and reads, said once: which words a denied access can touch, and what a read
answers and clears (R8, R38, R58). -/

namespace Sys2Proof.Machine

/-! ### Fields that fill their word -/

theorem Fld.put_word (f : Fld) (v : BitVec 32) (x : Nat) (hlo : f.lo = 0) (hw : f.w = 32) :
    f.put v x = BitVec.ofNat 32 x := by
  refine BitVec.eq_of_getLsbD_eq fun i hi => ?_
  rw [Fld.put_getLsbD _ _ _ _ hi, if_pos ⟨by omega, by omega⟩, BitVec.getLsbD_ofNat]
  simp [hlo, hi]

theorem Fld.get_word (f : Fld) (v : BitVec 32) (hlo : f.lo = 0) (hw : f.w = 32) : f.get v = v.toNat := by
  simp only [Fld.get, hlo, hw, BitVec.ushiftRight_zero]
  exact Nat.mod_eq_of_lt v.isLt

theorem State.rd_seqUp_same (s : State) (b : Nat) : (s.seqUp b).rd (b + 0x34) = s.rd (b + 0x34) + 1 := by
  unfold State.seqUp State.fset
  rw [show b + PAGE_SEQ.off = b + 0x34 from rfl, State.rd_wr_same, Fld.put_word _ _ _ rfl rfl, State.fget,
    Fld.get_word _ _ rfl rfl]
  exact BitVec.eq_of_toNat_eq (by simp [PAGE_SEQ])

/-! ### The register tables -/

theorem findPage_some {pg i : Nat} {p : PRow} (h : findPage pg = some (p, i)) :
    p ∈ pageRows ∧ p.page ≤ pg ∧ i = pg - p.page := by
  simp only [findPage, Option.map_eq_some_iff, Prod.mk.injEq] at h
  obtain ⟨q, hq, rfl, rfl⟩ := h
  have hr := List.find?_some hq
  simp only [Bool.and_eq_true, decide_eq_true_eq] at hr
  exact ⟨List.mem_of_find?_eq_some hq, hr.1, rfl⟩

/-- A register found at an offset is a row of the table, and the offset lies in the element named. -/
theorem findReg_some {rs : List RRow} {off e b : Nat} {r : RRow} (h : findReg rs off = some (r, e, b)) :
    r ∈ rs ∧ off = r.off + r.stride * e + b ∧ e < r.n ∧ b < r.bytes := by
  induction rs with
  | nil => simp [findReg] at h
  | cons q t ih =>
    unfold findReg at h
    split at h
    · next hq =>
      simp only [Bool.and_eq_true, decide_eq_true_eq] at hq
      obtain ⟨⟨⟨⟨hoff, he⟩, hb⟩, -⟩, -⟩ := hq
      simp only [Option.some.injEq, Prod.mk.injEq] at h
      obtain ⟨rfl, rfl, rfl⟩ := h
      have := Nat.div_add_mod (off - q.off) q.stride
      exact ⟨List.mem_cons_self .., by omega, he, hb⟩
    · split at h
      · next hq =>
        simp only [Bool.and_eq_true, decide_eq_true_eq] at hq
        obtain ⟨⟨⟨hn, hoff⟩, hb⟩, -⟩ := hq
        simp only [Option.some.injEq, Prod.mk.injEq] at h
        obtain ⟨rfl, rfl, rfl⟩ := h
        exact ⟨List.mem_cons_self .., by simp; omega, by omega, by omega⟩
      · obtain ⟨hr, h⟩ := ih h
        exact ⟨List.mem_cons_of_mem _ hr, h⟩

/-- The fields of a word whose access is RC, as a mask. -/
def rcBits (fs : List FRow) : Nat := (fs.filter (fun f => f.acc = .rc)).foldl (fun m f => m + (2 ^ f.w - 1) * 2 ^ f.lo) 0

/-- No pair has a field that a read clears. -/
theorem rcBits_pair : ∀ p ∈ pageRows, ∀ r ∈ p.regs, r.pair = true → rcBits r.fields = 0 := by decide

/-- The host's registers end below the pending bits. -/
theorem rowsHST_end : ∀ r ∈ rowsHST, r.off + r.stride * r.n + r.bytes ≤ 0x7F00 := by decide

theorem findReg_hst_none {off : Nat} (h : 0x7F00 ≤ off) : findReg rowsHST off = none := by
  refine Option.eq_none_iff_forall_ne_some.2 fun ⟨r, e, b⟩ hr => ?_
  obtain ⟨hm, hoff, he, hb⟩ := findReg_some hr
  have := rowsHST_end r hm
  have := Nat.mul_le_mul_left r.stride he.le
  omega

theorem msixAt_iff (a : Nat) : msixAt a = true ↔ msixWord a := by
  simp only [msixAt, Bool.and_eq_true, decide_eq_true_eq]
  simp only [msixWord, pHST]
  omega

/-- The page of the MSI-X table is the host's, and has no register there. -/
theorem findReg_of_msixAt {a i : Nat} {p : PRow} (hp : findPage (a / 0x10000) = some (p, i)) (h : msixAt a = true) :
    p.kind = .hst ∧ findReg p.regs (a % 0x10000) = none := by
  have hw := (msixAt_iff a).1 h
  simp only [msixWord] at hw
  rw [show a / 0x10000 = 0x78 by omega] at hp
  cases hp
  exact ⟨rfl, findReg_hst_none (by omega)⟩

theorem isLo_iff (rs : List RRow) (off : Nat) : isLo rs off = true ↔ ∃ r e, findReg rs off = some (r, e, 0) ∧ r.pair = true := by
  unfold isLo
  rcases findReg rs off with _ | ⟨r, e, _ | b⟩ <;> simp

theorem loAt_eq {a i : Nat} {p : PRow} (hp : findPage (a / 0x10000) = some (p, i)) : loAt a = isLo p.regs (a % 0x10000) := by
  simp [loAt, hp]

theorem rcMask_eq {a i : Nat} {p : PRow} (hp : findPage (a / 0x10000) = some (p, i)) :
    rcMask a = match findReg p.regs (a % 0x10000) with
      | none => 0
      | some (r, _, _) => rcBits r.fields := by
  simp only [rcMask, hp]
  cases findReg p.regs (a % 0x10000) <;> rfl

/-- A read of a _LO word clears nothing. -/
theorem rcMask_of_loAt {a : Nat} (h : loAt a = true) : rcMask a = 0 := by
  cases hp : findPage (a / 0x10000) with
  | none => simp [loAt, hp] at h
  | some q =>
    obtain ⟨r, e, hr, hpair⟩ := (isLo_iff _ _).1 ((loAt_eq hp).symm.trans h)
    rw [rcMask_eq hp, hr]
    exact rcBits_pair _ (findPage_some hp).1 r (findReg_some hr).1 hpair

theorem not_msixAt_of_loAt {a : Nat} (h : loAt a = true) : msixAt a = false := by
  refine Bool.eq_false_iff.2 fun hm => ?_
  cases hp : findPage (a / 0x10000) with
  | none => simp [loAt, hp] at h
  | some q =>
    obtain ⟨r, e, hr, -⟩ := (isLo_iff _ _).1 ((loAt_eq hp).symm.trans h)
    simp [(findReg_of_msixAt hp hm).2] at hr

/-- A page that is up is assigned, and powered where it lies in MAIN. -/
theorem pageUp_iff (s : State) (pg : Nat) :
    pageUp s pg = true ↔ ∃ p i, findPage pg = some (p, i) ∧ (p.main && !s.pins.mainPwrGood) = false := by
  unfold pageUp
  rcases findPage pg with _ | ⟨p, i⟩
  · simp
  · constructor
    · exact fun h => ⟨p, i, rfl, by simpa only [Bool.not_eq_true'] using h⟩
    · rintro ⟨_, _, ⟨⟩, h⟩
      simp only [h, Bool.not_false]

/-! ### Denials and errors: which words they can touch -/

/-- A denial touches the ACC page and the pending bits alone. -/
theorem State.rd_denied (s : State) (cls : Cls) (a d x : Nat) (hx : ¬onPage pACC x) (hm : ¬msixWord x) :
    (denied s cls a d).rd x = s.rd x := by
  simp only [onPage, pACC] at hx
  simp only [denied, pACC]
  rw [State.rd_raise _ _ _ _ (by simp only [IRQ_STAT]; omega) hm, State.rd_wr_ne _ _ _ _ (by simp only [ACC_DENY_INFO_REQ]; omega),
    State.rd_wr_ne _ _ _ _ (by simp only [ACC_DENY_ADDR]; omega), State.count,
    State.rd_fset_ne _ _ _ _ _ (by simp only [ACC_DENY_CNT]; omega)]

/-- An error latched on a page touches the page's header and the pending bits alone. -/
theorem State.rd_latch_off (s : State) (b code req detail x : Nat) (hx : ¬(b ≤ x ∧ x < b + 0x100)) (hm : ¬msixWord x) :
    (s.latch b code req detail).rd x = s.rd x :=
  State.rd_latch _ _ _ _ _ _ (by simp only [IRQ_STAT]; omega) (by simp only [ERR_CODE_CODE]; omega)
    (by simp only [ERR_INFO_REQ]; omega) (by simp only [PAGE_SEQ]; omega) hm

theorem sat32_lt (n : Nat) : sat32 n < 2 ^ 32 := by unfold sat32; split <;> omega

/-- What a denial records (R65). -/
theorem State.fget_denied (s : State) (cls : Cls) (a d : Nat) (hd : d < 4) :
    (denied s cls a d).fget pACC ACC_DENY_CNT = sat32 (s.fget pACC ACC_DENY_CNT + 1) ∧
      (denied s cls a d).fget pACC ACC_DENY_INFO_REASON = d := by
  have hraise (t : State) (f : Fld) (h : 0x100 ≤ f.off ∧ f.off < 0x110) : (t.raise pACC 3).fget pACC f = t.fget pACC f := by
    unfold State.fget
    rw [State.rd_raise _ _ _ _ (by simp only [IRQ_STAT]; omega) (by simp only [msixWord, pACC]; omega)]
  unfold denied
  constructor
  · rw [hraise _ _ (by decide)]
    unfold State.fget State.count
    rw [State.rd_wr_ne _ _ _ _ (by decide), State.rd_wr_ne _ _ _ _ (by decide)]
    exact (State.fget_fset_same s pACC ACC_DENY_CNT _ (by decide)).trans (Nat.mod_eq_of_lt (sat32_lt _))
  · rw [hraise _ _ (by decide)]
    unfold State.fget
    rw [show pACC + ACC_DENY_INFO_REASON.off = pACC + ACC_DENY_INFO_REQ.off from rfl, State.rd_wr_same]
    have hc : clsCode cls < 7 := by cases cls <;> decide
    simp only [Fld.get, ACC_DENY_INFO_REASON, BitVec.toNat_ushiftRight, BitVec.toNat_ofNat, Nat.shiftRight_eq_div_pow]
    omega

/-! ### Reads -/

/-- The state after a read that the page takes, before the answer: the _HI half of a _LO word latched, RC fields cleared. -/
def State.noteRead (s : State) (cls : Cls) (a : Nat) : State :=
  (if loAt a then { s with hiLatch := Tab.set s.hiLatch (clsKey cls a) (readHi s cls a) 0 } else s).clearRc a

theorem readAccess_word {s : State} {cls : Cls} {a : Nat} (ha : a % 4 = 0) (hup : pageUp s (a / 0x10000) = true)
    (hr : s.reaches cls = true) (hm : msixAt a = false) :
    readAccess s cls a 4 = (s.noteRead cls a).emit (.regRead cls a ((readWord s cls a).setWidth 64)) := by
  obtain ⟨p, i, hp, hpow⟩ := (pageUp_iff _ _).1 hup
  simp [readAccess, State.noteRead, hp, hr, hpow, hm, sizeOk, ha, loAt_eq hp]

theorem readAccess_double {s : State} {cls : Cls} {a : Nat} (ha : a % 8 = 0) (hup : pageUp s (a / 0x10000) = true)
    (hr : s.reaches cls = true) (hlo : loAt a = true) :
    readAccess s cls a 8 =
      ((s.noteRead cls a).clearRc (a + 4)).emit (.regRead cls a (readHi s cls a ++ readWord s cls a)) := by
  obtain ⟨p, i, hp, hpow⟩ := (pageUp_iff _ _).1 hup
  have hlo' := (loAt_eq hp).symm.trans hlo
  simp [readAccess, State.noteRead, hp, hr, hpow, not_msixAt_of_loAt hlo, sizeOk, ha, hlo, hlo']

/-- The MSI-X table and the pending bits read as they stand (R316). -/
theorem readAccess_msix {s : State} {cls : Cls} {a : Nat} (ha : a % 4 = 0) (hup : pageUp s (a / 0x10000) = true)
    (hr : s.reaches cls = true) (hm : msixAt a = true) :
    readAccess s cls a 4 = s.emit (.regRead cls a ((s.rd a).setWidth 64)) := by
  obtain ⟨p, i, hp, hpow⟩ := (pageUp_iff _ _).1 hup
  simp [readAccess, hp, hr, hpow, hm, ha]

/-- A read of a size or alignment that the page does not take (R38). -/
theorem readAccess_refused {s : State} {cls : Cls} {a size : Nat} (hup : pageUp s (a / 0x10000) = true)
    (hr : s.reaches cls = true) (hm : msixAt a = false) (h4 : ¬(size = 4 ∧ a % 4 = 0))
    (h8 : ¬(size = 8 ∧ a % 8 = 0 ∧ loAt a = true)) :
    readAccess s cls a size = (badSize s cls a).emit (.regRead cls a (allOnes size)) := by
  obtain ⟨p, i, hp, hpow⟩ := (pageUp_iff _ _).1 hup
  have hs : sizeOk p.regs a size = false := by
    rw [loAt_eq hp] at h8
    refine Bool.eq_false_iff.2 fun h => ?_
    simp only [sizeOk, Bool.or_eq_true, Bool.and_eq_true, decide_eq_true_eq] at h
    rcases h with h | h
    · exact h4 h
    · exact h8 ⟨h.1.1, h.1.2, h.2⟩
  simp [readAccess, hp, hr, hpow, hm, hs]

theorem windowWord_hst (s : State) (cls : Cls) {a : Nat} (h : a / 0x10000 = 0x78) : windowWord s cls a = none := by
  simp [windowWord, h]

/-- A class reads the MSI-X table and the pending bits as they stand. -/
theorem readWord_msix {s : State} (cls : Cls) {a : Nat} (hup : pageUp s (a / 0x10000) = true) (hm : msixAt a = true) :
    readWord s cls a = s.rd a := by
  obtain ⟨p, i, hp, hpow⟩ := (pageUp_iff _ _).1 hup
  obtain ⟨hk, hreg⟩ := findReg_of_msixAt hp hm
  have hw := (msixAt_iff a).1 hm
  simp only [msixWord] at hw
  have hoff : 0x7F00 ≤ a % 0x10000 := by omega
  simp only [readWord, hp, hpow, hk, hreg, windowWord_hst s cls (show a / 0x10000 = 0x78 by omega), Bool.false_eq_true,
    if_false]
  generalize a % 0x10000 = off at hoff
  split <;> simp_all

theorem and_not_zero (v : BitVec 32) : v &&& ~~~BitVec.ofNat 32 0 = v := BitVec.and_allOnes

theorem State.rd_clearRc (s : State) (a x : Nat) :
    (s.clearRc a).rd x = if x = a then s.rd a &&& ~~~BitVec.ofNat 32 (rcMask a) else s.rd x := by
  unfold State.clearRc
  by_cases hx : x = a
  · subst hx
    rw [if_pos rfl]
    split
    · next h => rw [h, and_not_zero]
    · exact State.rd_wr_same ..
  · rw [if_neg hx]
    split
    · rfl
    · exact State.rd_wr_ne _ _ _ _ hx

theorem State.clearRc_of_loAt (s : State) {a : Nat} (h : loAt a = true) : s.clearRc a = s := by
  simp [State.clearRc, rcMask_of_loAt h]

/-- What a clear leaves alone. -/
theorem State.behind_clearRc (s : State) (a : Nat) : (s.clearRc a).behind = s.behind := by
  unfold State.clearRc; split
  · rfl
  · exact State.behind_wr ..

theorem State.rd_noteRead (s : State) (cls : Cls) (a x : Nat) :
    (s.noteRead cls a).rd x = if x = a then s.rd a &&& ~~~BitVec.ofNat 32 (rcMask a) else s.rd x := by
  unfold State.noteRead
  rw [State.rd_clearRc]
  split
  · exact congrArg (· &&& _) (State.rd_eq _ _ _ (by split <;> rfl))
  · exact State.rd_eq _ _ _ (by split <;> rfl)

/-- Memories of a state that differs in its registers alone. -/
theorem sameBytes_of_behind {s t : State} (h : t.behind = s.behind) : sameBytes s t :=
  sameBytes_of_eq (congrArg State.mem h :) (congrArg State.flash h :) (congrArg (fun u : State => u.fwc.sram) h :)

theorem State.outs_noteRead (s : State) (cls : Cls) (a : Nat) : (s.noteRead cls a).outs = s.outs := by
  unfold State.noteRead State.clearRc
  split <;> split <;> rfl

theorem State.behind_noteRead (s : State) (cls : Cls) (a : Nat) : (s.noteRead cls a).behind = s.behind := by
  unfold State.noteRead
  rw [State.behind_clearRc]
  split <;> rfl

theorem State.noteRead_of_loAt {s : State} {cls : Cls} {a : Nat} (h : loAt a = true) :
    s.noteRead cls a = { s with hiLatch := Tab.set s.hiLatch (clsKey cls a) (readHi s cls a) 0 } := by
  rw [State.noteRead, State.clearRc_of_loAt _ h, if_pos h]

/-! ### READ_CLEAR and LO_READ -/

theorem exec_readClear (cls : Cls) (addr : BitVec 26) (size : Nat) (s : State) :
    exec (.readClear cls addr size) s = .next (readAccess s cls addr.toNat size) := rfl

theorem exec_loRead (cls : Cls) (addr : BitVec 26) (size : Nat) (s : State) :
    exec (.loRead cls addr size) s = .next (readAccess s cls addr.toNat size) := rfl

theorem readClear_returns_and_clears (cls : Cls) (addr : BitVec 26) (s : State) (ha : addr.toNat % 4 = 0)
    (hup : pageUp s (addr.toNat / 0x10000) = true) (hr : s.reaches cls = true) :
    completes (.readClear cls addr 4) s fun t =>
      t.outs = s.outs ++ [.regRead cls addr.toNat ((readWord s cls addr.toNat).setWidth 64)] ∧
      t.rd addr.toNat = s.rd addr.toNat &&& ~~~BitVec.ofNat 32 (rcMask addr.toNat) ∧
      sameRegs (· = addr.toNat) s t ∧ sameBytes s t := by
  refine completes_of_next (exec_readClear ..) ?_
  by_cases hm : msixAt addr.toNat = true
  · rw [readAccess_msix ha hup hr hm, readWord_msix cls hup hm]
    obtain ⟨p, i, hp, -⟩ := (pageUp_iff _ _).1 hup
    refine ⟨rfl, ?_, fun _ _ => rfl, sameBytes_refl s⟩
    rw [rcMask_eq hp, (findReg_of_msixAt hp hm).2, and_not_zero]
    rfl
  · rw [readAccess_word ha hup hr (Bool.eq_false_iff.2 hm)]
    refine ⟨by rw [State.emit, State.outs_noteRead], ?_, fun x hx => ?_, ?_⟩
    · exact (State.rd_noteRead ..).trans (if_pos rfl)
    · exact (State.rd_noteRead ..).trans (if_neg hx)
    · exact sameBytes_of_behind ((State.behind_emit ..).trans (State.behind_noteRead ..))

theorem loRead_latches_hi (cls : Cls) (addr : BitVec 26) (s : State) (ha : addr.toNat % 8 = 0)
    (hup : pageUp s (addr.toNat / 0x10000) = true) (hlo : loAt addr.toNat = true) (hr : s.reaches cls = true) :
    completes (.loRead cls addr 4) s (fun t =>
      t.outs = s.outs ++ [.regRead cls addr.toNat ((readWord s cls addr.toNat).setWidth 64)] ∧
      Tab.get t.hiLatch (clsKey cls addr.toNat) 0 = readHi s cls addr.toNat ∧
      (∀ k, k ≠ clsKey cls addr.toNat → Tab.get t.hiLatch k 0 = Tab.get s.hiLatch k 0) ∧ t.regs = s.regs) := by
  refine completes_of_next (exec_loRead ..) ?_
  rw [readAccess_word (by omega) hup hr (not_msixAt_of_loAt hlo), State.noteRead_of_loAt hlo]
  exact ⟨rfl, Tab.get_set_same .., fun k hk => Tab.get_set_ne _ _ _ _ _ _ hk, rfl⟩

theorem loRead_double_returns_both (cls : Cls) (addr : BitVec 26) (s : State) (ha : addr.toNat % 8 = 0)
    (hup : pageUp s (addr.toNat / 0x10000) = true) (hlo : loAt addr.toNat = true) (hr : s.reaches cls = true) :
    completes (.loRead cls addr 8) s fun t =>
      t.outs = s.outs ++ [.regRead cls addr.toNat (readHi s cls addr.toNat ++ readWord s cls addr.toNat)] := by
  refine completes_of_next (exec_loRead ..) ?_
  rw [readAccess_double ha hup hr hlo, State.noteRead_of_loAt hlo]
  unfold State.clearRc
  split <;> rfl

/-- A refused read is a denial with reason 2 and an error latched on its page, and clears nothing (R38, R65). -/
theorem badSize_records {s : State} {cls : Cls} {a : Nat} (hm : msixAt a = false) (hacc : a / 0x10000 ≠ pACC / 0x10000)
    (hoff : 0x100 ≤ a % 0x10000) :
    (badSize s cls a).fget pACC ACC_DENY_CNT = sat32 (s.fget pACC ACC_DENY_CNT + 1) ∧
      (badSize s cls a).fget pACC ACC_DENY_INFO_REASON = 2 ∧ (badSize s cls a).rd a = s.rd a := by
  have hw : ¬msixWord a := fun h => by simp [(msixAt_iff a).2 h] at hm
  simp only [pACC] at hacc
  have hfield (f : Fld) (h : f.off < 0x110) : (badSize s cls a).fget pACC f = (denied s cls a 2).fget pACC f := by
    unfold State.fget badSize
    rw [State.rd_latch_off _ _ _ _ _ _ (by simp only [pACC]; omega) (by simp only [msixWord, pACC]; omega)]
  obtain ⟨hcnt, hreason⟩ := State.fget_denied s cls a 2 (by decide)
  refine ⟨(hfield _ (by decide)).trans hcnt, (hfield _ (by decide)).trans hreason, ?_⟩
  unfold badSize
  rw [State.rd_latch_off _ _ _ _ _ _ (by omega) hw, State.rd_denied _ _ _ _ _ (by simp only [onPage, pACC]; omega) hw]

/-- Settles O10: each read is one of four, a word, a double word, a word of the MSI-X table, and a refused one. -/
theorem registerReads : Obligations.RegisterReads := by
  refine ⟨readClear_returns_and_clears, fun cls addr s ha hup hlo hr =>
    ⟨loRead_latches_hi cls addr s ha hup hlo hr, loRead_double_returns_both cls addr s ha hup hlo hr⟩, ?_⟩
  intro cls addr size c s hc hup hm hr h4 h8 hacc hoff
  have hx : exec c s = .next (readAccess s cls addr.toNat size) := by rcases hc with rfl | rfl <;> rfl
  refine completes_of_next hx ?_
  rw [readAccess_refused hup hr hm h4 h8]
  exact ⟨⟨_, rfl⟩, badSize_records hm hacc hoff⟩

end Sys2Proof.Machine
end

section
/-! SUPPORT. Whole register writes: what a page that takes a write leaves (R8, R48, R59). -/

namespace Sys2Proof.Machine

/-! ### The gate -/

/-- The gate leaves the state alone when it lets a write pass. -/
theorem blockGate_of_passes {s : State} {cls : Cls} {a : Nat} {f : Bool} (h : (blockGate s cls a f).1 = true) :
    (blockGate s cls a f).2 = s := by
  simp only [blockGate] at h ⊢
  split at h
  · cases h
  · next hf =>
    rw [if_neg hf]
    split at h
    · cases h
    · next hb => rw [if_neg hb]

theorem ite_passes {c : Prop} [Decidable c] {x y : Bool × State} {s : State} (hx : x.1 = true → x.2 = s)
    (hy : y.1 = true → y.2 = s) : (if c then x else y).1 = true → (if c then x else y).2 = s := by split <;> assumption

theorem writeGate_of_passes (s : State) (cls : Cls) (a size v : Nat) :
    (writeGate s cls a size v).1 = true → (writeGate s cls a size v).2 = s := by
  unfold writeGate
  cases findPage (a / 0x10000) with
  | none => exact fun _ => rfl
  | some p =>
    refine ite_passes (fun _ => rfl) (ite_passes (fun _ => rfl) (ite_passes (fun h => nomatch h) (ite_passes ?_ ?_)))
    · exact ite_passes (ite_passes (fun _ => rfl) (fun h => nomatch h))
        (ite_passes (ite_passes (fun _ => rfl) (fun h => nomatch h)) (fun h => nomatch h))
    · cases findReg p.1.regs (a % 0x10000) with
      | none => exact ite_passes (fun _ => rfl) (ite_passes (fun h => nomatch h) blockGate_of_passes)
      | some r =>
        exact ite_passes (fun _ => rfl) (ite_passes (fun h => nomatch h) (ite_passes (fun h => nomatch h) blockGate_of_passes))

/-- A write that a page takes, of a register found there, is that register's write. -/
theorem regWrite_of_takes {s : State} {cls : Cls} {a v i e b : Nat} {p : PRow} {r : RRow}
    (hp : findPage (a / 0x10000) = some (p, i)) (hr : findReg p.regs (a % 0x10000) = some (r, e, b)) (h : s.takes cls a v) :
    0x100 ≤ a % 0x10000 ∧ regWrite s cls a 4 v = writeBlock s cls p r a 4 v b := by
  unfold State.takes at h
  unfold regWrite at h ⊢
  simp only [hp, hr] at h ⊢
  have hg := writeGate_of_passes s cls a 4 v
  generalize writeGate s cls a 4 v = g at h hg ⊢
  obtain ⟨ok, u⟩ := g
  cases ok with
  | false => cases h
  | true =>
    simp only [Bool.not_true, Bool.false_eq_true, if_false] at h ⊢
    obtain rfl : u = s := hg rfl
    split at h
    · cases h
    · split at h
      · cases h
      · next hm hoff => exact ⟨not_lt.1 hoff, by rw [if_neg hm, if_neg hoff]⟩

/-- The state a block's checks and the committed write see: the _LO shadow of the word is used up (R59). -/
def State.unshadow (s : State) (cls : Cls) (a : Nat) : State :=
  { s with loShadow := Tab.set s.loShadow (clsKey cls a) none none }

/-- What a committed write of `x` at `c` leaves once the range and the block's rule pass. -/
theorem writeBlock_of_takes {s : State} {cls : Cls} {p : PRow} {r : RRow} {a size v b c x : Nat}
    (hc : commitValue s cls r a size v b = some (c, x)) (h : (writeBlock s cls p r a size v b).1 = true) :
    (writeBlock s cls p r a size v b).2 =
      (if r.pair then
        putWord (putWord (s.unshadow cls c) cls r c (BitVec.ofNat 32 (Nat.land (x % 0x100000000) r.lom))) cls r (c + 4)
          (BitVec.ofNat 32 (Nat.land (x / 0x100000000) r.hi))
      else putWord (s.unshadow cls c) cls r c
        (takeWord (s.unshadow cls c) p.kind (c % 0x10000) r (oldWord (s.unshadow cls c) cls r c) x)).seqUp
          (a / 0x10000 * 0x10000) := by
  simp only [writeBlock, hc] at h ⊢
  split at h
  · cases h
  · next hrange =>
    rw [if_neg hrange]
    split at h
    · cases h
    · split <;> rfl

/-- A word write that a page takes, of a register that is no pair, has no copy per class and no rule of its own on the value
taken: R8's word, counted in PAGE_SEQ (R48). -/
theorem regWrite_word {s : State} {cls : Cls} {a v i e : Nat} {p : PRow} {r : RRow}
    (hp : findPage (a / 0x10000) = some (p, i)) (hr : findReg p.regs (a % 0x10000) = some (r, e, 0)) (hpair : r.pair = false)
    (hcls : r.percls = false) (hk : p.kind ≠ .gen ∧ p.kind ≠ .hzdsens) (hv : v < 0x100000000) (h : s.takes cls a v) :
    0x100 ≤ a % 0x10000 ∧ (regWrite s cls a 4 v).2 =
      ((s.unshadow cls a).wr a (writeWord r.fields (s.rd a) v)).seqUp (a / 0x10000 * 0x10000) := by
  obtain ⟨hoff, hw⟩ := regWrite_of_takes hp hr h
  unfold State.takes at h
  have hc : commitValue s cls r a 4 v 0 = some (a, v) := by simp [commitValue, hpair, Nat.mod_eq_of_lt hv]
  rw [hw] at h
  rw [hw, writeBlock_of_takes hc h]
  refine ⟨hoff, ?_⟩
  simp [hpair, putWord, oldWord, hcls, takeWord, hk]
  rfl

/-- A write of a _HI word that a page takes, where the class shadowed the _LO: both halves, each as wide as its register
holds them, counted once (R59). -/
theorem regWrite_hi {s : State} {cls : Cls} {a v i e : Nat} {p : PRow} {r : RRow} {lo : BitVec 32}
    (hp : findPage (a / 0x10000) = some (p, i)) (hr : findReg p.regs (a % 0x10000) = some (r, e, 4)) (hpair : r.pair = true)
    (hcls : r.percls = false) (hv : v < 0x100000000) (h : s.takes cls a v)
    (hlo : Tab.get s.loShadow (clsKey cls (a - 4)) none = some lo) :
    0x100 ≤ a % 0x10000 ∧ (regWrite s cls a 4 v).2 =
      (((s.unshadow cls (a - 4)).wr (a - 4) (BitVec.ofNat 32 (Nat.land lo.toNat r.lom))).wr a
        (BitVec.ofNat 32 (Nat.land v r.hi))).seqUp (a / 0x10000 * 0x10000) := by
  obtain ⟨hoff, hw⟩ := regWrite_of_takes hp hr h
  unfold State.takes at h
  have hc : commitValue s cls r a 4 v 4 = some (a - 4, lo.toNat + v * 0x100000000) := by
    simp [commitValue, hpair, hlo, Nat.mod_eq_of_lt hv]
  have h1 : (lo.toNat + v * 0x100000000) % 0x100000000 = lo.toNat := by omega
  have h2 : (lo.toNat + v * 0x100000000) / 0x100000000 = v := by omega
  have ha : a - 4 + 4 = a := by omega
  rw [hw] at h
  rw [hw, writeBlock_of_takes hc h, h1, h2, ha]
  exact ⟨hoff, by simp only [hpair, putWord, hcls, if_true]; rfl⟩

/-! ### REGISTER_WRITE and HI_WRITE -/

theorem exec_registerWrite (cls : Cls) (addr : BitVec 26) (size : Nat) (value : BitVec 64) (s : State) :
    exec (.registerWrite cls addr size value) s = .next (s.writeReg cls addr.toNat size value.toNat).dueDuties := rfl

theorem exec_hiWrite_of_hiAt (cls : Cls) (addr : BitVec 26) (value : BitVec 32) (s : State) (h : hiAt addr.toNat = true) :
    ∃ t, exec (.hiWrite cls addr value) s = .next t ∧ t.regs = (regWrite s cls addr.toNat 4 value.toNat).2.regs ∧
      t.loShadow = (regWrite s cls addr.toNat 4 value.toNat).2.loShadow := by
  refine ⟨_, (show exec (.hiWrite cls addr value) s = execHiWrite cls addr value s from rfl).trans (if_pos h), ?_⟩
  split <;> exact ⟨rfl, rfl⟩

/-- The page kinds whose block registers start nothing when written. -/
def plainKinds : List PageKind := [.acc, .clk, .ntrglob, .blkglob, .int, .fwl, .trc, .alg, .crpglob]

theorem writeAct_plain {k : PageKind} (hk : k ∈ plainKinds) (cls : Cls) (inst off v : Nat) (t s : State) :
    writeAct cls k inst off v t s = s := by
  simp only [plainKinds, List.mem_cons, List.not_mem_nil, or_false] at hk
  rcases hk with rfl | rfl | rfl | rfl | rfl | rfl | rfl | rfl | rfl <;> rfl

/-- A core that owes MAIN nothing does nothing. -/
theorem State.dueDuties_of_none {s : State} (hprof : s.mainP.profDue = false) (hsilk : s.mainP.silkDue = false) :
    s.dueDuties = s := by simp [State.dueDuties, hprof, hsilk]

/-- A word write as a page without actions takes it, at the register's own offset: R8's word, one count, nothing else. -/
theorem registerWrite_plain (cls : Cls) (addr : BitVec 26) (value : BitVec 32) (s : State) (p : PRow) (i : Nat) (r : RRow) (e : Nat)
    (hp : findPage (addr.toNat / 0x10000) = some (p, i)) (hr : findReg p.regs (addr.toNat % 0x10000) = some (r, e, 0))
    (hk : p.kind ∈ plainKinds) (hpair : r.pair = false) (hcls : r.percls = false) (ht : s.takes cls addr.toNat value.toNat)
    (hprof : s.mainP.profDue = false) (hsilk : s.mainP.silkDue = false) :
    completes (.registerWrite cls addr 4 (value.setWidth 64)) s fun t =>
      t.rd addr.toNat = writeWord r.fields (s.rd addr.toNat) value.toNat ∧
      t.rd (addr.toNat / 0x10000 * 0x10000 + 0x34) = s.rd (addr.toNat / 0x10000 * 0x10000 + 0x34) + 1 ∧
      sameRegs (fun a => a = addr.toNat ∨ a = addr.toNat / 0x10000 * 0x10000 + 0x34) s t ∧ sameBytes s t := by
  have hkind : p.kind ≠ .gen ∧ p.kind ≠ .hzdsens := by
    constructor <;> (intro hn; rw [hn] at hk; revert hk; decide)
  have hv : (value.setWidth 64).toNat = value.toNat := by simp; omega
  obtain ⟨hoff, hw⟩ := regWrite_word hp hr hpair hcls hkind value.isLt ht
  have hx : exec (.registerWrite cls addr 4 (value.setWidth 64)) s = .next (((s.unshadow cls addr.toNat).wr addr.toNat
      (writeWord r.fields (s.rd addr.toNat) value.toNat)).seqUp (addr.toNat / 0x10000 * 0x10000)) := by
    have hreg : s.writeReg cls addr.toNat 4 value.toNat = (regWrite s cls addr.toNat 4 value.toNat).2 := by
      simp only [State.writeReg, show (regWrite s cls addr.toNat 4 value.toNat).1 = true from ht, hp, writeAct_plain hk]
    rw [exec_registerWrite, hv, hreg, hw, State.dueDuties_of_none (by exact hprof) (by exact hsilk)]
  generalize hb : addr.toNat / 0x10000 * 0x10000 = base at hx ⊢
  generalize writeWord r.fields (s.rd addr.toNat) value.toNat = w at hx ⊢
  have hseq : PAGE_SEQ.off = 0x34 := rfl
  refine completes_of_next hx ⟨?_, ?_, fun x hx => ?_, ?_⟩
  · rw [State.rd_seqUp _ _ _ (by omega), State.rd_wr_same]
  · rw [State.rd_seqUp_same, State.rd_wr_ne _ _ _ _ (by omega)]
    rfl
  · rw [State.rd_seqUp _ _ _ (by omega), State.rd_wr_ne _ _ _ _ (by omega)]
    rfl
  · exact sameBytes_of_eq rfl rfl rfl

/-- A write of a _HI half with its _LO shadowed: both halves, one count, and the shadow used up. -/
theorem hiWrite_commits (cls : Cls) (addr : BitVec 26) (value lo : BitVec 32) (s : State) (p : PRow) (i : Nat) (r : RRow) (e : Nat)
    (hp : findPage (addr.toNat / 0x10000) = some (p, i)) (hr : findReg p.regs (addr.toNat % 0x10000) = some (r, e, 4))
    (hpair : r.pair = true) (hcls : r.percls = false) (ht : s.takes cls addr.toNat value.toNat)
    (hlo : Tab.get s.loShadow (clsKey cls (addr.toNat - 4)) none = some lo) :
    completes (.hiWrite cls addr value) s fun t =>
      t.rd (addr.toNat - 4) = BitVec.ofNat 32 (Nat.land lo.toNat r.lom) ∧
      t.rd addr.toNat = BitVec.ofNat 32 (Nat.land value.toNat r.hi) ∧
      Tab.get t.loShadow (clsKey cls (addr.toNat - 4)) none = none ∧
      t.rd (addr.toNat / 0x10000 * 0x10000 + 0x34) = s.rd (addr.toNat / 0x10000 * 0x10000 + 0x34) + 1 := by
  obtain ⟨t, hx, hregs, hshadow⟩ := exec_hiWrite_of_hiAt cls addr value s (by simp [hiAt, hp, hr, hpair])
  obtain ⟨hoff, hw⟩ := regWrite_hi hp hr hpair hcls value.isLt ht hlo
  rw [hw] at hregs hshadow
  refine completes_of_next hx ?_
  rw [State.rd_eq _ t _ hregs, State.rd_eq _ t _ hregs, State.rd_eq _ t _ hregs, hshadow]
  have hseq : PAGE_SEQ.off = 0x34 := rfl
  refine ⟨?_, ?_, (Tab.get_set_same s.loShadow _ none none :), ?_⟩
  · rw [State.rd_seqUp _ _ _ (by omega), State.rd_wr_ne _ _ _ _ (by omega), State.rd_wr_same]
  · rw [State.rd_seqUp _ _ _ (by omega), State.rd_wr_same]
  · rw [State.rd_seqUp_same, State.rd_wr_ne _ _ _ _ (by omega), State.rd_wr_ne _ _ _ _ (by omega)]
    rfl

/-- Settles O11: what the page takes is R8's word, or the two halves of the pair. -/
theorem registerWrites : Obligations.RegisterWrites :=
  ⟨registerWrite_plain, hiWrite_commits⟩

end Sys2Proof.Machine
end

section
/-! SUPPORT. Which words a write of a block register can touch, taken or not. -/

namespace Sys2Proof.Machine

theorem not_onPage (b a : Nat) : ¬onPage b a ↔ a < b ∨ b + 0x10000 ≤ a := by
  rw [onPage, not_and_or, not_le, not_lt]

theorem State.rd_dropWrite (s : State) (cls : Cls) (a code x : Nat) (hx : ¬onPage (a / 0x10000 * 0x10000) x)
    (hm : ¬msixWord x) : (dropWrite s cls a code).rd x = s.rd x := by
  rw [not_onPage] at hx
  have hseq : (s.seqUp (a / 0x10000 * 0x10000)).rd x = s.rd x := State.rd_seqUp _ _ _ (by simp only [PAGE_SEQ]; omega)
  simp only [dropWrite]
  split
  · exact hseq
  · rw [State.rd_latch_off _ _ _ _ _ _ (by omega) hm, hseq]

theorem rd_ite {c : Prop} [Decidable c] {x y : Bool × State} {a : Nat} {w : BitVec 32} (hx : x.2.rd a = w)
    (hy : y.2.rd a = w) : (if c then x else y).2.rd a = w := by split <;> assumption

/-- A word that no write of a block register at `a` can touch: on another page, and neither a denial's nor a message's. -/
def outOfReach (a x : Nat) : Prop := ¬onPage (a / 0x10000 * 0x10000) x ∧ ¬onPage pACC x ∧ ¬msixWord x

section
variable {a x : Nat} (h : outOfReach a x) (s : State) (cls : Cls) (v : Nat)
include h

theorem State.rd_blockGate (f : Bool) : (blockGate s cls a f).2.rd x = s.rd x := by
  obtain ⟨hx, -, hm⟩ := h
  have hdrop (code : Nat) : (dropWrite s cls a code).rd x = s.rd x := State.rd_dropWrite _ _ _ _ _ hx hm
  simp only [blockGate]
  exact rd_ite (hdrop 1) (rd_ite (hdrop 2) rfl)

theorem State.rd_badSize : (badSize s cls a).rd x = s.rd x := by
  obtain ⟨hx, hacc, hm⟩ := h
  rw [not_onPage] at hx
  exact (State.rd_latch_off _ _ _ _ _ _ (by omega) hm).trans (State.rd_denied _ _ _ _ _ hacc hm)

theorem State.rd_writeGate (size : Nat) : (writeGate s cls a size v).2.rd x = s.rd x := by
  have hden (d : Nat) : (denied s cls a d).rd x = s.rd x := State.rd_denied _ _ _ _ _ h.2.1 h.2.2
  have hgate := State.rd_blockGate h s cls
  unfold writeGate
  cases findPage (a / 0x10000) with
  | none => rfl
  | some p =>
    refine rd_ite rfl (rd_ite rfl (rd_ite (State.rd_badSize h ..) (rd_ite ?_ ?_)))
    · exact rd_ite (rd_ite rfl (hden 3)) (rd_ite (rd_ite rfl (hden 0)) rfl)
    · cases findReg p.1.regs (a % 0x10000) with
      | none => exact rd_ite rfl (rd_ite (hden 0) (hgate _))
      | some r => exact rd_ite rfl (rd_ite (hden 0) (rd_ite (hden 1) (hgate _)))

end

theorem State.rd_putWord (s : State) (cls : Cls) (r : RRow) {c x : Nat} (w : BitVec 32) (hc : x ≠ c) :
    (putWord s cls r c w).rd x = s.rd x := by
  unfold putWord; split
  · rfl
  · exact State.rd_wr_ne _ _ _ _ hc

/-- A word write commits at its own offset, or at the _LO half before it. -/
theorem commitValue_word {s : State} {cls : Cls} {r : RRow} {a v b c y : Nat}
    (h : commitValue s cls r a 4 v b = some (c, y)) : (r.pair = false ∧ c = a) ∨ c = a - 4 := by
  unfold commitValue at h
  split at h
  · next hp => cases h; exact .inl ⟨by simpa using hp, rfl⟩
  · rw [if_neg (by decide)] at h
    split at h
    · cases h
    · cases h; exact .inr rfl

section
variable {a x : Nat} (hoff : 0x100 ≤ a % 0x10000) (h : outOfReach a x) (s : State) (cls : Cls) (v : Nat)
include hoff h

theorem State.rd_writeBlock (p : PRow) (r : RRow) (b : Nat) : (writeBlock s cls p r a 4 v b).2.rd x = s.rd x := by
  obtain ⟨hx, -, hm⟩ := h
  have hx' := (not_onPage _ _).1 hx
  have hseq (u : State) : (u.seqUp (a / 0x10000 * 0x10000)).rd x = u.rd x :=
    State.rd_seqUp _ _ _ (by simp only [PAGE_SEQ]; omega)
  unfold writeBlock
  cases hc : commitValue s cls r a 4 v b with
  | none => exact hseq _
  | some q =>
    obtain ⟨c, y⟩ := q
    have hpos := commitValue_word hc
    have hpage : c / 0x10000 = a / 0x10000 := by omega
    have hdrop (u : State) (code : Nat) : (dropWrite u cls c code).rd x = u.rd x :=
      State.rd_dropWrite _ _ _ _ _ (hpage ▸ hx) hm
    have hput (u : State) (w : BitVec 32) : (putWord u cls r c w).rd x = u.rd x := State.rd_putWord _ _ _ _ (by omega)
    refine rd_ite (hdrop ..) ?_
    generalize blockRule _ p.kind _ _ _ = o
    cases o with
    | some e => exact hdrop ..
    | none =>
      refine dite (r.pair = true) (fun hp => ?_) fun hp => ?_
      · have : x ≠ c + 4 := by
          rcases hpos with ⟨hn, -⟩ | rfl
          · rw [hp] at hn; cases hn
          · omega
        rw [if_pos hp]
        exact (hseq _).trans ((State.rd_putWord _ _ _ _ this).trans (hput ..))
      · rw [if_neg hp]
        exact (hseq _).trans (hput ..)

/-- A word write of a block register, taken or not, touches its own page, what a denial records and the pending bits alone. -/
theorem State.rd_regWrite (hmsix : msixAt a = false) : (regWrite s cls a 4 v).2.rd x = s.rd x := by
  unfold regWrite
  refine rd_ite (State.rd_writeGate h ..) ?_
  cases findPage (a / 0x10000) with
  | none => rfl
  | some p =>
    dsimp only
    rw [hmsix, if_neg (by decide), if_neg (by omega)]
    cases findReg p.1.regs (a % 0x10000) with
    | none =>
      have hx := (not_onPage _ _).1 h.1
      exact (State.rd_seqUp _ _ _ (by simp only [PAGE_SEQ]; omega)).trans (State.rd_wr_ne _ _ _ _ (by omega))
    | some r => exact State.rd_writeBlock hoff h ..

end

end Sys2Proof.Machine
end

section
/-! SUPPORT. The fan channels: what their shared operations leave of a channel's own words, and of everything else. -/

namespace Sys2Proof.Machine

/-! ### A channel's words -/

/-- A field of a channel's registers. -/
abbrev Fld.chan (f : Fld) : Prop := 0x100 ≤ f.off ∧ f.off < 0x120 ∧ f.inWord

/-- A field that a write of `g` leaves as it is: in another word, or on other bits. -/
abbrev Fld.clear (g f : Fld) : Prop := f.off ≠ g.off ∨ Fld.apart g f

theorem State.ch_of_rd {s t : State} {n : Nat} {f : Fld}
    (h : t.rd (pLCWCHAN + (f.off + n * 0x20)) = s.rd (pLCWCHAN + (f.off + n * 0x20))) : t.ch n f = s.ch n f := congrArg f.get h

theorem State.ch_eq (s t : State) (n : Nat) (f : Fld) (h : t.regs = s.regs) : t.ch n f = s.ch n f :=
  State.fget_eq _ _ _ _ h

theorem State.ch_lt (s : State) (n : Nat) (f : Fld) : s.ch n f < 2 ^ f.w := Nat.mod_lt _ (Nat.two_pow_pos _)

theorem State.ch_chSet_same (s : State) (n : Nat) (f : Fld) (x : Nat) (h : f.chan) : (s.chSet n f x).ch n f = x % 2 ^ f.w :=
  State.fget_fset_same _ _ _ _ h.2.2

theorem State.ch_chSet_clear (s : State) (n : Nat) (f g : Fld) (x : Nat) (hf : f.chan) (h : g.clear f) :
    (s.chSet n g x).ch n f = s.ch n f := by
  by_cases ho : f.off = g.off
  · exact State.fget_fset_apart _ _ _ _ _ (congrArg (· + n * 0x20) ho) hf.2.2 (h.resolve_left (not_not.2 ho))
  · exact State.fget_fset_ne _ _ _ _ _ _ (by simp only [Fld.nth]; omega)

theorem State.ch_fset_off (s : State) (n : Nat) (f g : Fld) (b x : Nat) (hf : f.chan) (h : b + g.off < pLCWCHAN + 0x100) :
    (s.fset b g x).ch n f = s.ch n f :=
  State.fget_fset_ne _ _ _ _ _ _ (by simp only [Fld.nth]; omega)

theorem State.ch_raise (s : State) (n : Nat) (f : Fld) (b i : Nat) (hf : f.chan) (h : b ≤ pLCWCHAN) :
    (s.raise b i).ch n f = s.ch n f :=
  State.ch_of_rd (State.rd_raise _ _ _ _ (by simp only [IRQ_STAT]; omega) (by simp only [msixWord, pLCWCHAN]; omega))

theorem State.ch_maskBit (s : State) (n : Nat) (f g : Fld) (k : Nat) (on : Bool) (hf : f.chan) (hg : g.off < 0x1000) :
    (s.maskBit pLCWGLOB g k on).ch n f = s.ch n f :=
  State.ch_fset_off _ _ _ _ _ _ hf (by simp only [pLCWGLOB, pLCWCHAN]; omega)

/-! ### A channel beyond its page -/

theorem State.fan_eq (s t : State) (k : Nat) (h : t.lcw = s.lcw) : t.fan k = s.fan k := by simp [State.fan, h]

theorem State.fan_modFan_same (s : State) (n : Nat) (f : FanSt → FanSt) : (s.modFan n f).fan n = f (s.fan n) :=
  Tab.get_set_same ..

theorem State.fan_modFan_ne (s : State) (n k : Nat) (f : FanSt → FanSt) (h : k ≠ n) : (s.modFan n f).fan k = s.fan k :=
  Tab.get_set_ne _ _ _ _ _ _ h

theorem State.ch_modFan (s : State) (n k : Nat) (g : FanSt → FanSt) (f : Fld) : (s.modFan n g).ch k f = s.ch k f :=
  State.ch_eq _ _ _ _ rfl

/-! ### The cap on degraded channels, and a channel's drive -/

theorem fanCap_reach {x : Nat} (h : pLCWGLOB ≤ x) : outOfReach (pGOVGLOB + GG_FAN_CAP.off) x := by
  refine ⟨?_, ?_, ?_⟩
  · rw [not_onPage]; right; exact le_trans (by decide) h
  · rw [not_onPage]; right; exact le_trans (by decide) h
  · exact fun hm => absurd (hm.2.trans_le (le_trans (by decide) h)) (lt_irrefl x)

/-- The cap stands, or is written as a register of the governor's page, taken or not. -/
theorem State.fanCap_cases (s : State) :
    s.fanCap = s ∨ ∃ cap, s.fanCap = (regWrite s .fwp (pGOVGLOB + GG_FAN_CAP.off) 4 cap).2 :=
  (ite_eq_or_eq _ _ _).symm.imp_right fun h => ⟨_, h⟩

theorem State.rd_fanCap (s : State) {x : Nat} (h : pLCWGLOB ≤ x) : s.fanCap.rd x = s.rd x := by
  rcases s.fanCap_cases with hc | ⟨cap, hc⟩
  · rw [hc]
  · rw [hc]
    exact State.rd_regWrite (by decide) (fanCap_reach h) _ _ _ (by decide)

theorem State.behind_fanCap (s : State) : s.fanCap.behind = s.behind := by
  rcases s.fanCap_cases with hc | ⟨cap, hc⟩
  · rw [hc]
  · rw [hc, State.behind_regWrite]

theorem State.ch_fanCap (s : State) (n : Nat) (f : Fld) : s.fanCap.ch n f = s.ch n f :=
  State.ch_of_rd (State.rd_fanCap _ (le_trans (by decide) (Nat.le_add_right ..)))

theorem State.fan_fanCap (s : State) (n : Nat) : s.fanCap.fan n = s.fan n :=
  State.fan_eq _ _ _ (congrArg State.lcw (State.behind_fanCap s) :)

/-- A channel's drive is left as it is, or takes its duty. -/
theorem State.driveFan_cases (s : State) (n : Nat) :
    (s.driveFan n = s ∧ s.crpDeaf = true) ∨ s.driveFan n = s.setDuty n (s.fanDuty n) := by
  unfold State.driveFan
  split
  · next h => exact .inl ⟨rfl, (Bool.and_eq_true_iff.1 h).1⟩
  · exact .inr rfl

theorem State.fan_driveFan (s : State) (n k : Nat) : (s.driveFan n).fan k = s.fan k := by
  rcases s.driveFan_cases n with ⟨h, -⟩ | h
  · rw [h]
  · rw [h]
    rfl

theorem State.rd_driveFan (s : State) (n : Nat) {x : Nat} (h : x ≠ pLCWCHAN + (0x10C + n * 0x20)) :
    (s.driveFan n).rd x = s.rd x := by
  rcases s.driveFan_cases n with ⟨hd, -⟩ | hd
  · rw [hd]
  · rw [hd]
    exact State.rd_fset_ne _ pLCWCHAN _ _ _ h

theorem State.ch_driveFan (s : State) (n : Nat) (f : Fld) (hf : f.chan) (h : LCW_CH_STAT_APPLIED.clear f) :
    (s.driveFan n).ch n f = s.ch n f := by
  rcases s.driveFan_cases n with ⟨hd, -⟩ | hd
  · rw [hd]
  · rw [hd]
    exact (State.ch_chSet_clear _ _ _ _ _ hf h).trans (State.ch_eq _ _ _ _ rfl)

/-- The duty a channel that Carapace hears is driven at. -/
theorem State.applied_driveFan (s : State) (n : Nat) (h : s.crpDeaf = false) :
    (s.driveFan n).ch n LCW_CH_STAT_APPLIED = s.fanDuty n % 2 ^ 10 := by
  rcases s.driveFan_cases n with ⟨-, hd⟩ | hd
  · rw [h] at hd; cases hd
  · rw [hd]
    exact State.ch_chSet_same _ _ _ _ (by decide)

/-! ### Entering a state -/

/-- A channel that enters a state, before its drive and the cap follow. -/
def State.markFan (s : State) (n st : Nat) : State :=
  let u := (s.chSet n LCW_CH_STAT_STATE st).raise pLCWCHAN 3
  (if s.fanState n = 3 then u.fset pLCWGLOB LCW_STAT_COMMISSIONING 0 else u).maskBit pLCWGLOB LCW_FAULTS_STALLED n (st = 5)

theorem State.setFan_same {s : State} {n st : Nat} (h : s.fanState n = st) : s.setFan n st = s := if_pos h

theorem State.setFan_ne {s : State} {n st : Nat} (h : s.fanState n ≠ st) :
    s.setFan n st = ((s.markFan n st).driveFan n).fanCap := if_neg h

theorem State.ch_markFan (s : State) (n st k : Nat) (f : Fld) (hf : f.chan) :
    (s.markFan n st).ch k f = (s.chSet n LCW_CH_STAT_STATE st).ch k f := by
  simp only [State.markFan]
  rw [State.ch_maskBit _ _ _ _ _ _ hf (by decide)]
  split
  · rw [State.ch_fset_off _ _ _ _ _ _ hf (by decide), State.ch_raise _ _ _ _ _ hf (by decide)]
  · rw [State.ch_raise _ _ _ _ _ hf (by decide)]

theorem State.behind_markFan (s : State) (n st : Nat) : (s.markFan n st).behind = s.behind := by
  simp only [State.markFan, State.maskBit]
  rw [State.behind_fset]
  split
  · rw [State.behind_fset, State.raise, State.raiseBits, State.behind_setIrq, State.chSet, State.behind_fset]
  · rw [State.raise, State.raiseBits, State.behind_setIrq, State.chSet, State.behind_fset]

/-- The fields of a channel that entering a state keeps. -/
abbrev Fld.lasts (f : Fld) : Prop := f.chan ∧ LCW_CH_STAT_STATE.clear f ∧ LCW_CH_STAT_APPLIED.clear f

theorem State.ch_setFan (s : State) (n st : Nat) (f : Fld) (hf : f.lasts) : (s.setFan n st).ch n f = s.ch n f := by
  by_cases h : s.fanState n = st
  · rw [State.setFan_same h]
  · rw [State.setFan_ne h, State.ch_fanCap, State.ch_driveFan _ _ _ hf.1 hf.2.2, State.ch_markFan _ _ _ _ _ hf.1,
      State.ch_chSet_clear _ _ _ _ _ hf.1 hf.2.1]

theorem State.fanState_setFan (s : State) (n st : Nat) (hst : st < 8) : (s.setFan n st).fanState n = st := by
  by_cases h : s.fanState n = st
  · rw [State.setFan_same h, h]
  · rw [State.setFan_ne h]
    unfold State.fanState
    rw [State.ch_fanCap, State.ch_driveFan _ _ _ (by decide) (by decide), State.ch_markFan _ _ _ _ _ (by decide),
      State.ch_chSet_same _ _ _ _ (by decide)]
    exact Nat.mod_eq_of_lt hst

theorem State.fan_setFan (s : State) (n st k : Nat) : (s.setFan n st).fan k = s.fan k := by
  by_cases h : s.fanState n = st
  · rw [State.setFan_same h]
  · rw [State.setFan_ne h, State.fan_fanCap, State.fan_driveFan]
    exact State.fan_eq _ _ _ (congrArg State.lcw (State.behind_markFan s n st) :)

theorem State.fanOn_eq {s t : State} {n : Nat} (h : t.ch n LCW_CH_CTRL_EN = s.ch n LCW_CH_CTRL_EN) : t.fanOn n = s.fanOn n := by
  unfold State.fanOn; rw [h]

/-! ### What a step of one channel leaves alone -/

/-- The words that a step of channel `n` may change, of the pages of the fans and the sensors: headers, LCW_STAT, LCW_FAULTS and
the channel's own. -/
def fanReach (n x : Nat) : Prop :=
  x < pLCWGLOB + 0x100 ∨ x = pLCWGLOB + 0x104 ∨ x = pLCWGLOB + 0x134 ∨ (pLCWCHAN ≤ x ∧ x < pLCWCHAN + 0x100) ∨
    (pLCWCHAN + 0x100 + 0x20 * n ≤ x ∧ x < pLCWCHAN + 0x120 + 0x20 * n) ∨ pHZDSENS + 0x10000 ≤ x

/-- A step of channel `n`: every word out of its reach, every other channel, whether Carapace hears, and every byte stand. -/
def onlyFan (n : Nat) (s t : State) : Prop :=
  (∀ x, ¬fanReach n x → t.rd x = s.rd x) ∧ (∀ k, k ≠ n → t.fan k = s.fan k) ∧ t.crpDeaf = s.crpDeaf ∧ sameBytes s t

theorem onlyFan.refl (n : Nat) (s : State) : onlyFan n s s := ⟨fun _ _ => rfl, fun _ _ => rfl, rfl, sameBytes_refl s⟩

theorem onlyFan.trans {n : Nat} {s t u : State} (h : onlyFan n s t) (k : onlyFan n t u) : onlyFan n s u :=
  ⟨fun x hx => (k.1 x hx).trans (h.1 x hx), fun j hj => (k.2.1 j hj).trans (h.2.1 j hj), k.2.2.1.trans h.2.2.1,
    sameBytes_trans h.2.2.2 k.2.2.2⟩

/-- An operation on registers within reach. -/
theorem onlyFan_of_behind {n : Nat} {s t : State} (h : t.behind = s.behind) (hr : ∀ x, ¬fanReach n x → t.rd x = s.rd x) :
    onlyFan n s t := by
  have hcrp : t.crp = s.crp := (congrArg State.crp h :)
  exact ⟨hr, fun k _ => State.fan_eq _ _ _ (congrArg State.lcw h :), by simp only [State.crpDeaf, hcrp], sameBytes_of_behind h⟩

theorem onlyFan_fset {n : Nat} (s : State) (b : Nat) (f : Fld) (x : Nat) (h : fanReach n (b + f.off)) : onlyFan n s (s.fset b f x) :=
  onlyFan_of_behind (State.behind_fset ..) fun _ hx => State.rd_fset_ne _ _ _ _ _ fun e => hx (e ▸ h)

theorem onlyFan_chSet {n : Nat} (s : State) (f : Fld) (x : Nat) (h : f.chan) : onlyFan n s (s.chSet n f x) :=
  onlyFan_fset _ _ _ _ (by simp only [fanReach, Fld.nth]; omega)

theorem onlyFan_raise {n : Nat} (s : State) (b i : Nat) (h : fanReach n (b + 0x18)) : onlyFan n s (s.raise b i) :=
  onlyFan_of_behind (State.behind_setIrq ..) fun x hx => State.rd_raise _ _ _ _ (fun e => hx (e ▸ h)) fun hm =>
    hx (.inl (hm.2.trans_le (by decide)))

theorem onlyFan_modFan {n : Nat} (s : State) (f : FanSt → FanSt) : onlyFan n s (s.modFan n f) :=
  ⟨fun _ _ => rfl, fun _ hk => State.fan_modFan_ne _ _ _ _ hk, rfl, sameBytes_of_eq rfl rfl rfl⟩

theorem onlyFan_fanCap {n : Nat} (s : State) : onlyFan n s s.fanCap :=
  onlyFan_of_behind (State.behind_fanCap s) fun x hx => State.rd_fanCap s (by simp only [fanReach] at hx; omega)

theorem onlyFan_driveFan {n : Nat} (s : State) : onlyFan n s (s.driveFan n) := by
  refine ⟨fun x hx => State.rd_driveFan _ _ (by simp only [fanReach] at hx; omega), fun k _ => State.fan_driveFan .., ?_⟩
  rcases s.driveFan_cases n with ⟨h, -⟩ | h
  · rw [h]; exact ⟨rfl, sameBytes_refl s⟩
  · rw [h]; exact ⟨rfl, sameBytes_of_eq rfl rfl rfl⟩

theorem onlyFan_maskBit {n : Nat} (s : State) (f : Fld) (on : Bool) (h : f.off = 0x134) :
    onlyFan n s (s.maskBit pLCWGLOB f n on) :=
  onlyFan_fset _ _ _ _ (by rw [h]; exact .inr (.inr (.inl rfl)))

theorem onlyFan_markFan {n : Nat} (s : State) (st : Nat) : onlyFan n s (s.markFan n st) := by
  refine (((onlyFan_chSet s LCW_CH_STAT_STATE st (by decide)).trans (onlyFan_raise _ pLCWCHAN 3 ?_)).trans ?_).trans
    (onlyFan_maskBit _ LCW_FAULTS_STALLED (st = 5) rfl)
  · simp only [fanReach, pLCWCHAN]; omega
  · split
    · exact onlyFan_fset _ _ _ _ (.inr (.inl rfl))
    · exact .refl ..

theorem onlyFan_setFan {n : Nat} (s : State) (st : Nat) : onlyFan n s (s.setFan n st) := by
  by_cases h : s.fanState n = st
  · rw [State.setFan_same h]; exact .refl ..
  · rw [State.setFan_ne h]
    exact ((onlyFan_markFan s st).trans (onlyFan_driveFan _)).trans (onlyFan_fanCap _)

/-- An action goes into the log's queue and its page. -/
theorem onlyFan_act {n : Nat} (s : State) (code source cause arg : Nat) : onlyFan n s (s.act code source cause arg) := by
  unfold State.act State.queueAction
  split
  · exact ⟨fun _ _ => rfl, fun _ _ => rfl, rfl, sameBytes_of_eq rfl rfl rfl⟩
  · exact ((onlyFan_fset s pALG ALG_LOST _ (by simp only [fanReach, pALG, pHZDSENS, ALG_LOST]; omega)).trans
      (onlyFan_raise _ pALG 4 (by simp only [fanReach, pALG, pHZDSENS]; omega))).trans
        ⟨fun _ _ => rfl, fun _ _ => rfl, rfl, sameBytes_of_eq rfl rfl rfl⟩

theorem onlyFan.ch {n k : Nat} {s t : State} (h : onlyFan n s t) (hk : k < 16) (hne : k ≠ n) (f : Fld) (hf : f.chan) :
    t.ch k f = s.ch k f :=
  State.ch_of_rd (h.1 _ (by obtain ⟨h1, h2, -⟩ := hf; simp only [fanReach, pLCWGLOB, pLCWCHAN, pHZDSENS]; omega))

theorem onlyFan.shdn {n : Nat} {s t : State} (h : onlyFan n s t) (hn : n < 16) : t.shdn = s.shdn := by
  unfold State.shdn State.flag State.fget
  rw [h.1 _ (by simp only [fanReach, pLCWGLOB, pLCWCHAN, pHZDSENS, HZ_SHDN_STAT_ASSERTED]; omega)]

/-- A step of one channel that ends in a state. -/
theorem onlyFan.moved {n st : Nat} {s t : State} (h : onlyFan n s t) (hst : t.fanState n = st) : fanMoved n st s t :=
  ⟨hst, fun _ hk hne => h.ch hk hne LCW_CH_STAT_STATE (by decide), h.2.2.2⟩

end Sys2Proof.Machine
end

section
/-! SUPPORT. The events of a fan channel, its control register, and its duties (R397-R404). -/

namespace Sys2Proof.Machine

/-! ### TACH_LOST -/

theorem State.setTachLost_same {s : State} {n : Nat} {on : Bool} (h : s.ch n LCW_CH_STAT_TACH_LOST = bit on) :
    s.setTachLost n on = s := if_pos (by cases on <;> simp [h, bit])

theorem State.setTachLost_ne {s : State} {n : Nat} {on : Bool} (h : s.ch n LCW_CH_STAT_TACH_LOST ≠ bit on) :
    s.setTachLost n on =
      let u := ((s.chSet n LCW_CH_STAT_TACH_LOST (bit on)).maskBit pLCWGLOB LCW_FAULTS_TACH_LOST n on).fanCap
      if on then u.raise pLCWGLOB 5 else u := by
  have hlt : s.ch n LCW_CH_STAT_TACH_LOST < 2 := s.ch_lt ..
  refine if_neg fun he => h ?_
  cases on with
  | true => exact he.mpr rfl
  | false =>
    have hne : s.ch n LCW_CH_STAT_TACH_LOST ≠ 1 := fun h1 => Bool.false_ne_true (he.mp h1)
    exact Nat.lt_one_iff.1 (by omega)

theorem State.ch_setTachLost (s : State) (n : Nat) (on : Bool) (f : Fld) (hf : f.chan) (h : LCW_CH_STAT_TACH_LOST.clear f) :
    (s.setTachLost n on).ch n f = s.ch n f := by
  by_cases hs : s.ch n LCW_CH_STAT_TACH_LOST = bit on
  · rw [State.setTachLost_same hs]
  · rw [State.setTachLost_ne hs]
    have hu : (((s.chSet n LCW_CH_STAT_TACH_LOST (bit on)).maskBit pLCWGLOB LCW_FAULTS_TACH_LOST n on).fanCap).ch n f =
        s.ch n f := by
      rw [State.ch_fanCap, State.ch_maskBit _ _ _ _ _ _ hf (by decide), State.ch_chSet_clear _ _ _ _ _ hf h]
    dsimp only
    split
    · rw [State.ch_raise _ _ _ _ _ hf (by decide), hu]
    · exact hu

theorem State.tachLost_setTachLost (s : State) (n : Nat) (on : Bool) :
    (s.setTachLost n on).ch n LCW_CH_STAT_TACH_LOST = bit on := by
  by_cases hs : s.ch n LCW_CH_STAT_TACH_LOST = bit on
  · rw [State.setTachLost_same hs, hs]
  · rw [State.setTachLost_ne hs]
    have hu : (((s.chSet n LCW_CH_STAT_TACH_LOST (bit on)).maskBit pLCWGLOB LCW_FAULTS_TACH_LOST n on).fanCap).ch n
        LCW_CH_STAT_TACH_LOST = bit on := by
      rw [State.ch_fanCap, State.ch_maskBit _ _ _ _ _ _ (by decide) (by decide), State.ch_chSet_same _ _ _ _ (by decide)]
      exact Nat.mod_eq_of_lt (bit_lt on)
    dsimp only
    split
    · rw [State.ch_raise _ _ _ _ _ (by decide) (by decide), hu]
    · exact hu

theorem onlyFan_setTachLost {n : Nat} (s : State) (on : Bool) : onlyFan n s (s.setTachLost n on) := by
  by_cases h : s.ch n LCW_CH_STAT_TACH_LOST = bit on
  · rw [State.setTachLost_same h]; exact .refl ..
  · rw [State.setTachLost_ne h]
    have hu : onlyFan n s (((s.chSet n LCW_CH_STAT_TACH_LOST (bit on)).maskBit pLCWGLOB LCW_FAULTS_TACH_LOST n on).fanCap) :=
      ((onlyFan_chSet s LCW_CH_STAT_TACH_LOST (bit on) (by decide)).trans
        (onlyFan_maskBit _ LCW_FAULTS_TACH_LOST on rfl)).trans (onlyFan_fanCap _)
    dsimp only
    split
    · exact hu.trans (onlyFan_raise _ pLCWGLOB 5 (by simp only [fanReach, pLCWGLOB]; omega))
    · exact hu

/-! ### STALLED -/

/-- Setting a bit of a mask of 16 sets it. -/
theorem lor_two_pow_bit (m n : Nat) (h : n < 16) : Nat.lor m (2 ^ n) % 2 ^ 16 / 2 ^ n % 2 = 1 := by
  have hb : (Nat.lor m (2 ^ n) % 2 ^ 16).testBit n = true := by
    rw [Nat.testBit_mod_two_pow, show Nat.lor m (2 ^ n) = m ||| 2 ^ n from rfl, Nat.testBit_or, Nat.testBit_two_pow_self]
    simp [h]
  simpa [Nat.testBit_eq_decide_div_mod_eq] using hb

theorem State.fget_maskBit_on (s : State) (b : Nat) (f : Fld) (n : Nat) (h : f.inWord) :
    (s.maskBit b f n true).fget b f = Nat.lor (s.fget b f) (2 ^ n) % 2 ^ f.w := State.fget_fset_same _ _ _ _ h

/-- A channel that enters STALLED is marked so. -/
theorem State.stalled_setFan (s : State) {n : Nat} (hn : n < 16) (h : s.fanState n ≠ 5) : (s.setFan n 5).stalled n = true := by
  have hglob : (s.setFan n 5).fget pLCWGLOB LCW_FAULTS_STALLED = (s.markFan n 5).fget pLCWGLOB LCW_FAULTS_STALLED := by
    rw [State.setFan_ne h]
    unfold State.fget
    rw [State.rd_fanCap _ (Nat.le_add_right ..),
      State.rd_driveFan _ _ (by simp only [pLCWGLOB, pLCWCHAN, LCW_FAULTS_STALLED]; omega)]
  unfold State.stalled
  rw [hglob]
  simp only [State.markFan, decide_true]
  rw [State.fget_maskBit_on _ _ _ _ (by decide)]
  exact decide_eq_true (lor_two_pow_bit _ n hn)

/-- An action of the log touches the log's page alone. -/
theorem State.rd_act (s : State) (code source cause arg : Nat) {x : Nat} (hx : x < pALG) (hm : ¬msixWord x) :
    (s.act code source cause arg).rd x = s.rd x := by
  unfold State.act State.queueAction
  split
  · rfl
  · exact (State.rd_raise _ _ _ _ (by simp only [IRQ_STAT]; omega) hm).trans
      (State.rd_fset_ne _ _ _ _ _ (by simp only [ALG_LOST]; omega))

/-! ### Events -/

theorem State.fanRuns_of {s : State} {n st : Nat} (h : s.fanState n = st) (hs : s.crp.silent = false) : s.fanRuns n st = true := by
  simp [State.fanRuns, h, hs]

theorem State.fanRuns_silent {s : State} (n st : Nat) (hs : s.crp.silent = true) : s.fanRuns n st = false := by
  simp [State.fanRuns, hs]

/-- A channel that enters a state, whatever else it did on its way there. -/
theorem fanMoved_setFan {n st : Nat} {s u : State} (h : onlyFan n s u) (hst : st < 8) : fanMoved n st s (u.setFan n st) :=
  (h.trans (onlyFan_setFan u st)).moved (State.fanState_setFan u n st hst)

section
variable {s : State} (chan : FanChan) (hs : s.crp.silent = false)
include hs

theorem spinupEnd_probes (h : s.fanState chan.val = 1) : completes (.spinupEnd chan) s (fanMoved chan.val 2 s) :=
  completes_of_next (t := s.setFan chan.val 2)
    (show execSpinupEnd chan s = _ by rw [execSpinupEnd, if_pos (State.fanRuns_of h hs)])
    (fanMoved_setFan (.refl ..) (by decide))

theorem probeEnd_found (ripple : Nat) (h : s.fanState chan.val = 2) (hr : s.fget pLCWGLOB LCW_RIPPLE_THR_THR ≤ ripple) :
    completes (.probeEnd chan ripple) s fun t => fanMoved chan.val 3 s t ∧ t.ch chan.val LCW_CH_STAT_TACH_LOST = 1 := by
  have hx : exec (.probeEnd chan ripple) s = .next (((s.setTachLost chan.val true).modFan chan.val fun k =>
      { k with validRun := 0 }).setFan chan.val 3) := by
    show execProbeEnd chan ripple s = _
    simp [execProbeEnd, State.fanRuns_of h hs, hr]
  refine completes_of_next hx ⟨?_, ?_⟩
  · exact fanMoved_setFan ((onlyFan_setTachLost s true).trans (onlyFan_modFan ..)) (by decide)
  · rw [State.ch_setFan _ _ _ _ (by decide), State.ch_modFan, State.tachLost_setTachLost]
    rfl

theorem probeEnd_retries (ripple : Nat) (h : s.fanState chan.val = 2) (hr : ripple < s.fget pLCWGLOB LCW_RIPPLE_THR_THR)
    (ha : s.ch chan.val LCW_CH_STAT_ATTEMPT < 3) : completes (.probeEnd chan ripple) s (fanMoved chan.val 4 s) :=
  completes_of_next (t := s.setFan chan.val 4)
    (show execProbeEnd chan ripple s = _ by simp [execProbeEnd, State.fanRuns_of h hs, hr, ha])
    (fanMoved_setFan (.refl ..) (by decide))

theorem probeEnd_stalls (ripple : Nat) (h : s.fanState chan.val = 2) (hr : ripple < s.fget pLCWGLOB LCW_RIPPLE_THR_THR)
    (ha : s.ch chan.val LCW_CH_STAT_ATTEMPT = 3) :
    completes (.probeEnd chan ripple) s fun t => fanMoved chan.val 5 s t ∧ t.stalled chan.val = true := by
  have hx : exec (.probeEnd chan ripple) s = .next (((s.setFan chan.val 5).raise pLCWGLOB 4).act 0x0B chan.val 0
      (s.ch chan.val LCW_CH_CFG_NBR)) := by
    show execProbeEnd chan ripple s = _
    simp [execProbeEnd, State.fanRuns_of h hs, hr, ha]
  have hrd (u : State) (x : Nat) (h1 : x ≠ pLCWGLOB + 0x18) (h2 : pLCWGLOB ≤ x) (h3 : x < pALG) :
      ((u.raise pLCWGLOB 4).act 0x0B chan.val 0 (s.ch chan.val LCW_CH_CFG_NBR)).rd x = u.rd x := by
    have hm : ¬msixWord x := fun hm => absurd (hm.2.trans_le (le_trans (by decide) h2)) (lt_irrefl x)
    rw [State.rd_act _ _ _ _ _ h3 hm, State.rd_raise _ _ _ _ h1 hm]
  have hraise (u : State) : onlyFan chan.val u (u.raise pLCWGLOB 4) :=
    onlyFan_raise _ _ _ (by simp only [fanReach, pLCWGLOB]; omega)
  refine completes_of_next hx ⟨(((onlyFan_setFan s 5).trans (hraise _)).trans (onlyFan_act ..)).moved ?_, ?_⟩
  · refine (State.ch_of_rd (hrd _ _ ?_ ?_ ?_)).trans (State.fanState_setFan s chan.val 5 (by decide))
    all_goals simp only [pLCWGLOB, pLCWCHAN, pALG, LCW_CH_STAT_STATE]; omega
  · have hst := State.stalled_setFan s chan.isLt (by rw [h]; decide)
    unfold State.stalled State.fget at hst ⊢
    rw [hrd _ _ (by decide) (by decide) (by decide)]
    exact hst

theorem retryWaitEnd_retries (h : s.fanState chan.val = 4) (ha : s.ch chan.val LCW_CH_STAT_ATTEMPT < 3) :
    completes (.retryWaitEnd chan) s fun t => fanMoved chan.val 1 s t ∧
      t.ch chan.val LCW_CH_STAT_ATTEMPT = s.ch chan.val LCW_CH_STAT_ATTEMPT + 1 := by
  have hx : exec (.retryWaitEnd chan) s = .next ((s.chSet chan.val LCW_CH_STAT_ATTEMPT
      (s.ch chan.val LCW_CH_STAT_ATTEMPT + 1)).setFan chan.val 1) := by
    show execRetryWaitEnd chan s = _
    simp [execRetryWaitEnd, State.fanRuns_of h hs]
  refine completes_of_next hx ⟨fanMoved_setFan (onlyFan_chSet _ _ _ (by decide)) (by decide), ?_⟩
  rw [State.ch_setFan _ _ _ _ (by decide), State.ch_chSet_same _ _ _ _ (by decide)]
  exact Nat.mod_eq_of_lt (by simp only [LCW_CH_STAT_ATTEMPT] at ha ⊢; omega)

theorem tachTimeout_probes (h : s.fanState chan.val = 3) (hl : s.ch chan.val LCW_CH_STAT_TACH_LOST = 0) :
    completes (.tachTimeout chan) s (fanMoved chan.val 2 s) :=
  completes_of_next (t := s.setFan chan.val 2)
    (show execTachTimeout chan s = _ by simp [execTachTimeout, State.fanRuns_of h hs, hl])
    (fanMoved_setFan (.refl ..) (by decide))

theorem tachTimeout_lost (h : s.fanState chan.val = 3) (hl : s.ch chan.val LCW_CH_STAT_TACH_LOST = 1) :
    completes (.tachTimeout chan) s fun t => fanMoved chan.val 3 s t ∧ (t.fan chan.val).validRun = 0 := by
  have hx : exec (.tachTimeout chan) s = .next (s.modFan chan.val fun k => { k with validRun := 0 }) := by
    show execTachTimeout chan s = _
    simp [execTachTimeout, State.fanRuns_of h hs, hl]
  refine completes_of_next hx ⟨(onlyFan_modFan ..).moved h, ?_⟩
  rw [State.fan_modFan_same]

theorem stoppingEnd_stops (h : s.fanState chan.val = 6) :
    completes (.stoppingEnd chan) s fun t => t.ch chan.val LCW_CH_STAT_RESTART_PEND = 0 ∧
      fanMoved chan.val (if s.ch chan.val LCW_CH_STAT_RESTART_PEND = 1 then 1 else 0) s t := by
  by_cases hp : s.ch chan.val LCW_CH_STAT_RESTART_PEND = 1
  · have hx : exec (.stoppingEnd chan) s = .next ((s.chSet chan.val LCW_CH_STAT_RESTART_PEND 0).setFan chan.val 1) := by
      show execStoppingEnd chan s = _
      simp [execStoppingEnd, State.fanRuns_of h hs, hp]
    refine completes_of_next hx ⟨?_, ?_⟩
    · rw [State.ch_setFan _ _ _ _ (by decide), State.ch_chSet_same _ _ _ _ (by decide)]
      rfl
    · rw [if_pos hp]
      exact fanMoved_setFan (onlyFan_chSet _ _ _ (by decide)) (by decide)
  · have hx : exec (.stoppingEnd chan) s = .next (s.setFan chan.val 0) := by
      show execStoppingEnd chan s = _
      simp [execStoppingEnd, State.fanRuns_of h hs, hp]
    refine completes_of_next hx ⟨?_, ?_⟩
    · rw [State.ch_setFan _ _ _ _ (by decide)]
      have := s.ch_lt chan.val LCW_CH_STAT_RESTART_PEND
      simp only [LCW_CH_STAT_RESTART_PEND] at *
      omega
    · rw [if_neg hp]
      exact fanMoved_setFan (.refl ..) (by decide)

end

theorem tachRecovered_recovers {s : State} (chan : FanChan) (h : s.fanState chan.val = 3)
    (hl : s.ch chan.val LCW_CH_STAT_TACH_LOST = 1) (hv : 10 ≤ (s.fan chan.val).validRun) :
    completes (.tachRecovered chan) s fun t => fanMoved chan.val 3 s t ∧ t.ch chan.val LCW_CH_STAT_TACH_LOST = 0 ∧
      t.ch chan.val LCW_CH_STAT_ATTEMPT = 0 := by
  have hx : exec (.tachRecovered chan) s = .next ((s.setTachLost chan.val false).chSet chan.val LCW_CH_STAT_ATTEMPT 0) := by
    show execTachRecovered chan s = _
    simp [execTachRecovered, h, hl, hv]
  refine completes_of_next hx
    ⟨((onlyFan_setTachLost s false).trans (onlyFan_chSet _ _ _ (by decide))).moved ?_, ?_, ?_⟩
  · unfold State.fanState
    rw [State.ch_chSet_clear _ _ _ _ _ (by decide) (by decide), State.ch_setTachLost _ _ _ _ (by decide) (by decide)]
    exact h
  · rw [State.ch_chSet_clear _ _ _ _ _ (by decide) (by decide), State.tachLost_setTachLost]
    rfl
  · rw [State.ch_chSet_same _ _ _ _ (by decide)]
    rfl

/-- A channel as a tach period shows it: its speed and the length of the period. -/
def State.showTach (s : State) (n us : Nat) : State :=
  (s.chSet n LCW_CH_SPEED_RPM (min 0xFFFF (60000000 / ((s.ch n LCW_CH_CFG_PPR + 1) * us)))).modFan n fun k =>
    { k with tLast := us, validRun := k.validRun + 1 }

theorem exec_tachPeriod {s : State} (chan : FanChan) {us : Nat} (h : 0 < us) :
    exec (.tachPeriod chan us) s = .next (if s.fanRuns chan.val 1 then (s.showTach chan.val us).setFan chan.val 3
      else s.showTach chan.val us) := by
  have hrun : (s.showTach chan.val us).fanRuns chan.val 1 = s.fanRuns chan.val 1 := by
    unfold State.fanRuns State.fanState State.showTach
    rw [State.ch_modFan, State.ch_chSet_clear _ _ _ _ _ (by decide) (by decide)]
    rfl
  show execTachPeriod chan us s = _
  rw [← hrun]
  exact if_neg (by omega)

theorem onlyFan_showTach {n : Nat} (s : State) (us : Nat) : onlyFan n s (s.showTach n us) :=
  (onlyFan_chSet _ _ _ (by decide)).trans (onlyFan_modFan ..)

theorem State.fanState_showTach (s : State) (n us : Nat) : (s.showTach n us).fanState n = s.fanState n := by
  unfold State.fanState State.showTach
  rw [State.ch_modFan, State.ch_chSet_clear _ _ _ _ _ (by decide) (by decide)]

theorem tachPeriod_shows {s : State} (chan : FanChan) (hs : s.crp.silent = false) (us : Nat) (h : 0 < us) :
    completes (.tachPeriod chan us) s fun t =>
      fanMoved chan.val (if s.fanState chan.val = 1 then 3 else s.fanState chan.val) s t ∧ (t.fan chan.val).tLast = us ∧
      t.ch chan.val LCW_CH_SPEED_RPM = min 0xFFFF (60000000 / ((s.ch chan.val LCW_CH_CFG_PPR + 1) * us)) := by
  have hlast : ((s.showTach chan.val us).fan chan.val).tLast = us := by rw [State.showTach, State.fan_modFan_same]
  have hrpm : (s.showTach chan.val us).ch chan.val LCW_CH_SPEED_RPM =
      min 0xFFFF (60000000 / ((s.ch chan.val LCW_CH_CFG_PPR + 1) * us)) := by
    rw [State.showTach, State.ch_modFan, State.ch_chSet_same _ _ _ _ (by decide)]
    exact Nat.mod_eq_of_lt (lt_of_le_of_lt (min_le_left ..) (by decide))
  refine completes_of_next (exec_tachPeriod chan h) ?_
  by_cases h1 : s.fanState chan.val = 1
  · rw [if_pos (State.fanRuns_of h1 hs), if_pos h1, State.fan_setFan, State.ch_setFan _ _ _ _ (by decide)]
    exact ⟨fanMoved_setFan (onlyFan_showTach ..) (by decide), hlast, hrpm⟩
  · have hrun : ¬s.fanRuns chan.val 1 = true := by simp [State.fanRuns, h1]
    rw [if_neg hrun, if_neg h1]
    exact ⟨(onlyFan_showTach ..).moved (State.fanState_showTach ..), hlast, hrpm⟩

/-- While the conductor die is silent a sequence stands still, and a tach period only shows the speed (R5). -/
theorem events_pause_in_silence (chan : FanChan) (ripple us : Nat) (s : State) (hs : s.crp.silent = true) :
    exec (.spinupEnd chan) s = .next s ∧ exec (.probeEnd chan ripple) s = .next s ∧ exec (.retryWaitEnd chan) s = .next s ∧
    exec (.tachTimeout chan) s = .next s ∧ exec (.stoppingEnd chan) s = .next s ∧
    (completes (.tachPeriod chan us) s fun t => t.fanState chan.val = s.fanState chan.val ∧ t.crp = s.crp) ∧
    ∀ vRail iRail, exec (.dutyCompose vRail iRail) s = .next s := by
  have hrun (st : Nat) : s.fanRuns chan.val st = false := State.fanRuns_silent _ _ hs
  refine ⟨?_, ?_, ?_, ?_, ?_, ?_, fun vRail iRail => ?_⟩
  · show execSpinupEnd chan s = _
    rw [execSpinupEnd, hrun]; rfl
  · show execProbeEnd chan ripple s = _
    simp only [execProbeEnd, hrun]; rfl
  · show execRetryWaitEnd chan s = _
    simp only [execRetryWaitEnd, hrun]; rfl
  · show execTachTimeout chan s = _
    simp only [execTachTimeout, hrun]; rfl
  · show execStoppingEnd chan s = _
    simp only [execStoppingEnd, hrun]; rfl
  · rcases Nat.eq_zero_or_pos us with rfl | h
    · exact completes_of_next (t := s) rfl ⟨rfl, rfl⟩
    · refine completes_of_next (exec_tachPeriod chan h) ?_
      rw [hrun]
      exact ⟨State.fanState_showTach .., rfl⟩
  · show execDutyCompose vRail iRail s = _
    rw [execDutyCompose, if_pos hs]

end Sys2Proof.Machine
end

section
/-! SUPPORT. The control register of a fan channel: starts, stops and CLEAR (R402, R404). -/

namespace Sys2Proof.Machine

/-! ### Starts and stops -/

theorem State.fanState_startFan (s : State) (n : Nat) :
    (s.startFan n).fanState n = if s.fanState n = 0 then 1 else s.fanState n := by
  unfold State.startFan
  split
  · exact State.fanState_setFan _ _ _ (by decide)
  · split
    · exact State.ch_chSet_clear _ _ _ _ _ (by decide) (by decide)
    · rfl

theorem State.ch_startFan (s : State) (n : Nat) (f : Fld) (hf : f.lasts) (h : LCW_CH_STAT_RESTART_PEND.clear f) :
    (s.startFan n).ch n f = s.ch n f := by
  unfold State.startFan
  split
  · exact State.ch_setFan _ _ _ _ hf
  · split
    · exact State.ch_chSet_clear _ _ _ _ _ hf.1 h
    · rfl

theorem State.restart_startFan (s : State) (n : Nat) (h : s.fanState n = 6) :
    (s.startFan n).ch n LCW_CH_STAT_RESTART_PEND = 1 := by
  rw [State.startFan, if_neg (by rw [h]; decide), if_pos h, State.ch_chSet_same _ _ _ _ (by decide)]
  rfl

theorem State.fan_startFan (s : State) (n k : Nat) : (s.startFan n).fan k = s.fan k := by
  unfold State.startFan
  split
  · exact State.fan_setFan ..
  · split <;> rfl

theorem onlyFan_startFan {n : Nat} (s : State) : onlyFan n s (s.startFan n) := by
  unfold State.startFan
  split
  · exact onlyFan_setFan ..
  · split
    · exact onlyFan_chSet _ _ _ (by decide)
    · exact .refl ..

theorem State.stopFan_cases (s : State) (n : Nat) :
    (1 ≤ s.fanState n ∧ s.fanState n ≤ 4 ∧ s.stopFan n = s.setFan n 6) ∨
      (¬(1 ≤ s.fanState n ∧ s.fanState n ≤ 4) ∧ s.stopFan n = s) := by
  unfold State.stopFan
  simp only [Bool.and_eq_true, decide_eq_true_eq]
  split
  · next h => exact .inl ⟨h.1, h.2, rfl⟩
  · next h => exact .inr ⟨h, rfl⟩

theorem State.fanState_stopFan (s : State) (n : Nat) :
    (s.stopFan n).fanState n = if 1 ≤ s.fanState n ∧ s.fanState n ≤ 4 then 6 else s.fanState n := by
  rcases s.stopFan_cases n with ⟨h1, h4, h⟩ | ⟨hn, h⟩
  · rw [h, if_pos ⟨h1, h4⟩, State.fanState_setFan _ _ _ (by decide)]
  · rw [h, if_neg hn]

theorem State.ch_stopFan (s : State) (n : Nat) (f : Fld) (hf : f.lasts) : (s.stopFan n).ch n f = s.ch n f := by
  rcases s.stopFan_cases n with ⟨-, -, h⟩ | ⟨-, h⟩
  · rw [h, State.ch_setFan _ _ _ _ hf]
  · rw [h]

theorem State.fan_stopFan (s : State) (n k : Nat) : (s.stopFan n).fan k = s.fan k := by
  rcases s.stopFan_cases n with ⟨-, -, h⟩ | ⟨-, h⟩
  · rw [h, State.fan_setFan]
  · rw [h]

theorem onlyFan_stopFan {n : Nat} (s : State) : onlyFan n s (s.stopFan n) := by
  rcases s.stopFan_cases n with ⟨-, -, h⟩ | ⟨-, h⟩
  · rw [h]; exact onlyFan_setFan ..
  · rw [h]; exact .refl ..

theorem State.fanOn_iff (s : State) (n : Nat) : s.fanOn n = true ↔ s.ch n LCW_CH_CTRL_EN = 1 := by simp [State.fanOn]

theorem State.en_cases (s : State) (n : Nat) :
    (s.ch n LCW_CH_CTRL_EN = 0 ∧ s.fanOn n = false) ∨ (s.ch n LCW_CH_CTRL_EN = 1 ∧ s.fanOn n = true) := by
  have := s.ch_lt n LCW_CH_CTRL_EN
  have h : s.ch n LCW_CH_CTRL_EN = 0 ∨ s.ch n LCW_CH_CTRL_EN = 1 := by simp only [LCW_CH_CTRL_EN] at *; omega
  rcases h with h | h <;> simp [State.fanOn, h]

/-! ### A write of LCW_CHn_CTRL -/

theorem exec_fanEn (cls : Cls) (chan : FanChan) (en : Bool) (s : State) :
    exec (.fanEn cls chan en) s = .next (s.fanWrite cls chan.val (bit en)) := rfl

theorem exec_fanClear (cls : Cls) (chan : FanChan) (s : State) :
    exec (.fanClear cls chan) s = .next (s.fanWrite cls chan.val (2 + s.ch chan.val LCW_CH_CTRL_EN)) := rfl

/-- The row of the control registers. -/
def fanCtrlRow : RRow :=
  { off := 0x100, rst := 0x1, fields := [⟨1, 1, .w1s, 0, none⟩, ⟨0, 1, .rw, 0, none⟩], n := 16, stride := 0x20 }

theorem findReg_fanCtrl : ∀ n : Fin 16, findReg rowsLCWCHAN (0x100 + 0x20 * n.val) = some (fanCtrlRow, n.val, 0) := by decide

theorem writeWord_fanCtrl (old : BitVec 32) (v : Nat) :
    writeWord fanCtrlRow.fields old v = (old &&& ~~~3#32) ||| BitVec.ofNat 32 (v % 2) := by
  have hf : fanCtrlRow.fields.filter FRow.writable = fanCtrlRow.fields := rfl
  unfold writeWord coverMask
  rw [hf]
  simp [FRow.write, FRow.val, fanCtrlRow]

/-- EN takes the low bit written (R8). -/
theorem en_writeWord (old : BitVec 32) (v : Nat) : LCW_CH_CTRL_EN.get (writeWord fanCtrlRow.fields old v) = v % 2 := by
  have hlow : ((old &&& ~~~3#32) ||| BitVec.ofNat 32 (v % 2)).toNat.testBit 0 = (v % 2).testBit 0 := by
    rw [BitVec.testBit_toNat, BitVec.getLsbD_or, BitVec.getLsbD_ofNat]
    simp
  have hget (w : BitVec 32) : LCW_CH_CTRL_EN.get w = w.toNat / 2 ^ 0 % 2 := by simp [Fld.get, LCW_CH_CTRL_EN]
  rw [writeWord_fanCtrl, hget, ← Nat.toNat_testBit, hlow, Nat.toNat_testBit]
  simp

/-- A write of LCW_CHn_CTRL that the page takes: EN takes its bit, no other word of a channel moves, and the control's action
follows. -/
theorem State.fanWrite_of_takes {s : State} {cls : Cls} (chan : FanChan) {v : Nat} (hv : v < 4)
    (h : s.takes cls (pLCWCHAN + 0x100 + 0x20 * chan.val) v) :
    ∃ u, s.fanWrite cls chan.val v = fanCtrl chan.val (s.ch chan.val LCW_CH_CTRL_EN) v u ∧ onlyFan chan.val s u ∧
      u.ch chan.val LCW_CH_CTRL_EN = v % 2 ∧ ∀ f : Fld, f.chan → f.off ≠ 0x100 → u.ch chan.val f = s.ch chan.val f := by
  have hn := chan.isLt
  have hoff : (pLCWCHAN + 0x100 + 0x20 * chan.val) % 0x10000 = 0x100 + 0x20 * chan.val := by simp only [pLCWCHAN]; omega
  have hpg : (pLCWCHAN + 0x100 + 0x20 * chan.val) / 0x10000 = 0xA1 := by simp only [pLCWCHAN]; omega
  obtain ⟨-, hw⟩ := regWrite_word (p := ⟨.lcwchan, 0xA1, 1, 0x902, 0x7, false, true, 0x102, rowsLCWCHAN⟩) (i := 0)
    (by rw [hpg]; rfl) (by rw [hoff]; exact findReg_fanCtrl chan) rfl rfl (by decide) (by omega) h
  rw [hpg] at hw
  refine ⟨_, writeThen_of_takes _ h, ?_, ?_, fun f hf h0 => ?_⟩ <;> rw [hw]
  · refine onlyFan_of_behind (s := s) ?_ fun x hx => ?_
    · rw [State.behind_seqUp, State.behind_wr]; rfl
    · simp only [fanReach, pLCWCHAN, pLCWGLOB, pHZDSENS] at hx
      rw [State.rd_seqUp _ _ _ (by simp only [PAGE_SEQ]; omega), State.rd_wr_ne _ _ _ _ (by simp only [pLCWCHAN]; omega)]
      rfl
  · unfold State.ch State.fget
    rw [show pLCWCHAN + (LCW_CH_CTRL_EN.nth chan.val 0x20).off = pLCWCHAN + 0x100 + 0x20 * chan.val by
        simp only [Fld.nth, LCW_CH_CTRL_EN]; omega,
      State.rd_seqUp _ _ _ (by simp only [PAGE_SEQ, pLCWCHAN]; omega), State.rd_wr_same]
    exact en_writeWord ..
  · refine State.ch_of_rd ?_
    obtain ⟨hlo, -, -⟩ := hf
    rw [State.rd_seqUp _ _ _ (by simp only [PAGE_SEQ, pLCWCHAN]; omega), State.rd_wr_ne _ _ _ _ (by omega)]
    rfl

theorem fanEn_starts (cls : Cls) (chan : FanChan) (s : State) (h : s.takes cls (pLCWCHAN + 0x100 + 0x20 * chan.val) 1) :
    completes (.fanEn cls chan true) s fun t => t.fanOn chan.val = true ∧
      fanMoved chan.val (if s.fanOn chan.val = false ∧ s.fanState chan.val = 0 then 1 else s.fanState chan.val) s t ∧
      (s.fanOn chan.val = false → s.fanState chan.val = 6 → t.ch chan.val LCW_CH_STAT_RESTART_PEND = 1) := by
  obtain ⟨u, hx, hu, hen, hk⟩ := State.fanWrite_of_takes chan (by decide) h
  have hstate : u.fanState chan.val = s.fanState chan.val := hk _ (by decide) (by decide)
  have hctrl : fanCtrl chan.val (s.ch chan.val LCW_CH_CTRL_EN) 1 u =
      if s.ch chan.val LCW_CH_CTRL_EN = 0 then u.startFan chan.val else u := by simp [fanCtrl]
  refine completes_of_next ((exec_fanEn ..).trans (congrArg Host.Outcome.next (hx.trans hctrl))) ?_
  rcases s.en_cases chan.val with ⟨h0, hoff⟩ | ⟨h1, hon⟩
  · rw [if_pos h0, State.fanOn_iff, State.ch_startFan _ _ _ (by decide) (by decide)]
    refine ⟨hen, (hu.trans (onlyFan_startFan u)).moved ?_, fun _ h6 => State.restart_startFan _ _ (hstate.trans h6)⟩
    rw [State.fanState_startFan, hstate]
    simp only [hoff, true_and]
  · rw [if_neg (by rw [h1]; decide), State.fanOn_iff]
    refine ⟨hen, hu.moved ?_, fun hf => by rw [hon] at hf; cases hf⟩
    simp only [hon, Bool.true_eq_false, false_and, if_false, hstate]

theorem fanEn_stops (cls : Cls) (chan : FanChan) (s : State) (h : s.takes cls (pLCWCHAN + 0x100 + 0x20 * chan.val) 0) :
    completes (.fanEn cls chan false) s fun t => t.fanOn chan.val = false ∧ t.ch chan.val LCW_CH_STAT_RESTART_PEND = 0 ∧
      fanMoved chan.val (if 1 ≤ s.fanState chan.val ∧ s.fanState chan.val ≤ 4 then 6 else s.fanState chan.val) s t := by
  obtain ⟨u, hx, hu, hen, hk⟩ := State.fanWrite_of_takes chan (by decide) h
  have hstate : (u.chSet chan.val LCW_CH_STAT_RESTART_PEND 0).fanState chan.val = s.fanState chan.val :=
    (State.ch_chSet_clear _ _ _ _ _ (by decide) (by decide)).trans (hk _ (by decide) (by decide))
  have hctrl : fanCtrl chan.val (s.ch chan.val LCW_CH_CTRL_EN) 0 u =
      (u.chSet chan.val LCW_CH_STAT_RESTART_PEND 0).stopFan chan.val := by simp [fanCtrl]
  refine completes_of_next ((exec_fanEn ..).trans (congrArg Host.Outcome.next (hx.trans hctrl))) ⟨?_, ?_, ?_⟩
  · rw [State.fanOn, State.ch_stopFan _ _ _ (by decide), State.ch_chSet_clear _ _ _ _ _ (by decide) (by decide), hen]
    rfl
  · rw [State.ch_stopFan _ _ _ (by decide), State.ch_chSet_same _ _ _ _ (by decide)]
    rfl
  · refine ((hu.trans (onlyFan_chSet _ _ _ (by decide))).trans (onlyFan_stopFan _)).moved ?_
    rw [State.fanState_stopFan, hstate]

theorem fanClear_restarts (cls : Cls) (chan : FanChan) (s : State)
    (h : s.takes cls (pLCWCHAN + 0x100 + 0x20 * chan.val) (2 + s.ch chan.val LCW_CH_CTRL_EN)) (h5 : s.fanState chan.val = 5) :
    completes (.fanClear cls chan) s fun t => t.ch chan.val LCW_CH_STAT_ATTEMPT = 0 ∧ t.fanOn chan.val = s.fanOn chan.val ∧
      fanMoved chan.val (if s.fanOn chan.val = true then 1 else 0) s t := by
  have hlt : s.ch chan.val LCW_CH_CTRL_EN < 2 := s.ch_lt chan.val LCW_CH_CTRL_EN
  obtain ⟨u, hx, hu, hen, hk⟩ := State.fanWrite_of_takes chan (by omega) h
  have hstate : u.fanState chan.val = 5 := (hk _ (by decide) (by decide)).trans h5
  have hzero : ((u.setFan chan.val 0).chSet chan.val LCW_CH_STAT_ATTEMPT 0).fanState chan.val = 0 :=
    (State.ch_chSet_clear _ _ _ _ _ (by decide) (by decide)).trans (State.fanState_setFan _ _ _ (by decide))
  have hz : onlyFan chan.val s ((u.setFan chan.val 0).chSet chan.val LCW_CH_STAT_ATTEMPT 0) :=
    (hu.trans (onlyFan_setFan _ _)).trans (onlyFan_chSet _ _ _ (by decide))
  have hexec (w : State) (hw : fanCtrl chan.val (s.ch chan.val LCW_CH_CTRL_EN) (2 + s.ch chan.val LCW_CH_CTRL_EN) u = w) :
      exec (.fanClear cls chan) s = .next w := (exec_fanClear ..).trans (congrArg Host.Outcome.next (hx.trans hw))
  rcases s.en_cases chan.val with ⟨h0, hoff⟩ | ⟨h1, hon⟩
  · rw [h0] at hen hexec
    have hstop : (((u.setFan chan.val 0).chSet chan.val LCW_CH_STAT_ATTEMPT 0).chSet chan.val LCW_CH_STAT_RESTART_PEND 0).fanState
        chan.val = 0 := (State.ch_chSet_clear _ _ _ _ _ (by decide) (by decide)).trans hzero
    refine completes_of_next (hexec (((u.setFan chan.val 0).chSet chan.val LCW_CH_STAT_ATTEMPT 0).chSet chan.val
      LCW_CH_STAT_RESTART_PEND 0) (by simp [fanCtrl, hstate, State.stopFan, hstop])) ⟨?_, ?_, ?_⟩
    · rw [State.ch_chSet_clear _ _ _ _ _ (by decide) (by decide), State.ch_chSet_same _ _ _ _ (by decide)]
      rfl
    · refine State.fanOn_eq ?_
      rw [State.ch_chSet_clear _ _ _ _ _ (by decide) (by decide), State.ch_chSet_clear _ _ _ _ _ (by decide) (by decide),
        State.ch_setFan _ _ _ _ (by decide), hen, h0]
    · rw [if_neg (by rw [hoff]; decide)]
      exact (hz.trans (onlyFan_chSet _ _ _ (by decide))).moved hstop
  · rw [h1] at hen hexec
    refine completes_of_next (hexec (((u.setFan chan.val 0).chSet chan.val LCW_CH_STAT_ATTEMPT 0).startFan chan.val)
      (by simp [fanCtrl, hstate])) ⟨?_, ?_, ?_⟩
    · rw [State.ch_startFan _ _ _ (by decide) (by decide), State.ch_chSet_same _ _ _ _ (by decide)]
      rfl
    · refine State.fanOn_eq ?_
      rw [State.ch_startFan _ _ _ (by decide) (by decide), State.ch_chSet_clear _ _ _ _ _ (by decide) (by decide),
        State.ch_setFan _ _ _ _ (by decide), hen, h1]
    · rw [if_pos hon]
      exact (hz.trans (onlyFan_startFan _)).moved ((State.fanState_startFan ..).trans (if_pos hzero))

end Sys2Proof.Machine
end

section
/-! SUPPORT. The duties of the fan channels: one 10 ms step of one channel, of all of them, and the level of FAN_DRV
(R397-R400). -/

namespace Sys2Proof.Machine

/-! ### One step of one channel -/

/-- A channel with its new composed duty noted. -/
def State.noteDuty (s : State) (d : Nat → Nat) (n : Nat) : State :=
  s.modFan n fun k => { k with composed := d n, fall := if k.fall ≤ d n * 10 + 2 then 0 else k.fall - 2 }

/-- A channel after its new composed duty started or stopped it, before its drive. -/
def State.turnFan (s : State) (d : Nat → Nat) (n : Nat) : State :=
  if !(s.noteDuty d n).fanOn n then s.noteDuty d n
  else if (s.fan n).composed = 0 && d n != 0 then (s.noteDuty d n).startFan n
  else if d n = 0 then (s.noteDuty d n).stopFan n else s.noteDuty d n

/-- A step drives the channel, and shows its stretch. -/
theorem State.composeFan_eq (s : State) (d : Nat → Nat) (n : Nat) :
    s.composeFan d n = ((((s.turnFan d n).driveFan n).modFan n fun k =>
      { k with stretchN := (((s.turnFan d n).driveFan n).stretch n).1, onTime := (((s.turnFan d n).driveFan n).stretch n).2 }).chSet
        n LCW_CH_STAT_STRETCH (bit ((((s.turnFan d n).driveFan n).stretch n).1 != 0))) := rfl

theorem State.fan_chSet (s : State) (n k : Nat) (f : Fld) (x : Nat) : (s.chSet n f x).fan k = s.fan k := rfl

theorem State.ch_noteDuty (s : State) (d : Nat → Nat) (n : Nat) (f : Fld) : (s.noteDuty d n).ch n f = s.ch n f := State.ch_modFan ..

theorem State.fanOn_noteDuty (s : State) (d : Nat → Nat) (n : Nat) : (s.noteDuty d n).fanOn n = s.fanOn n :=
  State.fanOn_eq (State.ch_noteDuty ..)

theorem State.fan_turnFan (s : State) (d : Nat → Nat) (n : Nat) : (s.turnFan d n).fan n = (s.noteDuty d n).fan n := by
  unfold State.turnFan
  split
  · rfl
  · split
    · exact State.fan_startFan ..
    · split
      · exact State.fan_stopFan ..
      · rfl

theorem onlyFan_turnFan {n : Nat} (s : State) (d : Nat → Nat) : onlyFan n s (s.turnFan d n) := by
  have hnote : onlyFan n s (s.noteDuty d n) := onlyFan_modFan ..
  refine hnote.trans ?_
  unfold State.turnFan
  split
  · exact .refl ..
  · split
    · exact onlyFan_startFan ..
    · split
      · exact onlyFan_stopFan ..
      · exact .refl ..

/-- The state a step leaves a channel in, by its old and new duty. -/
theorem State.fanState_turnFan (s : State) (d : Nat → Nat) (n : Nat) :
    (s.turnFan d n).fanState n =
      if s.fanOn n = true ∧ (s.fan n).composed = 0 ∧ d n ≠ 0 ∧ s.fanState n = 0 then 1
      else if s.fanOn n = true ∧ d n = 0 ∧ 1 ≤ s.fanState n ∧ s.fanState n ≤ 4 then 6 else s.fanState n := by
  have hst : (s.noteDuty d n).fanState n = s.fanState n := State.ch_noteDuty ..
  unfold State.turnFan
  rw [State.fanOn_noteDuty]
  cases s.fanOn n with
  | false => simpa using hst
  | true =>
    by_cases hd : d n = 0
    · simp [hd, State.fanState_stopFan, hst]
    · by_cases hc : (s.fan n).composed = 0 <;> simp [hd, hc, State.fanState_startFan, hst]

theorem onlyFan_composeFan {n : Nat} (s : State) (d : Nat → Nat) : onlyFan n s (s.composeFan d n) := by
  rw [State.composeFan_eq]
  exact (((onlyFan_turnFan s d).trans (onlyFan_driveFan _)).trans (onlyFan_modFan ..)).trans (onlyFan_chSet _ _ _ (by decide))

theorem State.fanState_composeFan (s : State) (d : Nat → Nat) (n : Nat) :
    (s.composeFan d n).fanState n = (s.turnFan d n).fanState n := by
  unfold State.fanState
  rw [State.composeFan_eq, State.ch_chSet_clear _ _ _ _ _ (by decide) (by decide), State.ch_modFan,
    State.ch_driveFan _ _ _ (by decide) (by decide)]

theorem State.composed_composeFan (s : State) (d : Nat → Nat) (n : Nat) : ((s.composeFan d n).fan n).composed = d n := by
  rw [State.composeFan_eq, State.fan_chSet, State.fan_modFan_same, State.fan_driveFan, State.fan_turnFan,
    State.noteDuty, State.fan_modFan_same]

/-- What Carapace, when it hears, is left driving. -/
theorem State.applied_composeFan (s : State) (d : Nat → Nat) (n : Nat) (h : s.crpDeaf = false) :
    (s.composeFan d n).ch n LCW_CH_STAT_APPLIED = (s.turnFan d n).fanDuty n % 2 ^ 10 := by
  rw [State.composeFan_eq, State.ch_chSet_clear _ _ _ _ _ (by decide) (by decide), State.ch_modFan,
    State.applied_driveFan _ _ ((onlyFan_turnFan s d).2.2.1.trans h)]

/-- A running channel's duty: 100% under SYS_SHDN_N, else at least the composed one, and 100% at most. -/
theorem State.fanDuty_run {s : State} {n : Nat} (h : s.fanState n = 3) (hc : (s.fan n).composed ≤ 1000) :
    (s.fan n).composed ≤ s.fanDuty n ∧ s.fanDuty n ≤ 1000 ∧ (s.shdn = true → s.fanDuty n = 1000) := by
  have hd : s.fanDuty n = if s.shdn then 1000 else min 1000 (max (s.fan n).composed ((s.fan n).fall / 10)) := by
    simp [State.fanDuty, h]
  rw [hd]
  split
  · exact ⟨hc, le_rfl, fun _ => rfl⟩
  · next hs => exact ⟨le_min hc (le_max_left ..), min_le_left .., fun h => absurd h hs⟩

theorem State.fanDuty_stalled {s : State} {n : Nat} (h : s.fanState n = 5) : s.fanDuty n = 0 := by simp [State.fanDuty, h]

theorem State.compose_le (s : State) (n : Nat) : s.compose n ≤ 1000 := by
  obtain ⟨m, hm⟩ : ∃ m, s.compose n = if s.shdn then 1000 else min 1000 m := ⟨_, rfl⟩
  rw [hm]
  split
  · exact le_rfl
  · exact min_le_left ..

/-! ### One step of all channels -/

/-- A channel reads the same in two states: its fields, what lies beyond them, SYS_SHDN_N and whether Carapace hears. -/
def sameFan (n : Nat) (s t : State) : Prop :=
  (∀ f : Fld, f.chan → t.ch n f = s.ch n f) ∧ t.fan n = s.fan n ∧ t.shdn = s.shdn ∧ t.crpDeaf = s.crpDeaf

theorem sameFan.refl (n : Nat) (s : State) : sameFan n s s := ⟨fun _ _ => rfl, rfl, rfl, rfl⟩

theorem sameFan.trans {n : Nat} {s t u : State} (h : sameFan n s t) (k : sameFan n t u) : sameFan n s u :=
  ⟨fun f hf => (k.1 f hf).trans (h.1 f hf), k.2.1.trans h.2.1, k.2.2.1.trans h.2.2.1, k.2.2.2.trans h.2.2.2⟩

theorem sameFan.fanState {n : Nat} {s t : State} (h : sameFan n s t) : t.fanState n = s.fanState n := h.1 _ (by decide)

theorem onlyFan.sameFan {n k : Nat} {s t : State} (h : onlyFan n s t) (hn : n < 16) (hk : k < 16) (hne : k ≠ n) : sameFan k s t :=
  ⟨fun f hf => h.ch hk hne f hf, h.2.1 k hne, h.shdn hn, h.2.2.1⟩

/-- Steps of other channels leave a channel as it is. -/
theorem sameFan_each {l : List Nat} {k : Nat} (s : State) (d : Nat → Nat) (hk : k < 16) (hl : ∀ n ∈ l, n < 16 ∧ n ≠ k) :
    sameFan k s (s.each l fun s n => s.composeFan d n) :=
  State.each_inv (sameFan k s) l _ s (fun t n hn ht =>
    ht.trans ((onlyFan_composeFan t d).sameFan (hl n hn).1 hk (hl n hn).2.symm)) (.refl ..)

/-- In a step of all channels each takes its own once, from a state that shows it as before, and is left as that made it. -/
theorem each_composeFan_at (s : State) (d : Nat → Nat) {n : Nat} (hn : n < 16) :
    ∃ u, sameFan n s u ∧ sameFan n (u.composeFan d n) (s.each fanList fun s n => s.composeFan d n) := by
  have hsplit : fanList = List.range n ++ n :: (List.range (15 - n)).map (· + (n + 1)) := by
    revert n; decide
  refine ⟨s.each (List.range n) fun s n => s.composeFan d n, sameFan_each s d hn fun k hk => ?_, ?_⟩
  · have := List.mem_range.1 hk
    omega
  · unfold State.each
    rw [hsplit, List.foldl_append, List.foldl_cons]
    refine sameFan_each _ d hn fun k hk => ?_
    obtain ⟨j, hj, rfl⟩ := List.mem_map.1 hk
    have := List.mem_range.1 hj
    omega

/-- The rail's readings as a step notes them. -/
def State.noteRail (s : State) (vRail iRail : Nat) : State :=
  (s.fset pLCWGLOB LCW_RAIL_V_RAIL (min 0xFFFF vRail)).fset pLCWGLOB LCW_RAIL_I_RAIL (min 0xFFFF iRail)

/-- Every channel composed after the rail's readings. -/
def State.composeAll (s : State) (vRail iRail : Nat) : State :=
  (s.noteRail vRail iRail).each fanList fun t n => t.composeFan s.compose n

/-- The whole step: duties that Carapace takes end SAFE_DUTY (R368). -/
def State.composeDone (s : State) (vRail iRail : Nat) : State :=
  if (s.composeAll vRail iRail).crpDeaf then s.composeAll vRail iRail
  else (s.composeAll vRail iRail).fset pCRPGLOB CRP_GSTAT_SAFE_DUTY 0

theorem exec_dutyCompose {s : State} (vRail iRail : Nat) (h : s.crp.silent = false) :
    exec (.dutyCompose vRail iRail) s = .next (s.composeDone vRail iRail) := by
  show execDutyCompose vRail iRail s = _
  rw [execDutyCompose, if_neg (by rw [h]; decide)]
  rfl

/-- A field below the channels' registers. -/
theorem sameFan_fset (s : State) (n b x : Nat) (f : Fld) (h : b + f.off < pLCWCHAN + 0x100) : sameFan n s (s.fset b f x) := by
  refine ⟨fun g hg => State.ch_fset_off _ _ _ _ _ _ hg h, rfl, ?_, rfl⟩
  unfold State.shdn State.flag
  rw [State.fget_fset_ne _ _ _ _ _ _ (by simp only [pHZDSENS, HZ_SHDN_STAT_ASSERTED, pLCWCHAN] at *; omega)]

theorem sameFan_noteRail (s : State) (n vRail iRail : Nat) : sameFan n s (s.noteRail vRail iRail) :=
  (sameFan_fset s n pLCWGLOB _ LCW_RAIL_V_RAIL (by decide)).trans (sameFan_fset _ n pLCWGLOB _ LCW_RAIL_I_RAIL (by decide))

theorem sameBytes_composeAll (s : State) (vRail iRail : Nat) : sameBytes s (s.composeAll vRail iRail) :=
  sameBytes_trans (t := s.noteRail vRail iRail) (sameBytes_of_eq rfl rfl rfl)
    (sameBytes_each _ _ _ fun t _ _ => (onlyFan_composeFan t s.compose).2.2.2)

theorem iRail_composeAll (s : State) (vRail iRail : Nat) :
    (s.composeAll vRail iRail).fget pLCWGLOB LCW_RAIL_I_RAIL = min 0xFFFF iRail := by
  have hkept : (s.composeAll vRail iRail).rd (pLCWGLOB + 0x138) = (s.noteRail vRail iRail).rd (pLCWGLOB + 0x138) :=
    State.each_eq (fun t => t.rd (pLCWGLOB + 0x138)) _ _ _ fun t n _ =>
      (onlyFan_composeFan t s.compose).1 _ (by simp only [fanReach, pLCWGLOB, pLCWCHAN, pHZDSENS]; omega)
  have hset := State.fget_fset_same (s.fset pLCWGLOB LCW_RAIL_V_RAIL (min 0xFFFF vRail)) pLCWGLOB LCW_RAIL_I_RAIL
    (min 0xFFFF iRail) (by decide)
  refine (congrArg LCW_RAIL_I_RAIL.get hkept).trans (hset.trans (Nat.mod_eq_of_lt ?_))
  exact lt_of_le_of_lt (min_le_left ..) (by decide)

/-- What a step leaves of one channel. -/
theorem composeAll_channel (s : State) (vRail iRail : Nat) {n : Nat} (hn : n < 16) :
    ∃ u, sameFan n s u ∧ sameFan n (u.composeFan s.compose n) (s.composeAll vRail iRail) := by
  obtain ⟨u, hu, ht⟩ := each_composeFan_at (s.noteRail vRail iRail) s.compose hn
  exact ⟨u, (sameFan_noteRail s n vRail iRail).trans hu, ht⟩

theorem crpDeaf_composeAll (s : State) (vRail iRail : Nat) : (s.composeAll vRail iRail).crpDeaf = s.crpDeaf :=
  State.each_eq State.crpDeaf _ _ _ fun t _ _ => (onlyFan_composeFan t s.compose).2.2.1

theorem sameFan_composeDone (s : State) (n vRail iRail : Nat) :
    sameFan n (s.composeAll vRail iRail) (s.composeDone vRail iRail) := by
  unfold State.composeDone
  split
  · exact .refl ..
  · exact sameFan_fset _ _ _ _ _ (by decide)

theorem sameBytes_composeDone (s : State) (vRail iRail : Nat) :
    sameBytes (s.composeAll vRail iRail) (s.composeDone vRail iRail) := by
  unfold State.composeDone
  split
  · exact sameBytes_refl _
  · exact sameBytes_of_eq rfl rfl rfl

theorem iRail_composeDone (s : State) (vRail iRail : Nat) :
    (s.composeDone vRail iRail).fget pLCWGLOB LCW_RAIL_I_RAIL = (s.composeAll vRail iRail).fget pLCWGLOB LCW_RAIL_I_RAIL := by
  unfold State.composeDone
  split
  · rfl
  · exact State.fget_fset_ne _ _ _ _ _ _ (by decide)

theorem safeDuty_composeDone (s : State) (vRail iRail : Nat) (h : s.crpDeaf = false) :
    (s.composeDone vRail iRail).flag pCRPGLOB CRP_GSTAT_SAFE_DUTY = false := by
  rw [State.composeDone, if_neg (by rw [crpDeaf_composeAll, h]; decide), State.flag_eq_fget,
    State.fget_fset_same _ _ _ _ (by decide)]
  rfl

/-- The duties of one channel after a step of all: the clauses of R398, R402 and R404 for one channel. -/
def dutyMoved (n : Nat) (s t : State) : Prop :=
  (t.fan n).composed = s.compose n ∧
    (s.fanOn n = true → (s.fan n).composed = 0 → s.compose n ≠ 0 → s.fanState n = 0 → t.fanState n = 1) ∧
    (s.fanOn n = true → s.compose n = 0 → 1 ≤ s.fanState n → s.fanState n ≤ 4 → t.fanState n = 6) ∧
    (s.fanOn n = true → s.compose n ≠ 0 → s.fanState n = 3 → t.fanState n = 3 ∧ (s.crpDeaf = false →
      s.compose n ≤ t.ch n LCW_CH_STAT_APPLIED ∧ t.ch n LCW_CH_STAT_APPLIED ≤ 1000 ∧
      (s.shdn = true → t.ch n LCW_CH_STAT_APPLIED = 1000))) ∧
    (s.fanState n = 5 → t.fanState n = 5 ∧ (s.crpDeaf = false → t.ch n LCW_CH_STAT_APPLIED = 0))

theorem dutyMoved_of_composeFan {s u t : State} {n : Nat} (hn : n < 16) (hu : sameFan n s u)
    (ht : sameFan n (u.composeFan s.compose n) t) : dutyMoved n s t := by
  have hon : u.fanOn n = s.fanOn n := State.fanOn_eq (hu.1 _ (by decide))
  have hst := State.fanState_turnFan u s.compose n
  rw [hon, hu.2.1, hu.fanState] at hst
  have htst : t.fanState n = (u.turnFan s.compose n).fanState n := ht.fanState.trans (State.fanState_composeFan ..)
  have hturn : ((u.turnFan s.compose n).fan n).composed = s.compose n := by
    rw [State.fan_turnFan, State.noteDuty, State.fan_modFan_same]
  have hshdn : (u.turnFan s.compose n).shdn = s.shdn := ((onlyFan_turnFan u s.compose).shdn hn).trans hu.2.2.1
  have happ (h : s.crpDeaf = false) : t.ch n LCW_CH_STAT_APPLIED = (u.turnFan s.compose n).fanDuty n % 2 ^ 10 :=
    (ht.1 _ (by decide)).trans (State.applied_composeFan u s.compose n (hu.2.2.2.trans h))
  refine ⟨?_, fun h1 h2 h3 h4 => ?_, fun h1 h2 h3 h4 => ?_, fun h1 h2 h3 => ?_, fun h5 => ?_⟩
  · rw [ht.2.1, State.composed_composeFan]
  · rw [htst, hst, if_pos ⟨h1, h2, h3, h4⟩]
  · rw [htst, hst, if_neg fun h => h.2.2.1 h2, if_pos ⟨h1, h2, h3, h4⟩]
  · have hrun : (u.turnFan s.compose n).fanState n = 3 := by
      rw [hst, if_neg fun h => by rw [h3] at h; exact absurd h.2.2.2 (by decide), if_neg fun h => h2 h.2.1, h3]
    refine ⟨htst.trans hrun, fun hdeaf => ?_⟩
    obtain ⟨hlo, hhi, hmax⟩ := State.fanDuty_run hrun (hturn.trans_le (s.compose_le n))
    rw [happ hdeaf, Nat.mod_eq_of_lt (lt_of_le_of_lt hhi (by decide))]
    exact ⟨hturn.symm.trans_le hlo, hhi, fun h => hmax (hshdn.trans h)⟩
  · have hstall : (u.turnFan s.compose n).fanState n = 5 := by
      rw [hst, if_neg fun h => by rw [h5] at h; exact absurd h.2.2.2 (by decide),
        if_neg fun h => by rw [h5] at h; exact absurd h.2.2.2 (by decide), h5]
    exact ⟨htst.trans hstall, fun hdeaf => by rw [happ hdeaf, State.fanDuty_stalled hstall]; rfl⟩

theorem dutyCompose_forms_duties (vRail iRail : Nat) (s : State) (hs : s.crp.silent = false) :
    completes (.dutyCompose vRail iRail) s fun t => sameBytes s t ∧ t.fget pLCWGLOB LCW_RAIL_I_RAIL = min 0xFFFF iRail ∧
      (∀ n, n < 16 → dutyMoved n s t) ∧ (s.crpDeaf = false → t.flag pCRPGLOB CRP_GSTAT_SAFE_DUTY = false) := by
  refine completes_of_next (exec_dutyCompose vRail iRail hs) ⟨?_, ?_, fun n hn => ?_, safeDuty_composeDone s vRail iRail⟩
  · exact sameBytes_trans (sameBytes_composeAll s vRail iRail) (sameBytes_composeDone s vRail iRail)
  · exact (iRail_composeDone s vRail iRail).trans (iRail_composeAll s vRail iRail)
  · obtain ⟨u, hu, ht⟩ := composeAll_channel s vRail iRail hn
    exact dutyMoved_of_composeFan hn hu (ht.trans (sameFan_composeDone s n vRail iRail))

/-! ### The level of FAN_DRV -/

theorem fanDrv_levels (n : Nat) (s : State) (hon : s.crp.on = true) : (s.heldDuty n = 0 → s.fanDrv n = false) ∧
    (1000 ≤ s.heldDuty n → s.fanDrv n = true) ∧
    (0 < s.heldDuty n → s.heldDuty n < 1000 → s.fanState n ≠ 2 → (s.fan n).stretchN = 0 →
      s.fanDrv n = decide ((s.crp.switchUs * s.fget pLCWGLOB LCW_CFG_FSW + 1000000 - 62500 * n) % 1000000 < 1000 * s.heldDuty n)) := by
  unfold State.fanDrv
  refine ⟨fun h => ?_, fun h => ?_, fun h0 h1 hp hz => ?_⟩
  · simp [h]
  · simp [hon, h, show s.heldDuty n ≠ 0 by omega]
  · simp [hon, hp, hz, show s.heldDuty n ≠ 0 by omega, show ¬1000 ≤ s.heldDuty n by omega]

/-- Settles O56: each event of a channel by its own lemma, the duties by the one step each channel takes. -/
theorem fanChannels : Obligations.FanChannels := by
  refine ⟨fun chan s hs => ⟨spinupEnd_probes chan hs, fun ripple h2 => ⟨probeEnd_found chan hs ripple h2, fun hr =>
      ⟨probeEnd_retries chan hs ripple h2 hr, probeEnd_stalls chan hs ripple h2 hr⟩⟩, retryWaitEnd_retries chan hs, fun h3 =>
      ⟨tachTimeout_probes chan hs h3, tachTimeout_lost chan hs h3, tachRecovered_recovers chan h3⟩,
      tachPeriod_shows chan hs, stoppingEnd_stops chan hs⟩,
    events_pause_in_silence, fanDrv_levels, fun cls chan s =>
      ⟨fanEn_starts cls chan s, fanEn_stops cls chan s, fanClear_restarts cls chan s⟩, fun vRail iRail s hs => ?_⟩
  refine completes_mono (dutyCompose_forms_duties vRail iRail s hs) fun t ⟨hbytes, hrail, hduty, hsafe⟩ =>
    ⟨hbytes, hrail, fun n hn => ?_⟩
  obtain ⟨hcomposed, hstart, hstop, hrun, hstalled⟩ := hduty n hn
  exact ⟨hcomposed, hstart, hstop, hrun, hstalled, hsafe⟩

end Sys2Proof.Machine
end

section
/-! SUPPORT. A page of MAIN without MAIN: writes are dropped, reads answer all ones, and the host reaches no page (R22). -/

namespace Sys2Proof.Machine

section
variable {s : State} {cls : Cls} {a i : Nat} {p : PRow}

/-- Without power the gate drops a write before any check that could record it. -/
theorem regWrite_unpowered (size v : Nat) (hp : findPage (a / 0x10000) = some (p, i)) (hm : p.main = true)
    (hoff : s.pins.mainPwrGood = false) : regWrite s cls a size v = (false, s) := by
  have hg : writeGate s cls a size v = (false, s) := by simp [writeGate, hp, hm, hoff]
  simp [regWrite, hg]

theorem writeReg_unpowered (size v : Nat) (hp : findPage (a / 0x10000) = some (p, i)) (hm : p.main = true)
    (hoff : s.pins.mainPwrGood = false) : s.writeReg cls a size v = s := by
  simp [State.writeReg, regWrite_unpowered size v hp hm hoff]

/-- What the cores owe MAIN waits for its power. -/
theorem State.dueDuties_unpowered {s : State} (hoff : s.pins.mainPwrGood = false) : s.dueDuties = s := by
  simp [State.dueDuties, hoff]

theorem readAccess_unpowered (size : Nat) (hp : findPage (a / 0x10000) = some (p, i)) (hm : p.main = true)
    (hoff : s.pins.mainPwrGood = false) (hr : s.reaches cls = true) :
    readAccess s cls a size = s.emit (.regRead cls a (allOnes size)) := by
  simp [readAccess, hp, hm, hoff, hr]

/-- A class that does not reach the pages gets no answer from any of them. -/
theorem readAccess_of_not_reaches (a size : Nat) (hr : s.reaches cls = false) : readAccess s cls a size = s := by
  unfold readAccess
  cases findPage (a / 0x10000) <;> simp [hr]

/-- The host's port is itself in MAIN. -/
theorem State.host_unreached (hoff : s.pins.mainPwrGood = false) : s.reaches .host = false := by
  simp [State.reaches, State.hostPort, hoff]

end

/-- Settles O8: without MAIN the gate drops the write and the read stops at the page's power, or at the host's port. -/
theorem unpoweredPages : Obligations.UnpoweredPages := by
  intro cls addr s p i hp hm hoff
  refine ⟨fun size value => ?_, fun hr => ⟨?_, ?_⟩, fun any size => ⟨?_, ?_⟩⟩
  · rw [exec_registerWrite, writeReg_unpowered size value.toNat hp hm hoff, State.dueDuties_unpowered hoff]
  · rw [exec_loRead, readAccess_unpowered 4 hp hm hoff hr]
    rfl
  · rw [exec_readClear, readAccess_unpowered 4 hp hm hoff hr]
    rfl
  · rw [exec_loRead, readAccess_of_not_reaches _ size (State.host_unreached hoff)]
  · rw [exec_readClear, readAccess_of_not_reaches _ size (State.host_unreached hoff)]

end Sys2Proof.Machine
end

section
/-! SUPPORT. Words and bytes that stand: what the shared operations leave of a set of registers, and of every byte. -/

namespace Sys2Proof.Machine

/-! ### Folds -/

/-- What one step of a fold brings about and no other step undoes holds at its end. -/
theorem State.each_at {P : State → Prop} {l : List Nat} {f : State → Nat → State} {b : Nat} (s : State) (hb : b ∈ l)
    (hset : ∀ u, P (f u b)) (hkeep : ∀ u, ∀ n ∈ l, n ≠ b → P u → P (f u n)) : P (s.each l f) := by
  have hstep (u : State) (n : Nat) (hn : n ∈ l) (hu : P u) : P (f u n) := by
    by_cases hb : n = b
    · exact hb ▸ hset u
    · exact hkeep u n hn hb hu
  induction l generalizing s with
  | nil => cases hb
  | cons a t ih =>
    have htail (u : State) (n : Nat) (hn : n ∈ t) := hstep u n (List.mem_cons_of_mem a hn)
    rcases List.mem_cons.1 hb with rfl | hb
    · exact State.each_inv P t f _ htail (hset s)
    · exact ih (f s a) hb (fun u n hn => hkeep u n (List.mem_cons_of_mem a hn)) htail

/-! ### Standing -/

/-- The words of `W` and every byte are as they were. -/
def stands (W : Nat → Prop) (s t : State) : Prop := (∀ x, W x → t.rd x = s.rd x) ∧ sameBytes s t

section
variable {W : Nat → Prop}

theorem stands.refl (s : State) : stands W s s := ⟨fun _ _ => rfl, sameBytes_refl s⟩

theorem stands.trans {s t u : State} (h : stands W s t) (k : stands W t u) : stands W s u :=
  ⟨fun x hx => (k.1 x hx).trans (h.1 x hx), sameBytes_trans h.2 k.2⟩

theorem stands.mono {V : Nat → Prop} {s t : State} (h : stands W s t) (hv : ∀ x, V x → W x) : stands V s t :=
  ⟨fun x hx => h.1 x (hv x hx), h.2⟩

/-- A field all of whose word stands. -/
theorem stands.fget {s t : State} (h : stands W s t) {b : Nat} {f : Fld} (hw : W (b + f.off)) : t.fget b f = s.fget b f :=
  congrArg f.get (h.1 _ hw)

theorem stands.flag {s t : State} (h : stands W s t) {b : Nat} {f : Fld} (hw : W (b + f.off)) : t.flag b f = s.flag b f :=
  congrArg (· != 0) (h.fget hw)

/-- A change that no register and no byte shows. -/
theorem stands_of_eq {s t : State} (hr : t.regs = s.regs) (hm : t.mem = s.mem) (hf : t.flash = s.flash)
    (hw : t.fwc.sram = s.fwc.sram) : stands W s t := ⟨fun x _ => State.rd_eq s t x hr, sameBytes_of_eq hm hf hw⟩

theorem stands_modBranch (s : State) (b : Nat) (f : BranchSt → BranchSt) : stands W s (s.modBranch b f) :=
  stands_of_eq rfl rfl rfl rfl

theorem stands_wr (s : State) (a : Nat) (v : BitVec 32) (h : ¬W a) : stands W s (s.wr a v) :=
  ⟨fun _ hx => State.rd_wr_ne _ _ _ _ fun e => h (e ▸ hx), sameBytes_of_eq rfl rfl rfl⟩

theorem stands_fset (s : State) (b : Nat) (f : Fld) (x : Nat) (h : ¬W (b + f.off)) : stands W s (s.fset b f x) :=
  stands_wr _ _ _ h

theorem stands_raise (s : State) (b i : Nat) (h : ¬W (b + IRQ_STAT.off)) (hm : ∀ x, W x → ¬msixWord x) :
    stands W s (s.raise b i) :=
  ⟨fun x hx => State.rd_raise _ _ _ _ (fun e => h (e ▸ hx)) (hm x hx), sameBytes_of_eq (by simp) (by simp) (by simp)⟩

theorem stands_ite {c : Prop} [Decidable c] {s t u : State} (ht : c → stands W s t) (hu : ¬c → stands W s u) :
    stands W s (if c then t else u) := by split <;> [exact ht ‹_›; exact hu ‹_›]

theorem stands_each (l : List Nat) (f : State → Nat → State) (s : State) (h : ∀ s, ∀ n ∈ l, stands W s (f s n)) :
    stands W s (s.each l f) :=
  State.each_inv (stands W s) l f s (fun t n hn ht => ht.trans (h t n hn)) (stands.refl s)

theorem stands_foldl {β : Type} (l : List β) (f : State → β → State) (s : State) (h : ∀ s, ∀ e ∈ l, stands W s (f s e)) :
    stands W s (l.foldl f s) := by
  induction l generalizing s with
  | nil => exact stands.refl s
  | cons a t ih =>
    exact (h s a (List.mem_cons_self ..)).trans (ih _ fun s x hx => h s x (List.mem_cons_of_mem _ hx))

/-! ### The action log -/

/-- No word of the action log's page, and none of the pending bits. -/
def offLog (W : Nat → Prop) : Prop := ∀ x, W x → x < pALG ∧ ¬msixWord x

theorem stands_queueAction (hW : offLog W) (s : State) (r : ActionRec) : stands W s (s.queueAction r) := by
  unfold State.queueAction
  refine stands_ite (fun _ => stands_of_eq rfl rfl rfl rfl) fun _ => ?_
  have hlost : ¬W (pALG + ALG_LOST.off) := fun h => absurd (hW _ h).1 (by decide)
  have hirq : ¬W (pALG + IRQ_STAT.off) := fun h => absurd (hW _ h).1 (by decide)
  exact ((stands_fset s pALG ALG_LOST _ hlost).trans (stands_raise _ _ _ hirq fun x hx => (hW x hx).2)).trans
    (stands_of_eq rfl rfl rfl rfl)

theorem stands_crpAct (hW : offLog W) (hlost : ¬W (pCRPGLOB + CRP_ACT_LOST.off)) (s : State) (code source cause arg : Nat) :
    stands W s (s.crpAct code source cause arg) := by
  unfold State.crpAct
  refine stands_ite (fun _ => stands_ite (fun _ => stands_of_eq rfl rfl rfl rfl) fun _ => ?_)
    fun _ => stands_queueAction hW s _
  exact (stands_fset s pCRPGLOB CRP_ACT_LOST _ hlost).trans (stands_of_eq rfl rfl rfl rfl)

end

end Sys2Proof.Machine
end

section
/-! SUPPORT. One sample of Carapace: its readings are in their registers, and nothing that follows from it moves them (R341). -/

namespace Sys2Proof.Machine

/-! ### The registers of the readings -/

/-- The offsets of the readings within the feeds' page and a branch's page. -/
def readingOffs : List Nat := [0x110, 0x114, 0x164, 0x168]

/-- A word that holds readings: the feeds' voltages, V_BUS, and every branch's current and voltages. -/
def readingWord (x : Nat) : Prop :=
  x % 0x10000 ∈ readingOffs ∧ (x / 0x10000 * 0x10000 = pCRPFEED ∨ pCRPBR 0 ≤ x ∧ x < pCRPBR 12 ∧ 0x164 ≤ x % 0x10000)

/-- A field in no word of readings, on whatever page. -/
abbrev Fld.quiet (f : Fld) : Prop := f.off < 0x10000 ∧ f.off ∉ readingOffs

theorem readingWord_feed : readingWord (pCRPFEED + CF_VIN_VIN_A.off) ∧ readingWord (pCRPFEED + CF_VBUS_VBUS.off) := by
  simp [readingWord, readingOffs, pCRPFEED, CF_VIN_VIN_A, CF_VBUS_VBUS]

theorem readingWord_branch {b : Nat} (hb : b < 12) :
    readingWord (pCRPBR b + CB_MEAS_I.off) ∧ readingWord (pCRPBR b + CB_VOLT_V_OUT.off) := by
  simp only [readingWord, readingOffs, pCRPFEED, pCRPBR, CB_MEAS_I, CB_VOLT_V_OUT, List.mem_cons, List.not_mem_nil]
  omega

theorem offLog_readingWord : offLog readingWord := by
  intro x ⟨hx, h⟩
  simp only [pCRPFEED, pCRPBR, pALG, msixWord] at h ⊢
  omega

theorem readingWord_actLost : ¬readingWord (pCRPGLOB + CRP_ACT_LOST.off) := by
  simp [readingWord, pCRPGLOB, pCRPFEED, pCRPBR, CRP_ACT_LOST]

/-- The pages of a block begin at multiples of 64 KiB. -/
theorem pCRPBR_page (b : Nat) : pCRPBR b % 0x10000 = 0 := by simp only [pCRPBR]; omega

section
variable {b : Nat} (hb : b % 0x10000 = 0)
include hb

theorem not_readingWord {f : Fld} (hf : f.quiet) : ¬readingWord (b + f.off) := by
  rintro ⟨h, -⟩
  rw [show (b + f.off) % 0x10000 = f.off by have := hf.1; omega] at h
  exact hf.2 h

theorem stands_fset_quiet {f : Fld} (hf : f.quiet) (s : State) (x : Nat) : stands readingWord s (s.fset b f x) :=
  stands_fset _ _ _ _ (not_readingWord hb hf)

theorem stands_raise_quiet (s : State) (i : Nat) : stands readingWord s (s.raise b i) :=
  stands_raise _ _ _ (not_readingWord hb (f := IRQ_STAT) (by decide)) fun x hx => (offLog_readingWord x hx).2

end

theorem stands_crpAct_readings (s : State) (code source cause arg : Nat) :
    stands readingWord s (s.crpAct code source cause arg) :=
  stands_crpAct offLog_readingWord readingWord_actLost ..

/-! ### Branches -/

theorem stands_setPg (s : State) (b : Nat) (on : Bool) : stands readingWord s (s.setPg b on) :=
  stands_ite (fun _ => stands.refl s) fun _ =>
    (stands_fset_quiet (pCRPBR_page b) (f := CB_STAT_PG) (by decide) s _).trans (stands_raise_quiet (pCRPBR_page b) _ _)

theorem stands_shutBranch (s : State) (b cause : Nat) (after : AfterShut) :
    stands readingWord s (s.shutBranch b cause after) := by
  have hp := pCRPBR_page b
  exact ((((stands_fset_quiet hp (f := CB_TRIPS) (by decide) s _).trans (stands_setPg _ b false)).trans
    (stands_fset_quiet hp (f := CB_STAT_STATE) (by decide) _ 4)).trans
    (stands_fset_quiet hp (f := CB_STAT_CAUSE) (by decide) _ cause)).trans (stands_of_eq rfl rfl rfl rfl)

theorem stands_busLoss (s : State) : stands readingWord s s.busLoss := by
  refine ((stands_each _ _ s fun u b _ => ?_).trans (stands_crpAct_readings ..)).trans (stands_raise_quiet (by decide) _ _)
  exact ((stands_shutBranch u b 7 .off).trans
    (stands_fset_quiet (pCRPBR_page b) (f := CB_STAT_RESTART_PEND) (by decide) _ 1)).trans
    (stands_raise_quiet (pCRPBR_page b) _ _)

theorem stands_lowerCause (s : State) (b cause : Nat) : stands readingWord s (s.lowerCause b cause) :=
  (stands_fset_quiet (pCRPBR_page b) (f := CB_STAT_CAUSE) (by decide) s _).trans (stands_of_eq rfl rfl rfl rfl)

theorem stands_showTimer (s : State) (b : Nat) : stands readingWord s (s.showTimer b) :=
  stands_fset_quiet (pCRPBR_page b) (f := CB_TMR) (by decide) s _

theorem stands_retriableTrip (s : State) (b cause : Nat) : stands readingWord s (s.retriableTrip b cause) := by
  have hnote : stands readingWord s ((s.noteMet b true).raise (pCRPBR b) 3) :=
    (stands_of_eq rfl rfl rfl rfl).trans (stands_raise_quiet (pCRPBR_page b) _ _)
  refine stands_ite (fun _ => stands_lowerCause s b cause) fun _ => stands_ite (fun _ => ?_) fun _ => ?_
  · have hcount (r t : Nat) (u : State) : stands readingWord u
        ((u.fset (pCRPBR b) CB_STAT_RETRIES r).modBranch b fun k => { k with tmr := t }) :=
      (stands_fset_quiet (pCRPBR_page b) (f := CB_STAT_RETRIES) (by decide) u r).trans (stands_of_eq rfl rfl rfl rfl)
    exact (((hnote.trans (hcount _ _ _)).trans (stands_showTimer _ b)).trans (stands_crpAct_readings ..)).trans
      (stands_shutBranch ..)
  · exact (hnote.trans (stands_crpAct_readings ..)).trans (stands_shutBranch ..)

theorem stands_branchTrips (s : State) (b : Nat) : stands readingWord s (s.branchTrips b) :=
  stands_ite (fun _ => stands.refl s) fun _ => stands_ite (fun _ => stands_retriableTrip s b 2) fun _ =>
    stands_ite (fun _ => stands_retriableTrip s b 3) fun _ => stands.refl s

/-! ### Feeds -/

theorem stateFld_quiet (i : Nat) : (stateFld i).quiet := by unfold stateFld; split <;> decide

theorem ovFld_quiet (i : Nat) : (ovFld i).quiet := by unfold ovFld; split <;> decide

section
variable {f : Fld} (hf : f.quiet)
include hf

theorem stands_fset_feed (s : State) (x : Nat) : stands readingWord s (s.fset pCRPFEED f x) :=
  stands_fset_quiet (by decide) hf s x

end

theorem stands_showFeeds (s : State) : stands readingWord s s.showFeeds :=
  (stands_fset_feed (f := CF_STAT_ON) (by decide) s _).trans (stands_fset_feed (f := CF_STAT_SINGLE) (by decide) _ _)

theorem stands_setFeed (s : State) (i st : Nat) : stands readingWord s (s.setFeed i st) := by
  have h := (stands_fset_feed (stateFld_quiet i) s st).trans (stands_showFeeds _)
  exact stands_ite (fun _ => h.trans (stands_raise_quiet (by decide) _ _)) fun _ => h

theorem stands_openFeed (s : State) (i st cause : Nat) : stands readingWord s (s.openFeed i st cause) :=
  (stands_setFeed s i st).trans (stands_fset_feed (f := CF_STAT_CAUSE) (by decide) _ cause)

theorem stands_feedTrip (s : State) (i cause peak : Nat) : stands readingWord s (s.feedTrip i cause peak) := by
  unfold State.feedTrip
  extract_lets u
  have hu : stands readingWord s u := (stands_openFeed s i 5 cause).trans (stands_of_eq rfl rfl rfl rfl)
  exact (hu.trans (stands_raise_quiet (by decide) u 4)).trans (stands_crpAct_readings ..)

theorem stands_driveFeed (s : State) (i : Nat) : stands readingWord s (s.driveFeed i) := by
  have h : stands readingWord s { s.setFeed i 3 with crp.closing := none } :=
    (stands_setFeed s i 3).trans (stands_of_eq rfl rfl rfl rfl)
  exact stands_ite (fun _ => h.trans (stands_of_eq rfl rfl rfl rfl)) fun _ => h.trans (stands_busLoss _)

theorem stands_makeFeed (s : State) : stands readingWord s s.makeFeed := by
  unfold State.makeFeed
  cases s.crp.closing with
  | none => exact stands.refl s
  | some j =>
    exact stands_ite (fun _ => stands_of_eq rfl rfl rfl rfl) fun _ =>
      stands_ite (fun _ => stands_driveFeed s j) fun _ => stands.refl s

theorem stands_makeStep (s : State) : stands readingWord s s.makeStep :=
  stands_ite (fun _ => (stands_of_eq rfl rfl rfl rfl).trans (stands_makeFeed _)) fun _ => stands.refl s

theorem stands_gapStep (s : State) (i vgs us : Nat) : stands readingWord s (s.gapStep i vgs us) := by
  unfold State.gapStep
  cases s.crp.gap with
  | none => exact stands.refl s
  | some k =>
    refine stands_ite (fun _ => stands_of_eq rfl rfl rfl rfl) fun _ => ?_
    extract_lets g n g8 s₁ s₂ c s₃
    have h₁ : stands readingWord s s₁ := (stands_fset_feed (f := CF_XFER_COUNT) (by decide) s _).trans
      (stands_fset_feed (f := CF_XFER_LAST_GAP) (by decide) _ _)
    have h₂ : stands readingWord s₁ s₂ := stands_fset_feed (f := CF_XFER_GAP_MAX) (by decide) s₁ _
    have h₃ : stands readingWord s s₃ := (h₁.trans h₂).trans (stands_of_eq rfl rfl rfl rfl)
    clear_value s₃
    exact (h₃.trans (stands_crpAct_readings ..)).trans (stands_raise_quiet (by decide) _ 3)

theorem stands_feedReading (s : State) (i : Nat) (r : FeedSample) (us : Nat) :
    stands readingWord s (s.feedReading i r us) := by
  unfold State.feedReading
  extract_lets acc s₁ s₂ st s₃ s₄ s₅
  have h₁ : stands readingWord s s₁ := stands_of_eq rfl rfl rfl rfl
  have h₂ : stands readingWord s₁ s₂ :=
    stands_ite (fun _ => stands_fset_feed (ovFld_quiet i) s₁ 0) fun _ => stands.refl s₁
  have h₃ : stands readingWord s₂ s₃ := stands_ite (fun _ => stands_setFeed s₂ i 0) fun _ => stands.refl s₂
  have h₄ : stands readingWord s₃ s₄ := stands_ite (fun _ => stands_gapStep s₃ i r.vgs us) fun _ => stands.refl s₃
  have h₅ : stands readingWord s₄ s₅ := stands_ite (fun _ => stands_setFeed s₄ i 4) fun _ => stands.refl s₄
  have h₆ : stands readingWord s s₅ := (((h₁.trans h₂).trans h₃).trans h₄).trans h₅
  clear_value s₅
  exact stands_ite (fun _ => h₆.trans (stands_feedTrip s₅ i 5 r.i)) fun _ => h₆

theorem stands_feedWindow (s : State) (a b : FeedSample) : stands readingWord s (s.feedWindow a b) :=
  stands_ite (fun _ => stands_of_eq rfl rfl rfl rfl) fun _ => stands_of_eq rfl rfl rfl rfl

end Sys2Proof.Machine
end


section
/-! SUPPORT. The whole sample: the feeds' readings, each branch's, and what follows from them (R341). -/

namespace Sys2Proof.Machine

theorem sat16_mod (n : Nat) : sat16 n % 2 ^ 16 = sat16 n := Nat.mod_eq_of_lt (by unfold sat16; omega)

/-! ### Each branch's readings -/

/-- The readings of a branch are in its registers. -/
def branchShown (b : Nat) (r : BranchSample) (t : State) : Prop :=
  t.fget (pCRPBR b) CB_MEAS_I = sat16 r.i ∧ t.fget (pCRPBR b) CB_MEAS_V_DS = sat16 r.vds ∧
    t.fget (pCRPBR b) CB_VOLT_V_OUT = sat16 r.vout ∧ t.fget (pCRPBR b) CB_VOLT_V_GS = sat16 r.vgs

/-- Their registers stand where all words of readings but another page's do. -/
theorem branchShown.stands {W : Nat → Prop} {b : Nat} {r : BranchSample} {s t : State} (h : branchShown b r s)
    (k : stands W s t) (hmeas : W (pCRPBR b + CB_MEAS_I.off)) (hvolt : W (pCRPBR b + CB_VOLT_V_OUT.off)) :
    branchShown b r t := by
  obtain ⟨hi, hds, hout, hgs⟩ := h
  exact ⟨(k.fget hmeas).trans hi, (k.fget hmeas (f := CB_MEAS_V_DS)).trans hds, (k.fget hvolt).trans hout,
    (k.fget hvolt (f := CB_VOLT_V_GS)).trans hgs⟩

/-- The four readings, in their registers. -/
def State.putReading (s : State) (b : Nat) (r : BranchSample) : State :=
  (((s.fset (pCRPBR b) CB_MEAS_I (sat16 r.i)).fset (pCRPBR b) CB_MEAS_V_DS (sat16 r.vds)).fset (pCRPBR b) CB_VOLT_V_OUT
    (sat16 r.vout)).fset (pCRPBR b) CB_VOLT_V_GS (sat16 r.vgs)

theorem branchShown_putReading (s : State) (b : Nat) (r : BranchSample) : branchShown b r (s.putReading b r) := by
  have hword (f g : Fld) (h : f.off = 0x164 ∧ g.off = 0x168) : pCRPBR b + f.off ≠ pCRPBR b + g.off := by omega
  unfold State.putReading
  refine ⟨?_, ?_, ?_, ?_⟩
  · rw [State.fget_fset_ne _ _ _ _ _ _ (hword _ _ (by decide)), State.fget_fset_ne _ _ _ _ _ _ (hword _ _ (by decide)),
      State.fget_fset_apart _ _ CB_MEAS_V_DS CB_MEAS_I _ rfl (by decide) (by decide), State.fget_fset_same _ _ _ _ (by decide)]
    exact sat16_mod _
  · rw [State.fget_fset_ne _ _ _ _ _ _ (hword _ _ (by decide)), State.fget_fset_ne _ _ _ _ _ _ (hword _ _ (by decide)),
      State.fget_fset_same _ _ _ _ (by decide)]
    exact sat16_mod _
  · rw [State.fget_fset_apart _ _ CB_VOLT_V_GS CB_VOLT_V_OUT _ rfl (by decide) (by decide), State.fget_fset_same _ _ _ _ (by decide)]
    exact sat16_mod _
  · rw [State.fget_fset_same _ _ _ _ (by decide)]
    exact sat16_mod _

/-- What a sample of a branch does beside its readings touches none. -/
theorem State.branchReading_after (s : State) (b : Nat) (r : BranchSample) :
    stands readingWord (s.putReading b r) (s.branchReading b r) := by
  have hp := pCRPBR_page b
  unfold State.branchReading
  extract_lets p on d model t acc k win full s₁ s₂ s₃
  have h₂ : stands readingWord (s.putReading b r) s₂ :=
    (stands_fset_quiet hp (f := CB_STAT_NTC_FAULT) (by decide) (s.putReading b r)
      (bit (r.ntc = none))).trans (stands_fset_quiet hp (f := CB_ACCUM) (by decide) _ acc)
  have h₃ : stands readingWord s₂ s₃ :=
    (stands_fset_quiet hp (f := CB_TFET_T_FET) (by decide) s₂ (ofSigned 16 t)).trans (stands_modBranch ..)
  exact (h₂.trans h₃).trans (stands_showTimer s₃ b)

/-- The words of readings off the page at `b`. -/
def readingOff (b x : Nat) : Prop := readingWord x ∧ x / 0x10000 * 0x10000 ≠ b

theorem stands_branchReading (s : State) (b : Nat) (r : BranchSample) :
    stands (readingOff (pCRPBR b)) s (s.branchReading b r) := by
  have hset (u : State) {f : Fld} (hf : f.off < 0x10000) (x : Nat) : stands (readingOff (pCRPBR b)) u (u.fset (pCRPBR b) f x) :=
    stands_fset _ _ _ _ fun h => h.2 (by have := pCRPBR_page b; omega)
  have hput : stands (readingOff (pCRPBR b)) s (s.putReading b r) :=
    (((hset s (by decide) _).trans (hset _ (by decide) _)).trans (hset _ (by decide) _)).trans (hset _ (by decide) _)
  exact hput.trans ((s.branchReading_after b r).mono fun x hx => hx.1)

theorem branchShown_branchReading (s : State) {b : Nat} (hb : b < 12) (r : BranchSample) :
    branchShown b r (s.branchReading b r) :=
  (branchShown_putReading s b r).stands (s.branchReading_after b r) (readingWord_branch hb).1 (readingWord_branch hb).2

theorem readingOff_branch {b c : Nat} (hb : b < 12) (h : c ≠ b) :
    readingOff (pCRPBR c) (pCRPBR b + CB_MEAS_I.off) ∧ readingOff (pCRPBR c) (pCRPBR b + CB_VOLT_V_OUT.off) := by
  refine ⟨⟨(readingWord_branch hb).1, ?_⟩, (readingWord_branch hb).2, ?_⟩ <;>
    simp only [pCRPBR, CB_MEAS_I, CB_VOLT_V_OUT] <;> omega

theorem readingOff_feed (c : Nat) :
    readingOff (pCRPBR c) (pCRPFEED + CF_VIN_VIN_A.off) ∧ readingOff (pCRPBR c) (pCRPFEED + CF_VBUS_VBUS.off) := by
  refine ⟨⟨readingWord_feed.1, ?_⟩, readingWord_feed.2, ?_⟩ <;>
    simp only [pCRPBR, pCRPFEED, CF_VIN_VIN_A, CF_VBUS_VBUS] <;> omega

/-! ### The feeds' readings -/

/-- The readings of the feeds and of the bus are in their registers. -/
def feedsShown (x : CrpSample) (t : State) : Prop :=
  t.busVolts = sat16 x.vbus ∧ t.vin 0 = sat16 x.feedA.vin ∧ t.vin 1 = sat16 x.feedB.vin

theorem feedsShown.stands {W : Nat → Prop} {x : CrpSample} {s t : State} (h : feedsShown x s) (k : stands W s t)
    (hvin : W (pCRPFEED + CF_VIN_VIN_A.off)) (hbus : W (pCRPFEED + CF_VBUS_VBUS.off)) : feedsShown x t := by
  obtain ⟨hv, ha, hb⟩ := h
  exact ⟨(k.fget hbus).trans hv, (k.fget hvin).trans ha, (k.fget hvin (f := CF_VIN_VIN_B)).trans hb⟩

/-- The words of a sample's feeds and bus. -/
def State.noteFeeds (s : State) (x : CrpSample) : State :=
  (((s.keepSample x).wr (pCRPFEED + CF_VIN_VIN_A.off) (BitVec.ofNat 32 (sat16 x.feedA.vin + 65536 * sat16 x.feedB.vin))).wr
    (pCRPFEED + CF_I_IA.off) (BitVec.ofNat 32 (sat16 x.feedA.i + 65536 * sat16 x.feedB.i))).fset pCRPFEED CF_VBUS_VBUS
      (sat16 x.vbus)

theorem feedsShown_noteFeeds (s : State) (x : CrpSample) : feedsShown x (s.noteFeeds x) := by
  have hle (n : Nat) : sat16 n < 65536 := by unfold sat16; omega
  have hvin : (s.noteFeeds x).rd (pCRPFEED + CF_VIN_VIN_A.off) =
      BitVec.ofNat 32 (sat16 x.feedA.vin + 65536 * sat16 x.feedB.vin) := by
    rw [State.noteFeeds, State.rd_fset_ne _ _ _ _ _ (by decide), State.rd_wr_ne _ _ _ _ (by decide), State.rd_wr_same]
  have ha := hle x.feedA.vin
  have hb := hle x.feedB.vin
  refine ⟨(State.fget_fset_same _ _ _ _ (by decide)).trans (sat16_mod _), ?_, ?_⟩
  · show CF_VIN_VIN_A.get ((s.noteFeeds x).rd (pCRPFEED + CF_VIN_VIN_A.off)) = _
    rw [hvin]
    simp only [Fld.get, CF_VIN_VIN_A, BitVec.ushiftRight_zero, BitVec.toNat_ofNat]
    omega
  · show CF_VIN_VIN_B.get ((s.noteFeeds x).rd (pCRPFEED + CF_VIN_VIN_A.off)) = _
    rw [hvin]
    simp only [Fld.get, CF_VIN_VIN_B, BitVec.toNat_ushiftRight, BitVec.toNat_ofNat, Nat.shiftRight_eq_div_pow]
    omega

theorem sameBytes_noteFeeds (s : State) (x : CrpSample) : sameBytes s (s.noteFeeds x) := sameBytes_of_eq rfl rfl rfl

/-! ### The whole -/

/-- What a sample makes of the feeds. -/
def State.sampleFeeds (s : State) (x : CrpSample) : State :=
  (((s.feedReading 0 x.feedA x.gapUs.val).feedReading 1 x.feedB x.gapUs.val).makeStep.feedWindow x.feedA x.feedB).showFeeds

/-- What a sample makes of the branches. -/
def State.sampleBranches (s : State) (x : CrpSample) : State :=
  s.each branchList fun s i => s.branchReading i (x.branches.getD i noReading)

/-- The end of a sample: its actions in order, of those that `n` queued and `m` buffered ones preceded, and the bus. -/
def State.sampleEnd (s : State) (n m : Nat) : State :=
  let t := { s with sep.actQ := actSort n s.sep.actQ, crp.actBuf := actSort m s.crp.actBuf }
  if t.closedFeed.isSome then { t with crp.busLost := false } else t

theorem exec_carapaceSample_off (x : CrpSample) {s : State} (h : s.crp.on = false) : exec (.carapaceSample x) s = .next s :=
  (show exec (.carapaceSample x) s = execCarapaceSample x s from rfl).trans (if_pos (by simp [h]))

theorem exec_carapaceSample (x : CrpSample) {s : State} (h : s.crp.on = true) :
    exec (.carapaceSample x) s = .next (((((s.noteFeeds x).sampleFeeds x).sampleBranches x).each branchList
      State.branchTrips).sampleEnd s.sep.actQ.length s.crp.actBuf.length) := by
  show execCarapaceSample x s = _
  unfold execCarapaceSample
  rw [if_neg (by simp [h])]
  unfold State.sampleEnd State.sampleBranches State.sampleFeeds State.noteFeeds
  rfl

theorem stands_sampleFeeds (s : State) (x : CrpSample) : stands readingWord s (s.sampleFeeds x) :=
  ((((stands_feedReading s 0 x.feedA x.gapUs.val).trans (stands_feedReading _ 1 x.feedB x.gapUs.val)).trans
    (stands_makeStep _)).trans (stands_feedWindow _ x.feedA x.feedB)).trans (stands_showFeeds _)

theorem branchShown_sampleBranches (s : State) (x : CrpSample) {b : Nat} (hb : b < 12) :
    branchShown b (x.branches.getD b noReading) (s.sampleBranches x) :=
  State.each_at s (List.mem_range.2 hb) (fun u => branchShown_branchReading u hb _) fun u n _ hn h =>
    h.stands (stands_branchReading u n _) (readingOff_branch hb hn).1 (readingOff_branch hb hn).2

theorem feedsShown_sampleBranches {s : State} {x : CrpSample} (h : feedsShown x s) : feedsShown x (s.sampleBranches x) :=
  State.each_inv (feedsShown x) _ _ s
    (fun u n _ hu => hu.stands (stands_branchReading u n _) (readingOff_feed n).1 (readingOff_feed n).2) h

theorem sameBytes_sampleBranches (s : State) (x : CrpSample) : sameBytes s (s.sampleBranches x) :=
  sameBytes_each _ _ s fun u n _ => (stands_branchReading u n _).2

/-- The trips of a sample and its end leave its readings. -/
theorem stands_sampleTrips (s : State) (n m : Nat) :
    stands readingWord s ((s.each branchList State.branchTrips).sampleEnd n m) := by
  refine (stands_each branchList State.branchTrips s fun u b _ => stands_branchTrips u b).trans ?_
  generalize s.each branchList State.branchTrips = u
  unfold State.sampleEnd
  generalize actSort n u.sep.actQ = q, actSort m u.crp.actBuf = r
  exact stands_ite (fun _ => stands_of_eq rfl rfl rfl rfl) fun _ => stands_of_eq rfl rfl rfl rfl

theorem carapaceSample_shows (x : CrpSample) (s : State) (h : s.crp.on = true) :
    completes (.carapaceSample x) s fun t => sameBytes s t ∧ t.busVolts = sat16 x.vbus ∧ t.vin 0 = sat16 x.feedA.vin ∧
      t.vin 1 = sat16 x.feedB.vin ∧ ∀ b, b < 12 → let r := x.branches.getD b noReading
        t.fget (pCRPBR b) CB_MEAS_I = sat16 r.i ∧ t.fget (pCRPBR b) CB_MEAS_V_DS = sat16 r.vds ∧
        t.fget (pCRPBR b) CB_VOLT_V_OUT = sat16 r.vout ∧ t.fget (pCRPBR b) CB_VOLT_V_GS = sat16 r.vgs := by
  refine completes_of_next (exec_carapaceSample x h) ?_
  have hfeeds := stands_sampleFeeds (s.noteFeeds x) x
  have htrips := stands_sampleTrips (((s.noteFeeds x).sampleFeeds x).sampleBranches x) s.sep.actQ.length s.crp.actBuf.length
  have hbytes := sameBytes_sampleBranches ((s.noteFeeds x).sampleFeeds x) x
  have hshown : feedsShown x (((s.noteFeeds x).sampleFeeds x).sampleBranches x) := feedsShown_sampleBranches
    ((feedsShown_noteFeeds s x).stands hfeeds readingWord_feed.1 readingWord_feed.2)
  obtain ⟨hv, ha, hb⟩ := hshown.stands htrips readingWord_feed.1 readingWord_feed.2
  refine ⟨?_, hv, ha, hb, fun b hb12 => ?_⟩
  · exact sameBytes_trans (sameBytes_trans (sameBytes_trans (sameBytes_noteFeeds s x) hfeeds.2) hbytes) htrips.2
  · exact (branchShown_sampleBranches _ x hb12).stands htrips (readingWord_branch hb12).1 (readingWord_branch hb12).2

end Sys2Proof.Machine
end


section
/-! SUPPORT. Carapace's power-on, its link, the keeper, and the power-on reset (R32, R367-R369, R431, R484). -/

namespace Sys2Proof.Machine

/-! ### Settings of the straps -/

/-- The settings that the straps fix, and the duties held, follow from CRP_STRAPS and from the duties commanded. -/
theorem State.strap_eq {s t : State} (h : t.rd (pCRPGLOB + 0x100) = s.rd (pCRPGLOB + 0x100)) :
    t.strapThr = s.strapThr ∧ t.strapCrit = s.strapCrit ∧ t.fanSafe = s.fanSafe := by
  have hstrap (f : Fld) (hf : f.off = 0x100) : t.strap f = s.strap f := by
    rw [State.strap, State.strap, State.fget, State.fget, hf, h]
  exact ⟨congrArg (nth _) (hstrap _ rfl), congrArg (nth _) (hstrap _ rfl), congrArg (nth _) (hstrap _ rfl)⟩

theorem State.strapThr_lt (s : State) : s.strapThr < 2 ^ 8 := by
  have h : ∀ k, k < 4 → nth [85, 90, 95, 105] k < 2 ^ 8 := by decide
  exact h _ (Nat.mod_lt _ (by decide))

theorem State.heldDuty_eq {s t : State} (h : t.rd (pCRPGLOB + 0x100) = s.rd (pCRPGLOB + 0x100))
    (hd : t.crp.heldDuty = s.crp.heldDuty) (n : Nat) : t.heldDuty n = s.heldDuty n := by
  rw [State.heldDuty, State.heldDuty, hd, (State.strap_eq h).2.2]

/-! ### Power-on -/

/-- Carapace leaves its reset: the straps are sampled, and its link is silent. -/
def State.leaveReset (s : State) (pins : StrapPins) : State :=
  ({ s.wr (pCRPGLOB + 0x100) (strapWord pins) with
    crp.on := true, crp.silent := true, crp.silentFrom := s.nowNs, crp.heldDuty := []
    pins.tapConnected := pins.tap && s.fuses.debugFuse } : State).wr (pCRPGLOB + 0x108) 6

/-- The settings of the sensors' page that the straps fix. -/
def State.strapSensors (s : State) : State :=
  (s.wr (pHZDSENS + 0x100) (BitVec.ofNat 32 s.strapCrit)).fset pHZDSENS HZ_SHDN_CFG_THR s.strapThr

theorem exec_carapacePowerOn (pins : StrapPins) {s : State} (h : s.crp.on = false) :
    exec (.carapacePowerOn pins) s = .next (s.leaveReset pins).strapSensors.hostCurve.showFeeds := by
  show execCarapacePowerOn pins s = _
  unfold execCarapacePowerOn
  rw [if_neg (by simp [h])]
  rfl

theorem straps_leaveReset (s : State) (pins : StrapPins) : (s.leaveReset pins).rd (pCRPGLOB + 0x100) = strapWord pins :=
  (State.rd_wr_ne _ _ _ _ (by decide)).trans (State.rd_wr_same ..)

theorem straps_strapSensors (s : State) : s.strapSensors.rd (pCRPGLOB + 0x100) = s.rd (pCRPGLOB + 0x100) :=
  (State.rd_fset_ne _ _ _ _ _ (by decide)).trans (State.rd_wr_ne _ _ _ _ (by decide))

theorem shdnThr_strapSensors (s : State) : s.strapSensors.fget pHZDSENS HZ_SHDN_CFG_THR = s.strapThr :=
  (State.fget_fset_same _ _ _ _ (by decide)).trans (Nat.mod_eq_of_lt s.strapThr_lt)

/-- The words below the feeds' page, and those above the branches': where no curve and no feed lies. -/
abbrev offCurves (x : Nat) : Prop := x < pCRPFEED ∨ pCRPBR 12 ≤ x

theorem stands_hostCurve (s : State) : stands offCurves s s.hostCurve := by
  unfold State.hostCurve
  extract_lets l t
  have ht : stands offCurves s t := stands_each _ _ s fun u k hk => stands_wr _ _ _ (by
    have : k < 4 := by fin_cases hk <;> decide
    simp only [offCurves, pCRPFEED, pCRPBR]
    omega)
  exact ht.trans (stands_fset _ _ _ _ (by simp [offCurves, pCRPFEED, pCRPBR, CB_IINST_IINST]))

theorem crp_hostCurve (s : State) : s.hostCurve.crp = s.crp :=
  State.each_eq State.crp _ _ s fun _ _ _ => rfl

theorem carapacePowerOn_samples (pins : StrapPins) (s : State) (h : s.crp.on = false) :
    completes (.carapacePowerOn pins) s fun t => t.crp.on = true ∧ t.crp.silent = true ∧
      t.rd (pCRPGLOB + 0x100) = strapWord pins ∧ (∀ n, n < 16 → t.heldDuty n = t.fanSafe) ∧
      t.fget pHZDSENS HZ_SHDN_CFG_THR = t.strapThr ∧ sameBytes s t := by
  refine completes_of_next (exec_carapacePowerOn pins h) ?_
  have hu : (s.leaveReset pins).strapSensors.crp = (s.leaveReset pins).crp := rfl
  generalize huse : (s.leaveReset pins).strapSensors = u at hu
  have hs : stands offCurves u u.hostCurve.showFeeds := (stands_hostCurve u).trans
    ((stands_fset _ pCRPFEED CF_STAT_ON _ (by decide)).trans (stands_fset _ pCRPFEED CF_STAT_SINGLE _ (by decide)))
  have hcrp : u.hostCurve.showFeeds.crp = (s.leaveReset pins).crp := (crp_hostCurve u).trans hu
  generalize u.hostCurve.showFeeds = t at hs hcrp
  have hstraps : t.rd (pCRPGLOB + 0x100) = (s.leaveReset pins).rd (pCRPGLOB + 0x100) := by
    rw [hs.1 _ (by decide), ← huse, straps_strapSensors]
  refine ⟨hcrp ▸ rfl, hcrp ▸ rfl, hstraps.trans (straps_leaveReset s pins), fun n _ => ?_, ?_, ?_⟩
  · rw [State.heldDuty, hcrp]
    rfl
  · rw [hs.fget (by decide), ← huse, shdnThr_strapSensors, (State.strap_eq hstraps).1]
  · exact sameBytes_trans (sameBytes_of_eq (huse ▸ rfl) (huse ▸ rfl) (huse ▸ rfl)) hs.2

/-! ### Frames -/

/-- The words below the fans' pages. -/
def belowFans (x : Nat) : Prop := x < pLCWGLOB ∧ ¬msixWord x

theorem crp_queueAction (s : State) (r : ActionRec) : (s.queueAction r).crp = s.crp :=
  (congrArg State.crp (State.queueAction_sep s r) :)

/-- The end of a silence: what Carapace's own state becomes (R367, R368). -/
def State.endSilence (s : State) (ack : Bool) : State :=
  { s with
    crp.silent := false, crp.ackWait := !ack, crp.actBuf := [], crp.lostAct := 0, crp.keeperActed := false
    sep.lostSince := s.sep.lostSince + s.crp.lostAct }

/-- What the conductor die shows of the end of a silence: its registers, the actions that waited, and the duties held. -/
def State.showSilence (s : State) (ms : Nat) (buf : List ActionRec) : State :=
  (buf.foldl State.queueAction (((s.fset pCRPGLOB CRP_GSTAT_SILENCE_MS ms).fset pCRPGLOB CRP_GSTAT_ALERT_OUT 0).raise
    pCRPGLOB 3)).each fanList fun s n => s.chSet n LCW_CH_STAT_APPLIED (s.heldDuty n)

theorem State.linkFrame_silent {s : State} (ack : Bool) (hon : s.crp.on = true) (hs : s.crp.silent = true) :
    s.linkFrame ack = (s.endSilence ack).showSilence (min 0xFFFF ((s.nowNs - s.crp.silentFrom) / 1000000)) s.crp.actBuf := by
  unfold State.linkFrame
  rw [if_neg (by simp [hon]), if_pos hs]
  rfl

theorem State.linkFrame_spoken {s : State} (ack : Bool) (hon : s.crp.on = true) (hs : s.crp.silent = false) :
    s.linkFrame ack = if ack then { s with crp.ackWait := false } else s := by
  unfold State.linkFrame
  rw [if_neg (by simp [hon]), if_neg (by simp [hs])]

theorem crp_showSilence (s : State) (ms : Nat) (buf : List ActionRec) : (s.showSilence ms buf).crp = s.crp := by
  have hshow (u : State) : (u.each fanList fun s n => s.chSet n LCW_CH_STAT_APPLIED (s.heldDuty n)).crp = u.crp :=
    State.each_eq State.crp fanList (fun s n => s.chSet n LCW_CH_STAT_APPLIED (s.heldDuty n)) u fun _ _ _ => rfl
  exact (hshow _).trans <| (foldl_eq State.crp _ _ _ fun u r _ => crp_queueAction u r).trans (by simp)

/-- The queue and the duties shown leave the words below the fans. -/
theorem stands_actionsShown (s : State) (buf : List ActionRec) : stands belowFans s
    ((buf.foldl State.queueAction s).each fanList fun s n => s.chSet n LCW_CH_STAT_APPLIED (s.heldDuty n)) := by
  have hlog : offLog belowFans := fun x hx => ⟨hx.1.trans (by decide), hx.2⟩
  refine (stands_foldl buf _ s fun u r _ => stands_queueAction hlog u r).trans (stands_each _ _ _ fun u n _ => ?_)
  exact stands_fset _ _ _ _ fun h => absurd h.1 (by simp only [pLCWGLOB, pLCWCHAN]; omega)

theorem showSilence_leaves (s : State) (ms : Nat) (buf : List ActionRec) :
    (s.showSilence ms buf).flag pCRPGLOB CRP_GSTAT_ALERT_OUT = false ∧ sameBytes s (s.showSilence ms buf) := by
  unfold State.showSilence
  generalize hu : ((s.fset pCRPGLOB CRP_GSTAT_SILENCE_MS ms).fset pCRPGLOB CRP_GSTAT_ALERT_OUT 0).raise pCRPGLOB 3 = u
  have hflag : u.flag pCRPGLOB CRP_GSTAT_ALERT_OUT = false := by
    rw [← hu, State.flag, State.fget, State.rd_raise _ _ _ _ (by decide) (by simp [msixWord, pCRPGLOB, CRP_GSTAT_ALERT_OUT])]
    exact congrArg (· != 0) (State.fget_fset_same _ pCRPGLOB CRP_GSTAT_ALERT_OUT 0 (by decide))
  have hshown := stands_actionsShown u buf
  refine ⟨(hshown.flag ?_).trans hflag, sameBytes_trans (sameBytes_of_eq ?_ ?_ ?_) hshown.2⟩
  · simp [belowFans, msixWord, pCRPGLOB, pLCWGLOB, CRP_GSTAT_ALERT_OUT]
  · simp [← hu]
  · simp [← hu]
  · simp [← hu]

/-- A valid frame while Carapace is on. -/
theorem frameTaken_linkFrame {s : State} (ack : Bool) (hon : s.crp.on = true) : frameTaken ack s (s.linkFrame ack) := by
  cases hs : s.crp.silent with
  | true =>
    rw [State.linkFrame_silent ack hon hs]
    have hcrp := crp_showSilence (s.endSilence ack) (min 0xFFFF ((s.nowNs - s.crp.silentFrom) / 1000000)) s.crp.actBuf
    obtain ⟨halert, hbytes⟩ := showSilence_leaves (s.endSilence ack)
      (min 0xFFFF ((s.nowNs - s.crp.silentFrom) / 1000000)) s.crp.actBuf
    refine ⟨hcrp ▸ rfl, sameBytes_trans (sameBytes_of_eq rfl rfl rfl) hbytes, fun _ => ⟨?_, ?_, halert⟩, fun h => ?_⟩
    · rw [hcrp]; rfl
    · rw [hcrp]; rfl
    · simp [hs] at h
  | false =>
    rw [State.linkFrame_spoken ack hon hs]
    cases ack with
    | true => exact ⟨hs, sameBytes_of_eq rfl rfl rfl, fun h => by simp [hs] at h, fun _ => ⟨by simp, fun _ _ => rfl⟩⟩
    | false => exact ⟨hs, sameBytes_refl s, fun h => by simp [hs] at h, fun _ => ⟨by simp, fun _ _ => rfl⟩⟩

theorem exec_carapaceFrame (valid ack : Bool) {s : State} (h : s.runs 0 = true) :
    exec (.carapaceFrame valid ack) s =
      .next (if valid then s.linkFrame ack else if s.crp.on then s.count pCRPGLOB CRP_LINK_ERR else s) :=
  congrArg Host.Outcome.next (if_neg (by simp [h]))

theorem exec_holdFrame {s : State} (h : s.coreState 0 = 3 ∨ s.coreState 0 = 1) :
    exec .holdFrame s = .next (s.linkFrame false) :=
  congrArg Host.Outcome.next (if_pos (by simpa using h))

/-! ### Silence and the keeper -/

theorem exec_linkSilence {s : State} (hon : s.crp.on = true) (hs : s.crp.silent = false) :
    exec .linkSilence s = .next
      ({ s with crp.silent := true, crp.silentFrom := s.nowNs, crp.ackWait := false }.fset pCRPGLOB CRP_GSTAT_ALERT_OUT 1) :=
  congrArg Host.Outcome.next (if_pos (by simp [hon, hs]))

theorem linkSilence_alerts {s : State} (hon : s.crp.on = true) (hs : s.crp.silent = false) :
    completes .linkSilence s fun t => t.crp.silent = true ∧ t.crp.silentFrom = s.nowNs ∧
      t.flag pCRPGLOB CRP_GSTAT_ALERT_OUT = true ∧ (∀ n, t.heldDuty n = s.heldDuty n) ∧ sameBytes s t := by
  refine completes_of_next (exec_linkSilence hon hs) ⟨rfl, rfl, ?_, fun n => ?_, sameBytes_of_eq rfl rfl rfl⟩
  · exact congrArg (· != 0) (State.fget_fset_same _ pCRPGLOB CRP_GSTAT_ALERT_OUT 1 (by decide))
  · exact State.heldDuty_eq (State.rd_fset_ne _ _ _ _ _ (by decide)) rfl n

/-- The keeper has acted: no duty below FAN_SAFE, and SAFE_DUTY shown. -/
def State.keepSafe (s : State) : State :=
  { s with crp.heldDuty := fanList.map fun n => max (s.heldDuty n) s.fanSafe, crp.keeperActed := true }.fset pCRPGLOB
    CRP_GSTAT_SAFE_DUTY 1

theorem exec_keeperSafeDuty {s : State} (hon : s.crp.on = true) (hs : s.crp.silent = true) (hk : s.crp.keeperActed = false) :
    exec .keeperSafeDuty s = .next (s.keepSafe.crpAct 0x0A 0xFF 0 (s.fanSafe / 10)) :=
  if_neg (by simp [hon, hs, hk])

theorem heldDuty_crpAct (s : State) (code source cause arg : Nat) :
    (s.crpAct code source cause arg).crp.heldDuty = s.crp.heldDuty := by
  unfold State.crpAct
  split
  · split <;> rfl
  · rw [crp_queueAction]

theorem keeperSafeDuty_raises {s : State} (hon : s.crp.on = true) (hs : s.crp.silent = true) (hk : s.crp.keeperActed = false) :
    completes .keeperSafeDuty s fun t => t.flag pCRPGLOB CRP_GSTAT_SAFE_DUTY = true ∧
      (∀ n, n < 16 → t.heldDuty n = max (s.heldDuty n) s.fanSafe) ∧ sameBytes s t := by
  refine completes_of_next (exec_keeperSafeDuty hon hs hk) ?_
  have hact : stands (· = pCRPGLOB + 0x108) s.keepSafe (s.keepSafe.crpAct 0x0A 0xFF 0 (s.fanSafe / 10)) :=
    stands_crpAct (by rintro x rfl; simp [pCRPGLOB, pALG, msixWord]) (by decide) ..
  refine ⟨(hact.flag rfl).trans ?_, fun n hn => ?_, sameBytes_trans (sameBytes_of_eq rfl rfl rfl) hact.2⟩
  · exact congrArg (· != 0) (State.fget_fset_same _ pCRPGLOB CRP_GSTAT_SAFE_DUTY 1 (by decide))
  · have hl : (fanList.map fun n => max (s.heldDuty n) s.fanSafe)[n]? = some (max (s.heldDuty n) s.fanSafe) := by
      simp [fanList, hn]
    rw [State.heldDuty, heldDuty_crpAct]
    exact congrArg (fun o : Option Nat => o.getD _) hl

/-! ### The power-on reset -/

/-- After a reset every register but the operating seconds is at its reset value (R484). -/
theorem rd_afterReset (s : State) {a : Nat} (h : ¬(pSEP + SEP_OPSEC.off ≤ a ∧ a < pSEP + SEP_OPSEC.off + 8)) :
    s.afterReset.rd a = regReset a := by
  unfold State.afterReset
  extract_lets
  unfold State.pset
  rw [State.rd_wr_ne _ _ _ _ (by omega), State.rd_wr_ne _ _ _ _ (by omega)]
  rfl

/-- Settles O53: the power-on, the sample, the frames, the silence and the keeper each by its own lemma. -/
theorem carapaceLink : Obligations.CarapaceLink := by
  refine ⟨carapacePowerOn_samples, fun x s => ⟨carapaceSample_shows x s, exec_carapaceSample_off x⟩, fun ack s hon hr => ?_,
    fun s hon hc => completes_of_next (exec_holdFrame hc) (frameTaken_linkFrame false hon),
    fun s hon => ⟨linkSilence_alerts hon, keeperSafeDuty_raises hon⟩, fun s => ?_⟩
  · refine ⟨completes_of_next (exec_carapaceFrame true ack hr) (frameTaken_linkFrame ack hon), ?_⟩
    exact (exec_carapaceFrame false ack hr).trans (congrArg Host.Outcome.next (if_pos hon))
  · exact completes_of_next (show exec .carapacePowerOnReset s = .next s.afterReset from rfl)
      ⟨rfl, rfl, rfl, fun _ => rfl, fun a => rd_afterReset s⟩

end Sys2Proof.Machine
end


section
/-! SUPPORT. Which operations keep the pins and what MAIN's power keeps: every register write and its action (R52), and a Silk
link that is cut. -/

namespace Sys2Proof.Machine

/-- The pins and what MAIN's power keeps are as they were. The rules below are equivalences with one left side each, so that
`simp` walks down a chain of operations to the state it started from. -/
def samePower (s t : State) : Prop := t.pins = s.pins ∧ t.mainP = s.mainP

variable {ref : State}

@[simp] theorem samePower_self : samePower ref ref := ⟨rfl, rfl⟩

/-- What keeps both keeps whatever held of them. -/
theorem samePower_congr {s t : State} (hp : t.pins = s.pins) (hm : t.mainP = s.mainP) :
    samePower ref t ↔ samePower ref s := by
  rw [samePower, samePower, hp, hm]

theorem samePower.iff {s t : State} (h : samePower s t) : samePower ref t ↔ samePower ref s := samePower_congr h.1 h.2

@[simp] theorem samePower_ite {c : Prop} [Decidable c] (s t : State) :
    samePower ref (if c then s else t) ↔ if c then samePower ref s else samePower ref t := by split <;> rfl

/-- Any other field may change. -/
@[simp] theorem samePower_mk (s : State) regs copies hiLatch loShadow mem poison stale flash fuses krm integ ffy qw dgt jrn
    lks slk hr crp gov lcw hzd fwc sep nowNs free outs pending :
    samePower ref ⟨regs, copies, hiLatch, loShadow, mem, poison, stale, flash, fuses, s.pins, s.mainP, krm, integ, ffy, qw,
      dgt, jrn, lks, slk, hr, crp, gov, lcw, hzd, fwc, sep, nowNs, free, outs, pending⟩ ↔ samePower ref s :=
  samePower_congr (ref := ref) rfl rfl

@[simp] theorem samePower_foldl {α : Type} (f : State → α → State) (l : List α) (s : State)
    (h : ∀ u x, samePower u (f u x)) : samePower ref (l.foldl f s) ↔ samePower ref s :=
  samePower_congr (foldl_eq State.pins l f s fun u x _ => (h u x).1) (foldl_eq State.mainP l f s fun u x _ => (h u x).2)

@[simp] theorem samePower_each (l : List Nat) (f : State → Nat → State) (s : State)
    (h : ∀ u x, samePower u (f u x)) : samePower ref (s.each l f) ↔ samePower ref s := samePower_foldl f l s h

/-! ### The register and memory operations -/

@[simp] theorem samePower_wr (s : State) (a : Nat) (v : BitVec 32) : samePower ref (s.wr a v) ↔ samePower ref s :=
  samePower_congr (State.wr_pins ..) (State.wr_mainP ..)

@[simp] theorem samePower_fset (s : State) (b : Nat) (f : Fld) (x : Nat) : samePower ref (s.fset b f x) ↔ samePower ref s :=
  samePower_congr (State.fset_pins ..) (State.fset_mainP ..)

@[simp] theorem samePower_pset (s : State) (b : Nat) (f : Fld) (x : Nat) : samePower ref (s.pset b f x) ↔ samePower ref s :=
  samePower_congr (State.pset_pins ..) (State.pset_mainP ..)

@[simp] theorem samePower_count (s : State) (b : Nat) (f : Fld) (n : Nat) : samePower ref (s.count b f n) ↔ samePower ref s :=
  samePower_congr (State.count_pins ..) (State.count_mainP ..)

@[simp] theorem samePower_seqUp (s : State) (b : Nat) : samePower ref (s.seqUp b) ↔ samePower ref s :=
  samePower_congr (State.seqUp_pins ..) (State.seqUp_mainP ..)

@[simp] theorem samePower_emit (s : State) (o : Out) : samePower ref (s.emit o) ↔ samePower ref s :=
  samePower_congr (State.emit_pins ..) (State.emit_mainP ..)

@[simp] theorem samePower_hwSet (s : State) (b : Nat) (f : Fld) (x : Nat) : samePower ref (s.hwSet b f x) ↔ samePower ref s :=
  samePower_congr (State.hwSet_pins ..) (State.hwSet_mainP ..)

@[simp] theorem samePower_sendMsix (s : State) (v : Nat) : samePower ref (s.sendMsix v) ↔ samePower ref s :=
  samePower_congr (State.sendMsix_pins ..) (State.sendMsix_mainP ..)

@[simp] theorem samePower_raise (s : State) (b i : Nat) : samePower ref (s.raise b i) ↔ samePower ref s :=
  samePower_congr (State.raise_pins ..) (State.raise_mainP ..)

@[simp] theorem samePower_latch (s : State) (b code req detail : Nat) :
    samePower ref (s.latch b code req detail) ↔ samePower ref s :=
  samePower_congr (State.latch_pins ..) (State.latch_mainP ..)

@[simp] theorem samePower_setStat (s : State) (b : Nat) (f : Fld) (x : Bool) :
    samePower ref (s.setStat b f x) ↔ samePower ref s :=
  samePower_congr (State.setStat_pins ..) (State.setStat_mainP ..)

@[simp] theorem samePower_putBytes (s : State) (a : Nat) (l : List Byte) : samePower ref (s.putBytes a l) ↔ samePower ref s :=
  samePower_congr (State.putBytes_pins ..) (State.putBytes_mainP ..)

@[simp] theorem samePower_putFlash (s : State) (a : Nat) (l : List Byte) : samePower ref (s.putFlash a l) ↔ samePower ref s :=
  samePower_congr (State.putFlash_pins ..) (State.putFlash_mainP ..)

@[simp] theorem samePower_regWrite (s : State) (cls : Cls) (a size v : Nat) :
    samePower ref (regWrite s cls a size v).2 ↔ samePower ref s :=
  have h := State.behind_regWrite s cls a size v
  samePower_congr (congrArg State.pins h :) (congrArg State.mainP h :)

@[simp] theorem samePower_writeThen (s : State) (cls : Cls) (a v : Nat) (act : State → State)
    (h : ∀ u, samePower u (act u)) : samePower ref (writeThen s cls a v act) ↔ samePower ref s := by
  simp [writeThen, (h _).iff]

/-! ### Actions -/

@[simp] theorem samePower_queueAction (s : State) (r : ActionRec) : samePower ref (s.queueAction r) ↔ samePower ref s := by
  simp [State.queueAction]

@[simp] theorem samePower_crpAct (s : State) (code source cause arg : Nat) :
    samePower ref (s.crpAct code source cause arg) ↔ samePower ref s := by
  simp [State.crpAct]

/-! ### Carapace's branches -/

@[simp] theorem samePower_modBranch (s : State) (b : Nat) (f : BranchSt → BranchSt) :
    samePower ref (s.modBranch b f) ↔ samePower ref s := by
  simp [State.modBranch]

@[simp] theorem samePower_setBranch (s : State) (b st : Nat) : samePower ref (s.setBranch b st) ↔ samePower ref s := by
  simp [State.setBranch]

@[simp] theorem samePower_loadCurve (s : State) (b req : Nat) : samePower ref (s.loadCurve b req) ↔ samePower ref s := by
  simp [State.loadCurve]

@[simp] theorem samePower_setPg (s : State) (b : Nat) (on : Bool) : samePower ref (s.setPg b on) ↔ samePower ref s := by
  simp [State.setPg]

@[simp] theorem samePower_shutBranch (s : State) (b cause : Nat) (after : AfterShut) :
    samePower ref (s.shutBranch b cause after) ↔ samePower ref s := by
  simp [State.shutBranch]

@[simp] theorem samePower_noteMet (s : State) (b : Nat) (trip : Bool) :
    samePower ref (s.noteMet b trip) ↔ samePower ref s := by
  simp [State.noteMet]

@[simp] theorem samePower_busLoss (s : State) : samePower ref (s.busLoss) ↔ samePower ref s := by
  simp [State.busLoss]

@[simp] theorem samePower_enableBranch (s : State) (b req was : Nat) :
    samePower ref (s.enableBranch b req was) ↔ samePower ref s := by
  simp [State.enableBranch]

@[simp] theorem samePower_disableBranch (s : State) (b : Nat) : samePower ref (s.disableBranch b) ↔ samePower ref s := by
  simp [State.disableBranch]

@[simp] theorem samePower_branchCtrl (b req was v : Nat) (s : State) :
    samePower ref (branchCtrl b req was v s) ↔ samePower ref s := by
  simp [branchCtrl]

@[simp] theorem samePower_branchWrite (s : State) (cls : Cls) (b v : Nat) :
    samePower ref (s.branchWrite cls b v) ↔ samePower ref s := by
  simp [State.branchWrite]

/-! ### The mailbox and the boot record -/

@[simp] theorem samePower_putSlot (s : State) (i : Nat) (bs : List Byte) :
    samePower ref (s.putSlot i bs) ↔ samePower ref s := by
  simp [State.putSlot]

@[simp] theorem samePower_respondIn (s : State) (session i status : Nat) (body : List Byte) (minor : Nat) :
    samePower ref (s.respondIn session i status body minor) ↔ samePower ref s := by
  simp [State.respondIn]

@[simp] theorem samePower_respond (s : State) (i status : Nat) (body : List Byte) :
    samePower ref (s.respond i status body) ↔ samePower ref s := by
  simp [State.respond]

@[simp] theorem samePower_respondBad (s : State) (i status : Nat) :
    samePower ref (s.respondBad i status) ↔ samePower ref s := by
  simp [State.respondBad]

@[simp] theorem samePower_mbDoorbell (cls : Cls) (v : Nat) (s : State) :
    samePower ref (mbDoorbell cls v s) ↔ samePower ref s := by
  simp [mbDoorbell]

@[simp] theorem samePower_mbAck (v : Nat) (s : State) : samePower ref (mbAck v s) ↔ samePower ref s := by
  simp [mbAck]

@[simp] theorem samePower_abortRequests (s : State) : samePower ref (s.abortRequests) ↔ samePower ref s := by
  simp [State.abortRequests]

@[simp] theorem samePower_putBcr (s : State) (f : Bcr → Bcr) : samePower ref (s.putBcr f) ↔ samePower ref s := by
  simp [State.putBcr]

/-! ### The fans -/

@[simp] theorem samePower_modFan (s : State) (n : Nat) (f : FanSt → FanSt) :
    samePower ref (s.modFan n f) ↔ samePower ref s := by
  simp [State.modFan]

@[simp] theorem samePower_chSet (s : State) (n : Nat) (f : Fld) (x : Nat) :
    samePower ref (s.chSet n f x) ↔ samePower ref s := by
  simp [State.chSet]

@[simp] theorem samePower_setDuty (s : State) (n d : Nat) : samePower ref (s.setDuty n d) ↔ samePower ref s := by
  simp [State.setDuty]

@[simp] theorem samePower_driveFan (s : State) (n : Nat) : samePower ref (s.driveFan n) ↔ samePower ref s := by
  simp [State.driveFan]

@[simp] theorem samePower_fanCap (s : State) : samePower ref (s.fanCap) ↔ samePower ref s := by
  simp [State.fanCap]

@[simp] theorem samePower_maskBit (s : State) (base : Nat) (f : Fld) (n : Nat) (on : Bool) :
    samePower ref (s.maskBit base f n on) ↔ samePower ref s := by
  simp [State.maskBit]

@[simp] theorem samePower_setFan (s : State) (n st : Nat) : samePower ref (s.setFan n st) ↔ samePower ref s := by
  simp [State.setFan]

@[simp] theorem samePower_startFan (s : State) (n : Nat) : samePower ref (s.startFan n) ↔ samePower ref s := by
  simp [State.startFan]

@[simp] theorem samePower_stopFan (s : State) (n : Nat) : samePower ref (s.stopFan n) ↔ samePower ref s := by
  simp [State.stopFan]

@[simp] theorem samePower_fanCtrl (n was v : Nat) (s : State) : samePower ref (fanCtrl n was v s) ↔ samePower ref s := by
  simp [fanCtrl]

@[simp] theorem samePower_setAuto (s : State) (on : Bool) : samePower ref (s.setAuto on) ↔ samePower ref s := by
  simp [State.setAuto]

@[simp] theorem samePower_lcwCtrl (req v : Nat) (s : State) : samePower ref (lcwCtrl req v s) ↔ samePower ref s := by
  simp [lcwCtrl]

/-! ### The feeds -/

@[simp] theorem samePower_modFeed (s : State) (i : Nat) (f : FeedSt → FeedSt) :
    samePower ref (s.modFeed i f) ↔ samePower ref s := by
  simp [State.modFeed]

@[simp] theorem samePower_showFeeds (s : State) : samePower ref (s.showFeeds) ↔ samePower ref s := by
  simp [State.showFeeds]

@[simp] theorem samePower_setFeed (s : State) (i st : Nat) : samePower ref (s.setFeed i st) ↔ samePower ref s := by
  simp [State.setFeed]

@[simp] theorem samePower_openFeed (s : State) (i st cause : Nat) :
    samePower ref (s.openFeed i st cause) ↔ samePower ref s := by
  simp [State.openFeed]

@[simp] theorem samePower_driveFeed (s : State) (i : Nat) : samePower ref (s.driveFeed i) ↔ samePower ref s := by
  simp [State.driveFeed]

@[simp] theorem samePower_makeFeed (s : State) : samePower ref (s.makeFeed) ↔ samePower ref s := by
  unfold State.makeFeed
  split <;> simp

@[simp] theorem samePower_transfer (s : State) (i cause : Nat) : samePower ref (s.transfer i cause) ↔ samePower ref s := by
  simp [State.transfer]

@[simp] theorem samePower_endTransfer (s : State) : samePower ref (s.endTransfer) ↔ samePower ref s := by
  simp [State.endTransfer]

@[simp] theorem samePower_feedCtrl (req was v : Nat) (s : State) :
    samePower ref (feedCtrl req was v s) ↔ samePower ref s := by
  unfold feedCtrl
  extract_lets t u
  have hu : samePower ref u ↔ samePower ref s := by simp [u, t]
  clear_value u
  cases u.closedFeed <;> simp [hu]

/-! ### Memory -/

@[simp] theorem samePower_store (s : State) (a : Nat) (bs : List Byte) (poisoned : Bool) :
    samePower ref (s.store a bs poisoned) ↔ samePower ref s := by
  simp [State.store]

@[simp] theorem samePower_settle (s : State) (b : Nat) : samePower ref (s.settle b) ↔ samePower ref s := by
  simp [State.settle]

@[simp] theorem samePower_lastEvent (s : State) (addr source typ pos syn : Nat) :
    samePower ref (s.lastEvent addr source typ pos syn) ↔ samePower ref s := by
  simp [State.lastEvent]

@[simp] theorem samePower_corrected (s : State) (source : Nat) : samePower ref (s.corrected source) ↔ samePower ref s := by
  simp [State.corrected]

@[simp] theorem samePower_uncorrectable (s : State) (source addr typ pos syn : Nat) :
    samePower ref (s.uncorrectable source addr typ pos syn) ↔ samePower ref s := by
  simp [State.uncorrectable]

@[simp] theorem samePower_bite (s : State) : samePower ref (s.bite) ↔ samePower ref s := by
  simp [State.bite]

@[simp] theorem samePower_setBank (s : State) (c b : Nat) (k : BankState) :
    samePower ref (s.setBank c b k) ↔ samePower ref s := by
  simp [State.setBank]

@[simp] theorem samePower_markSeen (s : State) (b : Nat) : samePower ref (s.markSeen b) ↔ samePower ref s := by
  simp [State.markSeen]

@[simp] theorem samePower_seeBlock (s : State) (b : Nat) (queue : Bool) :
    samePower ref (s.seeBlock b queue) ↔ samePower ref s := by
  unfold State.seeBlock
  extract_lets u c addr bank row read k wb n stale t v
  split
  · rfl
  · cases read.outcome <;> simp [v, t]

@[simp] theorem samePower_raiseTier (s : State) (pg b : Nat) : samePower ref (s.raiseTier pg b) ↔ samePower ref s := by
  simp [State.raiseTier]

@[simp] theorem samePower_setChan (s : State) (l : Nat) (st : TierChanSt) :
    samePower ref (s.setChan l st) ↔ samePower ref s := by
  simp [State.setChan]

@[simp] theorem samePower_lineLost (s : State) (l typ pos cw : Nat) :
    samePower ref (s.lineLost l typ pos cw) ↔ samePower ref s := by
  simp [State.lineLost]

@[simp] theorem samePower_seeLine (s : State) (l : Nat) : samePower ref (s.seeLine l) ↔ samePower ref s := by
  unfold State.seeLine
  extract_lets u pg
  split
  · rfl
  · cases (s.readLine l).outcome <;> simp

@[simp] theorem samePower_see (s : State) (a n : Nat) : samePower ref (s.see a n) ↔ samePower ref s := by
  simp [State.see]

@[simp] theorem samePower_noteRange (s : State) (a n : Nat) : samePower ref (s.noteRange a n) ↔ samePower ref s := by
  unfold State.noteRange
  split
  · simp
  · split <;> simp

@[simp] theorem samePower_noteAccess (s : State) (a n : Nat) : samePower ref (s.noteAccess a n) ↔ samePower ref s := by
  simp [State.noteAccess]

@[simp] theorem samePower_dropRebuilds (s : State) (c a n : Nat) :
    samePower ref (s.dropRebuilds c a n) ↔ samePower ref s := by
  simp [State.dropRebuilds]

@[simp] theorem samePower_writeLine (s : State) (l a : Nat) (bs : List Byte) (poisoned : Bool) :
    samePower ref (s.writeLine l a bs poisoned) ↔ samePower ref s := by
  simp [State.writeLine]

@[simp] theorem samePower_putLine (s : State) (a : Nat) (bs : List Byte) :
    samePower ref (s.putLine a bs) ↔ samePower ref s := by
  simp [State.putLine]

@[simp] theorem samePower_watchWrite (s : State) (a n : Nat) : samePower ref (s.watchWrite a n) ↔ samePower ref s := by
  simp [State.watchWrite]

@[simp] theorem samePower_fabWrite (s : State) (a : Nat) (bs : List Byte) (poisoned : Bool) :
    samePower ref (s.fabWrite a bs poisoned) ↔ samePower ref s := by
  simp [State.fabWrite]

/-! ### Cores and the end of a job -/

@[simp] theorem samePower_setCore (s : State) (c : Nat) (k : Core1) : samePower ref (s.setCore c k) ↔ samePower ref s := by
  simp [State.setCore]

@[simp] theorem samePower_modCore (s : State) (c : Nat) (f : Core1 → Core1) :
    samePower ref (s.modCore c f) ↔ samePower ref s := by
  simp [State.modCore]

@[simp] theorem samePower_stopCore (s : State) (c : Nat) : samePower ref (s.stopCore c) ↔ samePower ref s := by
  simp [State.stopCore]

@[simp] theorem samePower_endJob (s : State) (status code cycle : Nat) :
    samePower ref (s.endJob status code cycle) ↔ samePower ref s := by
  unfold State.endJob
  split
  · rfl
  · split <;> simp

/-! ### The journal -/

@[simp] theorem samePower_showFree (s : State) : samePower ref (s.showFree) ↔ samePower ref s := by
  simp [State.showFree]

@[simp] theorem samePower_jrnWrite (s : State) (a : Nat) (bs : List Byte) :
    samePower ref (s.jrnWrite a bs) ↔ samePower ref s := by
  simp [State.jrnWrite]

@[simp] theorem samePower_openSeg (s : State) (i : Nat) : samePower ref (s.openSeg i) ↔ samePower ref s := by
  simp [State.openSeg]

@[simp] theorem samePower_openNext (s : State) : samePower ref (s.openNext) ↔ samePower ref s := by
  unfold State.openNext
  split <;> simp

@[simp] theorem samePower_setPin (s : State) (i : Nat) : samePower ref (s.setPin i) ↔ samePower ref s := by
  simp [State.setPin]

@[simp] theorem samePower_clearPin (s : State) (i : Nat) : samePower ref (s.clearPin i) ↔ samePower ref s := by
  simp [State.clearPin]

@[simp] theorem samePower_sealSeg (s : State) : samePower ref (s.sealSeg) ↔ samePower ref s := by
  simp [State.sealSeg]

@[simp] theorem samePower_jrnRise (s : State) : samePower ref (jrnRise s) ↔ samePower ref s := by
  simp [jrnRise]

@[simp] theorem samePower_jrnFall (s : State) : samePower ref (jrnFall s) ↔ samePower ref s := by
  simp [jrnFall]

@[simp] theorem samePower_jrnCtrl (was : Bool) (s : State) : samePower ref (jrnCtrl was s) ↔ samePower ref s := by
  simp [jrnCtrl]

@[simp] theorem samePower_jrnPin (cls : Cls) (op slot : Nat) (s : State) :
    samePower ref (jrnPin cls op slot s) ↔ samePower ref s := by
  simp [jrnPin]

/-! ### Digest batches and the timebase -/

@[simp] theorem samePower_showBatch (s : State) : samePower ref (s.showBatch) ↔ samePower ref s := by
  simp [State.showBatch]

@[simp] theorem samePower_closeBatch (s : State) : samePower ref (s.closeBatch) ↔ samePower ref s := by
  simp [State.closeBatch]

@[simp] theorem samePower_batchCloseAct (v : Nat) (s : State) : samePower ref (batchCloseAct v s) ↔ samePower ref s := by
  simp [batchCloseAct]

@[simp] theorem samePower_loseCal (s : State) : samePower ref (s.loseCal) ↔ samePower ref s := by
  simp [State.loseCal]

@[simp] theorem samePower_ffyGo (cls : Cls) (v : Nat) (s : State) : samePower ref (ffyGo cls v s) ↔ samePower ref s := by
  simp [ffyGo]

@[simp] theorem samePower_ffyCtrl (cls : Cls) (was : BitVec 32) (v : Nat) (s : State) :
    samePower ref (ffyCtrl cls was v s) ↔ samePower ref s := by
  simp [ffyCtrl]

/-! ### Hazards and the release -/

@[simp] theorem samePower_hazLatch (s : State) : samePower ref (s.hazLatch) ↔ samePower ref s := by
  simp [State.hazLatch]

@[simp] theorem samePower_relBreak (s : State) (req : Nat) : samePower ref (s.relBreak req) ↔ samePower ref s := by
  simp [State.relBreak]

@[simp] theorem samePower_relCheck (s : State) : samePower ref (s.relCheck) ↔ samePower ref s := by
  simp [State.relCheck]

@[simp] theorem samePower_hazAfter (s : State) : samePower ref (s.hazAfter) ↔ samePower ref s := by
  simp [State.hazAfter]

@[simp] theorem samePower_showClass (s : State) (i : Nat) : samePower ref (s.showClass i) ↔ samePower ref s := by
  simp [State.showClass]

@[simp] theorem samePower_dripEn (s : State) : samePower ref (dripEn s) ↔ samePower ref s := by
  simp [dripEn]

@[simp] theorem samePower_enableDue (s : State) : samePower ref (s.enableDue) ↔ samePower ref s := by
  simp [State.enableDue]

@[simp] theorem samePower_relWrite (cls : Cls) (v : Nat) (s : State) :
    samePower ref (relWrite cls v s) ↔ samePower ref s := by
  simp [relWrite]

/-! ### The Silk ports' sidebands and units -/

@[simp] theorem samePower_modPort (s : State) (p : Nat) (f : SlkPort → SlkPort) :
    samePower ref (s.modPort p f) ↔ samePower ref s := by
  simp [State.modPort]

@[simp] theorem samePower_flushPort (s : State) (p : Nat) : samePower ref (s.flushPort p) ↔ samePower ref s := by
  simp [State.flushPort]

@[simp] theorem samePower_sendUnit (s : State) (p : Nat) (u : SilkUnit) :
    samePower ref (s.sendUnit p u) ↔ samePower ref s := by
  unfold State.sendUnit
  split <;> simp

@[simp] theorem samePower_sendHalt (s : State) (reason p : Nat) :
    samePower ref (s.sendHalt reason p) ↔ samePower ref s := by
  simp [State.sendHalt]

@[simp] theorem samePower_throttle (s : State) (p : Nat) : samePower ref (s.throttle p) ↔ samePower ref s := by
  simp [State.throttle]

@[simp] theorem samePower_sidebands (s : State) (p : Nat) : samePower ref (s.sidebands p) ↔ samePower ref s := by
  simp [State.sidebands]

@[simp] theorem samePower_setPort (s : State) (p st : Nat) : samePower ref (s.setPort p st) ↔ samePower ref s := by
  simp [State.setPort]

/-! ### The governor -/

@[simp] theorem samePower_modAcc (s : State) (a : Nat) (f : GovAcc → GovAcc) :
    samePower ref (s.modAcc a f) ↔ samePower ref s := by
  simp [State.modAcc]

@[simp] theorem samePower_setStep (s : State) (n : Nat) : samePower ref (s.setStep n) ↔ samePower ref s := by
  simp [State.setStep]

@[simp] theorem samePower_forceStep (s : State) : samePower ref (s.forceStep) ↔ samePower ref s := by
  simp [State.forceStep]

@[simp] theorem samePower_gaCtrl (a v : Nat) (s : State) : samePower ref (gaCtrl a v s) ↔ samePower ref s := by
  simp [gaCtrl]

@[simp] theorem samePower_showPreset (s : State) : samePower ref (s.showPreset) ↔ samePower ref s := by
  simp [State.showPreset]

/-! ### The witness's seed, and Kermes -/

@[simp] theorem samePower_entropy (s : State) : samePower ref (s.entropy).2 ↔ samePower ref s := by
  simp [State.entropy]

@[simp] theorem samePower_rotateSeed (s : State) : samePower ref (s.rotateSeed) ↔ samePower ref s := by
  unfold State.rotateSeed
  extract_lets old t u q
  have ht : samePower ref t ↔ samePower ref s := samePower_foldl _ _ _ fun v i => by simp
  have hq : samePower ref q.2 ↔ samePower ref s := by
    unfold q
    split <;> simp [u, ht]
  exact (samePower_congr rfl rfl).trans hq

@[simp] theorem samePower_rotateAct (v : Nat) (s : State) : samePower ref (rotateAct v s) ↔ samePower ref s := by
  simp [rotateAct]

@[simp] theorem samePower_showQueues (s : State) : samePower ref (s.showQueues) ↔ samePower ref s := by
  simp [State.showQueues]

@[simp] theorem samePower_showCring (s : State) : samePower ref (s.showCring) ↔ samePower ref s := by
  simp [State.showCring]

@[simp] theorem samePower_submitAct (cls : Cls) (s : State) : samePower ref (submitAct cls s) ↔ samePower ref s := by
  simp [submitAct]

@[simp] theorem samePower_haltKermes (s : State) : samePower ref (s.haltKermes) ↔ samePower ref s := by
  simp [State.haltKermes]

@[simp] theorem samePower_showPstate (s : State) : samePower ref (s.showPstate) ↔ samePower ref s := by
  simp [State.showPstate]

@[simp] theorem samePower_latchStart (s : State) (c : Nat) (r : StartReq) :
    samePower ref (s.latchStart c r) ↔ samePower ref s := by
  simp [State.latchStart]

/-! ### The queues and the verdicts -/

@[simp] theorem samePower_setQueue (s : State) (q : Nat) (k : QueueSt) :
    samePower ref (s.setQueue q k) ↔ samePower ref s := by
  simp [State.setQueue]

@[simp] theorem samePower_showQmg (s : State) : samePower ref (s.showQmg) ↔ samePower ref s := by
  simp [State.showQmg]

@[simp] theorem samePower_showWit (s : State) : samePower ref (s.showWit) ↔ samePower ref s := by
  simp [State.showWit]

@[simp] theorem samePower_queueIrq (s : State) (q : Nat) : samePower ref (s.queueIrq q) ↔ samePower ref s := by
  simp [State.queueIrq]

@[simp] theorem samePower_vdoneUp (s : State) (q : Nat) : samePower ref (s.vdoneUp q) ↔ samePower ref s := by
  simp [State.vdoneUp]

@[simp] theorem samePower_vdoneRun (s : State) (q : Nat) (fuel : Nat) :
    samePower ref (s.vdoneRun q fuel) ↔ samePower ref s := by
  induction fuel generalizing s with
  | zero => rfl
  | succ n ih => simp [State.vdoneRun, ih]

@[simp] theorem samePower_putVerdict (s : State) (q : Nat) (seq : BitVec 64) (bytes : List Byte) :
    samePower ref (s.putVerdict q seq bytes) ↔ samePower ref s := by
  simp [State.putVerdict]

@[simp] theorem samePower_drainRpl (s : State) (fuel : Nat) : samePower ref (s.drainRpl fuel) ↔ samePower ref s := by
  induction fuel generalizing s with
  | zero => rfl
  | succ n ih =>
    unfold State.drainRpl
    split <;> simp [ih]

@[simp] theorem samePower_putReplay (s : State) (bytes : List Byte) :
    samePower ref (s.putReplay bytes) ↔ samePower ref s := by
  simp [State.putReplay]

@[simp] theorem samePower_mmPin (s : State) (i : Nat) : samePower ref (s.mmPin i) ↔ samePower ref s := by
  simp [State.mmPin]

@[simp] theorem samePower_noteVerdict (s : State) (r : WitReceipt) (v : Verdict) :
    samePower ref (s.noteVerdict r v) ↔ samePower ref s := by
  unfold State.noteVerdict
  cases r.journaled <;> simp

@[simp] theorem samePower_verdict (s : State) (r : WitReceipt) (v : Verdict) :
    samePower ref (s.verdict r v) ↔ samePower ref s := by
  simp [State.verdict]

@[simp] theorem samePower_dispatchFall (s : State) : samePower ref (dispatchFall s) ↔ samePower ref s := by
  simp [dispatchFall]

@[simp] theorem samePower_pend (s : State) (l : List WitReceipt) : samePower ref (s.pend l) ↔ samePower ref s := by
  simp [State.pend]

@[simp] theorem samePower_endCmd (s : State) (i st cause : Nat) :
    samePower ref (s.endCmd i st cause) ↔ samePower ref s := by
  simp [State.endCmd]

@[simp] theorem samePower_witCmd (cls : Cls) (op i : Nat) (s : State) :
    samePower ref (witCmd cls op i s) ↔ samePower ref s := by
  simp [witCmd]

@[simp] theorem samePower_sendReplay (s : State) (x : PortReplay) : samePower ref (s.sendReplay x) ↔ samePower ref s := by
  simp [State.sendReplay]

@[simp] theorem samePower_pumpReplays (s : State) (p : Nat) (fuel : Nat) :
    samePower ref (s.pumpReplays p fuel) ↔ samePower ref s := by
  induction fuel generalizing s with
  | zero => rfl
  | succ n ih =>
    unfold State.pumpReplays
    cases s.qw.replays.find? _ <;> simp [ih]

@[simp] theorem samePower_abortReplays (s : State) (p : Nat) : samePower ref (s.abortReplays p) ↔ samePower ref s := by
  simp [State.abortReplays]

@[simp] theorem samePower_replayAct (cls : Cls) (target : Nat) (s : State) :
    samePower ref (replayAct cls target s) ↔ samePower ref s := by
  simp [replayAct]

@[simp] theorem samePower_heartbeat (s : State) : samePower ref (heartbeat s) ↔ samePower ref s := by
  simp [heartbeat]

/-! ### The paths that stop the tray -/

@[simp] theorem samePower_haltPorts (s : State) (reason : Nat) : samePower ref (s.haltPorts reason) ↔ samePower ref s := by
  simp [State.haltPorts]

@[simp] theorem samePower_stopDispatch (s : State) : samePower ref (s.stopDispatch) ↔ samePower ref s := by
  simp [State.stopDispatch]

@[simp] theorem samePower_stopAct (v : Nat) (s : State) : samePower ref (stopAct v s) ↔ samePower ref s := by
  simp [stopAct]

@[simp] theorem samePower_hostStop (v : Nat) (s : State) : samePower ref (hostStop v s) ↔ samePower ref s := by
  simp [hostStop]

/-! ### The conductor's log -/

@[simp] theorem samePower_showPending (s : State) : samePower ref (s.showPending) ↔ samePower ref s := by
  simp [State.showPending]

@[simp] theorem samePower_closeKind (s : State) (partly : Bool) (k : Nat) :
    samePower ref (s.closeKind partly k) ↔ samePower ref s := by
  simp [State.closeKind]

@[simp] theorem samePower_closeIntervals (s : State) (partly : Bool) :
    samePower ref (s.closeIntervals partly) ↔ samePower ref s := by
  simp [State.closeIntervals]

@[simp] theorem samePower_sepCtrl (v : Nat) (s : State) : samePower ref (sepCtrl v s) ↔ samePower ref s := by
  simp [sepCtrl]

/-! ### The firmware core -/

@[simp] theorem samePower_showFwc (s : State) : samePower ref (s.showFwc) ↔ samePower ref s := by
  simp [State.showFwc]

@[simp] theorem samePower_setBcr (s : State) (f : Bcr → Bcr) : samePower ref (s.setBcr f) ↔ samePower ref s := by
  simp [State.setBcr]

@[simp] theorem samePower_setUpd (s : State) (st code : Nat) : samePower ref (s.setUpd st code) ↔ samePower ref s := by
  simp [State.setUpd]

@[simp] theorem samePower_endStage (s : State) (slot code : Nat) :
    samePower ref (s.endStage slot code) ↔ samePower ref s := by
  simp [State.endStage]

@[simp] theorem samePower_abortStage (s : State) : samePower ref (s.abortStage) ↔ samePower ref s := by
  unfold State.abortStage
  split <;> simp

@[simp] theorem samePower_restartCore (s : State) (n cause : Nat) :
    samePower ref (s.restartCore n cause) ↔ samePower ref s := by
  simp [State.restartCore]

@[simp] theorem samePower_modFwCore (s : State) (n : Nat) (f : FwCore1 → FwCore1) :
    samePower ref (s.modFwCore n f) ↔ samePower ref s := by
  simp [State.modFwCore]

@[simp] theorem samePower_latchRestart (s : State) (n cause : Nat) :
    samePower ref (s.latchRestart n cause) ↔ samePower ref s := by
  simp [State.latchRestart]

@[simp] theorem samePower_askRestart (s : State) (n cause : Nat) :
    samePower ref (s.askRestart n cause) ↔ samePower ref s := by
  simp [State.askRestart]

@[simp] theorem samePower_coreCtrl (n v : Nat) (s : State) : samePower ref (coreCtrl n v s) ↔ samePower ref s := by
  simp [coreCtrl]

/-! ### Fenced and spare cores -/

@[simp] theorem samePower_setActive (s : State) (c : Nat) (on : Bool) :
    samePower ref (s.setActive c on) ↔ samePower ref s := by
  simp [State.setActive]

@[simp] theorem samePower_spareRefused (s : State) (cls : Cls) (c off : Nat) :
    samePower ref (s.spareRefused cls c off) ↔ samePower ref s := by
  simp [State.spareRefused]

@[simp] theorem samePower_fenceCore (s : State) (c code : Nat) : samePower ref (s.fenceCore c code) ↔ samePower ref s := by
  unfold State.fenceCore
  extract_lets pg mine t u v w x y z
  have hv : samePower ref v ↔ samePower ref s := by
    unfold v
    split <;> simp [u, t]
  clear_value v
  split
  · rfl
  · simp [z, y, x, w, hv]

@[simp] theorem samePower_startCore (s : State) (c : Nat) (r : StartReq) :
    samePower ref (s.startCore c r) ↔ samePower ref s := by
  simp [State.startCore]

@[simp] theorem samePower_unfenceAct (cls : Cls) (c : Nat) (s : State) :
    samePower ref (unfenceAct cls c s) ↔ samePower ref s := by
  simp [unfenceAct]

@[simp] theorem samePower_activateAct (cls : Cls) (q slot : Nat) (s : State) :
    samePower ref (activateAct cls q slot s) ↔ samePower ref s := by
  simp [activateAct]

/-! ### Lockstep -/

@[simp] theorem samePower_lksDigest (s : State) (f : Fld) (i : Nat) (d : BitVec 128) :
    samePower ref (s.lksDigest f i d) ↔ samePower ref s := by
  simp [State.lksDigest]

@[simp] theorem samePower_lksRecord (s : State) (i k : Nat) (x y : Checkpoint) :
    samePower ref (s.lksRecord i k x y) ↔ samePower ref s := by
  simp [State.lksRecord]

@[simp] theorem samePower_lksRise (i : Nat) (s : State) : samePower ref (lksRise i s) ↔ samePower ref s := by
  simp [lksRise]

@[simp] theorem samePower_lksCtrl (i : Nat) (was : Bool) (s : State) :
    samePower ref (lksCtrl i was s) ↔ samePower ref s := by
  simp [lksCtrl]

@[simp] theorem samePower_rackCapAct (e : Effecter) (s : State) : samePower ref (rackCapAct e s) ↔ samePower ref s := by
  cases e <;> simp [rackCapAct]

/-! ### Bring-up and shutdown of a port -/

@[simp] theorem samePower_cutLink (s : State) (p : Nat) : samePower ref (s.cutLink p) ↔ samePower ref s := by
  simp [State.cutLink]

@[simp] theorem samePower_portReset (s : State) (p : Nat) : samePower ref (s.portReset p) ↔ samePower ref s := by
  simp [State.portReset]

@[simp] theorem samePower_bringUp (s : State) (p : Nat) : samePower ref (s.bringUp p) ↔ samePower ref s := by
  simp [State.bringUp]

@[simp] theorem samePower_shutPort (s : State) (p : Nat) : samePower ref (s.shutPort p) ↔ samePower ref s := by
  simp [State.shutPort]

@[simp] theorem samePower_portDown (s : State) (p cause : Nat) : samePower ref (s.portDown p cause) ↔ samePower ref s := by
  simp [State.portDown]

@[simp] theorem samePower_portOn (p : Nat) (s : State) : samePower ref (portOn p s) ↔ samePower ref s := by
  simp [portOn]

@[simp] theorem samePower_portOff (p : Nat) (s : State) : samePower ref (portOff p s) ↔ samePower ref s := by
  simp [portOff]

@[simp] theorem samePower_slkCtrl (cls : Cls) (p : Nat) (was : Bool) (v : Nat) (s : State) :
    samePower ref (slkCtrl cls p was v s) ↔ samePower ref s := by
  simp [slkCtrl]

/-! ### A register write's action -/

@[simp] theorem samePower_krmGlobAct (cls : Cls) (off v : Nat) (t s : State) :
    samePower ref (krmGlobAct cls off v t s) ↔ samePower ref s := by
  simp [krmGlobAct]

@[simp] theorem samePower_krmCoreAct (cls : Cls) (c off v : Nat) (s : State) :
    samePower ref (krmCoreAct cls c off v s) ↔ samePower ref s := by
  simp [krmCoreAct]

@[simp] theorem samePower_tierAct (pg off v : Nat) (s : State) : samePower ref (tierAct pg off v s) ↔ samePower ref s := by
  simp [tierAct]

@[simp] theorem samePower_witAct (cls : Cls) (off v : Nat) (t s : State) :
    samePower ref (witAct cls off v t s) ↔ samePower ref s := by
  simp [witAct]

@[simp] theorem samePower_jrnAct (cls : Cls) (off v : Nat) (t s : State) :
    samePower ref (jrnAct cls off v t s) ↔ samePower ref s := by
  simp [jrnAct]

@[simp] theorem samePower_hstAct (cls : Cls) (off v : Nat) (s : State) :
    samePower ref (hstAct cls off v s) ↔ samePower ref s := by
  simp [hstAct]

@[simp] theorem samePower_rckAct (off v : Nat) (s : State) : samePower ref (rckAct off v s) ↔ samePower ref s := by
  simp [rckAct]

@[simp] theorem samePower_govAct (off : Nat) (s : State) : samePower ref (govAct off s) ↔ samePower ref s := by
  simp [govAct]

@[simp] theorem samePower_hazAct (cls : Cls) (off v : Nat) (t s : State) :
    samePower ref (hazAct cls off v t s) ↔ samePower ref s := by
  simp [hazAct]

@[simp] theorem samePower_writeAct (cls : Cls) (k : PageKind) (inst off v : Nat) (t s : State) :
    samePower ref (writeAct cls k inst off v t s) ↔ samePower ref s := by
  cases k <;> simp [writeAct]

@[simp] theorem samePower_writeReg (s : State) (cls : Cls) (a size v : Nat) :
    samePower ref (s.writeReg cls a size v) ↔ samePower ref s := by
  unfold State.writeReg
  extract_lets w
  split <;> simp [w]

end Sys2Proof.Machine
end


section
/-! SUPPORT. The clocks' words: what a fallen lock, a fence, a job's end and a lost driver write, and what they leave. -/

namespace Sys2Proof.Machine

/-! ### Flags -/

theorem State.flag_fset_same (s : State) (b : Nat) {f : Fld} (x : Nat) (h : f.w = 1) (hw : f.inWord) :
    (s.fset b f x).flag b f = (x % 2 != 0) := by
  rw [State.flag, State.fget_fset_same _ _ _ _ hw, h, pow_one]

theorem State.flag_fset_apart (s : State) (b : Nat) (f g : Fld) (x : Nat) (ho : g.off = f.off) (hw : g.inWord)
    (ha : Fld.apart f g) : (s.fset b f x).flag b g = s.flag b g :=
  congrArg (· != 0) (State.fget_fset_apart s b f g x ho hw ha)

theorem State.flag_setStat_same (s : State) (b : Nat) {f : Fld} (x : Bool) (h : f.w = 1) (hw : f.inWord)
    (ho : f.off ≠ PAGE_SEQ.off ∧ f.off ≠ IRQ_STAT.off) (hm : ¬msixWord (b + f.off)) : (s.setStat b f x).flag b f = x := by
  have hset : (((s.fset b f (bit x)).seqUp b)).flag b f = x := by
    rw [State.flag, State.seqUp, State.fget_fset_ne _ _ _ _ _ _ (by omega)]
    exact (State.flag_fset_same s b (bit x) h hw).trans (by cases x <;> rfl)
  have hraise (i : Nat) : (((s.fset b f (bit x)).seqUp b).raise b i).flag b f = x := by
    rw [State.flag, State.fget, State.rd_raise _ _ _ _ (by omega) hm]
    exact hset
  unfold State.setStat
  split
  · assumption
  · dsimp only
    split
    · exact hraise 2
    · split
      · exact hraise 1
      · exact hset

/-! ### Rules of standing -/

section
variable {W : Nat → Prop}

theorem stands_hwSet (s : State) (b : Nat) (f : Fld) (x : Nat) (h : ¬W (b + f.off)) (hseq : ¬W (b + PAGE_SEQ.off)) :
    stands W s (s.hwSet b f x) :=
  ⟨fun _ hx => State.rd_hwSet _ _ _ _ _ (fun e => h (e ▸ hx)) fun e => hseq (e ▸ hx),
    sameBytes_of_eq (by simp) (by simp) (by simp)⟩

theorem stands_setStat (s : State) (b : Nat) (f : Fld) (v : Bool) (h : ¬W (b + f.off)) (hseq : ¬W (b + PAGE_SEQ.off))
    (hirq : ¬W (b + IRQ_STAT.off)) (hm : ∀ x, W x → ¬msixWord x) : stands W s (s.setStat b f v) :=
  ⟨fun x hx => State.rd_setStat _ _ _ _ _ (fun e => h (e ▸ hx)) (fun e => hseq (e ▸ hx)) (fun e => hirq (e ▸ hx)) (hm x hx),
    sameBytes_of_eq (by simp) (by simp) (by simp)⟩

end

/-! ### Status words -/

/-- CLK_STAT and the PAGE_STAT of every page but the one at `n`. -/
def statWord (n x : Nat) : Prop := (x = pCLK + 0x108 ∨ x % 0x10000 = 0x14) ∧ x ≠ n + 0x14 ∧ ¬msixWord x

theorem statWord_msix {n : Nat} : ∀ x, statWord n x → ¬msixWord x := fun _ hx => hx.2.2

theorem statWord_clk {n : Nat} (hn : n % 0x10000 = 0) : statWord n (pCLK + 0x108) :=
  ⟨.inl rfl, by simp only [pCLK]; omega, by simp only [msixWord, pCLK]; omega⟩

theorem statWord_page {n b : Nat} (hb : b % 0x10000 = 0) (hn : b ≠ n) (hp : b < pHST) : statWord n (b + 0x14) := by
  simp only [pHST] at hp
  exact ⟨.inr (by omega), by omega, by simp only [msixWord]; omega⟩

/-- A field of a register that is neither PAGE_STAT nor at CLK_STAT's offset. -/
abbrev Fld.offStat (f : Fld) : Prop := f.off < 0x10000 ∧ f.off ≠ 0x14 ∧ f.off ≠ 0x108

theorem not_statWord {n b : Nat} {f : Fld} (hb : b % 0x10000 = 0) (hf : f.offStat) : ¬statWord n (b + f.off) := by
  obtain ⟨hlt, hstat, hclk⟩ := hf
  rintro ⟨hx | hx, -⟩
  · simp only [pCLK] at hx; omega
  · omega

section
variable {n b : Nat} (hb : b % 0x10000 = 0)
include hb

theorem stands_fset_stat {f : Fld} (hf : f.offStat) (s : State) (x : Nat) : stands (statWord n) s (s.fset b f x) :=
  stands_fset _ _ _ _ (not_statWord hb hf)

theorem stands_hwSet_stat {f : Fld} (hf : f.offStat) (s : State) (x : Nat) : stands (statWord n) s (s.hwSet b f x) :=
  stands_hwSet _ _ _ _ (not_statWord hb hf) (not_statWord hb (f := PAGE_SEQ) (by decide))

theorem stands_raise_stat (s : State) (i : Nat) : stands (statWord n) s (s.raise b i) :=
  stands_raise _ _ _ (not_statWord hb (f := IRQ_STAT) (by decide)) statWord_msix

theorem stands_setStat_stat (s : State) (v : Bool) : stands (statWord b) s (s.setStat b PAGE_STAT_FENCED v) :=
  stands_setStat _ _ _ _ (fun h => h.2.1 rfl) (not_statWord hb (f := PAGE_SEQ) (by decide))
    (not_statWord hb (f := IRQ_STAT) (by decide)) statWord_msix

end

theorem pKRMCORE_page (c : Nat) : pKRMCORE c % 0x10000 = 0 := by simp only [pKRMCORE]; omega
theorem pKRMQUAD_page (q : Nat) : pKRMQUAD q % 0x10000 = 0 := by simp only [pKRMQUAD]; omega

/-! ### A lock that falls -/

/-- A lock counted as lost touches CLK_LOSS_CNT and the interrupt of its page alone. -/
theorem stands_lockLost {W : Nat → Prop} (hcnt : ¬W (pCLK + CLK_LOSS_CNT.off)) (hirq : ¬W (pCLK + IRQ_STAT.off))
    (hm : ∀ x, W x → ¬msixWord x) (s : State) : stands W s s.lockLost :=
  (stands_fset s pCLK CLK_LOSS_CNT _ hcnt).trans (stands_raise _ _ _ hirq hm)

theorem stands_lockLost_stat {n : Nat} (s : State) : stands (statWord n) s s.lockLost :=
  stands_lockLost (not_statWord (by decide) (by decide)) (not_statWord (by decide) (f := IRQ_STAT) (by decide)) statWord_msix s

/-- A lock bit of CLK_STAT, or FW's fallback. -/
abbrev Fld.ofClkStat (f : Fld) : Prop := f.off = 0x108 ∧ f.w = 1 ∧ f.inWord

theorem stands.clkFlag {n : Nat} {s t : State} (h : stands (statWord n) s t) (hn : n % 0x10000 = 0) {f : Fld}
    (hf : f.ofClkStat) : t.flag pCLK f = s.flag pCLK f :=
  h.flag (by rw [hf.1]; exact statWord_clk hn)

/-- The lock at `f` falls, and of the other words only CLK_LOSS_CNT, the interrupt and the pending bits can change. -/
theorem stands_dropLock {W : Nat → Prop} {f : Fld} (hf : ¬W (pCLK + f.off)) (hcnt : ¬W (pCLK + CLK_LOSS_CNT.off))
    (hirq : ¬W (pCLK + IRQ_STAT.off)) (hm : ∀ x, W x → ¬msixWord x) (s : State) : stands W s (s.dropLock f) :=
  stands_ite (fun _ => (stands_fset s pCLK f 0 hf).trans (stands_lockLost hcnt hirq hm _)) fun _ => stands.refl s

theorem State.flag_dropLock_same (s : State) {f : Fld} (hf : f.ofClkStat) : (s.dropLock f).flag pCLK f = false := by
  unfold State.dropLock
  split
  · rw [(stands_lockLost_stat (n := 0) _).clkFlag rfl hf]
    exact State.flag_fset_same s pCLK 0 hf.2.1 hf.2.2
  · exact Bool.not_eq_true _ ▸ ‹_›

theorem State.flag_dropLock_apart (s : State) {f g : Fld} (hf : f.ofClkStat) (hg : g.ofClkStat) (ha : Fld.apart f g) :
    (s.dropLock f).flag pCLK g = s.flag pCLK g := by
  unfold State.dropLock
  split
  · rw [(stands_lockLost_stat (n := 0) _).clkFlag rfl hg]
    exact State.flag_fset_apart s pCLK f g 0 (hg.1.trans hf.1.symm) hg.2.2 ha
  · rfl

theorem State.krm_dropLock (s : State) (f : Fld) : (s.dropLock f).krm = s.krm := by
  unfold State.dropLock State.lockLost
  split <;> simp

@[simp] theorem samePower_dropLock {ref : State} (s : State) (f : Fld) :
    samePower ref (s.dropLock f) ↔ samePower ref s := by
  simp [State.dropLock, State.lockLost]

end Sys2Proof.Machine
end


section
/-! SUPPORT. Kermes without its clock: the job ends, and every core is fenced (R23, R157). -/

namespace Sys2Proof.Machine

/-! ### The end of a job -/

theorem stands_stopCore {n : Nat} (s : State) (c : Nat) : stands (statWord n) s (s.stopCore c) :=
  (stands_of_eq rfl rfl rfl rfl).trans (stands_fset_stat (pKRMCORE_page c) (f := KCORE_STAT_RUNNING) (by decide) _ 0)

theorem not_statWord_bar {n q : Nat} (hq : q ∈ [0, 1, 2, 3]) : ¬statWord n (pKRMQUAD q + KQ_BAR_ARRIVED.off) := by
  rintro ⟨hx, -⟩
  fin_cases hq <;> revert hx <;> decide

theorem stands_endJob {n : Nat} (s : State) (status code cycle : Nat) :
    stands (statWord n) s (s.endJob status code cycle) := by
  unfold State.endJob
  split
  · exact stands.refl s
  · refine stands_ite (fun _ => stands_ite (fun _ => stands_of_eq rfl rfl rfl rfl) fun _ => stands.refl s) fun _ => ?_
    extract_lets ran count t k u v
    have ht : stands (statWord n) s t := stands_foldl _ _ s fun w c _ => stands_stopCore w c
    have hu : stands (statWord n) s u := ht.trans (stands_of_eq rfl rfl rfl rfl)
    have hv : stands (statWord n) u v := (stands_fset_stat (by decide) (f := KG_STAT_RUNNING) (by decide) u 0).trans
      (stands_fset_stat (by decide) (f := KG_STAT_LOADING) (by decide) _ 0)
    exact (hu.trans hv).trans (stands_foldl _ _ v fun w q hq => stands_fset w _ _ 0 (not_statWord_bar hq))

theorem stands_haltKermes {n : Nat} (s : State) : stands (statWord n) s s.haltKermes :=
  (stands_hwSet_stat (by decide) (f := KG_CTRL_QHOLD) (by decide) s 1).trans (stands_endJob ..)

/-- A job that had not ended ends as it was told to. -/
theorem State.ended_endJob {s : State} {j : Job} (hj : s.krm.job = some j) (hp : j.phase ≠ .ended) (status code cycle : Nat) :
    (s.endJob status code cycle).ended status code := by
  unfold State.endJob
  simp only [hj, if_neg hp]
  exact ⟨_, rfl, rfl, rfl, rfl⟩

/-- A fence of its core does not change how a halted job ended (R152): the lower code, HALT, stands. -/
theorem State.ended_endJob_halted {s : State} (h : s.ended 2 1) (cycle : Nat) : (s.endJob 2 2 cycle).ended 2 1 := by
  obtain ⟨j, hj, hp, hst, hc⟩ := h
  unfold State.endJob
  simp only [hj, if_pos hp]
  split
  · exact ⟨_, rfl, by simp [Job.meet, hst, hp], by simp [Job.meet, hst], by simp [Job.meet, hst, hc]⟩
  · exact ⟨j, hj, hp, hst, hc⟩

/-! ### A fenced core -/

theorem stands_setActive {n : Nat} (s : State) (c : Nat) (on : Bool) : stands (statWord n) s (s.setActive c on) := by
  unfold State.setActive
  extract_lets m k t
  have hlo : ¬statWord n (pKRMGLOB + KG_ACT_MAP.off) := not_statWord (by decide) (by decide)
  have hhi : ¬statWord n (pKRMGLOB + KG_ACT_MAP.off + 4) :=
    not_statWord (b := pKRMGLOB) (f := ⟨0x15C, 0, 32⟩) (by decide) (by decide)
  have ht : stands (statWord n) s t := (stands_wr s _ _ hlo).trans (stands_wr _ _ _ hhi)
  exact (ht.trans (stands_hwSet_stat (by decide) (f := GEN_FAMILY_ACT_CORES) (by decide) t _)).trans
    (stands_fset_stat (by decide) (f := PAGE_SEQ) (by decide) _ _)

theorem State.krm_setActive (s : State) (c : Nat) (on : Bool) : (s.setActive c on).krm = s.krm := by
  unfold State.setActive
  simp

theorem mapSlot_offStat (k : Nat) : (mapSlot k).offStat := (by decide : KQ_MAP_SLOT0.offStat)

theorem quadPage_page (c : Nat) : quadPage c % 0x10000 = 0 := pKRMQUAD_page _

theorem stands_fenceCore (s : State) (c code : Nat) : stands (statWord (pKRMCORE c)) s (s.fenceCore c code) := by
  have hc := pKRMCORE_page c
  have hq := quadPage_page c
  unfold State.fenceCore
  extract_lets pg mine t u v w x y z
  have ht : stands (statWord pg) s t := stands_ite (fun _ => stands_endJob ..) fun _ => stands.refl s
  have hu : stands (statWord pg) t u :=
    (stands_stopCore t c).trans (stands_fset_stat hc (f := KCORE_FCAUSE_CAUSE) (by decide) _ code)
  have hv : stands (statWord pg) u v := by
    unfold v
    split
    · rename_i k _
      exact ((stands_hwSet_stat hq (mapSlot_offStat k) u 0xF).trans (stands_setActive _ c false)).trans
        (stands_fset_stat hc (f := KCORE_STAT_LOGICAL) (by decide) _ 0x3F)
    · exact stands.refl u
  have hw : stands (statWord pg) v w := stands_ite
    (fun _ => (stands_hwSet_stat hq (f := KQ_SPARE_SPARE) (by decide) v 0xF).trans
      (stands_fset_stat hc (f := KCORE_STAT_SPARE) (by decide) _ 0)) fun _ => stands.refl v
  have hx : stands (statWord pg) w x :=
    stands_ite (fun _ => stands_fset_stat hq (f := KQ_SPARE_BUSY) (by decide) w 0) fun _ => stands.refl w
  have hy : stands (statWord pg) x y := stands_of_eq rfl rfl rfl rfl
  have hz : stands (statWord pg) y z :=
    (stands_setStat_stat hc y true).trans (stands_fset_stat hc (f := KCORE_STAT_SHUTTING) (by decide) _ 1)
  have h := (((((ht.trans hu).trans hv).trans hw).trans hx).trans hy).trans hz
  clear_value z
  split
  · exact stands.refl s
  · exact (h.trans (stands_raise_stat (by decide) z 6)).trans
      (stands_fset_stat (by decide) (f := KG_STAT_PSTATE) (by decide) _ _)

theorem State.flag_fenceCore {c : Nat} (hc : pKRMCORE c < pHST) (s : State) (code : Nat) :
    (s.fenceCore c code).flag (pKRMCORE c) PAGE_STAT_FENCED = true := by
  have hpg := pKRMCORE_page c
  have hword : statWord pCLK (pKRMCORE c + 0x14) := statWord_page hpg (by simp only [pHST, pCLK] at *; omega) hc
  unfold State.fenceCore
  extract_lets pg mine t u v w x y z
  clear_value y
  split
  · assumption
  · have hz : stands (statWord pCLK) (y.setStat pg PAGE_STAT_FENCED true) (z.raise pKRMGLOB 6).showPstate :=
      ((stands_fset_stat hpg (f := KCORE_STAT_SHUTTING) (by decide) _ 1).trans (stands_raise_stat (by decide) z 6)).trans
        (stands_fset_stat (by decide) (f := KG_STAT_PSTATE) (by decide) _ _)
    rw [hz.flag hword]
    exact State.flag_setStat_same y pg true rfl (by decide) (by decide) hword.2.2

theorem State.ended_fenceCore {s : State} (h : s.ended 2 1) (c code : Nat) : (s.fenceCore c code).ended 2 1 := by
  unfold State.fenceCore
  extract_lets pg mine t u v w x y z
  have ht : t.ended 2 1 := by
    unfold t
    split
    · exact State.ended_endJob_halted h _
    · exact h
  have hv : v.krm.job = t.krm.job := by
    unfold v
    split
    · simp only [State.fset_krm, State.krm_setActive, State.hwSet_krm]
      rfl
    · rfl
  have hw : w.krm = v.krm := by
    unfold w
    split <;> simp
  have hx : x.krm = w.krm := by
    unfold x
    split <;> simp
  have hz : z.krm.job = v.krm.job := by
    simp only [z, State.fset_krm, State.setStat_krm]
    exact (congrArg Krm.job (hx.trans hw) : x.krm.job = v.krm.job)
  clear_value z
  split
  · exact h
  · obtain ⟨j, hj, hend⟩ := ht
    exact ⟨j, by simpa [State.showPstate] using (hz.trans hv).trans hj, hend⟩

/-! ### Every core -/

/-- What the loss of the clock does to one core. -/
def State.clockFence (s : State) (c : Nat) : State := s.freeWord.2.fenceCore c (s.freeWord.1.toNat % 256)

theorem State.kermesClockLost_eq (s : State) : s.kermesClockLost = s.haltKermes.each (List.range 36) State.clockFence := rfl

theorem stands_clockFence (s : State) (c : Nat) : stands (statWord (pKRMCORE c)) s (s.clockFence c) :=
  have hfree : stands (statWord (pKRMCORE c)) s s.freeWord.2 := stands_of_eq rfl rfl rfl rfl
  hfree.trans (stands_fenceCore s.freeWord.2 c _)

theorem State.clkFlag_kermesClockLost (s : State) {f : Fld} (hf : f.ofClkStat) :
    s.kermesClockLost.flag pCLK f = s.flag pCLK f := by
  rw [State.kermesClockLost_eq, ← (stands_haltKermes (n := 0) s).clkFlag rfl hf]
  exact State.each_eq (fun t => t.flag pCLK f) _ _ _ fun t c _ => (stands_clockFence t c).clkFlag (pKRMCORE_page c) hf

theorem State.fenced_kermesClockLost (s : State) {c : Nat} (hc : c < 36) :
    s.kermesClockLost.flag (pKRMCORE c) PAGE_STAT_FENCED = true := by
  have hp : pKRMCORE c < pHST := by simp only [pKRMCORE, pHST]; omega
  rw [State.kermesClockLost_eq]
  refine State.each_at (P := fun t => t.flag (pKRMCORE c) PAGE_STAT_FENCED = true) _ (List.mem_range.2 hc)
    (fun t => State.flag_fenceCore hp ..) fun t n _ hn ht => ?_
  rw [(stands_clockFence t n).flag (statWord_page (pKRMCORE_page c) (by simp only [pKRMCORE]; omega) hp)]
  exact ht

theorem State.ended_kermesClockLost {s : State} {j : Job} (hj : s.krm.job = some j) (hp : j.phase ≠ .ended) :
    s.kermesClockLost.ended 2 1 := by
  have hhalt : s.haltKermes.ended 2 1 := State.ended_endJob (by rw [State.hwSet_krm, hj]) hp 2 1 _
  rw [State.kermesClockLost_eq]
  exact State.each_inv (State.ended · 2 1) _ _ _ (fun t c _ ht => State.ended_fenceCore (s := t.freeWord.2) ht c _) hhalt

end Sys2Proof.Machine
end


section
/-! SUPPORT. The other clocks: the tiers' channels, MAIN, the host link and its driver, and the timebase (R21, R23, R225). -/

namespace Sys2Proof.Machine

/-! ### A tier's channels -/

/-- What the loss of its clock does to the channel at `pg`. -/
def State.chanFence (s : State) (pg : Nat) : State :=
  if s.flag pg PAGE_STAT_FENCED then s
  else (s.freeWord.2.setStat pg PAGE_STAT_FENCED true).fset pg TC_STAT_FCAUSE s.freeWord.1.toNat

theorem State.fenceTier_eq (s : State) (pages : List Nat) : s.fenceTier pages = s.each pages State.chanFence := rfl

section
variable {pg : Nat} (hpg : pg % 0x10000 = 0)
include hpg

theorem stands_chanFence (s : State) : stands (statWord pg) s (s.chanFence pg) := by
  have hfree : stands (statWord pg) s s.freeWord.2 := stands_of_eq rfl rfl rfl rfl
  unfold State.chanFence
  split
  · exact stands.refl s
  · exact (hfree.trans (stands_setStat_stat hpg _ true)).trans (stands_fset_stat hpg (f := TC_STAT_FCAUSE) (by decide) _ _)

theorem State.flag_chanFence (hp : pg < pHST) (s : State) : (s.chanFence pg).flag pg PAGE_STAT_FENCED = true := by
  have hword : statWord pCLK (pg + 0x14) := statWord_page hpg (by simp only [pHST, pCLK] at *; omega) hp
  unfold State.chanFence
  split
  · assumption
  · rw [(stands_fset_stat hpg (f := TC_STAT_FCAUSE) (by decide) _ _).flag hword]
    exact State.flag_setStat_same _ pg true rfl (by decide) (by decide) hword.2.2

end

section
variable {pages : List Nat} (hl : ∀ b ∈ pages, b % 0x10000 = 0 ∧ b < pHST)
include hl

theorem State.clkFlag_fenceTier (s : State) {f : Fld} (hf : f.ofClkStat) :
    (s.fenceTier pages).flag pCLK f = s.flag pCLK f := by
  rw [State.fenceTier_eq]
  exact State.each_eq (fun t => t.flag pCLK f) pages _ s fun t b hb => (stands_chanFence (hl b hb).1 t).clkFlag (hl b hb).1 hf

theorem sameBytes_fenceTier (s : State) : sameBytes s (s.fenceTier pages) :=
  sameBytes_each pages _ s fun t b hb => (stands_chanFence (hl b hb).1 t).2

theorem State.fenced_fenceTier (s : State) {b : Nat} (hb : b ∈ pages) : (s.fenceTier pages).flag b PAGE_STAT_FENCED = true :=
  have hp := hl b hb
  State.each_at (P := fun t => t.flag b PAGE_STAT_FENCED = true) s hb (State.flag_chanFence hp.1 hp.2) fun t n hn hne ht =>
    ((stands_chanFence (hl n hn).1 t).flag (statWord_page hp.1 hne.symm hp.2)).trans ht

end

theorem nearPages {b : Nat} (hb : b ∈ (List.range 6).map pNTRCHAN) : b % 0x10000 = 0 ∧ b < pHST := by
  obtain ⟨k, hk, rfl⟩ := List.mem_map.1 hb
  have := List.mem_range.1 hk
  simp only [pNTRCHAN, pHST]
  omega

theorem bulkPages {b : Nat} (hb : b ∈ (List.range 24).map pBLKCHAN) : b % 0x10000 = 0 ∧ b < pHST := by
  obtain ⟨k, hk, rfl⟩ := List.mem_map.1 hb
  have := List.mem_range.1 hk
  simp only [pBLKCHAN, pHST]
  omega

/-! ### The host link and its driver -/

section
variable {ref : State}

@[simp] theorem samePower_act (s : State) (code source cause arg : Nat) :
    samePower ref (s.act code source cause arg) ↔ samePower ref s := by
  simp [State.act]

@[simp] theorem samePower_linkDown (s : State) : samePower ref s.linkDown ↔ samePower ref s := by
  simp [State.linkDown]

@[simp] theorem samePower_withdrawCap (s : State) : samePower ref s.withdrawCap ↔ samePower ref s := by
  unfold State.withdrawCap
  split
  · exact (samePower_congr rfl rfl).trans (samePower_regWrite ..)
  · simp

@[simp] theorem samePower_loseDriver (s : State) : samePower ref s.loseDriver ↔ samePower ref s := by
  simp [State.loseDriver]

end

/-- CLK_STAT, and the word of LINK_UP. -/
abbrev linkWord (x : Nat) : Prop := x = pCLK + 0x108 ∨ x = pHST + 0x100

theorem linkWord_msix (x : Nat) (hx : linkWord x) : ¬msixWord x := by
  simp only [linkWord, pCLK, pHST] at hx
  simp only [msixWord]
  omega

theorem stands_regWrite {W : Nat → Prop} {a : Nat} (hoff : 0x100 ≤ a % 0x10000) (hW : ∀ x, W x → outOfReach a x)
    (hm : msixAt a = false) (s : State) (cls : Cls) (v : Nat) : stands W s (regWrite s cls a 4 v).2 :=
  ⟨fun x hx => State.rd_regWrite hoff (hW x hx) s cls v hm, sameBytes_of_behind (State.behind_regWrite ..)⟩

theorem linkWord_outOfReach (x : Nat) (hx : linkWord x) : outOfReach (pGOVGLOB + 0x10C) x := by
  refine ⟨?_, ?_, linkWord_msix x hx⟩ <;> rcases hx with rfl | rfl <;> simp only [onPage, pGOVGLOB, pCLK, pHST, pACC] <;> omega

theorem stands_withdrawCap (s : State) : stands linkWord s s.withdrawCap := by
  unfold State.withdrawCap
  split
  · exact (stands_regWrite (by decide) linkWord_outOfReach (by decide) s .fwp 0).trans (stands_of_eq rfl rfl rfl rfl)
  · exact stands_of_eq rfl rfl rfl rfl

theorem stands_showQmg (s : State) : stands linkWord s s.showQmg :=
  (((stands_fset s pQMG QMG_ENABLED _ (by decide)).trans (stands_fset _ pQMG QMG_PENDING _ (by decide))).trans
    (stands_fset _ pQMG QMG_STAT_IDLE _ (by decide))).trans (stands_fset _ pQMG QMG_STAT_STALLED _ (by decide))

theorem stands_loseDriver (s : State) : stands linkWord s s.loseDriver := by
  unfold State.loseDriver
  extract_lets hr t
  have ht : stands linkWord s t := (stands_of_eq rfl rfl rfl rfl).trans (stands_showQmg _)
  clear_value t
  split
  · exact stands.refl s
  · exact ((ht.trans (stands_raise t pHST 5 (by decide) linkWord_msix)).trans
      (stands_fset _ pRCK RCK_ALERT_SRC_DRIVER_LOST 1 (by decide))).trans (stands_withdrawCap _)

theorem State.lost_withdrawCap (s : State) : s.withdrawCap.hr.lost = s.hr.lost := by
  unfold State.withdrawCap
  split
  · exact congrArg (fun t => t.hr.lost) (State.behind_regWrite s .fwp (pGOVGLOB + 0x10C) 4 0)
  · rfl

theorem State.lost_loseDriver (s : State) : s.loseDriver.hr.lost = true := by
  unfold State.loseDriver
  split
  · assumption
  · rw [State.lost_withdrawCap]
    simp [State.showQmg]

theorem stands_linkDown (s : State) : stands (· = pCLK + 0x108) s s.linkDown := by
  unfold State.linkDown
  extract_lets up t hr u
  have ht : stands (· = pCLK + 0x108) s t := stands_wr s (pHST + 0x100) 0 (by decide)
  have hu : stands (· = pCLK + 0x108) s u := ht.trans (stands_of_eq rfl rfl rfl rfl)
  clear_value u
  split
  · exact hu.trans (stands_raise u pHST 4 (by decide) fun x hx => linkWord_msix x (.inl hx))
  · exact hu

theorem State.flag_linkDown (s : State) : s.linkDown.flag pHST HST_LINK_UP = false := by
  unfold State.linkDown
  extract_lets up t hr u
  have ht : t.rd (pHST + 0x100) = 0 := State.rd_wr_same ..
  have hu : u.flag pHST HST_LINK_UP = false := by
    show (HST_LINK_UP.get (t.rd (pHST + 0x100)) != 0) = false
    rw [ht]
    decide
  clear_value u
  split
  · exact ((stands_raise (W := linkWord) u pHST 4 (by decide) linkWord_msix).flag (.inr rfl)).trans hu
  · exact hu

/-! ### MAIN -/

theorem State.pins_dropPorts (s : State) : s.dropPorts.pins = s.pins := by
  have h : ∀ (u : State) (p : Nat), samePower u (((u.cutLink p).setPort p 7).fset (pSLK p) SLK_DOWN_CAUSE 9) := by simp
  exact foldl_eq State.pins (portList.filter fun p => s.portState p != 0) _ s fun u p _ => (h u p).1

theorem State.pins_giveUp (s : State) : s.giveUp.pins = s.pins := by simp [State.giveUp]

theorem State.krm_giveUp (s : State) : s.giveUp.krm = s.krm := by simp [State.giveUp]

theorem State.pins_loseMain (s : State) : s.loseMain.pins = s.pins := rfl

theorem State.job_loseMain (s : State) : s.loseMain.krm.job = none := rfl

theorem State.job_setStep {s : State} (h : s.krm.job = none) (n : Nat) : (s.setStep n).krm.job = none := by
  simp only [State.setStep]
  split <;> simp [h]

theorem stands_setStep {n : Nat} (s : State) (k : Nat) : stands (statWord n) s (s.setStep k) := by
  unfold State.setStep
  extract_lets t u
  have ht : stands (statWord n) s t := (stands_fset_stat (by decide) (f := GG_STAT_KRM_TARGET) (by decide) s k).trans
    (stands_fset_stat (by decide) (f := CLK_KRM_TARGET) (by decide) _ k)
  have hu : stands (statWord n) t u := ((stands_fset_stat (by decide) (f := CLK_KRM_STEP) (by decide) t k).trans
    (stands_fset_stat (by decide) (f := CLK_STEP_CNT) (by decide) _ _)).trans (stands_raise_stat (by decide) _ 5)
  clear_value u
  split
  · exact ht
  · exact (ht.trans hu).trans (stands_of_eq rfl rfl rfl rfl)

theorem stands_giveUp (s : State) : stands (· = pCLK + 0x108) s s.giveUp :=
  ((stands_setStat s pGEN PAGE_STAT_FAULT true (by decide) (by decide) (by decide) fun x hx => linkWord_msix x (.inl hx)).trans
    (stands_fset _ pRCK RCK_ALERT_SRC_EVENT 1 (by decide))).trans (stands_of_eq rfl rfl rfl rfl)

theorem State.flag_mainLocks (s : State) : (mainLocks.foldl State.dropLock s).flag pCLK CLK_STAT_FAB_LOCK = false := by
  show (((((s.dropLock CLK_STAT_KRM_LOCK).dropLock CLK_STAT_FAB_LOCK).dropLock CLK_STAT_NT_LOCK).dropLock
    CLK_STAT_BK_LOCK).dropLock CLK_STAT_LNK_LOCK).flag pCLK CLK_STAT_FAB_LOCK = false
  rw [State.flag_dropLock_apart _ (by decide) (by decide) (by decide),
    State.flag_dropLock_apart _ (by decide) (by decide) (by decide),
    State.flag_dropLock_apart _ (by decide) (by decide) (by decide), State.flag_dropLock_same _ (by decide)]

/-- A MAIN loss takes the supply's pins down, ends the job and loses the fabric's clock with the others (R21, R31). -/
theorem State.mainLoss_spec {s : State} (hen : s.pins.mainPwrEn = true) (hgood : s.pins.mainPwrGood = true) :
    s.mainLoss.pins.mainPwrGood = false ∧ s.mainLoss.pins.mainPwrEn = false ∧
      s.mainLoss.flag pCLK CLK_STAT_FAB_LOCK = false ∧ s.mainLoss.krm.job = none := by
  unfold State.mainLoss
  rw [if_neg (by simp [hen, hgood])]
  extract_lets pins s₁ s₂ s₃ s₄ s₅ s₆ s₇ l mainP s₈
  have h₄ : samePower s₁ s₄ := by simp [s₄, s₃, s₂]
  have h₅ : s₅.pins = s₄.pins := by
    have h : samePower s₄.dropPorts s₄.dropPorts.linkDown.loseDriver := by simp
    exact (State.pins_loseMain _).trans (h.1.trans s₄.pins_dropPorts)
  have h₇ : samePower s₅ s₇ := by simp [s₇, s₆]
  have hkrm : s₆.krm = s₅.krm := foldl_eq State.krm mainLocks State.dropLock s₅ fun u f _ => u.krm_dropLock f
  have hjob₇ : s₇.krm.job = none := State.job_setStep ((congrArg Krm.job hkrm).trans (State.job_loseMain _)) 0
  have hfab₇ : s₇.flag pCLK CLK_STAT_FAB_LOCK = false :=
    ((stands_setStep (n := 0) s₆ 0).clkFlag rfl (by decide)).trans s₅.flag_mainLocks
  have hpins₇ : s₇.pins = s₁.pins := (h₇.1.trans h₅).trans h₄.1
  clear_value s₇
  have hpins : s₈.pins = s₁.pins := hpins₇
  have hjob : s₈.krm.job = none := hjob₇
  have hfab : s₈.flag pCLK CLK_STAT_FAB_LOCK = false := hfab₇
  clear_value s₈
  split
  · rw [s₈.pins_giveUp, s₈.krm_giveUp, (stands_giveUp s₈).flag rfl, hpins]
    exact ⟨rfl, rfl, hfab, hjob⟩
  · rw [hpins]
    exact ⟨rfl, rfl, hfab, hjob⟩

/-! ### The timebase -/

theorem timebaseWord_msix (x : Nat) (hx : x = pFFY + 0x104) : ¬msixWord x := by
  subst hx
  simp only [msixWord, pFFY]
  omega

theorem State.loseValid_spec (s : State) :
    s.loseValid.flag pFFY FFY_STAT_VALID = false ∧ s.loseValid.flag pFFY FFY_STAT_LOCKED = s.flag pFFY FFY_STAT_LOCKED ∧
      s.loseValid.ffy.counter = s.ffy.counter ∧ sameBytes s s.loseValid := by
  unfold State.loseValid
  extract_lets was t ffy u
  have hvalid : u.flag pFFY FFY_STAT_VALID = false := by
    show ((s.fset pFFY FFY_STAT_VALID 0).fset pFFY FFY_STAT_UPSTREAM_OK 0).flag pFFY FFY_STAT_VALID = false
    rw [State.flag_fset_apart _ pFFY FFY_STAT_UPSTREAM_OK FFY_STAT_VALID 0 rfl (by decide) (by decide)]
    exact State.flag_fset_same s pFFY 0 rfl (by decide)
  have hlocked : u.flag pFFY FFY_STAT_LOCKED = s.flag pFFY FFY_STAT_LOCKED := by
    show ((s.fset pFFY FFY_STAT_VALID 0).fset pFFY FFY_STAT_UPSTREAM_OK 0).flag pFFY FFY_STAT_LOCKED = _
    rw [State.flag_fset_apart _ pFFY FFY_STAT_UPSTREAM_OK FFY_STAT_LOCKED 0 rfl (by decide) (by decide),
      State.flag_fset_apart _ pFFY FFY_STAT_VALID FFY_STAT_LOCKED 0 rfl (by decide) (by decide)]
  have hcount : u.ffy.counter = s.ffy.counter := rfl
  have hbytes : sameBytes s u := sameBytes_of_eq rfl rfl rfl
  clear_value u
  have hraise : stands (· = pFFY + 0x104) u (u.raise pFFY 5) := stands_raise u pFFY 5 (by decide) timebaseWord_msix
  split
  · rw [hraise.flag rfl, hraise.flag rfl, State.raise_ffy]
    exact ⟨hvalid, hlocked, hcount, sameBytes_trans hbytes hraise.2⟩
  · exact ⟨hvalid, hlocked, hcount, hbytes⟩

theorem State.loseTimebase_spec {s : State} (h : s.flag pFFY FFY_STAT_LOCKED = true) :
    s.loseTimebase.flag pFFY FFY_STAT_LOCKED = false ∧ s.loseTimebase.flag pFFY FFY_STAT_VALID = false ∧
      s.loseTimebase.ffy.counter = s.ffy.counter ∧ sameBytes s s.loseTimebase := by
  have hloss (t : State) : stands (· = pFFY + 0x104) t t.lockLost :=
    stands_lockLost (by decide) (by decide) timebaseWord_msix t
  have hcount (t : State) : t.lockLost.ffy = t.ffy := by simp [State.lockLost]
  have heq : s.loseTimebase = ((s.fset pFFY FFY_STAT_LOCKED 0).lockLost).loseValid := if_pos h
  obtain ⟨hvalid, hlocked, hffy, hbytes⟩ := (s.fset pFFY FFY_STAT_LOCKED 0).lockLost.loseValid_spec
  rw [heq]
  have hfset : sameBytes s (s.fset pFFY FFY_STAT_LOCKED 0) := sameBytes_of_eq rfl rfl rfl
  refine ⟨?_, hvalid, ?_, sameBytes_trans (sameBytes_trans hfset (hloss _).2) hbytes⟩
  · rw [hlocked, (hloss _).flag rfl]
    exact State.flag_fset_same s pFFY 0 rfl (by decide)
  · rw [hffy, hcount, State.fset_ffy]

end Sys2Proof.Machine
end


section
/-! SUPPORT. Each PLL's loss and return (R23, R31, R225). -/

namespace Sys2Proof.Machine

theorem lockBit_ofClkStat (dom : ClkDomain) : (lockBit dom).ofClkStat := by cases dom <;> decide

theorem lockBit_apart {d e : ClkDomain} (h : d ≠ e) : Fld.apart (lockBit d) (lockBit e) := by
  revert h
  cases d <;> cases e <;> decide

theorem lockBit_off (d e : ClkDomain) : (lockBit e).off = (lockBit d).off :=
  (lockBit_ofClkStat e).1.trans (lockBit_ofClkStat d).1.symm

/-! ### Losses -/

theorem exec_pllLockLoss_of_unlocked {dom : ClkDomain} {s : State} (hdom : dom ≠ .tb)
    (h : s.flag pCLK (lockBit dom) = false) : exec (.pllLockLoss dom) s = .next s := by
  show execPllLockLoss dom s = _
  simp [execPllLockLoss, hdom, h]

section
variable {s : State}

theorem fwLost (h : s.flag pCLK CLK_STAT_FW_LOCK = true) :
    completes (.pllLockLoss .fw) s fun t => t.flag pCLK CLK_STAT_FW_LOCK = false ∧ t.flag pCLK CLK_STAT_FW_FALLBACK = true ∧
      sameBytes s t := by
  have hexec : exec (.pllLockLoss .fw) s =
      .next (((s.dropLock CLK_STAT_FW_LOCK).fset pCLK CLK_STAT_FW_FALLBACK 1).raise pCLK 4) := by
    show execPllLockLoss .fw s = _
    simp [execPllLockLoss, lockBit, h]
  have hraise (t : State) : stands (statWord 0) t (t.raise pCLK 4) := stands_raise_stat (by decide) t 4
  have hdrop : stands (fun _ => False) s (s.dropLock CLK_STAT_FW_LOCK) := stands_dropLock id id id (fun _ => False.elim) s
  refine ⟨_, hexec, ?_, ?_, sameBytes_trans (sameBytes_trans hdrop.2 (sameBytes_of_eq rfl rfl rfl)) (hraise _).2⟩
  · rw [(hraise _).clkFlag rfl (by decide),
      State.flag_fset_apart _ pCLK CLK_STAT_FW_FALLBACK CLK_STAT_FW_LOCK 1 rfl (by decide) (by decide)]
    exact State.flag_dropLock_same s (by decide)
  · rw [(hraise _).clkFlag rfl (by decide)]
    exact State.flag_fset_same _ pCLK 1 rfl (by decide)

theorem krmLost (h : s.flag pCLK CLK_STAT_KRM_LOCK = true) :
    completes (.pllLockLoss .krm) s fun t => t.flag pCLK CLK_STAT_KRM_LOCK = false ∧
      (∀ c, c < 36 → t.flag (pKRMCORE c) PAGE_STAT_FENCED = true) ∧
      ∀ j, s.krm.job = some j → j.phase ≠ .ended → t.ended 2 1 := by
  have hexec : exec (.pllLockLoss .krm) s = .next (s.dropLock CLK_STAT_KRM_LOCK).kermesClockLost := by
    show execPllLockLoss .krm s = _
    simp [execPllLockLoss, lockBit, h]
  refine ⟨_, hexec, ?_, fun c => State.fenced_kermesClockLost _, fun j hj => ?_⟩
  · rw [State.clkFlag_kermesClockLost _ (by decide)]
    exact State.flag_dropLock_same s (by decide)
  · exact State.ended_kermesClockLost (by rw [State.krm_dropLock, hj])

theorem fabLost (h : s.flag pCLK CLK_STAT_FAB_LOCK = true) (hen : s.pins.mainPwrEn = true)
    (hgood : s.pins.mainPwrGood = true) :
    completes (.pllLockLoss .fab) s fun t => t.pins.mainPwrGood = false ∧ t.pins.mainPwrEn = false ∧
      t.flag pCLK CLK_STAT_FAB_LOCK = false ∧ t.krm.job = none := by
  have hexec : exec (.pllLockLoss .fab) s = .next (s.dropLock CLK_STAT_FAB_LOCK).mainLoss := by
    show execPllLockLoss .fab s = _
    simp [execPllLockLoss, lockBit, h]
  have hpins : samePower s (s.dropLock CLK_STAT_FAB_LOCK) := by simp
  exact ⟨_, hexec, State.mainLoss_spec (by rw [hpins.1, hen]) (by rw [hpins.1, hgood])⟩

/-- A tier's channels are all fenced, and its lock shows lost. -/
theorem tierLost {pages : List Nat} (hl : ∀ b ∈ pages, b % 0x10000 = 0 ∧ b < pHST) {f : Fld} (hf : f.ofClkStat) (s : State) :
    ((s.dropLock f).fenceTier pages).flag pCLK f = false ∧
      (∀ b ∈ pages, ((s.dropLock f).fenceTier pages).flag b PAGE_STAT_FENCED = true) ∧
      sameBytes s ((s.dropLock f).fenceTier pages) := by
  have hdrop : stands (fun _ => False) s (s.dropLock f) := stands_dropLock id id id (fun _ => False.elim) s
  refine ⟨?_, fun b => State.fenced_fenceTier hl _, sameBytes_trans hdrop.2 (sameBytes_fenceTier hl _)⟩
  rw [State.clkFlag_fenceTier hl _ hf]
  exact State.flag_dropLock_same s hf

theorem ntLost (h : s.flag pCLK CLK_STAT_NT_LOCK = true) :
    completes (.pllLockLoss .nt) s fun t => t.flag pCLK CLK_STAT_NT_LOCK = false ∧
      (∀ k, k < 6 → t.flag (pNTRCHAN k) PAGE_STAT_FENCED = true) ∧ sameBytes s t := by
  have hexec : exec (.pllLockLoss .nt) s =
      .next ((s.dropLock CLK_STAT_NT_LOCK).fenceTier ((List.range 6).map pNTRCHAN)) := by
    show execPllLockLoss .nt s = _
    simp [execPllLockLoss, lockBit, h]
  obtain ⟨hlock, hfence, hbytes⟩ := tierLost (fun _ => nearPages) (f := CLK_STAT_NT_LOCK) (by decide) s
  exact ⟨_, hexec, hlock, fun k hk => hfence _ (List.mem_map_of_mem (List.mem_range.2 hk)), hbytes⟩

theorem bkLost (h : s.flag pCLK CLK_STAT_BK_LOCK = true) :
    completes (.pllLockLoss .bk) s fun t => t.flag pCLK CLK_STAT_BK_LOCK = false ∧
      (∀ k, k < 24 → t.flag (pBLKCHAN k) PAGE_STAT_FENCED = true) ∧ sameBytes s t := by
  have hexec : exec (.pllLockLoss .bk) s =
      .next ((s.dropLock CLK_STAT_BK_LOCK).fenceTier ((List.range 24).map pBLKCHAN)) := by
    show execPllLockLoss .bk s = _
    simp [execPllLockLoss, lockBit, h]
  obtain ⟨hlock, hfence, hbytes⟩ := tierLost (fun _ => bulkPages) (f := CLK_STAT_BK_LOCK) (by decide) s
  exact ⟨_, hexec, hlock, fun k hk => hfence _ (List.mem_map_of_mem (List.mem_range.2 hk)), hbytes⟩

theorem lnkLost (h : s.flag pCLK CLK_STAT_LNK_LOCK = true) :
    completes (.pllLockLoss .lnk) s fun t => t.flag pCLK CLK_STAT_LNK_LOCK = false ∧ t.flag pHST HST_LINK_UP = false ∧
      t.mainP.lnkLost = true ∧ t.hr.lost = true ∧ sameBytes s t := by
  have hexec : exec (.pllLockLoss .lnk) s =
      .next ({ s.dropLock CLK_STAT_LNK_LOCK with mainP.lnkLost := true } : State).linkDown.loseDriver := by
    show execPllLockLoss .lnk s = _
    simp [execPllLockLoss, lockBit, h]
  have hdrop : stands (fun _ => False) s (s.dropLock CLK_STAT_LNK_LOCK) := stands_dropLock id id id (fun _ => False.elim) s
  have hlock := State.flag_dropLock_same s (f := CLK_STAT_LNK_LOCK) (by decide)
  generalize s.dropLock CLK_STAT_LNK_LOCK = t at hexec hdrop hlock
  generalize hu : ({ t with mainP.lnkLost := true } : State) = u at hexec
  have hut : u.flag pCLK CLK_STAT_LNK_LOCK = false := hu ▸ hlock
  have hpow : u.mainP.lnkLost = true := hu ▸ rfl
  have hbytes : sameBytes s u := sameBytes_trans hdrop.2 (hu ▸ sameBytes_of_eq rfl rfl rfl)
  have hsame : samePower u u.linkDown.loseDriver := by simp
  have hdown := stands_linkDown u
  have hlose := stands_loseDriver u.linkDown
  refine ⟨_, hexec, ?_, ?_, ?_, State.lost_loseDriver _, sameBytes_trans hbytes (sameBytes_trans hdown.2 hlose.2)⟩
  · rw [hlose.flag (.inl rfl), hdown.flag rfl, hut]
  · rw [hlose.flag (.inr rfl), State.flag_linkDown]
  · rw [hsame.2, hpow]

/-! ### Returns -/

theorem fwBack (s : State) :
    completes (.pllLockReturn .fw) s fun t => t.flag pCLK CLK_STAT_FW_LOCK = true ∧
      t.flag pCLK CLK_STAT_FW_FALLBACK = false ∧ sameBytes s t := by
  refine ⟨(s.fset pCLK CLK_STAT_FW_LOCK 1).fset pCLK CLK_STAT_FW_FALLBACK 0, rfl, ?_, ?_, sameBytes_of_eq rfl rfl rfl⟩
  · rw [State.flag_fset_apart _ pCLK CLK_STAT_FW_FALLBACK CLK_STAT_FW_LOCK 0 rfl (by decide) (by decide)]
    exact State.flag_fset_same s pCLK 1 rfl (by decide)
  · exact State.flag_fset_same _ pCLK 0 rfl (by decide)

theorem lnkBack (h : s.pins.mainPwrGood = true) :
    completes (.pllLockReturn .lnk) s fun t => t.flag pCLK CLK_STAT_LNK_LOCK = true ∧ t.mainP.lnkLost = false ∧
      sameBytes s t := by
  have hexec : exec (.pllLockReturn .lnk) s = .next { s.fset pCLK CLK_STAT_LNK_LOCK 1 with mainP.lnkLost := false } :=
    congrArg Host.Outcome.next (if_pos h)
  have hset : (s.fset pCLK CLK_STAT_LNK_LOCK 1).flag pCLK CLK_STAT_LNK_LOCK = true :=
    State.flag_fset_same s pCLK 1 rfl (by decide)
  exact ⟨_, hexec, hset, rfl, sameBytes_of_eq rfl rfl rfl⟩

/-- A state that shows the locks as they are once `dom`'s is set shows that lock, and the others as they were. -/
theorem locks_of_set {t : State} (dom : ClkDomain)
    (h : ∀ e, t.flag pCLK (lockBit e) = (s.fset pCLK (lockBit dom) 1).flag pCLK (lockBit e)) :
    t.flag pCLK (lockBit dom) = true ∧ ∀ e, e ≠ dom → t.flag pCLK (lockBit e) = s.flag pCLK (lockBit e) := by
  obtain ⟨-, hw, hword⟩ := lockBit_ofClkStat dom
  refine ⟨(h dom).trans (State.flag_fset_same s pCLK 1 hw hword), fun e he => (h e).trans ?_⟩
  exact State.flag_fset_apart s pCLK _ _ 1 (lockBit_off dom e) (lockBit_ofClkStat e).2.2 (lockBit_apart he.symm)

theorem lockBack {dom : ClkDomain} (hgood : s.pins.mainPwrGood = true) (hdom : dom ≠ .tb) :
    completes (.pllLockReturn dom) s fun t => t.flag pCLK (lockBit dom) = true ∧
      ∀ e, e ≠ dom → t.flag pCLK (lockBit e) = s.flag pCLK (lockBit e) := by
  cases dom with
  | tb => exact absurd rfl hdom
  | fw =>
    refine ⟨_, rfl, locks_of_set .fw fun e => ?_⟩
    obtain ⟨hoff, -, hword⟩ := lockBit_ofClkStat e
    exact State.flag_fset_apart _ pCLK CLK_STAT_FW_FALLBACK (lockBit e) 0 hoff hword (by cases e <;> decide)
  | lnk => exact ⟨_, congrArg Host.Outcome.next (if_pos hgood), locks_of_set .lnk fun e => rfl⟩
  | krm => exact ⟨_, congrArg Host.Outcome.next (if_pos hgood), locks_of_set .krm fun e => rfl⟩
  | fab => exact ⟨_, congrArg Host.Outcome.next (if_pos hgood), locks_of_set .fab fun e => rfl⟩
  | nt => exact ⟨_, congrArg Host.Outcome.next (if_pos hgood), locks_of_set .nt fun e => rfl⟩
  | bk => exact ⟨_, congrArg Host.Outcome.next (if_pos hgood), locks_of_set .bk fun e => rfl⟩

theorem tbBack (h : s.flag pFFY FFY_STAT_LOCKED = false) :
    completes (.pllLockReturn .tb) s fun t => t.flag pFFY FFY_STAT_LOCKED = true ∧ t.ffy.counter = s.ffy.counter ∧
      sameBytes s t := by
  have hexec : exec (.pllLockReturn .tb) s =
      .next { s.fset pFFY FFY_STAT_LOCKED 1 with ffy.resync := s.ffy.role, ffy.everAccepted := false } :=
    congrArg Host.Outcome.next (if_neg (by simp [h]))
  have hset : (s.fset pFFY FFY_STAT_LOCKED 1).flag pFFY FFY_STAT_LOCKED = true :=
    State.flag_fset_same s pFFY 1 rfl (by decide)
  exact ⟨_, hexec, hset, rfl, sameBytes_of_eq rfl rfl rfl⟩

theorem exec_heartToggle_of_lnkLost (h : s.mainP.lnkLost = true) (port : Port) : exec (.heartToggle port) s = .next s := by
  show execHeartToggle port s = _
  simp [execHeartToggle, h]

end

/-- Settles O60, domain by domain: what each loss does to its lock, its pages and its job, and what each return shows. -/
theorem clocksLostAndBack : Obligations.ClocksLostAndBack := by
  unfold Obligations.ClocksLostAndBack
  refine ⟨fun dom s => exec_pllLockLoss_of_unlocked, fun s => ⟨fun h => ⟨_, rfl, State.loseTimebase_spec h⟩, tbBack, fwLost,
    fwBack s, krmLost, fabLost, ntLost, bkLost, lnkLost, lnkBack, exec_heartToggle_of_lnkLost⟩, fun dom s => lockBack⟩

end Sys2Proof.Machine
end


section
/-! SUPPORT. What the cores owe MAIN after its rise (R472, R473), and a rise that changes more of Kermes than its registers
(R192). -/

namespace Sys2Proof.Machine

/-! ### What the cores owe MAIN -/

/-- While the power core does not run, the profile waits, and the ports wait for the profile. -/
theorem State.dueDuties_of_halted {s : State} (hprof : s.mainP.profDue = true) (hrun : s.runs 0 = false) :
    s.dueDuties = s := by
  simp [State.dueDuties, hprof, hrun]

theorem State.mainP_profile (s : State) (l : List (Nat × BitVec 32 × BitVec 32)) :
    (l.foldl State.writeEntry12 s).mainP = s.mainP := by
  have h : samePower s (l.foldl State.writeEntry12 s) := by simp [State.writeEntry12]
  exact h.2

/-- Once the power core runs, the profile is owed no longer: no write of an entry or of a port makes it due again. -/
theorem State.profDue_dueDuties {s : State} (hgood : s.pins.mainPwrGood = true) (hprof : s.mainP.profDue = true)
    (hrun : s.runs 0 = true) : s.dueDuties.mainP.profDue = false := by
  unfold State.dueDuties
  extract_lets m t n
  have ht : t.mainP.profDue = false := by
    show (if _ then _ else _ : State).mainP.profDue = false
    rw [if_pos (by simp [hgood, hprof, hrun]), State.mainP_profile]
  clear_value t
  split
  · rw [foldl_eq State.mainP _ _ _ fun v p _ => ((samePower_writeReg v .fwl _ 4 _).2 samePower_self).2]
    exact ht
  · exact ht

/-! ### The rise -/

/-- MAIN is rising while no core runs, and the fuse map gives one spare row to bank 0 of core 0. -/
def rising : State := { State.reset with pins.mainPwrEn := true, fuses.spareMap := [⟨0, 0, 0⟩] }

set_option maxRecDepth 20000 in
/-- Power good counts the spare row in the bank (R192), which is state of Kermes. -/
theorem rising_mainPowerGood : ∃ t, exec (.mainPowerGood []) rising = .next t ∧ t.runs 0 = false ∧ t.mainP.profDue = true ∧
    t.krm.cores.length = 1 := ⟨_, rfl, by decide⟩

/-- Refutes O59: the power good of MAIN applies the fuse map (R192), so a bank with a fused spare row has a spare in use and
the state of Kermes is not what it was. -/
theorem not_startupAndResets : ¬ Obligations.StartupAndResets := by
  unfold Obligations.StartupAndResets
  rintro ⟨-, -, -, hrise, -⟩
  obtain ⟨-, -, hpower⟩ := hrise rising
  obtain ⟨t, hexec, u, hdue, hgood, hmainP, hkrm, -⟩ := (hpower rfl rfl).2 []
  obtain ⟨v, hv, hrun, hprof, hcores⟩ := rising_mainPowerGood
  obtain rfl : t = v := Host.Outcome.next.inj (hexec.symm.trans hv)
  have hprofU : u.mainP.profDue = true := by rw [hmainP]
  cases hrunU : u.runs 0 with
  | true =>
    rw [hdue, State.profDue_dueDuties hgood hprofU hrunU] at hprof
    cases hprof
  | false =>
    rw [hdue, State.dueDuties_of_halted hprofU hrunU, hkrm] at hcores
    cases hcores

end Sys2Proof.Machine
end


section
/-! SUPPORT. Writes of a page's header: which of them the gate lets through, and what each does (R41, R46-R48, R51). -/

namespace Sys2Proof.Machine

/-! ### The place of a header word -/

section
variable (page : BitVec 10) {off : Nat} (hoff : off < 0x100)
include hoff

theorem pageBase_div : (pageBase page + off) / 0x10000 = page.toNat := by unfold pageBase; omega

theorem pageBase_mod : (pageBase page + off) % 0x10000 = off := by unfold pageBase; omega

theorem pageBase_round : (pageBase page + off) / 0x10000 * 0x10000 = pageBase page := by rw [pageBase_div page hoff]; rfl

theorem not_msixWord_header : ¬msixWord (pageBase page + off) := by unfold msixWord pageBase; omega

theorem msixAt_header : msixAt (pageBase page + off) = false :=
  Bool.eq_false_iff.2 fun h => not_msixWord_header page hoff ((msixAt_iff _).1 h)

/-- A header write that passes the gate is the header's. -/
theorem regWrite_header {s : State} {cls : Cls} {v : Nat} (h : s.headerTakes cls (pageBase page + off) v) :
    ∃ p i, findPage page.toNat = some (p, i) ∧
      (regWrite s cls (pageBase page + off) 4 v).2 = writeHeader s p (pageBase page + off) v := by
  unfold State.headerTakes at h
  cases hp : findPage page.toNat with
  | none => simp [writeGate, pageBase_div page hoff, hp] at h
  | some q =>
    refine ⟨q.1, q.2, rfl, ?_⟩
    simp [regWrite, h, pageBase_div page hoff, pageBase_mod page hoff, msixAt_header page hoff, hp, hoff]

end

/-! ### The error registers and the causes -/

theorem writeHeader_irqSet (page : BitVec 10) (s : State) (p : PRow) (v : BitVec 32) :
    writeHeader s p (pageBase page + 0x20) v.toNat = s.setIrq (pageBase page) (s.rd (pageBase page + 0x18) ||| v) := by
  have hv : v.toNat % 0x100000000 = v.toNat := Nat.mod_eq_of_lt v.isLt
  simp [writeHeader, pageBase_round, pageBase_mod, State.raiseBits, IRQ_STAT, hv]

theorem writeHeader_errClr (page : BitVec 10) (s : State) (p : PRow) (v : BitVec 32) :
    writeHeader s p (pageBase page + 0x2C) v.toNat =
      if v.toNat % 2 = 1 then (s.wr (pageBase page + 0x24) 0).wr (pageBase page + 0x28) 0 else s := by
  simp [writeHeader, pageBase_round, pageBase_mod]

theorem writeHeader_accessMask (page : BitVec 10) (s : State) (p : PRow) (v : BitVec 32) :
    writeHeader s p (pageBase page + 0x30) v.toNat =
      (s.wr (pageBase page + 0x30) ((v &&& 0x7F#32) ||| 2#32)).seqUp (pageBase page) := by
  have hmask : BitVec.ofNat 32 (Nat.lor (v.toNat % 128) 2) = (v &&& 0x7F#32) ||| 2#32 := by
    refine BitVec.eq_of_toNat_eq ?_
    rw [BitVec.toNat_or, BitVec.toNat_and, BitVec.toNat_ofNat]
    show (v.toNat % 128 ||| 2) % _ = _ &&& (2 ^ 7 - 1) ||| 2
    rw [Nat.and_two_pow_sub_one_eq_mod]
    exact Nat.mod_eq_of_lt (Nat.or_lt_two_pow (n := 32) (by omega) (by omega))
  simp only [writeHeader, pageBase_round page (show 0x30 < 0x100 by omega), pageBase_mod page (show 0x30 < 0x100 by omega), hmask]
  rfl

/-! ### ACCESS_MASK (R51) -/

/-- On a page that is up, the class alone decides a write of ACCESS_MASK. -/
theorem writeGate_accessMask {page : BitVec 10} {s : State} {cls : Cls} (v : Nat) (hup : pageUp s page.toNat = true)
    (hr : s.reaches cls = true) :
    writeGate s cls (pageBase page + 0x30) 4 v =
      if cls = .fwp then (true, s) else (false, denied s cls (pageBase page + 0x30) 3) := by
  obtain ⟨p, i, hp, hpow⟩ := (pageUp_iff _ _).1 hup
  have halign : (pageBase page + 0x30) % 4 = 0 := by unfold pageBase; omega
  simp [writeGate, pageBase_div, pageBase_mod, hp, hr, hpow, msixAt_header, sizeOk, halign]

theorem exec_accessMaskWrite (cls : Cls) (page : BitVec 10) (value : BitVec 32) (s : State) :
    exec (.accessMaskWrite cls page value) s = .next (regWrite s cls (pageBase page + 0x30) 4 value.toNat).2 := rfl

theorem accessMaskWrite_fwp {page : BitVec 10} (value : BitVec 32) {s : State} (hup : pageUp s page.toNat = true) :
    completes (.accessMaskWrite .fwp page value) s fun t =>
      t.rd (pageBase page + 0x30) = (value &&& 0x7F#32) ||| 2#32 := by
  have hgate : s.headerTakes .fwp (pageBase page + 0x30) value.toNat := by
    rw [State.headerTakes, writeGate_accessMask _ hup rfl, if_pos rfl]
  obtain ⟨p, i, -, hw⟩ := regWrite_header page (by omega) hgate
  refine completes_of_next (exec_accessMaskWrite ..) ?_
  rw [hw, writeHeader_accessMask, State.rd_seqUp _ _ _ (by simp only [PAGE_SEQ]; omega), State.rd_wr_same]

/-- The address and the requester that a denial records (R65). -/
theorem denied_records_access (s : State) (cls : Cls) (a d : Nat) :
    (denied s cls a d).rd (pACC + ACC_DENY_ADDR.off) = BitVec.ofNat 32 a ∧
      (denied s cls a d).fget pACC ACC_DENY_INFO_REQ = clsCode cls := by
  have hraise (t : State) (x : Nat) (h : x = 0x10108 ∨ x = 0x1010C) : (t.raise pACC 3).rd x = t.rd x :=
    State.rd_raise _ _ _ _ (by simp only [pACC, IRQ_STAT]; omega) (by simp only [msixWord]; omega)
  have hcls : clsCode cls < 16 := by cases cls <;> decide
  unfold denied
  constructor
  · rw [hraise _ _ (by decide), State.rd_wr_ne _ _ _ _ (by decide), State.rd_wr_same]
  · unfold State.fget
    rw [hraise _ _ (by decide), State.rd_wr_same]
    simp only [Fld.get, ACC_DENY_INFO_REQ, BitVec.ushiftRight_zero, BitVec.toNat_ofNat]
    omega

theorem accessMaskWrite_denied {page : BitVec 10} (value : BitVec 32) {s : State} {cls : Cls}
    (hup : pageUp s page.toNat = true) (hcls : cls ≠ .fwp) (hr : s.reaches cls = true) :
    completes (.accessMaskWrite cls page value) s fun t =>
      t.rd (pageBase page + 0x30) = s.rd (pageBase page + 0x30) ∧
      t.fget pACC ACC_DENY_CNT = sat32 (s.fget pACC ACC_DENY_CNT + 1) ∧
      t.rd (pACC + ACC_DENY_ADDR.off) = BitVec.ofNat 32 (pageBase page + 0x30) ∧
      t.fget pACC ACC_DENY_INFO_REASON = 3 ∧ t.fget pACC ACC_DENY_INFO_REQ = clsCode cls := by
  have hw : (regWrite s cls (pageBase page + 0x30) 4 value.toNat).2 = denied s cls (pageBase page + 0x30) 3 := by
    simp [regWrite, writeGate_accessMask _ hup hr, hcls]
  have hmask : (denied s cls (pageBase page + 0x30) 3).rd (pageBase page + 0x30) = s.rd (pageBase page + 0x30) := by
    have hm := not_msixWord_header page (show 0x30 < 0x100 by omega)
    have hb : pageBase page % 0x10000 = 0 := by unfold pageBase; omega
    simp only [denied, pACC]
    rw [State.rd_raise _ _ _ _ (by simp only [IRQ_STAT]; omega) hm,
      State.rd_wr_ne _ _ _ _ (by simp only [ACC_DENY_INFO_REQ]; omega),
      State.rd_wr_ne _ _ _ _ (by simp only [ACC_DENY_ADDR]; omega), State.count,
      State.rd_fset_ne _ _ _ _ _ (by simp only [ACC_DENY_CNT]; omega)]
  obtain ⟨hcnt, hreason⟩ := State.fget_denied s cls (pageBase page + 0x30) 3 (by omega)
  obtain ⟨haddr, hreq⟩ := denied_records_access s cls (pageBase page + 0x30) 3
  refine completes_of_next (exec_accessMaskWrite ..) ?_
  rw [hw]
  exact ⟨hmask, hcnt, haddr, hreason, hreq⟩

/-- Settles O9: on a page that is up the class alone decides, FWP's write or a denial with reason 3. -/
theorem accessMaskIsFwps : Obligations.AccessMaskIsFwps := by
  intro page value s p i hp hmain
  have hup : pageUp s page.toNat = true := (pageUp_iff _ _).2 ⟨p, i, hp, by simpa using hmain⟩
  exact ⟨accessMaskWrite_fwp value hup, fun cls hcls hr => accessMaskWrite_denied value hup hcls hr⟩

end Sys2Proof.Machine
end

section
/-! SUPPORT. GEN_MODE and CLK_KRM_LIMIT: the words an accepted write leaves (R31, R61, R62, R200). -/

namespace Sys2Proof.Machine

/-! ### The word of GEN_MODE -/

theorem Fld.get_eq_div (f : Fld) (v : BitVec 32) : f.get v = v.toNat / 2 ^ f.lo % 2 ^ f.w := by
  rw [Fld.get, BitVec.toNat_ushiftRight, Nat.shiftRight_eq_div_pow]

/-- GEN_MODE after a write as a number: STRICT_ACT stays, STRICT_PEND says whether it differs from STRICT, and the four mode
bits are those written, but only while STRICT = 0. -/
theorem genModeWord_toNat (old : BitVec 32) (v : Nat) :
    (genModeWord old v).toNat = 512 * GEN_MODE_STRICT_ACT.get old +
      (if v % 2 = GEN_MODE_STRICT_ACT.get old then 0 else 256) + if v % 2 = 1 then 1 else v % 32 := by
  have hact : (old &&& 0x200#32).toNat = 512 * GEN_MODE_STRICT_ACT.get old := by
    rw [BitVec.toNat_and, show (0x200#32).toNat = 2 ^ 9 from rfl, Nat.and_two_pow, Nat.toNat_testBit, Fld.get_eq_div, mul_comm]
    rfl
  have hpend : (if v % 2 = GEN_MODE_STRICT_ACT.get old then old &&& 0x200#32 else (old &&& 0x200#32) ||| 0x100#32).toNat =
      512 * GEN_MODE_STRICT_ACT.get old + if v % 2 = GEN_MODE_STRICT_ACT.get old then 0 else 256 := by
    split
    · exact hact
    · rw [BitVec.toNat_or, hact]
      exact (Nat.two_pow_add_eq_or_of_lt (i := 9) (b := 256) (by omega) _).symm
  have hlow (p : BitVec 32) (k m : Nat) (hp : p.toNat = 256 * k) (hm : m < 32) :
      (p ||| BitVec.ofNat 32 m).toNat = p.toNat + m := by
    rw [BitVec.toNat_or, BitVec.toNat_ofNat, Nat.mod_eq_of_lt (by omega), hp]
    exact (Nat.two_pow_add_eq_or_of_lt (i := 8) (by omega) k).symm
  obtain ⟨k, hk⟩ : ∃ k, 512 * GEN_MODE_STRICT_ACT.get old + (if v % 2 = GEN_MODE_STRICT_ACT.get old then 0 else 256) = 256 * k := by
    split
    · exact ⟨2 * GEN_MODE_STRICT_ACT.get old, by omega⟩
    · exact ⟨2 * GEN_MODE_STRICT_ACT.get old + 1, by omega⟩
  rw [← hpend] at hk ⊢
  by_cases hv : v % 2 = 1
  · rw [if_pos hv]
    exact (congrArg BitVec.toNat (if_pos hv)).trans (hlow _ k 1 hk (by omega))
  · rw [if_neg hv]
    exact (congrArg BitVec.toNat (if_neg hv)).trans (hlow _ k (v % 32) hk (by omega))

theorem genModeWord_strict (old : BitVec 32) (v : Nat) : GEN_MODE_STRICT.get (genModeWord old v) = v % 2 := by
  rw [Fld.get_eq_div, genModeWord_toNat]
  simp only [GEN_MODE_STRICT]
  split <;> split <;> omega

theorem act_lt (w : BitVec 32) : GEN_MODE_STRICT_ACT.get w < 2 := Nat.mod_lt _ (by decide)

theorem genModeWord_act (old : BitVec 32) (v : Nat) : GEN_MODE_STRICT_ACT.get (genModeWord old v) = GEN_MODE_STRICT_ACT.get old := by
  have hlt := act_lt old
  rw [Fld.get_eq_div, genModeWord_toNat]
  simp only [show GEN_MODE_STRICT_ACT.lo = 9 from rfl, show GEN_MODE_STRICT_ACT.w = 1 from rfl]
  split <;> split <;> omega

theorem genModeWord_pend (old : BitVec 32) (v : Nat) :
    GEN_MODE_STRICT_PEND.get (genModeWord old v) = if v % 2 = GEN_MODE_STRICT_ACT.get old then 0 else 1 := by
  rw [Fld.get_eq_div, genModeWord_toNat]
  simp only [GEN_MODE_STRICT_PEND]
  split <;> split <;> omega

/-- The four mode bits. -/
theorem genModeWord_modes (old : BitVec 32) (v : Nat) :
    (genModeWord old v).toNat / 2 % 16 = if v % 2 = 1 then 0 else v / 2 % 16 := by
  rw [genModeWord_toNat]
  split <;> split <;> omega

/-! ### A write of GEN_MODE -/

/-- A write of GEN_MODE that the page takes. -/
theorem regWrite_genMode {s : State} {cls : Cls} {v : Nat} (hv : v < 0x100000000) (h : s.takes cls (pGEN + 0x104) v) :
    (regWrite s cls (pGEN + 0x104) 4 v).2 =
      ((s.unshadow cls (pGEN + 0x104)).wr (pGEN + 0x104) (genModeWord (s.rd (pGEN + 0x104)) v)).seqUp pGEN := by
  obtain ⟨p, i, r, e, hp, hr, hk, hpair, hcls⟩ : ∃ p i r e, findPage ((pGEN + 0x104) / 0x10000) = some (p, i) ∧
      findReg p.regs ((pGEN + 0x104) % 0x10000) = some (r, e, 0) ∧ p.kind = .gen ∧ r.pair = false ∧ r.percls = false :=
    ⟨_, _, _, _, rfl, rfl, rfl, rfl, rfl⟩
  obtain ⟨-, hw⟩ := regWrite_of_takes hp hr h
  unfold State.takes at h
  have hc : commitValue s cls r (pGEN + 0x104) 4 v 0 = some (pGEN + 0x104, v) := by
    simp [commitValue, hpair, Nat.mod_eq_of_lt hv]
  rw [hw] at h
  rw [hw, writeBlock_of_takes hc h]
  simp [hpair, putWord, oldWord, hcls, takeWord, hk, pGEN]
  rfl

/-- What such a write leaves: its word and PAGE_SEQ change, no other register does, nor what is in effect. -/
theorem regWrite_genMode_spec {s : State} {cls : Cls} {v : Nat} (hv : v < 0x100000000)
    (h : s.takes cls (pGEN + 0x104) v) :
    (regWrite s cls (pGEN + 0x104) 4 v).2.rd (pGEN + 0x104) = genModeWord (s.rd (pGEN + 0x104)) v ∧
      (regWrite s cls (pGEN + 0x104) 4 v).2.krm = s.krm ∧
      sameRegs (fun a => a = pGEN + 0x104 ∨ a = pGEN + 0x34) s (regWrite s cls (pGEN + 0x104) 4 v).2 := by
  rw [regWrite_genMode hv h]
  have hseq : PAGE_SEQ.off = 0x34 := rfl
  refine ⟨?_, rfl, fun x hx => ?_⟩
  · rw [State.rd_seqUp _ _ _ (by omega), State.rd_wr_same]
  · rw [State.rd_seqUp _ _ _ (by omega), State.rd_wr_ne _ _ _ _ (by omega)]
    rfl

theorem exec_strictSet (cls : Cls) (s : State) :
    exec (.strictSet cls) s = .next (regWrite s cls (pGEN + 0x104) 4 1).2 := rfl

theorem exec_strictClear (cls : Cls) (bits : BitVec 4) (s : State) :
    exec (.strictClear cls bits) s = .next (regWrite s cls (pGEN + 0x104) 4 (bits.toNat * 2)).2 := rfl

theorem exec_modeBitWrite (cls : Cls) (bits : BitVec 4) (s : State) :
    exec (.modeBitWrite cls bits) s =
      .next (regWrite s cls (pGEN + 0x104) 4 (bits.toNat * 2 + s.fget pGEN GEN_MODE_STRICT)).2 := rfl

theorem strictSet_spec (cls : Cls) (s : State) (h : s.takes cls (pGEN + 0x104) 1) :
    completes (.strictSet cls) s fun t =>
      t.fget pGEN GEN_MODE_STRICT = 1 ∧ (t.rd (pGEN + 0x104)).toNat / 2 % 16 = 0 ∧
      t.fget pGEN GEN_MODE_STRICT_PEND = 1 - s.fget pGEN GEN_MODE_STRICT_ACT ∧
      t.fget pGEN GEN_MODE_STRICT_ACT = s.fget pGEN GEN_MODE_STRICT_ACT ∧ t.krm = s.krm ∧
      sameRegs (fun a => a = pGEN + 0x104 ∨ a = pGEN + 0x34) s t := by
  obtain ⟨hw, hkrm, hregs⟩ := regWrite_genMode_spec (by omega) h
  refine completes_of_next (exec_strictSet cls s) ⟨?_, ?_, ?_, ?_, hkrm, hregs⟩
  · exact (congrArg GEN_MODE_STRICT.get hw).trans (genModeWord_strict _ 1)
  · rw [hw, genModeWord_modes]
    rfl
  · refine (congrArg GEN_MODE_STRICT_PEND.get hw).trans ((genModeWord_pend _ 1).trans ?_)
    have hlt : s.fget pGEN GEN_MODE_STRICT_ACT < 2 := act_lt _
    show (if 1 % 2 = s.fget pGEN GEN_MODE_STRICT_ACT then 0 else 1) = _
    split <;> omega
  · exact (congrArg GEN_MODE_STRICT_ACT.get hw).trans (genModeWord_act _ 1)

theorem strictClear_spec (cls : Cls) (bits : BitVec 4) (s : State) (h : s.takes cls (pGEN + 0x104) (bits.toNat * 2)) :
    completes (.strictClear cls bits) s fun t =>
      t.fget pGEN GEN_MODE_STRICT = 0 ∧ (t.rd (pGEN + 0x104)).toNat / 2 % 16 = bits.toNat ∧
      t.fget pGEN GEN_MODE_STRICT_PEND = s.fget pGEN GEN_MODE_STRICT_ACT ∧
      t.fget pGEN GEN_MODE_STRICT_ACT = s.fget pGEN GEN_MODE_STRICT_ACT ∧ t.krm = s.krm ∧
      sameRegs (fun a => a = pGEN + 0x104 ∨ a = pGEN + 0x34) s t := by
  have heven : bits.toNat * 2 % 2 = 0 := by omega
  obtain ⟨hw, hkrm, hregs⟩ := regWrite_genMode_spec (by omega) h
  refine completes_of_next (exec_strictClear cls bits s) ⟨?_, ?_, ?_, ?_, hkrm, hregs⟩
  · exact (congrArg GEN_MODE_STRICT.get hw).trans ((genModeWord_strict _ _).trans heven)
  · rw [hw, genModeWord_modes, if_neg (by omega)]
    omega
  · refine (congrArg GEN_MODE_STRICT_PEND.get hw).trans ((genModeWord_pend _ _).trans ?_)
    have hlt : s.fget pGEN GEN_MODE_STRICT_ACT < 2 := act_lt _
    rw [heven]
    show (if 0 = s.fget pGEN GEN_MODE_STRICT_ACT then 0 else 1) = _
    split <;> omega
  · exact (congrArg GEN_MODE_STRICT_ACT.get hw).trans (genModeWord_act _ _)

theorem modeBitWrite_spec (cls : Cls) (bits : BitVec 4) (s : State)
    (h : s.takes cls (pGEN + 0x104) (bits.toNat * 2 + s.fget pGEN GEN_MODE_STRICT)) :
    completes (.modeBitWrite cls bits) s fun t =>
      t.fget pGEN GEN_MODE_STRICT = s.fget pGEN GEN_MODE_STRICT ∧
      (t.rd (pGEN + 0x104)).toNat / 2 % 16 = (if s.fget pGEN GEN_MODE_STRICT = 1 then 0 else bits.toNat) ∧
      t.krm = s.krm ∧ sameRegs (fun a => a = pGEN + 0x104 ∨ a = pGEN + 0x34) s t := by
  have hlt : s.fget pGEN GEN_MODE_STRICT < 2 := Nat.mod_lt _ (by decide)
  have hstrict : (bits.toNat * 2 + s.fget pGEN GEN_MODE_STRICT) % 2 = s.fget pGEN GEN_MODE_STRICT := by omega
  obtain ⟨hw, hkrm, hregs⟩ := regWrite_genMode_spec (by omega) h
  refine completes_of_next (exec_modeBitWrite cls bits s) ⟨?_, ?_, hkrm, hregs⟩
  · exact (congrArg GEN_MODE_STRICT.get hw).trans ((genModeWord_strict _ _).trans hstrict)
  · rw [hw, genModeWord_modes, hstrict]
    split <;> omega

/-! ### The idle boundary (R200-R202) -/

/-- What a rotation of the seed shows in WIT's page: the retiring seed, and one epoch more (R239). -/
def State.showEpoch (s : State) : State :=
  let t := (List.range 8).foldl (fun t i => t.fset pWIT (seedWord WIT_PREV_SEED i) (fieldLe s.qw.seed (4 * i) 4)) s
  t.fset pWIT WIT_EPOCH (t.fget pWIT WIT_EPOCH + 1)

/-- The new seed of a rotation, entropy or the host's, in its place. -/
def State.reseed (s : State) : State :=
  let q := if s.krm.mode.entropySeed then s.entropy else (s.seedBytes WIT_HSEED, s)
  { q.2 with qw.seed := q.1 }

theorem State.rotateSeed_eq (s : State) : s.rotateSeed = s.showEpoch.reseed := rfl

theorem State.regs_reseed (s : State) : s.reseed.regs = s.regs := by
  unfold State.reseed
  split <;> rfl

theorem State.krm_reseed (s : State) : s.reseed.krm = s.krm := by
  unfold State.reseed
  split <;> rfl

/-- A rotation of the seed touches WIT's page alone among the registers. -/
theorem State.rd_rotateSeed (s : State) {x : Nat} (hx : ¬onPage pWIT x) : s.rotateSeed.rd x = s.rd x := by
  rw [not_onPage] at hx
  have hset (u : State) (f : Fld) (v : Nat) (hf : f.off < 0x10000) : (u.fset pWIT f v).rd x = u.rd x :=
    State.rd_fset_ne _ _ _ _ _ (by omega)
  rw [State.rotateSeed_eq, State.rd_eq _ _ _ (State.regs_reseed _), State.showEpoch, hset _ _ _ (by decide)]
  refine foldl_eq (State.rd · x) _ _ s fun v i hi => hset _ _ _ ?_
  have := List.mem_range.1 hi
  simp only [seedWord, Fld.nth, WIT_PREV_SEED]
  omega

theorem State.krm_rotateSeed (s : State) : s.rotateSeed.krm = s.krm := by
  rw [State.rotateSeed_eq, State.krm_reseed, State.showEpoch, State.fset_krm]
  exact foldl_eq State.krm _ _ s fun v i _ => State.fset_krm ..

/-- The registers that show the mode in effect (R62, R200). -/
def State.showMode (s : State) (m : EffMode) : State :=
  ((s.fset pGEN GEN_MODE_STRICT_ACT (bit m.strict)).fset pGEN GEN_MODE_STRICT_PEND 0).fset pBLKGLOB TG_REORDER_REORDER
    (bit m.bkReorder)

theorem State.showMode_shows (s : State) (m : EffMode) :
    (s.showMode m).fget pGEN GEN_MODE_STRICT_PEND = 0 ∧ (s.showMode m).fget pGEN GEN_MODE_STRICT_ACT = bit m.strict ∧
      (s.showMode m).fget pBLKGLOB TG_REORDER_REORDER = bit m.bkReorder := by
  have hbit (b : Bool) : bit b % 2 ^ 1 = bit b := by cases b <;> rfl
  unfold State.showMode
  refine ⟨?_, ?_, ?_⟩
  · rw [State.fget_fset_ne _ _ _ _ _ _ (by decide), State.fget_fset_same _ _ _ _ (by decide)]
    rfl
  · rw [State.fget_fset_ne _ _ _ _ _ _ (by decide), State.fget_fset_apart _ _ GEN_MODE_STRICT_PEND GEN_MODE_STRICT_ACT _ rfl (by decide) (by decide),
      State.fget_fset_same _ _ _ _ (by decide)]
    exact hbit _
  · rw [State.fget_fset_same _ _ _ _ (by decide)]
    exact hbit _

/-- At the boundary GEN_MODE comes into effect, and a change of ENTROPY_SEED rotates the seed. -/
theorem exec_deviceIdleBoundary {s : State} (hjob : s.krm.job = none) (hheld : s.qw.heldR = none) :
    exec .deviceIdleBoundary s = .next (if s.modeBits.entropySeed != s.krm.mode.entropySeed
      then (State.showMode { s with krm.mode := s.modeBits } s.modeBits).rotateSeed
      else State.showMode { s with krm.mode := s.modeBits } s.modeBits) := by
  show execDeviceIdleBoundary s = _
  unfold execDeviceIdleBoundary
  rw [if_neg (by simp [hjob, hheld])]
  rfl

theorem deviceIdleBoundary_spec (s : State) (hjob : s.krm.job = none) (hheld : s.qw.heldR = none) :
    completes .deviceIdleBoundary s fun t =>
      t.krm.mode = s.modeBits ∧ t.fget pGEN GEN_MODE_STRICT_PEND = 0 ∧
      t.fget pGEN GEN_MODE_STRICT_ACT = bit s.modeBits.strict ∧
      t.fget pBLKGLOB TG_REORDER_REORDER = bit s.modeBits.bkReorder ∧ t.krm.cores = s.krm.cores := by
  refine completes_of_next (exec_deviceIdleBoundary hjob hheld) ?_
  obtain ⟨hpend, hact, hreorder⟩ := State.showMode_shows { s with krm.mode := s.modeBits } s.modeBits
  split
  · have hfget (u : State) (b : Nat) (f : Fld) (h : ¬onPage pWIT (b + f.off)) : u.rotateSeed.fget b f = u.fget b f :=
      congrArg f.get (u.rd_rotateSeed h)
    have hgen : ¬onPage pWIT (pGEN + 0x104) := by unfold onPage; decide
    have hblk : ¬onPage pWIT (pBLKGLOB + 0x10C) := by unfold onPage; decide
    rw [State.krm_rotateSeed, hfget _ _ _ hgen, hfget _ _ _ hgen, hfget _ _ _ hblk]
    exact ⟨rfl, hpend, hact, hreorder, rfl⟩
  · exact ⟨rfl, hpend, hact, hreorder, rfl⟩

/-! ### CLK_KRM_LIMIT (R31) -/

theorem exec_clkKrmLimitWrite (cls : Cls) (value : BitVec 32) (s : State) :
    exec (.clkKrmLimitWrite cls value) s = .next (regWrite s cls (pCLK + 0x104) 4 value.toNat).2 := rfl

/-- The fields of CLK_KRM_LIMIT: LIMIT alone. -/
theorem writeWord_limit (old : BitVec 32) (v : Nat) :
    writeWord [⟨0, 6, .rw, 2, none⟩] old v = CLK_KRM_LIMIT_LIMIT.put old v := by
  have hmask : coverMask [⟨0, 6, .rw, 2, none⟩] = 63 := by decide
  have hrw : [(⟨0, 6, .rw, 2, none⟩ : FRow)].filter FRow.writable = [⟨0, 6, .rw, 2, none⟩] := by decide
  rw [writeWord, hmask, hrw]
  simp [FRow.write, FRow.val, Fld.put, Fld.mask, CLK_KRM_LIMIT_LIMIT]

theorem clkKrmLimitWrite_spec (cls : Cls) (value : BitVec 32) (s : State) (h : s.takes cls (pCLK + 0x104) value.toNat) :
    completes (.clkKrmLimitWrite cls value) s fun t =>
      t.fget pCLK CLK_KRM_LIMIT_LIMIT = value.toNat % 64 ∧ sameRegs (fun a => a = pCLK + 0x104 ∨ a = pCLK + 0x34) s t := by
  obtain ⟨p, i, r, e, hp, hr, hk, hpair, hcls, hf⟩ : ∃ p i r e, findPage ((pCLK + 0x104) / 0x10000) = some (p, i) ∧
      findReg p.regs ((pCLK + 0x104) % 0x10000) = some (r, e, 0) ∧ p.kind = .clk ∧ r.pair = false ∧ r.percls = false ∧
      r.fields = [⟨0, 6, .rw, 2, none⟩] := ⟨_, _, _, _, rfl, rfl, rfl, rfl, rfl, rfl⟩
  obtain ⟨-, hw⟩ := regWrite_word hp hr hpair hcls (by rw [hk]; decide) value.isLt h
  have hseq : PAGE_SEQ.off = 0x34 := rfl
  have hbase : (pCLK + 0x104) / 0x10000 * 0x10000 = pCLK := rfl
  refine completes_of_next (exec_clkKrmLimitWrite cls value s) ?_
  rw [hw, hbase, hf, writeWord_limit]
  refine ⟨?_, fun x hx => ?_⟩
  · show CLK_KRM_LIMIT_LIMIT.get (State.rd _ (pCLK + 0x104)) = _
    rw [State.rd_seqUp _ _ _ (by omega), State.rd_wr_same]
    exact Fld.get_put_same _ _ _ (by decide)
  · rw [State.rd_seqUp _ _ _ (by omega), State.rd_wr_ne _ _ _ _ (by omega)]
    rfl

/-- Settles O13: each write of GEN_MODE by the word it leaves, the boundary, and the limit. -/
theorem modesAndLimits : Obligations.ModesAndLimits :=
  ⟨strictSet_spec, strictClear_spec, modeBitWrite_spec, deviceIdleBoundary_spec, clkKrmLimitWrite_spec⟩

end Sys2Proof.Machine
end

section
/-! SUPPORT. PAGE_CTRL and PAGE_STAT of every page stand through a receipt's verdict: the fabric's writes, the findings of the
decoders, the pins of the journal and the interrupts of the queues touch other words (R46, R198, R247). -/

namespace Sys2Proof.Machine

theorem State.rd_branch {c : Prop} [Decidable c] {s t u : State} {x : Nat} (ht : t.rd x = s.rd x) (hu : u.rd x = s.rd x) :
    (if c then t else u).rd x = s.rd x := by split <;> assumption

theorem State.rd_foldl {β : Type} (l : List β) (f : State → β → State) (s : State) {x : Nat}
    (h : ∀ u e, (f u e).rd x = u.rd x) : (l.foldl f s).rd x = s.rd x := foldl_eq (State.rd · x) l f s fun u e _ => h u e

/-- PAGE_CTRL or PAGE_STAT of a page. -/
def ctrlWord (x : Nat) : Prop := x % 0x10000 = 0x10 ∨ x % 0x10000 = 0x14

/-- A register of a page beyond PAGE_STAT and below the MSI-X words. -/
abbrev Fld.beyond (f : Fld) : Prop := 0x18 ≤ f.off ∧ f.off < 0x7F00

theorem tierPage_page (l : Nat) : tierPage l % 0x10000 = 0 := by
  unfold tierPage pNTRCHAN pBLKCHAN
  split <;> omega

theorem tierGlobal_page (b : Nat) : tierGlobal b % 0x10000 = 0 := by
  unfold tierGlobal
  split <;> rfl

/-- The source of a tier's finding. -/
theorem tierSource_lt (l : Nat) : (if inNear l then 1 else 2) < 4 := by split <;> omega

section
variable {x : Nat} (hx : ctrlWord x)
include hx

theorem ctrlWord.ne {b off : Nat} (hb : b % 0x10000 = 0) (hoff : 0x18 ≤ off ∧ off < 0x10000) : x ≠ b + off := by
  unfold ctrlWord at hx
  omega

theorem ctrlWord.not_msixWord : ¬msixWord x := by
  unfold ctrlWord at hx
  unfold msixWord
  omega

/-! ### The register operations -/

section
variable {b : Nat} (hb : b % 0x10000 = 0) {f : Fld} (hf : f.beyond)
include hb

theorem State.ctrl_raise (s : State) (i : Nat) : (s.raise b i).rd x = s.rd x :=
  State.rd_raise _ _ _ _ (hx.ne hb (by decide)) hx.not_msixWord

include hf

theorem State.ctrl_fset (s : State) (v : Nat) : (s.fset b f v).rd x = s.rd x :=
  State.rd_fset_ne _ _ _ _ _ (hx.ne hb (by omega))

theorem State.ctrl_count (s : State) (n : Nat) : (s.count b f n).rd x = s.rd x := State.ctrl_fset hx hb hf s _

theorem State.ctrl_pset (s : State) (v : Nat) : (s.pset b f v).rd x = s.rd x := by
  rw [State.pset, State.rd_wr_ne _ _ _ _ (by rw [add_assoc]; exact hx.ne hb (by omega)),
    State.rd_wr_ne _ _ _ _ (hx.ne hb (by omega))]

end

theorem State.ctrl_sendMsix (s : State) (v : Nat) (hv : v < 0x800) : (s.sendMsix v).rd x = s.rd x :=
  State.rd_sendMsix _ _ _ hv hx.not_msixWord

/-! ### The findings of the decoders -/

theorem State.ctrl_lastEvent (s : State) (addr source typ pos syn : Nat) :
    (s.lastEvent addr source typ pos syn).rd x = s.rd x := by
  rw [State.lastEvent, State.rd_wr_ne _ _ _ _ (hx.ne (by decide) (by decide)), State.ctrl_pset hx (by decide) (by decide)]

theorem State.ctrl_corrected (s : State) {source : Nat} (h : source < 4) : (s.corrected source).rd x = s.rd x := by
  have hf : (ceCount source).beyond := by simp only [Fld.beyond, ceCount, INT_CE_CNT]; omega
  rw [State.corrected, State.ctrl_raise hx rfl, State.ctrl_count hx rfl hf]

theorem State.ctrl_uncorrectable (s : State) {source : Nat} (addr typ pos syn : Nat) (h : source < 4) :
    (s.uncorrectable source addr typ pos syn).rd x = s.rd x := by
  have hf : (ueCount source).beyond := by simp only [Fld.beyond, ueCount, INT_UE_CNT]; omega
  rw [State.uncorrectable, State.ctrl_raise hx rfl, State.ctrl_lastEvent hx, State.ctrl_count hx rfl hf]

theorem State.ctrl_seeBlock (s : State) (b : Nat) (queue : Bool) : (s.seeBlock b queue).rd x = s.rd x := by
  unfold State.seeBlock
  extract_lets u c addr bank row read k wb n stale t v
  split
  · rfl
  · split
    · exact State.rd_branch rfl (State.ctrl_corrected hx _ (by omega))
    · exact State.ctrl_uncorrectable hx _ _ _ _ _ (by omega)
    · rfl

theorem State.ctrl_raiseTier (s : State) (l i : Nat) : (s.raiseTier (tierPage l) i).rd x = s.rd x := by
  rw [State.raiseTier, State.ctrl_raise hx (tierGlobal_page _), State.ctrl_raise hx (tierPage_page l)]

theorem State.ctrl_lineLost (s : State) (l typ pos cw : Nat) : (s.lineLost l typ pos cw).rd x = s.rd x := by
  unfold State.lineLost
  extract_lets st t u
  rw [State.ctrl_uncorrectable hx _ _ _ _ _ (tierSource_lt l), State.ctrl_raiseTier hx,
    State.ctrl_count hx (tierPage_page l) (by decide)]
  rfl

theorem State.ctrl_seeLine (s : State) (l : Nat) : (s.seeLine l).rd x = s.rd x := by
  have hpg := tierPage_page l
  unfold State.seeLine
  extract_lets u pg sub st
  split
  · rfl
  · split
    · rfl
    · exact State.ctrl_lineLost hx ..
    · split
      · rfl
      · extract_lets p n t integ v w
        have hw : w.rd x = s.rd x := by
          unfold w
          rw [State.ctrl_corrected hx _ (tierSource_lt l), State.ctrl_raiseTier hx, State.ctrl_count hx hpg (by decide)]
          rfl
        clear_value w
        refine State.rd_branch ?_ hw
        rw [State.ctrl_raiseTier hx, State.ctrl_fset hx hpg (by decide), State.ctrl_fset hx hpg (by decide),
          State.ctrl_fset hx hpg (by decide), hw]

theorem State.ctrl_see (s : State) (a n : Nat) : (s.see a n).rd x = s.rd x :=
  State.rd_branch (State.rd_foldl _ _ _ fun u b => State.ctrl_seeBlock hx u b true)
    (State.rd_foldl _ _ _ fun u l => State.ctrl_seeLine hx u l)

theorem State.ctrl_noteRange (s : State) (a n : Nat) : (s.noteRange a n).rd x = s.rd x := by
  unfold State.noteRange
  split
  · exact State.ctrl_lastEvent hx ..
  · split
    · exact State.ctrl_lastEvent hx ..
    · rfl

/-! ### A write through the fabric -/

theorem State.ctrl_writeLine (s : State) (l a : Nat) (bs : List Byte) (poisoned : Bool) :
    (s.writeLine l a bs poisoned).rd x = s.rd x := by
  unfold State.writeLine
  extract_lets t u v w y
  have hu : u.rd x = s.rd x := (State.rd_foldl _ State.settle _ fun _ _ => rfl).trans (State.ctrl_see hx s a _)
  have hv : v.rd x = s.rd x := hu
  have hw : w.rd x = s.rd x := State.rd_branch hv hv
  clear_value w
  refine State.rd_branch ((State.rd_foldl _ _ _ fun z g => ?_).trans hw) hw
  exact State.rd_branch rfl rfl

theorem State.ctrl_watchWrite (s : State) (a n : Nat) : (s.watchWrite a n).rd x = s.rd x := by
  refine State.rd_foldl _ _ _ fun u e => State.rd_branch ?_ rfl
  refine State.rd_branch ?_ rfl
  rw [State.ctrl_raise hx rfl]
  exact State.rd_branch (State.ctrl_writeLine hx ..) rfl

theorem State.ctrl_fabWrite (s : State) (a : Nat) (bs : List Byte) (poisoned : Bool) :
    (s.fabWrite a bs poisoned).rd x = s.rd x := by
  rw [State.fabWrite, State.ctrl_watchWrite hx]
  exact (State.rd_foldl _ _ _ fun t l => State.rd_branch (State.ctrl_writeLine hx ..) rfl).trans (State.ctrl_noteRange hx ..)

/-! ### The verdict of a receipt -/

theorem State.ctrl_queueIrq (s : State) (q : Nat) : (s.queueIrq q).rd x = s.rd x :=
  State.rd_branch (State.ctrl_sendMsix hx _ _ (Nat.mod_lt _ (by decide))) rfl

theorem State.ctrl_vdoneUp (s : State) (q : Nat) : (s.vdoneUp q).rd x = s.rd x := by
  unfold State.vdoneUp
  extract_lets k n hit v arm t u
  have hu : u.rd x = s.rd x := State.rd_branch (State.ctrl_queueIrq hx t q) rfl
  clear_value u
  exact State.rd_branch ((State.ctrl_queueIrq hx u q).trans hu) hu

theorem State.ctrl_vdoneRun (s : State) (q fuel : Nat) : (s.vdoneRun q fuel).rd x = s.rd x := by
  induction fuel generalizing s with
  | zero => rfl
  | succ n ih => exact State.rd_branch ((ih _).trans (State.ctrl_vdoneUp hx s q)) rfl

theorem State.ctrl_putVerdict (s : State) (q : Nat) (seq : BitVec 64) (bytes : List Byte) :
    (s.putVerdict q seq bytes).rd x = s.rd x := by
  unfold State.putVerdict
  extract_lets k t u
  have hu : u.rd x = s.rd x := (State.ctrl_vdoneRun hx _ q _).trans (State.ctrl_fabWrite hx s _ bytes false)
  clear_value u
  exact State.rd_branch rfl (State.rd_branch hu hu)

theorem State.ctrl_drainRpl (s : State) (fuel : Nat) : (s.drainRpl fuel).rd x = s.rd x := by
  induction fuel generalizing s with
  | zero => rfl
  | succ n ih =>
    unfold State.drainRpl
    split
    · rfl
    · refine State.rd_branch rfl ?_
      rw [ih, State.ctrl_raise hx rfl, State.ctrl_fset hx rfl (by decide)]
      exact State.ctrl_fabWrite hx ..

theorem State.ctrl_setPin (s : State) (i : Nat) : (s.setPin i).rd x = s.rd x := by
  rw [State.setPin, State.showFree, State.ctrl_pset hx rfl (by decide), State.jrnWrite, State.ctrl_fabWrite hx,
    State.ctrl_fset hx rfl (by decide)]
  rfl

theorem State.ctrl_mmPin (s : State) (i : Nat) : (s.mmPin i).rd x = s.rd x :=
  State.rd_branch (State.ctrl_fset hx rfl (by decide) s 1) (State.rd_branch rfl (State.ctrl_setPin hx s i))

theorem State.ctrl_noteVerdict (s : State) (r : WitReceipt) (v : Verdict) : (s.noteVerdict r v).rd x = s.rd x := by
  unfold State.noteVerdict
  extract_lets t u
  have hu : u.rd x = s.rd x := by
    unfold u t
    rw [State.ctrl_raise hx rfl, State.ctrl_pset hx rfl (by decide), State.ctrl_fset hx rfl (by decide),
      State.ctrl_count hx rfl (by decide)]
  clear_value u
  refine State.rd_branch (State.ctrl_count hx rfl (by decide) s 1) (State.rd_branch ?_ (State.rd_branch rfl ?_))
  · split
    · exact State.rd_branch ((State.ctrl_mmPin hx u _).trans hu) hu
    · exact hu
  · rw [State.ctrl_raise hx rfl, State.ctrl_count hx rfl (by decide)]

theorem State.ctrl_verdict (s : State) (r : WitReceipt) (v : Verdict) : (s.verdict r v).rd x = s.rd x :=
  have hnote := State.ctrl_noteVerdict hx s r v
  State.rd_branch ((State.ctrl_drainRpl hx _ _).trans hnote) ((State.ctrl_putVerdict hx ..).trans hnote)

end

end Sys2Proof.Machine
end

section
/-! SUPPORT. A soft reset word by word: which words it clears, which it keeps and which it takes from fuses and flash (R43). -/

namespace Sys2Proof.Machine

/-! ### Dropping keys of a table -/

theorem Tab.find?_filter {α : Type} (t : Tab α) (keep : Nat → Bool) (k : Nat) :
    Tab.find? (t.filter fun e => keep e.1) k = if keep k then Tab.find? t k else none := by
  induction t with
  | nil => simp [Tab.find?]
  | cons e t ih =>
    by_cases hk : e.1 = k
    · cases hkeep : keep k <;> simp_all [Tab.find?]
    · cases hkeep : keep e.1 <;> simp_all [Tab.find?]

/-! ### Putting back what a word held -/

/-- A field put back from `w` leaves a field that reads as in `w`, and makes its own read so. -/
theorem Fld.get_put_get (f g : Fld) (v w : BitVec 32) (h : g = f ∨ g.get v = g.get w) :
    g.get (f.put v (f.get w)) = g.get w := by
  refine Nat.eq_of_testBit_eq fun i => ?_
  rw [Fld.get_testBit, Fld.get_testBit]
  by_cases hi : i < g.w <;> by_cases h32 : g.lo + i < 32
  · rw [Fld.put_getLsbD _ _ _ _ h32]
    split
    · next hin => simp [Fld.get_testBit, show g.lo + i - f.lo < f.w by omega, show f.lo + (g.lo + i - f.lo) = g.lo + i by omega]
    · next hout =>
      obtain rfl | hv := h
      · omega
      · simpa only [Fld.get_testBit] using congrArg (Nat.testBit · i) hv
  · simp [BitVec.getLsbD_of_ge _ _ (Nat.le_of_not_lt h32)]
  · simp [hi]
  · simp [hi]

theorem State.fget_fset_fget (s t : State) (b : Nat) (f g : Fld) (h : g = f ∨ s.fget b g = t.fget b g) :
    (s.fset b f (t.fget b f)).fget b g = t.fget b g := by
  by_cases ho : g.off = f.off
  · simp only [State.fget, State.fset, ho, State.rd_wr_same] at h ⊢
    exact Fld.get_put_get _ _ _ _ h
  · rw [State.fget_fset_ne _ _ _ _ _ _ (by omega)]
    obtain rfl | h := h
    · exact absurd rfl ho
    · exact h

/-- Fields put back one after another all read as they did. -/
theorem State.fget_foldl_fset (t s : State) (b : Nat) (l : List (Nat × Fld)) {g : Fld}
    (h : (∃ e ∈ l, e.2 = g) ∨ s.fget b g = t.fget b g) :
    (l.foldl (fun s e => s.fset b e.2 (t.fget b e.2)) s).fget b g = t.fget b g := by
  induction l generalizing s with
  | nil => exact h.resolve_left (by simp)
  | cons a l ih =>
    refine ih _ ?_
    obtain ⟨e, he, rfl⟩ | h := h
    · obtain rfl | he := List.mem_cons.1 he
      · exact .inr (State.fget_fset_fget _ _ _ _ _ (.inl rfl))
      · exact .inl ⟨e, he, rfl⟩
    · exact .inr (State.fget_fset_fget _ _ _ _ _ (.inr h))

/-! ### The places of the words that a soft reset keeps -/

set_option maxRecDepth 20000 in
theorem keptFields_place : ∀ e ∈ keptFields, e.1 % 0x10000 = 0 ∧ 0x100 ≤ e.2.off ∧ e.2.off < 0x7F00 := by decide

set_option maxRecDepth 20000 in
/-- No word of a quadrant is kept. -/
theorem keptFields_not_quad : ∀ e ∈ keptFields, e.1 < pKRMQUAD 0 ∨ pKRMQUAD 3 < e.1 := by decide

set_option maxRecDepth 20000 in
/-- Of the security page's words, neither the operating seconds nor the nonce is kept. -/
theorem keptFields_sep : ∀ e ∈ keptFields, e.1 = pSEP → e.2 = SEP_NEXT ∨ e.2 = SEP_CYCLES := by decide

/-- A header word is not among those whose reset value varies. -/
theorem not_variedWord_header (page : BitVec 10) {off : Nat} (hoff : off < 0x100) : ¬variedWord (pageBase page + off) := by
  have hmod : (pageBase page + off) % 0x10000 = off := by unfold pageBase; omega
  rintro (⟨e, he, h⟩ | ⟨q, hq, h⟩ | ⟨c, hc, h⟩ | h | h | h)
  · have := keptFields_place e he
    omega
  · unfold pKRMQUAD at h
    omega
  · unfold pKRMCORE at h
    omega
  · unfold pKRMGLOB at h
    omega
  · simp only [pSEP, SEP_OPSEC] at h
    omega
  · simp only [pSEP, SEP_NONCE] at h
    omega

/-! ### Clearing the block -/

/-- The page's block registers, copies and latches dropped and its causes and error words zero (R43). -/
def State.blockCleared (s : State) (base : Nat) : State :=
  ((State.wr { s with
    regs := s.regs.filter fun e => !(blockKey base e.1)
    copies := s.copies.filter fun e => !(blockKey base e.1)
    hiLatch := s.hiLatch.filter fun e => !(blockKey base e.1)
    loShadow := s.loShadow.filter fun e => !(blockKey base e.1) } (base + 0x18) 0).wr (base + 0x24) 0).wr (base + 0x28) 0

theorem softReset_eq (s : State) (base : Nat) : softReset s base =
    (((s.dynamicReset base (s.blockCleared base)).fset base PAGE_STAT_BUSY 1).fset base PAGE_CTRL_SOFT_RESET 1).seqUp base := rfl

theorem State.rd_blockCleared (s : State) (base a : Nat) (h18 : a ≠ base + 0x18) (h24 : a ≠ base + 0x24) (h28 : a ≠ base + 0x28) :
    (s.blockCleared base).rd a = if blockKey base a then regReset a else s.rd a := by
  rw [State.blockCleared, State.rd_wr_ne _ _ _ _ h28, State.rd_wr_ne _ _ _ _ h24, State.rd_wr_ne _ _ _ _ h18]
  simp only [State.rd, Tab.get]
  rw [Tab.find?_filter s.regs fun k => !blockKey base k]
  cases blockKey base a <;> rfl

theorem State.rd_blockCleared_zero (s : State) (base : Nat) : (s.blockCleared base).rd (base + 0x18) = 0 ∧
    (s.blockCleared base).rd (base + 0x24) = 0 ∧ (s.blockCleared base).rd (base + 0x28) = 0 := by
  refine ⟨?_, ?_, State.rd_wr_same ..⟩
  · rw [State.blockCleared, State.rd_wr_ne _ _ _ _ (by omega), State.rd_wr_ne _ _ _ _ (by omega), State.rd_wr_same]
  · rw [State.blockCleared, State.rd_wr_ne _ _ _ _ (by omega), State.rd_wr_same]

section
variable (page : BitVec 10)

theorem pageBase_page : pageBase page % 0x10000 = 0 := by unfold pageBase; omega

theorem State.rd_blockCleared_block (s : State) {a : Nat} (hlo : pageBase page + 0x100 ≤ a) (hhi : a < pageBase page + 0x7F00) :
    (s.blockCleared (pageBase page)).rd a = regReset a := by
  have hkey : blockKey (pageBase page) a = true := by
    have hb : pageBase page ≤ 0x3FF0000 := by unfold pageBase; omega
    have ha : a % 0x4000000 = a := Nat.mod_eq_of_lt (by omega)
    simp only [blockKey, ha, Bool.and_eq_true, decide_eq_true_eq]
    exact ⟨hlo, by split <;> omega⟩
  rw [State.rd_blockCleared _ _ _ (by omega) (by omega) (by omega), if_pos hkey]

theorem State.rd_blockCleared_header (s : State) {off : Nat} (hoff : off < 0x100) (hne : off ≠ 0x18 ∧ off ≠ 0x24 ∧ off ≠ 0x28) :
    (s.blockCleared (pageBase page)).rd (pageBase page + off) = s.rd (pageBase page + off) := by
  have hkey : ¬blockKey (pageBase page) (pageBase page + off) = true := by
    have hb : pageBase page ≤ 0x3FF0000 := by unfold pageBase; omega
    simp only [blockKey, Bool.and_eq_true, decide_eq_true_eq]
    omega
  rw [State.rd_blockCleared _ _ _ (by omega) (by omega) (by omega), if_neg hkey]

end

/-! ### The words of fuses and flash -/

section
variable {base : Nat} (hb : base % 0x10000 = 0)
include hb

theorem State.rd_fusedPage (s : State) {a : Nat} (h : ¬variedWord a) : (s.fusedPage base).rd a = s.rd a := by
  simp only [variedWord, not_or, not_exists, not_and] at h
  obtain ⟨-, hquad, hcore, hglob, -, -⟩ := h
  unfold State.fusedPage
  split
  · next hq =>
    simp only [Bool.and_eq_true, decide_eq_true_eq] at hq
    simp only [pKRMQUAD] at hq
    have hne := hquad ((base - pKRMQUAD 0) / 0x10000) (by unfold pKRMQUAD; omega)
    simp only [pKRMQUAD] at hne
    rw [State.rd_fset_ne _ _ _ _ _ (by simp only [KQ_SPARE_SPARE]; omega),
      State.rd_wr_ne _ _ _ _ (by simp only [KQ_MAP_SLOT0]; omega)]
  · split
    · next hc =>
      simp only [Bool.and_eq_true, decide_eq_true_eq] at hc
      simp only [pKRMCORE] at hc
      have hne := hcore ((base - pKRMCORE 0) / 0x10000) (by unfold pKRMCORE; omega)
      simp only [pKRMCORE] at hne
      rw [State.rd_fset_ne _ _ _ _ _ (by simp only [KCORE_STAT_SPARE]; omega),
        State.rd_fset_ne _ _ _ _ _ (by simp only [KCORE_STAT_LOGICAL]; omega)]
    · split
      · next hg =>
        rw [State.pset, State.rd_wr_ne _ _ _ _ (by simp only [KG_ACT_MAP]; omega),
          State.rd_wr_ne _ _ _ _ (by simp only [KG_ACT_MAP]; omega)]
      · rfl

/-- A word whose reset value is constant stands through what fuses, boot and flash put back. -/
theorem State.rd_dynamicReset (t s : State) {a : Nat} (h : ¬variedWord a) : (t.dynamicReset base s).rd a = s.rd a := by
  have hfold : ((keptFields.filter fun e => e.1 = base).foldl (fun s e => s.fset base e.2 (t.fget base e.2))
      (s.fusedPage base)).rd a = s.rd a := by
    rw [← State.rd_fusedPage hb s h]
    refine foldl_eq (State.rd · a) _ _ _ fun u e he => State.rd_fset_ne _ _ _ _ _ ?_
    simp only [List.mem_filter, decide_eq_true_eq] at he
    exact fun ha => h (.inl ⟨e, he.1, he.2 ▸ ha⟩)
  simp only [variedWord, not_or] at h
  obtain ⟨-, -, -, -, hsec, hnonce⟩ := h
  unfold State.dynamicReset
  split
  · rw [State.pset, State.rd_wr_ne _ _ _ _ (by omega), State.rd_wr_ne _ _ _ _ (by omega), State.pset,
      State.rd_wr_ne _ _ _ _ (by omega), State.rd_wr_ne _ _ _ _ (by omega)]
    exact hfold
  · split
    · exact hfold
    · split <;> exact hfold

end

theorem State.fget_dynamicReset_kept (t s : State) {e : Nat × Fld} (he : e ∈ keptFields) :
    (t.dynamicReset e.1 s).fget e.1 e.2 = t.fget e.1 e.2 := by
  have hfold : ((keptFields.filter fun x => x.1 = e.1).foldl (fun s x => s.fset e.1 x.2 (t.fget e.1 x.2))
      (s.fusedPage e.1)).fget e.1 e.2 = t.fget e.1 e.2 :=
    State.fget_foldl_fset _ _ _ _ (.inl ⟨e, by simpa using he, rfl⟩)
  unfold State.dynamicReset
  split
  · next hsep =>
    have hoff : e.2.off = 0x110 ∨ e.2.off = 0x120 :=
      (keptFields_sep e he hsep).imp (congrArg Fld.off) (congrArg Fld.off)
    rw [State.fget, State.pset, State.rd_wr_ne _ _ _ _ (by simp only [SEP_NONCE]; omega),
      State.rd_wr_ne _ _ _ _ (by simp only [SEP_NONCE]; omega), State.pset,
      State.rd_wr_ne _ _ _ _ (by simp only [SEP_OPSEC]; omega), State.rd_wr_ne _ _ _ _ (by simp only [SEP_OPSEC]; omega)]
    exact hfold
  · split
    · exact hfold
    · split <;> exact hfold

/-- A quadrant's map and spare are those of the fuses. -/
theorem State.dynamicReset_quad (t s : State) {q : Nat} (hq : q < 4) :
    (t.dynamicReset (pKRMQUAD q) s).rd (pKRMQUAD q + 0x100) = s.fuses.kqMap.getD q 0 ∧
      (t.dynamicReset (pKRMQUAD q) s).fget (pKRMQUAD q) KQ_SPARE_SPARE = (s.fuses.kqSpare.getD q 8).toNat := by
  have hnil : (keptFields.filter fun e => e.1 = pKRMQUAD q) = [] := by
    refine List.filter_eq_nil_iff.2 fun e he => ?_
    have := keptFields_not_quad e he
    rw [decide_eq_true_eq]
    unfold pKRMQUAD at this ⊢
    omega
  have hpage : (pKRMQUAD 0 ≤ pKRMQUAD q && pKRMQUAD q ≤ pKRMQUAD 3) = true := by
    simp only [Bool.and_eq_true, decide_eq_true_eq]
    unfold pKRMQUAD
    omega
  have hidx : (pKRMQUAD q - pKRMQUAD 0) / 0x10000 = q := by unfold pKRMQUAD; omega
  have hdyn : t.dynamicReset (pKRMQUAD q) s = (s.wr (pKRMQUAD q + KQ_MAP_SLOT0.off) (s.fuses.kqMap.getD q 0)).fset
      (pKRMQUAD q) KQ_SPARE_SPARE (s.fuses.kqSpare.getD q 8).toNat := by
    rw [State.dynamicReset, hnil, if_neg (by unfold pKRMQUAD pSEP; omega), if_neg (by unfold pKRMQUAD pFFY; omega),
      if_neg (by unfold pKRMQUAD pHST; omega), List.foldl_nil, State.fusedPage, if_pos hpage, hidx]
  rw [hdyn]
  constructor
  · rw [State.rd_fset_ne _ _ _ _ _ (by simp only [KQ_SPARE_SPARE]; omega)]
    exact State.rd_wr_same ..
  · rw [State.fget_fset_same _ _ _ _ (by decide)]
    exact Nat.mod_eq_of_lt (BitVec.isLt _)

/-- A pair just written. -/
theorem State.pget_pset_same (s : State) (b : Nat) (f : Fld) (x : Nat) : (s.pset b f x).pget b f = x % 2 ^ 64 := by
  rw [State.pget, State.pset, State.rd_wr_same, State.rd_wr_ne _ _ _ _ (by omega), State.rd_wr_same, BitVec.toNat_ofNat,
    BitVec.toNat_ofNat]
  omega

theorem State.pget_dynamicReset_opsec (t s : State) : (t.dynamicReset pSEP s).pget pSEP SEP_OPSEC = s.sep.cjOp % 2 ^ 64 := by
  have hbehind : ((keptFields.filter fun e => e.1 = pSEP).foldl (fun s e => s.fset pSEP e.2 (t.fget pSEP e.2))
      (s.fusedPage pSEP)).behind = s.behind :=
    (foldl_eq State.behind _ _ _ fun _ _ _ => State.behind_fset ..).trans (State.behind_fusedPage ..)
  have hsep := congrArg State.sep hbehind
  have hapart (u : State) (x : Nat) : (u.pset pSEP SEP_NONCE x).pget pSEP SEP_OPSEC = u.pget pSEP SEP_OPSEC := by
    simp only [State.pget, State.pset]
    rw [State.rd_wr_ne _ _ _ _ (by decide), State.rd_wr_ne _ _ _ _ (by decide), State.rd_wr_ne _ _ _ _ (by decide),
      State.rd_wr_ne _ _ _ _ (by decide)]
  rw [State.dynamicReset, if_pos rfl, hapart, State.pget_pset_same]
  exact congrArg (Sepia.cjOp · % 2 ^ 64) hsep

/-! ### The soft reset (R43) -/

/-- Beyond the header, the words are those that the page's block puts. -/
theorem State.rd_softReset_beyond (s : State) (base : Nat) {a : Nat} (h : base + 0x100 ≤ a) :
    (softReset s base).rd a = (s.dynamicReset base (s.blockCleared base)).rd a := by
  rw [softReset_eq, State.rd_seqUp _ _ _ (by simp only [PAGE_SEQ]; omega),
    State.rd_fset_ne _ _ _ _ _ (by simp only [PAGE_CTRL_SOFT_RESET]; omega),
    State.rd_fset_ne _ _ _ _ _ (by simp only [PAGE_STAT_BUSY]; omega)]

theorem State.flag_softReset (s : State) (base : Nat) :
    (softReset s base).flag base PAGE_STAT_BUSY = true ∧ (softReset s base).flag base PAGE_CTRL_SOFT_RESET = true := by
  rw [softReset_eq, State.flag_eq_fget, State.flag_eq_fget, State.seqUp,
    State.fget_fset_ne _ _ _ PAGE_SEQ PAGE_STAT_BUSY _ (by simp only [PAGE_SEQ, PAGE_STAT_BUSY]; omega),
    State.fget_fset_ne _ _ _ PAGE_SEQ PAGE_CTRL_SOFT_RESET _ (by simp only [PAGE_SEQ, PAGE_CTRL_SOFT_RESET]; omega),
    State.fget_fset_ne _ _ _ PAGE_CTRL_SOFT_RESET PAGE_STAT_BUSY _ (by simp only [PAGE_CTRL_SOFT_RESET, PAGE_STAT_BUSY]; omega),
    State.fget_fset_same _ _ _ _ (by decide), State.fget_fset_same _ _ _ _ (by decide)]
  decide

theorem State.fget_softReset_kept (s : State) {e : Nat × Fld} (he : e ∈ keptFields) :
    (softReset s e.1).fget e.1 e.2 = s.fget e.1 e.2 := by
  obtain ⟨-, hoff, -⟩ := keptFields_place e he
  rw [State.fget, State.rd_softReset_beyond _ _ (by omega)]
  exact State.fget_dynamicReset_kept _ _ he

theorem State.softReset_quad (s : State) {q : Nat} (hq : q < 4) :
    (softReset s (pKRMQUAD q)).rd (pKRMQUAD q + 0x100) = s.fuses.kqMap.getD q 0 ∧
      (softReset s (pKRMQUAD q)).fget (pKRMQUAD q) KQ_SPARE_SPARE = (s.fuses.kqSpare.getD q 8).toNat := by
  rw [State.fget, State.rd_softReset_beyond _ _ (by omega),
    State.rd_softReset_beyond _ _ (by simp only [KQ_SPARE_SPARE]; omega)]
  exact State.dynamicReset_quad s (s.blockCleared (pKRMQUAD q)) hq

theorem State.pget_softReset_opsec (s : State) : (softReset s pSEP).pget pSEP SEP_OPSEC = s.sep.cjOp % 2 ^ 64 := by
  rw [State.pget, State.rd_softReset_beyond _ _ (by decide), State.rd_softReset_beyond _ _ (by decide)]
  exact State.pget_dynamicReset_opsec s (s.blockCleared pSEP)

theorem State.softReset_counter (s : State) : (softReset s pFFY).ffy.counter = 0 := by
  have hdyn (t u : State) : (t.dynamicReset pFFY u).ffy.counter = 0 := by
    rw [State.dynamicReset, if_neg (by decide), if_pos rfl]
  exact hdyn s (s.blockCleared pFFY)

theorem State.softReset_hbAge (s : State) : (softReset s pHST).hr.hbAgeNs = 65535000000 := by
  have hdyn (t u : State) : (t.dynamicReset pHST u).hr.hbAgeNs = 65535000000 := by
    rw [State.dynamicReset, if_neg (by decide), if_neg (by decide), if_pos rfl]
  exact hdyn s (s.blockCleared pHST)

/-- HST_HB_AGE is the age in milliseconds, at most 0xFFFF, while the page is powered. -/
theorem readWord_hbAge (s : State) (cls : Cls) (hup : s.pins.mainPwrGood = true) :
    readWord s cls (pHST + 0x114) = BitVec.ofNat 32 (min 0xFFFF (s.hr.hbAgeNs / 1000000)) := by
  have hpage : findPage ((pHST + 0x114) / 0x10000) = some (⟨.hst, 0x78, 1, 0x601, 0xB, true, false, 0x0, rowsHST⟩, 0) := rfl
  have hoff : (pHST + 0x114) % 0x10000 = 0x114 := rfl
  simp [readWord, hpage, hoff, hup]

theorem State.softReset_hst (s : State) :
    readWord (softReset s pHST) .fwp (pHST + 0x114) = 0xFFFF ∨ s.pins.mainPwrGood = false := by
  cases hup : s.pins.mainPwrGood with
  | false => exact .inr rfl
  | true =>
    have hpins := congrArg State.pins (State.behind_softReset s pHST)
    have hpwr : (softReset s pHST).pins.mainPwrGood = true := (congrArg Pins.mainPwrGood hpins).trans hup
    rw [readWord_hbAge _ _ hpwr, State.softReset_hbAge]
    exact .inl rfl

section
variable (page : BitVec 10)

theorem State.rd_softReset_block (s : State) {a : Nat} (hlo : pageBase page + 0x100 ≤ a) (hhi : a < pageBase page + 0x7F00)
    (hv : ¬variedWord a) : (softReset s (pageBase page)).rd a = regReset a := by
  rw [State.rd_softReset_beyond _ _ hlo, State.rd_dynamicReset (pageBase_page page) _ _ hv,
    State.rd_blockCleared_block page s hlo hhi]

/-- The header words other than PAGE_CTRL, PAGE_STAT and PAGE_SEQ. -/
theorem State.rd_softReset_header (s : State) {off : Nat} (hoff : off < 0x100) (hne : off ≠ 0x10 ∧ off ≠ 0x14 ∧ off ≠ 0x34) :
    (softReset s (pageBase page)).rd (pageBase page + off) = (s.blockCleared (pageBase page)).rd (pageBase page + off) := by
  rw [softReset_eq, State.rd_seqUp _ _ _ (by simp only [PAGE_SEQ]; omega),
    State.rd_fset_ne _ _ _ _ _ (by simp only [PAGE_CTRL_SOFT_RESET]; omega),
    State.rd_fset_ne _ _ _ _ _ (by simp only [PAGE_STAT_BUSY]; omega),
    State.rd_dynamicReset (pageBase_page page) _ _ (not_variedWord_header page hoff)]

theorem State.rd_softReset_zero (s : State) : (softReset s (pageBase page)).rd (pageBase page + 0x18) = 0 ∧
    (softReset s (pageBase page)).rd (pageBase page + 0x24) = 0 ∧
    (softReset s (pageBase page)).rd (pageBase page + 0x28) = 0 := by
  rw [State.rd_softReset_header page s (by decide) (by decide), State.rd_softReset_header page s (by decide) (by decide),
    State.rd_softReset_header page s (by decide) (by decide)]
  exact State.rd_blockCleared_zero s (pageBase page)

theorem State.rd_softReset_kept (s : State) {off : Nat} (h : off = 0x1C ∨ off = 0x30) :
    (softReset s (pageBase page)).rd (pageBase page + off) = s.rd (pageBase page + off) := by
  rw [State.rd_softReset_header page s (by omega) (by omega), State.rd_blockCleared_header page s (by omega) (by omega)]

theorem State.fget_softReset_enable (s : State) :
    (softReset s (pageBase page)).fget (pageBase page) PAGE_CTRL_ENABLE = s.fget (pageBase page) PAGE_CTRL_ENABLE := by
  have hctrl : pageBase page + PAGE_CTRL_ENABLE.off = pageBase page + 0x10 := rfl
  rw [softReset_eq, State.seqUp, State.fget_fset_ne _ _ _ _ _ _ (by simp only [PAGE_SEQ, PAGE_CTRL_ENABLE]; omega),
    State.fget_fset_apart _ _ PAGE_CTRL_SOFT_RESET PAGE_CTRL_ENABLE _ rfl (by decide) (by decide),
    State.fget_fset_ne _ _ _ _ _ _ (by simp only [PAGE_STAT_BUSY, PAGE_CTRL_ENABLE]; omega), State.fget, State.fget, hctrl,
    State.rd_dynamicReset (pageBase_page page) _ _ (not_variedWord_header page (by decide)),
    State.rd_blockCleared_header page s (by decide) (by decide)]

theorem State.rd_softReset_seq (s : State) :
    (softReset s (pageBase page)).rd (pageBase page + 0x34) = s.rd (pageBase page + 0x34) + 1 := by
  rw [softReset_eq, State.rd_seqUp_same, State.rd_fset_ne _ _ _ _ _ (by simp only [PAGE_CTRL_SOFT_RESET]; omega),
    State.rd_fset_ne _ _ _ _ _ (by simp only [PAGE_STAT_BUSY]; omega),
    State.rd_dynamicReset (pageBase_page page) _ _ (not_variedWord_header page (by decide)),
    State.rd_blockCleared_header page s (by decide) (by decide)]

end

end Sys2Proof.Machine
end

section
/-! SUPPORT. What SOFT_RESET, IRQ_SET and ERR_CLR leave on a page whose header takes the write (R43, R46, R47). -/

namespace Sys2Proof.Machine

section
variable (page : BitVec 10)

/-- A write of SOFT_RESET starts the soft reset of a page that has one, with ENABLE as written. -/
theorem writeHeader_softReset (s : State) (p : PRow) (v : Nat) (hp : p.nosr = false) (hv : v / 2 % 2 = 1) :
    writeHeader s p (pageBase page + 0x10) v = softReset (s.fset (pageBase page) PAGE_CTRL_ENABLE (v % 2)) (pageBase page) := by
  simp [writeHeader, pageBase_round, pageBase_mod, hp, hv]

theorem State.fget_fset_enable (s : State) :
    (s.fset (pageBase page) PAGE_CTRL_ENABLE ((2 + s.fget (pageBase page) PAGE_CTRL_ENABLE) % 2)).fget (pageBase page)
      PAGE_CTRL_ENABLE = s.fget (pageBase page) PAGE_CTRL_ENABLE := by
  have hen : s.fget (pageBase page) PAGE_CTRL_ENABLE < 2 := Nat.mod_lt _ (by decide)
  rw [State.fget_fset_same _ _ _ _ (by decide)]
  simp only [PAGE_CTRL_ENABLE] at hen ⊢
  omega

/-- The words of IRQ_STAT and the page's interrupt input after IRQ_STAT is set. -/
theorem State.rd_setIrq_same (s : State) (v : BitVec 32) :
    (s.setIrq (pageBase page) v).rd (pageBase page + 0x18) = v := by
  have hm := not_msixWord_header page (show 0x18 < 0x100 by omega)
  have hv : pageVector (pageBase page) < 0x800 := by have := pageVector_lt (pageBase page); omega
  have hwr := State.rd_wr_same s (pageBase page + 0x18) v
  unfold State.setIrq
  exact State.rd_branch ((State.rd_sendMsix _ _ _ hv hm).trans (hwr.trans hwr.symm)) rfl |>.trans hwr

theorem State.irqInput_setIrq (s : State) (v : BitVec 32) :
    (s.setIrq (pageBase page) v).irqInput page.toNat = (v &&& s.rd (pageBase page + 0x1C) != 0) := by
  have hen := State.rd_setIrq s (pageBase page) (pageBase page + 0x1C) v (by simp only [IRQ_STAT]; omega)
    (not_msixWord_header page (by omega))
  show ((s.setIrq (pageBase page) v).rd (pageBase page + 0x18) &&& (s.setIrq (pageBase page) v).rd (pageBase page + 0x1C) != 0) = _
  rw [State.rd_setIrq_same, hen]

end

theorem exec_irqSet (cls : Cls) (page : BitVec 10) (value : BitVec 32) (s : State) :
    exec (.irqSet cls page value) s = .next (regWrite s cls (pageBase page + 0x20) 4 value.toNat).2 := rfl

theorem exec_errClr (cls : Cls) (page : BitVec 10) (value : BitVec 32) (s : State) :
    exec (.errClr cls page value) s = .next (regWrite s cls (pageBase page + 0x2C) 4 value.toNat).2 := rfl

theorem exec_softReset (cls : Cls) (page : BitVec 10) (s : State) :
    exec (.softReset cls page) s =
      .next (regWrite s cls (pageBase page + 0x10) 4 (2 + s.fget (pageBase page) PAGE_CTRL_ENABLE)).2 := rfl

theorem irqSet_completes {cls : Cls} {page : BitVec 10} {value : BitVec 32} {s : State}
    (h : s.headerTakes cls (pageBase page + 0x20) value.toNat) :
    completes (.irqSet cls page value) s fun t =>
      t.rd (pageBase page + 0x18) = s.rd (pageBase page + 0x18) ||| value ∧
      t.irqInput page.toNat = ((s.rd (pageBase page + 0x18) ||| value) &&& s.rd (pageBase page + 0x1C) != 0) ∧
      sameRegs (fun a => a = pageBase page + 0x18 ∨ msixWord a) s t ∧ sameBytes s t := by
  obtain ⟨p, i, -, hw⟩ := regWrite_header page (by omega) h
  refine completes_of_next (exec_irqSet ..) ?_
  rw [hw, writeHeader_irqSet]
  refine ⟨State.rd_setIrq_same .., State.irqInput_setIrq .., fun a ha => ?_, sameBytes_of_behind (State.behind_setIrq ..)⟩
  rw [not_or] at ha
  exact State.rd_setIrq _ _ _ _ ha.1 ha.2

theorem errClr_completes {cls : Cls} {page : BitVec 10} {value : BitVec 32} {s : State}
    (h : s.headerTakes cls (pageBase page + 0x2C) value.toNat) :
    completes (.errClr cls page value) s fun t =>
      (value.getLsbD 0 = true → t.rd (pageBase page + 0x24) = 0 ∧ t.rd (pageBase page + 0x28) = 0) ∧
      (value.getLsbD 0 = false → t = s) ∧
      sameRegs (fun a => a = pageBase page + 0x24 ∨ a = pageBase page + 0x28) s t := by
  obtain ⟨p, i, -, hw⟩ := regWrite_header page (by omega) h
  have hbit : value.getLsbD 0 = decide (value.toNat % 2 = 1) := Nat.testBit_zero ..
  refine completes_of_next (exec_errClr ..) ?_
  rw [hw, writeHeader_errClr, hbit]
  by_cases hclear : value.toNat % 2 = 1
  · rw [if_pos hclear]
    refine ⟨fun _ => ⟨?_, State.rd_wr_same ..⟩, by simp [hclear], fun a ha => ?_⟩
    · rw [State.rd_wr_ne _ _ _ _ (by omega), State.rd_wr_same]
    · rw [not_or] at ha
      rw [State.rd_wr_ne _ _ _ _ ha.2, State.rd_wr_ne _ _ _ _ ha.1]
  · rw [if_neg hclear]
    exact ⟨by simp [hclear], fun _ => rfl, fun _ _ => rfl⟩

/-- What a soft reset leaves of a state whose ENABLE was written back. -/
theorem softReset_completes {cls : Cls} {page : BitVec 10} {s : State} {p : PRow} {i : Nat}
    (hp : findPage page.toNat = some (p, i)) (hsr : p.nosr = false)
    (h : s.headerTakes cls (pageBase page + 0x10) (2 + s.fget (pageBase page) PAGE_CTRL_ENABLE)) :
    completes (.softReset cls page) s fun t =>
      t.flag (pageBase page) PAGE_STAT_BUSY = true ∧ t.flag (pageBase page) PAGE_CTRL_SOFT_RESET = true ∧
      (∀ a, pageBase page + 0x100 ≤ a → a < pageBase page + 0x7F00 → ¬variedWord a → t.rd a = regReset a) ∧
      (∀ e ∈ keptFields, e.1 = pageBase page → t.fget e.1 e.2 = s.fget e.1 e.2) ∧
      (∀ q, q < 4 → pageBase page = pKRMQUAD q → t.rd (pKRMQUAD q + 0x100) = s.fuses.kqMap.getD q 0 ∧
        t.fget (pKRMQUAD q) KQ_SPARE_SPARE = (s.fuses.kqSpare.getD q 8).toNat) ∧
      (pageBase page = pSEP → t.pget pSEP SEP_OPSEC = s.sep.cjOp % 2 ^ 64) ∧
      (pageBase page = pFFY → t.ffy.counter = 0) ∧
      (pageBase page = pHST → readWord t .fwp (pHST + 0x114) = 0xFFFF ∨ s.pins.mainPwrGood = false) ∧
      t.rd (pageBase page + 0x18) = 0 ∧ t.rd (pageBase page + 0x24) = 0 ∧ t.rd (pageBase page + 0x28) = 0 ∧
      t.fget (pageBase page) PAGE_CTRL_ENABLE = s.fget (pageBase page) PAGE_CTRL_ENABLE ∧
      t.rd (pageBase page + 0x1C) = s.rd (pageBase page + 0x1C) ∧
      t.rd (pageBase page + 0x30) = s.rd (pageBase page + 0x30) ∧
      t.rd (pageBase page + 0x34) = s.rd (pageBase page + 0x34) + 1 := by
  obtain ⟨p', i', hp', hw⟩ := regWrite_header page (by omega) h
  obtain rfl : p = p' := by simp_all
  refine completes_of_next (exec_softReset ..) ?_
  have hlt : s.fget (pageBase page) PAGE_CTRL_ENABLE < 2 := Nat.mod_lt _ (by decide)
  rw [hw, writeHeader_softReset page s p _ hsr (by omega)]
  have hen := State.fget_fset_enable page s
  have hrd {a : Nat} (ha : a ≠ pageBase page + 0x10) := State.rd_fset_ne s (pageBase page) PAGE_CTRL_ENABLE
    ((2 + s.fget (pageBase page) PAGE_CTRL_ENABLE) % 2) a ha
  generalize hu : s.fset (pageBase page) PAGE_CTRL_ENABLE ((2 + s.fget (pageBase page) PAGE_CTRL_ENABLE) % 2) = u at hen hrd ⊢
  have hfuses : u.fuses = s.fuses := hu ▸ rfl
  have hsep : u.sep = s.sep := hu ▸ rfl
  have hpins : u.pins = s.pins := hu ▸ rfl
  obtain ⟨hbusy, hflag⟩ := State.flag_softReset u (pageBase page)
  obtain ⟨h18, h24, h28⟩ := State.rd_softReset_zero page u
  refine ⟨hbusy, hflag, fun a hlo hhi hv => State.rd_softReset_block page u hlo hhi hv, fun e he hb => ?_, fun q hq hb => ?_,
    fun hb => ?_, fun hb => ?_, fun hb => ?_, h18, h24, h28, ?_, ?_, ?_, ?_⟩
  · obtain ⟨-, hoff, -⟩ := keptFields_place e he
    rw [← hb, State.fget_softReset_kept u he, State.fget, hrd (by omega), State.fget]
  · rw [hb, ← hfuses]
    exact State.softReset_quad u hq
  · rw [hb, State.pget_softReset_opsec, hsep]
  · rw [hb, State.softReset_counter]
  · rw [hb, ← hpins]
    exact State.softReset_hst u
  · rw [State.fget_softReset_enable, hen]
  · rw [State.rd_softReset_kept page u (.inl rfl), hrd (by omega)]
  · rw [State.rd_softReset_kept page u (.inr rfl), hrd (by omega)]
  · rw [State.rd_softReset_seq, hrd (by omega)]

end Sys2Proof.Machine
end

section
/-! SUPPORT. The end of a soft reset: what the pages whose status fields mirror conditions outside them show again (R43, log 91). -/

namespace Sys2Proof.Machine

/-! ### PAGE_CTRL and PAGE_STAT stand through what a page shows -/

section
variable {x : Nat} (hx : ctrlWord x)
include hx

theorem State.ctrl_showQueues (s : State) : s.showQueues.rd x = s.rd x := by
  rw [State.showQueues, State.ctrl_fset hx rfl (by decide), State.ctrl_fset hx rfl (by decide)]

theorem State.ctrl_showCring (s : State) : s.showCring.rd x = s.rd x := by
  have hfull := State.ctrl_fset hx (b := pKRMGLOB) rfl (f := KG_STAT_CRING_FULL) (by decide) s (bit s.cringFull)
  exact State.rd_branch ((State.ctrl_raise hx rfl _ 5).trans hfull) hfull

theorem State.ctrl_showPstate (s : State) : s.showPstate.rd x = s.rd x := State.ctrl_fset hx rfl (by decide) ..

theorem State.ctrl_showJob (s : State) : s.showJob.rd x = s.rd x := by
  rw [State.showJob, State.ctrl_fset hx rfl (by decide), State.ctrl_fset hx rfl (by decide)]

theorem State.ctrl_showQmg (s : State) : s.showQmg.rd x = s.rd x := by
  rw [State.showQmg, State.ctrl_fset hx rfl (by decide), State.ctrl_fset hx rfl (by decide),
    State.ctrl_fset hx rfl (by decide), State.ctrl_fset hx rfl (by decide)]

theorem State.ctrl_showWit (s : State) : s.showWit.rd x = s.rd x := by
  rw [State.showWit, State.ctrl_fset hx rfl (by decide), State.ctrl_fset hx rfl (by decide),
    State.ctrl_fset hx rfl (by decide)]

theorem State.ctrl_showBatch (s : State) : s.showBatch.rd x = s.rd x := by
  rw [State.showBatch, State.ctrl_fset hx rfl (by decide), State.ctrl_pset hx rfl (by decide),
    State.ctrl_fset hx rfl (by decide)]

theorem State.ctrl_forceStep (s : State) : s.forceStep.rd x = s.rd x := by
  refine State.rd_branch ?_ rfl
  unfold State.setStep
  extract_lets t u
  have ht : t.rd x = s.rd x := by
    unfold t
    rw [State.ctrl_fset hx rfl (by decide), State.ctrl_fset hx rfl (by decide)]
  refine State.rd_branch ht ?_
  show u.rd x = _
  unfold u
  rw [State.ctrl_raise hx rfl, State.ctrl_count hx rfl (by decide), State.ctrl_fset hx rfl (by decide), ht]

theorem State.ctrl_cutLink (s : State) (p : Nat) : (s.cutLink p).rd x = s.rd x :=
  State.rd_foldl _ _ _ fun u r => State.ctrl_verdict hx u r.receipt _

theorem State.ctrl_sidebands (s : State) (p : Nat) : (s.sidebands p).rd x = s.rd x := by
  have hb : pSLK p % 0x10000 = 0 := by unfold pSLK; omega
  unfold State.sidebands
  extract_lets b st off rst heart t
  rw [State.ctrl_fset hx hb (by decide), State.ctrl_fset hx hb (by decide), State.ctrl_fset hx hb (by decide)]
  exact State.rd_branch rfl rfl

theorem State.ctrl_throttle (s : State) (p : Nat) : (s.throttle p).rd x = s.rd x := by
  have hb : pSLK p % 0x10000 = 0 := by unfold pSLK; omega
  rw [State.throttle, State.ctrl_fset hx hb (by decide), State.ctrl_fset hx hb (by decide), State.ctrl_fset hx hb (by decide)]

theorem State.ctrl_showPort (s : State) (p : Nat) : (s.showPort p).rd x = s.rd x := by
  rw [State.showPort, State.ctrl_throttle hx, State.ctrl_sidebands hx]
  exact State.rd_branch (State.ctrl_cutLink hx s p) rfl

theorem State.ctrl_showPage (s : State) (kind : PageKind) (inst : Nat) : (s.showPage kind inst).rd x = s.rd x := by
  unfold State.showPage
  split
  · rw [State.ctrl_showJob hx, State.ctrl_showPstate hx, State.ctrl_showCring hx, State.ctrl_showQueues hx]
  · exact State.ctrl_showQmg hx s
  · exact State.ctrl_showWit hx s
  · exact State.ctrl_showBatch hx s
  · exact State.ctrl_pset hx rfl (by decide) ..
  · exact State.ctrl_showPort hx s inst
  · exact State.ctrl_fset hx rfl (by decide) ..
  · exact State.ctrl_forceStep hx s
  all_goals rfl

end

/-! ### The pages that show something again -/

/-- The kinds of page with status fields that mirror conditions outside their registers (log 91). -/
def shownKinds : List PageKind := [.krmglob, .qmg, .wit, .dgt, .jrn, .slk, .rck, .govglob]

theorem State.showPage_of_not_shown (s : State) {kind : PageKind} (inst : Nat) (h : kind ∉ shownKinds) :
    s.showPage kind inst = s := by
  unfold State.showPage
  split
  iterate 8 exact absurd (by decide) h
  all_goals rfl

theorem findPage_lt {pg i : Nat} {p : PRow} (h : findPage pg = some (p, i)) : pg < p.page + p.n := by
  simp only [findPage, Option.map_eq_some_iff, Prod.mk.injEq] at h
  obtain ⟨q, hq, rfl, -⟩ := h
  have hr := List.find?_some hq
  simp only [Bool.and_eq_true, decide_eq_true_eq] at hr
  exact hr.2

set_option maxRecDepth 20000 in
theorem shownKinds_base : ∀ p ∈ pageRows, p.kind ∈ shownKinds → ∀ j < p.n,
    (p.page + j) * 0x10000 ∈ [pKRMGLOB, pQMG, pWIT, pDGT, pJRN, pRCK, pGOVGLOB] ++ (List.range 8).map pSLK := by decide

theorem mirrors_of_shown {page : BitVec 10} {p : PRow} {i : Nat} (hp : findPage page.toNat = some (p, i))
    (hk : p.kind ∈ shownKinds) : mirrors page := by
  obtain ⟨hmem, hle, -⟩ := findPage_some hp
  have hlt := findPage_lt hp
  refine ⟨_, shownKinds_base p hmem hk (page.toNat - p.page) (by omega), ?_⟩
  rw [Nat.add_sub_cancel' hle]
  rfl

/-! ### A Silk port -/

theorem State.port_modPort (s : State) (p : Nat) (f : SlkPort → SlkPort) : (s.modPort p f).port p = f (s.port p) :=
  Tab.get_set_same ..

theorem State.abortReplays_none (s : State) (p : Nat) (h : ∀ x ∈ s.qw.replays, x.port ≠ p) :
    s.abortReplays p = { s with qw.replays := s.qw.replays.filter fun x => x.port != p } := by
  have hnil : (s.qw.replays.filter fun x => x.port = p) = [] :=
    List.filter_eq_nil_iff.2 fun x hx => by simpa using h x hx
  simp only [State.abortReplays, hnil, List.foldl_nil]

/-- A link cut with no replay outstanding changes the port alone. -/
theorem State.cutLink_no_replay (s : State) (p : Nat) (h : ∀ x ∈ s.qw.replays, x.port ≠ p) :
    (s.cutLink p).regs = s.regs ∧ (s.cutLink p).pins = s.pins ∧ ((s.cutLink p).port p).inL0 = false ∧
      ((s.cutLink p).port p).alertLow = (s.port p).alertLow := by
  have hport (f : SlkPort → SlkPort) : ((s.modPort p f).abortReplays p).port p = f (s.port p) := by
    rw [State.abortReplays_none (s.modPort p f) p h]
    exact State.port_modPort s p f
  have hrest (f : SlkPort → SlkPort) : ((s.modPort p f).abortReplays p).regs = s.regs ∧
      ((s.modPort p f).abortReplays p).pins = s.pins := by
    rw [State.abortReplays_none (s.modPort p f) p h]
    exact ⟨rfl, rfl⟩
  unfold State.cutLink
  rw [hport]
  exact ⟨(hrest _).1, (hrest _).2, rfl, rfl⟩

theorem pSLK_ctrl_ne_stat (p : Nat) : pSLK p + 0x100 ≠ pSLK p + 0x104 := by omega

theorem State.sidebands_off_eq (s : State) (p : Nat) (h : s.portState p = 0) :
    s.sidebands p = (((s.modPort p fun k => { k with heart := false }).fset (pSLK p) SLK_STAT_PG 0).fset
      (pSLK p) SLK_STAT_RESET 1).fset (pSLK p) SLK_STAT_HEART 0 := by
  simp [State.sidebands, h, bit]

/-- A port that is OFF holds RESET_N low; the rest of it stands. -/
theorem State.sidebands_off (s : State) (p : Nat) (h : s.portState p = 0) :
    (s.sidebands p).portState p = 0 ∧ (s.sidebands p).flag (pSLK p) SLK_STAT_RESET = true ∧
      (s.sidebands p).rd (pSLK p + 0x100) = s.rd (pSLK p + 0x100) ∧ (s.sidebands p).pins = s.pins ∧
      ((s.sidebands p).port p).inL0 = (s.port p).inL0 ∧ ((s.sidebands p).port p).alertLow = (s.port p).alertLow := by
  have hport := State.port_modPort s p fun k => { k with heart := false }
  have hl0 := congrArg SlkPort.inL0 hport
  have halert := congrArg SlkPort.alertLow hport
  rw [State.sidebands_off_eq s p h]
  refine ⟨?_, ?_, ?_, rfl, hl0, halert⟩
  · rw [State.portState, State.fget_fset_apart _ _ SLK_STAT_HEART SLK_STAT_STATE _ rfl (by decide) (by decide),
      State.fget_fset_apart _ _ SLK_STAT_RESET SLK_STAT_STATE _ rfl (by decide) (by decide),
      State.fget_fset_apart _ _ SLK_STAT_PG SLK_STAT_STATE _ rfl (by decide) (by decide)]
    exact h
  · rw [State.flag_fset_apart _ _ SLK_STAT_HEART SLK_STAT_RESET _ rfl (by decide) (by decide),
      State.flag_fset_same _ _ _ rfl (by decide)]
    rfl
  · have hne := pSLK_ctrl_ne_stat p
    rw [State.rd_fset_ne _ _ SLK_STAT_HEART _ _ hne, State.rd_fset_ne _ _ SLK_STAT_RESET _ _ hne,
      State.rd_fset_ne _ _ SLK_STAT_PG _ _ hne]
    rfl

/-- The levels that ask for THROTTLE (R290). -/
def State.throttleAsked (s : State) (p : Nat) : Bool :=
  s.flag (pSLK p) SLK_CTRL_THR || (s.pins.rackLimitLow && s.flag (pSLK p) SLK_CTRL_RACK_THR_EN) ||
    ((s.port p).alertLow && s.fget (pSLK p) SLK_CTRL_ALERT_ACT != 0)

theorem State.throttleAsked_congr {s t : State} {p : Nat} (hctrl : t.rd (pSLK p + 0x100) = s.rd (pSLK p + 0x100))
    (hpins : t.pins = s.pins) (halert : (t.port p).alertLow = (s.port p).alertLow) :
    t.throttleAsked p = s.throttleAsked p := by
  have hf {f : Fld} (hoff : f.off = 0x100) : t.fget (pSLK p) f = s.fget (pSLK p) f := by
    rw [State.fget, State.fget, hoff, hctrl]
  simp only [State.throttleAsked, State.flag_eq_fget, hf (f := SLK_CTRL_THR) rfl, hf (f := SLK_CTRL_RACK_THR_EN) rfl,
    hf (f := SLK_CTRL_ALERT_ACT) rfl, hpins, halert]

theorem State.flag_throttle (s : State) (p : Nat) :
    (s.throttle p).flag (pSLK p) SLK_STAT_THROTTLE = s.throttleAsked p := by
  have hsrc (n : Nat) (a b : Bool) : (n + 2 * bit a + 4 * bit b != 0) = ((n != 0) || a || b) := by
    cases a <;> cases b <;> simp [bit]
  have hbit (b : Bool) : (bit b % 2 != 0) = b := by cases b <;> rfl
  unfold State.throttle
  rw [State.flag_fset_apart _ _ SLK_STAT_ALERT SLK_STAT_THROTTLE _ rfl (by decide) (by decide),
    State.flag_fset_same _ _ _ rfl (by decide), hbit, hsrc]
  rfl

/-- A field of SLK_STAT that is none of THROTTLE's. -/
theorem State.fget_throttle (s : State) (p : Nat) {f : Fld} (h : f = SLK_STAT_STATE ∨ f = SLK_STAT_RESET) :
    (s.throttle p).fget (pSLK p) f = s.fget (pSLK p) f := by
  unfold State.throttle
  obtain rfl | rfl := h
  · rw [State.fget_fset_apart _ _ SLK_STAT_ALERT SLK_STAT_STATE _ rfl (by decide) (by decide),
      State.fget_fset_apart _ _ SLK_STAT_THROTTLE SLK_STAT_STATE _ rfl (by decide) (by decide),
      State.fget_fset_apart _ _ SLK_STAT_THR_SRC SLK_STAT_STATE _ rfl (by decide) (by decide)]
  · rw [State.fget_fset_apart _ _ SLK_STAT_ALERT SLK_STAT_RESET _ rfl (by decide) (by decide),
      State.fget_fset_apart _ _ SLK_STAT_THROTTLE SLK_STAT_RESET _ rfl (by decide) (by decide),
      State.fget_fset_apart _ _ SLK_STAT_THR_SRC SLK_STAT_RESET _ rfl (by decide) (by decide)]

/-- A port that is OFF with no replay outstanding shows OFF, RESET_N low and THROTTLE as its sources ask. -/
theorem State.showPort_off (s : State) (p : Nat) (h : s.portState p = 0) (hr : ∀ x ∈ s.qw.replays, x.port ≠ p) :
    (s.showPort p).portState p = 0 ∧ ((s.showPort p).port p).inL0 = false ∧
      (s.showPort p).flag (pSLK p) SLK_STAT_RESET = true ∧
      (s.showPort p).flag (pSLK p) SLK_STAT_THROTTLE = s.throttleAsked p := by
  obtain ⟨hregs, hpins, hl0, halert⟩ := State.cutLink_no_replay s p hr
  have hshow : s.showPort p = ((s.cutLink p).sidebands p).throttle p := by rw [State.showPort, if_pos h]
  rw [hshow]
  generalize s.cutLink p = t at hregs hpins hl0 halert ⊢
  have ht : t.portState p = 0 := (State.fget_eq _ _ _ _ hregs).trans h
  obtain ⟨hstate, hreset, hctrl, hpins', hl0', halert'⟩ := State.sidebands_off t p ht
  generalize t.sidebands p = u at hstate hreset hctrl hpins' hl0' halert' ⊢
  refine ⟨(State.fget_throttle u p (.inl rfl)).trans hstate, hl0'.trans hl0, ?_, ?_⟩
  · rw [State.flag_eq_fget, State.fget_throttle u p (.inr rfl)]
    exact hreset
  · rw [State.flag_throttle]
    exact State.throttleAsked_congr (hctrl.trans (State.rd_eq _ _ _ hregs)) (hpins'.trans hpins) (halert'.trans halert)

theorem findPage_slk : ∀ p < 8, (findPage (0x70 + p)).map (fun q => (q.1.kind, q.2)) = some (.slk, p) := by decide

/-! ### SOFT_RESET_DONE -/

/-- SOFT_RESET and BUSY fallen. -/
def State.resetEnded (s : State) (b : Nat) : State := (s.fset b PAGE_CTRL_SOFT_RESET 0).fset b PAGE_STAT_BUSY 0

theorem State.rd_resetEnded (s : State) (b : Nat) {a : Nat} (h10 : a ≠ b + 0x10) (h14 : a ≠ b + 0x14) :
    (s.resetEnded b).rd a = s.rd a := by
  rw [State.resetEnded, State.rd_fset_ne _ _ PAGE_STAT_BUSY _ _ h14, State.rd_fset_ne _ _ PAGE_CTRL_SOFT_RESET _ _ h10]

theorem State.flag_resetEnded (s : State) (b : Nat) :
    (s.resetEnded b).flag b PAGE_CTRL_SOFT_RESET = false ∧ (s.resetEnded b).flag b PAGE_STAT_BUSY = false := by
  rw [State.resetEnded, State.flag_fset_same _ _ _ rfl (by decide), State.flag_eq_fget,
    State.fget_fset_ne _ _ _ PAGE_STAT_BUSY PAGE_CTRL_SOFT_RESET _ (by simp only [PAGE_STAT_BUSY, PAGE_CTRL_SOFT_RESET]; omega),
    State.fget_fset_same _ _ _ _ (by decide)]
  decide

/-- What the page shows once its reset has ended. -/
def State.shownAgain (s : State) (page : BitVec 10) : State :=
  match findPage page.toNat with
  | some (p, inst) => s.showPage p.kind inst
  | none => s

theorem exec_softResetDone {page : BitVec 10} {s : State} (h : s.flag (pageBase page) PAGE_CTRL_SOFT_RESET = true) :
    exec (.softResetDone page) s = .next ((s.resetEnded (pageBase page)).shownAgain page) := by
  show execSoftResetDone page s = _
  simp only [execSoftResetDone, if_pos h, State.shownAgain]
  cases findPage page.toNat with
  | none => rfl
  | some q => rfl

theorem State.ctrl_shownAgain (s : State) (page : BitVec 10) {x : Nat} (hx : ctrlWord x) :
    (s.shownAgain page).rd x = s.rd x := by
  unfold State.shownAgain
  split
  · exact State.ctrl_showPage hx ..
  · rfl

theorem State.shownAgain_of_not_mirrors (s : State) {page : BitVec 10} (h : ¬mirrors page) : s.shownAgain page = s := by
  unfold State.shownAgain
  split
  · next p i hp => exact State.showPage_of_not_shown s i fun hk => h (mirrors_of_shown hp hk)
  · rfl

theorem State.shownAgain_slk (s : State) {page : BitVec 10} {p : Nat} (hp : p < 8) (hb : pageBase page = pSLK p) :
    s.shownAgain page = s.showPort p := by
  have hpage : page.toNat = 0x70 + p := by unfold pageBase pSLK at hb; omega
  obtain ⟨q, hq, hkind⟩ := Option.map_eq_some_iff.1 (findPage_slk p hp)
  obtain ⟨hk, hi⟩ := Prod.mk.inj hkind
  rw [State.shownAgain, hpage, hq]
  show s.showPage q.1.kind q.2 = _
  rw [hk, hi]
  rfl

theorem softResetDone_completes {page : BitVec 10} {s : State} (h : s.flag (pageBase page) PAGE_CTRL_SOFT_RESET = true) :
    completes (.softResetDone page) s fun t =>
      t.flag (pageBase page) PAGE_CTRL_SOFT_RESET = false ∧ t.flag (pageBase page) PAGE_STAT_BUSY = false ∧
      (¬mirrors page → sameRegs (fun a => a = pageBase page + 0x10 ∨ a = pageBase page + 0x14) s t) ∧
      (∀ p, p < 8 → pageBase page = pSLK p → s.portState p = 0 → (∀ x ∈ s.qw.replays, x.port ≠ p) →
        t.portState p = 0 ∧ (t.port p).inL0 = false ∧ t.flag (pSLK p) SLK_STAT_RESET = true ∧
        t.flag (pSLK p) SLK_STAT_THROTTLE = s.throttleAsked p) := by
  have hctrl (off : Nat) (hoff : off = 0x10 ∨ off = 0x14) : ctrlWord (pageBase page + off) := by
    unfold ctrlWord pageBase
    omega
  obtain ⟨hsr, hbusy⟩ := State.flag_resetEnded s (pageBase page)
  refine completes_of_next (exec_softResetDone h) ⟨?_, ?_, fun hm a ha => ?_, fun p hp hb hstate hr => ?_⟩
  · rw [← hsr, State.flag_eq_fget, State.flag_eq_fget, State.fget, State.fget]
    exact congrArg (PAGE_CTRL_SOFT_RESET.get · != 0) (State.ctrl_shownAgain _ page (hctrl 0x10 (.inl rfl)))
  · rw [← hbusy, State.flag_eq_fget, State.flag_eq_fget, State.fget, State.fget]
    exact congrArg (PAGE_STAT_BUSY.get · != 0) (State.ctrl_shownAgain _ page (hctrl 0x14 (.inr rfl)))
  · rw [not_or] at ha
    rw [State.shownAgain_of_not_mirrors _ hm, State.rd_resetEnded _ _ ha.1 ha.2]
  · have hrd {off : Nat} (hoff : off = 0x100 ∨ off = 0x104) :
        (s.resetEnded (pageBase page)).rd (pSLK p + off) = s.rd (pSLK p + off) := by
      rw [hb]
      exact State.rd_resetEnded _ _ (by omega) (by omega)
    have hoff : (s.resetEnded (pageBase page)).portState p = 0 :=
      (congrArg SLK_STAT_STATE.get (hrd (.inr rfl))).trans hstate
    rw [State.shownAgain_slk _ hp hb, ← State.throttleAsked_congr (hrd (.inl rfl)) rfl rfl]
    exact State.showPort_off _ p hoff hr

/-- Settles O12: a header write that the gate lets through is the header's alone, and the end of a reset shows again only what
a page mirrors. -/
theorem headerCommands : Obligations.HeaderCommands := by
  refine ⟨fun cls page s p i hp hsr h => softReset_completes hp hsr h, fun page s h => softResetDone_completes h,
    fun cls page value s h => irqSet_completes h, fun cls page value s h => errClr_completes h⟩

end Sys2Proof.Machine
end

section
/-! SUPPORT. The cores of Kermes: what an operation on one core leaves, and what a slot that a core takes at once notes (R114, R115). -/

namespace Sys2Proof.Machine

/-! ### One core -/

@[simp] theorem State.core_setCore_same (s : State) (c : Nat) (k : Core1) : (s.setCore c k).core c = k := Tab.get_set_same ..

theorem State.core_setCore_ne (s : State) {c d : Nat} (k : Core1) (h : d ≠ c) : (s.setCore c k).core d = s.core d :=
  Tab.get_set_ne _ _ _ _ _ _ h

@[simp] theorem State.core_modCore_same (s : State) (c : Nat) (f : Core1 → Core1) : (s.modCore c f).core c = f (s.core c) :=
  State.core_setCore_same ..

theorem State.core_modCore_ne (s : State) {c d : Nat} (f : Core1 → Core1) (h : d ≠ c) : (s.modCore c f).core d = s.core d :=
  State.core_setCore_ne _ _ h

/-- `t` is `s` but for core `c`, which is `k`. -/
def coreTo (c : Nat) (k : Core1) (s t : State) : Prop :=
  t = { s with krm.cores := t.krm.cores } ∧ t.core c = k ∧ ∀ d, d ≠ c → t.core d = s.core d

theorem coreTo_modCore (s : State) (c : Nat) (f : Core1 → Core1) : coreTo c (f (s.core c)) s (s.modCore c f) :=
  ⟨rfl, State.core_modCore_same .., fun _ => State.core_modCore_ne s f⟩

theorem coreTo.trans {c : Nat} {k l : Core1} {s t u : State} (h : coreTo c k s t) (g : coreTo c l t u) : coreTo c l s u := by
  obtain ⟨ht, -, hd⟩ := h
  obtain ⟨hu, hc, he⟩ := g
  rw [ht] at hu
  exact ⟨hu, hc, fun d hne => (he d hne).trans (hd d hne)⟩

theorem coreTo.krm {c : Nat} {k : Core1} {s t : State} (h : coreTo c k s t) : t.krm = { s.krm with cores := t.krm.cores } :=
  congrArg State.krm h.1

theorem coreTo.job {c : Nat} {k : Core1} {s t : State} (h : coreTo c k s t) : t.krm.job = s.krm.job :=
  (congrArg Krm.job h.krm :)

theorem coreTo.onlyCore {c : Nat} {k : Core1} {s t : State} (h : coreTo c k s t) : onlyCore (fun _ => False) c s t :=
  ⟨h.2.2, fun x _ => State.rd_eq s t x (congrArg State.regs h.1 :), sameBytes_of_eq (congrArg State.mem h.1 :)
    (congrArg State.flash h.1 :) (congrArg (Fwc.sram ∘ State.fwc) h.1 :), (congrArg State.poison h.1 :)⟩

theorem onlyCore.trans {out : Nat → Prop} {c : Nat} {s t u : State} (h : onlyCore out c s t) (g : onlyCore out c t u) :
    onlyCore out c s u := by
  obtain ⟨hd, hr, hb, hp⟩ := h
  obtain ⟨gd, gr, gb, gp⟩ := g
  exact ⟨fun d hne => (gd d hne).trans (hd d hne), fun x hx => (gr x hx).trans (hr x hx), sameBytes_trans hb gb, gp.trans hp⟩

/-! ### A slot taken at once -/

theorem State.slot_of_takes {s : State} {c : Nat} (h : s.takesSlot c) (i : Instr) (act : State → State) :
    s.slot c i act = act s := by
  simp [State.slot, h.1, h.2]

/-- A command that is a slot, on a core that takes it at once, does what its slot does. -/
theorem completes_slot {s : State} {c : Nat} {i : Instr} {act : State → State} {P : State → Prop} (h : s.takesSlot c)
    (he : exec i s = .next (s.slot c i act)) (hp : P (act s)) : completes i s P :=
  completes_of_next he (by rwa [State.slot_of_takes h])

/-- A core that issues bundles takes part in a running job, and nothing stops it. -/
theorem State.issuing_iff (s : State) (c : Nat) : s.issuing c = true ↔
    (∃ j, s.krm.job = some j ∧ j.phase = .running) ∧ (s.core c).logical.isSome = true ∧ (s.core c).started = true ∧
      (s.core c).retired = false ∧ (s.core c).waitBar = none ∧ (s.core c).held = none := by
  unfold State.issuing
  cases s.krm.job <;> simp [and_assoc]

/-- The job of a core that takes a slot is running. -/
theorem State.takesSlot.job {s : State} {c : Nat} (h : s.takesSlot c) : ∃ j, s.krm.job = some j ∧ j.phase = .running :=
  ((s.issuing_iff c).1 h.1).1

end Sys2Proof.Machine
end

section
/-! SUPPORT. The vector slot: what each form of operation notes for VD (R114, R119, R187). -/

namespace Sys2Proof.Machine

/-! ### Flags -/

/-- Operations that raise no flag raise none together. -/
theorem orFlags_zeros {α : Type} (l : List α) : orFlags (l.map fun _ => 0) = 0 := by
  induction l with
  | nil => rfl
  | cons _ _ ih => simpa [orFlags] using ih

/-! ### Results -/

theorem laneResults_map {α : Type} (f : α → Nat × Nat) (l : List α) :
    laneResults (l.map f) = (l.map fun a => (f a).1, orFlags (l.map fun a => (f a).2)) := by
  simp [laneResults, Function.comp_def]

theorem wroteV_vecResult (c : Nat) (srcs : List Nat) (vd lat : Nat) (r : List Nat × Nat) (s : State) :
    wroteV c vd lat srcs r.1 r.2 s (vecResult c srcs vd lat r s) := by
  have h := coreTo_modCore s c fun k => { k with
    flags := Nat.lor k.flags r.2, rdV := k.rdV ++ srcs
    pending := k.pending ++ [.vreg vd ⟨ofLanes r.1, srcs.any fun v => ((s.core c).vreg v).poison, 0⟩ lat] }
  have hc : (vecResult c srcs vd lat r s).core c = _ := h.2.1
  unfold wroteV
  rw [hc]
  exact ⟨rfl, rfl, rfl, rfl, h.onlyCore⟩

theorem wroteV_vec1 (c vd va lat : Nat) (f : Nat → Nat × Nat) (s : State) :
    wroteV c vd lat [va] ((s.lanes c va).map fun a => (f a).1) (orFlags ((s.lanes c va).map fun a => (f a).2)) s
      (vec1 c vd va lat f s) := by
  have h := wroteV_vecResult c [va] vd lat (laneResults ((s.lanes c va).map f)) s
  rwa [laneResults_map] at h

theorem wroteV_vec2 (c vd va vb lat : Nat) (f : Nat → Nat → Nat × Nat) (s : State) :
    wroteV c vd lat [va, vb] (List.zipWith (fun a b => (f a b).1) (s.lanes c va) (s.lanes c vb))
      (orFlags (List.zipWith (fun a b => (f a b).2) (s.lanes c va) (s.lanes c vb))) s (vec2 c vd va vb lat f s) := by
  have h := wroteV_vecResult c [va, vb] vd lat (laneResults (((s.lanes c va).zip (s.lanes c vb)).map fun p => f p.1 p.2)) s
  rwa [laneResults_map, List.map_zip_eq_zipWith, List.map_zip_eq_zipWith] at h

/-- Three lists zipped to the left are those zipped to the right. -/
theorem zip_zip_left {α β γ : Type} (l : List α) (m : List β) (n : List γ) :
    (l.zip m).zip n = (l.zip (m.zip n)).map fun p => ((p.1, p.2.1), p.2.2) := by
  induction l generalizing m n with
  | nil => rfl
  | cons a l ih => cases m <;> cases n <;> simp [ih]

theorem wroteV_vec3 (c vd va vb vc lat : Nat) (f : Nat → Nat → Nat → Nat × Nat) (s : State) :
    wroteV c vd lat [va, vb, vc] (((s.lanes c va).zip ((s.lanes c vb).zip (s.lanes c vc))).map fun p => (f p.1 p.2.1 p.2.2).1)
      (orFlags (((s.lanes c va).zip ((s.lanes c vb).zip (s.lanes c vc))).map fun p => (f p.1 p.2.1 p.2.2).2)) s
      (vec3 c vd va vb vc lat f s) := by
  have h := wroteV_vecResult c [va, vb, vc] vd lat (laneResults ((((s.lanes c va).zip (s.lanes c vb)).zip (s.lanes c vc)).map
    fun p => f p.1.1 p.1.2 p.2)) s
  rwa [zip_zip_left, List.map_map, laneResults_map] at h

theorem wroteV_vecTree (c vd va : Nat) (f : Nat → Nat → Nat × Nat) (s : State) :
    wroteV c vd 8 [va] ((treeReduce f 5 (s.lanes c va)).1 :: List.replicate 31 0) (treeReduce f 5 (s.lanes c va)).2 s
      (vecTree c vd va f s) :=
  wroteV_vecResult c [va] vd 8 (_, _) s

/-- VSEL: a lane of the second source where the first is not +0, else of the third, and no flag. -/
theorem wroteV_vsel (c vd va vb vc : Nat) (s : State) :
    wroteV c vd 4 [va, vb, vc]
      (((s.lanes c va).zip ((s.lanes c vb).zip (s.lanes c vc))).map fun p => if p.1 = 0 then p.2.2 else p.2.1) 0 s
      (vselRun c vd va vb vc s) := by
  have hsel (a b d : Nat) : (if (a != 0) = true then b else d) = if a = 0 then d else b := by
    by_cases h : a = 0 <;> simp [h]
  have h := wroteV_vec3 c vd va vb vc 4 (fun a b d => (if a != 0 then b else d, 0)) s
  rw [orFlags_zeros] at h
  simp only [← hsel]
  exact h

theorem wroteV_vmov (c vd va : Nat) (s : State) : wroteV c vd 4 [va] (s.lanes c va) 0 s (vmovRun c vd va s) := by
  have h := wroteV_vec1 c vd va 4 (fun a => (a, 0)) s
  rwa [orFlags_zeros, List.map_id''] at h
  exact fun _ => rfl

theorem wroteV_vdequant (c vd va : Nat) (fmt : ScaledFmt) (s : State) :
    wroteV c vd 6 [va]
      ((blockOfLanes fmt (s.lanes c va)).map fun e => (dequantElem fmt ((s.lanes c va).getD 31 0 % 256) e).1)
      (orFlags ((blockOfLanes fmt (s.lanes c va)).map fun e => (dequantElem fmt ((s.lanes c va).getD 31 0 % 256) e).2)) s
      (vdequantRun c vd va fmt s) := by
  have h := wroteV_vecResult c [va] vd 6
    (laneResults ((blockOfLanes fmt (s.lanes c va)).map (dequantElem fmt ((s.lanes c va).getD 31 0 % 256)))) s
  rwa [laneResults_map] at h

/-- Settles O14: each operation is one lanewise form with its function and latency. -/
theorem vectorOfTwoAndThree : Obligations.VectorOfTwoAndThree :=
  ⟨fun _ _ _ _ _ h => completes_slot h rfl (wroteV_vec2 ..), fun _ _ _ _ _ h => completes_slot h rfl (wroteV_vec2 ..),
    fun _ _ _ _ _ h => completes_slot h rfl (wroteV_vec2 ..), fun _ _ _ _ _ h => completes_slot h rfl (wroteV_vec2 ..),
    fun _ _ _ _ _ h => completes_slot h rfl (wroteV_vec2 ..), fun _ _ _ _ _ h => completes_slot h rfl (wroteV_vec2 ..),
    fun _ _ _ _ _ h => completes_slot h rfl (wroteV_vec2 ..), fun _ _ _ _ _ h => completes_slot h rfl (wroteV_vec2 ..),
    fun _ _ _ _ _ _ h => completes_slot h rfl (wroteV_vec3 ..), fun _ _ _ _ _ _ h => completes_slot h rfl (wroteV_vsel ..)⟩

/-- Settles O15: each operation is the lanewise form of one source, a tree, or one of its own. -/
theorem vectorOfOne : Obligations.VectorOfOne :=
  ⟨fun _ _ _ _ h => completes_slot h rfl (wroteV_vec1 ..), fun _ _ _ _ h => completes_slot h rfl (wroteV_vec1 ..),
    fun _ _ _ _ h => completes_slot h rfl (wroteV_vec1 ..), fun _ _ _ _ h => completes_slot h rfl (wroteV_vec1 ..),
    fun _ _ _ _ h => completes_slot h rfl (wroteV_vec1 ..), fun _ _ _ _ h => completes_slot h rfl (wroteV_vec1 ..),
    fun _ _ _ _ h => completes_slot h rfl (wroteV_vec1 ..), fun _ _ _ _ h => completes_slot h rfl (wroteV_vec1 ..),
    fun _ _ _ _ h => completes_slot h rfl (wroteV_vmov ..),
    fun core vd va lane s h => completes_slot h rfl (wroteV_vecResult core.val [va.val] vd.val 4
      (List.replicate 32 ((s.lanes core.val va.val).getD lane.val 0), 0) s),
    fun _ _ _ _ h => completes_slot h rfl (wroteV_vecTree ..), fun _ _ _ _ h => completes_slot h rfl (wroteV_vecTree ..),
    fun core vd va fmt sat s h => completes_slot h rfl (wroteV_vecResult core.val [va.val] vd.val 6
      (quantLanes fmt (quantBlock fmt sat (s.lanes core.val va.val)).1 (quantBlock fmt sat (s.lanes core.val va.val)).2.1,
        (quantBlock fmt sat (s.lanes core.val va.val)).2.2) s),
    fun _ _ _ _ _ h => completes_slot h rfl (wroteV_vdequant ..)⟩

end Sys2Proof.Machine
end

section
/-! SUPPORT. The machine beyond cores and storage, and what the decoders' findings and a bundle's noted reads leave alone (R114,
R174). -/

namespace Sys2Proof.Machine

/-! ### Beyond cores and storage -/

/-- All that lies behind the registers but the cores of Kermes, memory, its marks and its integrity: the job taken and the
queues among it. -/
def State.beyond (s : State) : State := { s.behind with krm.cores := [], mem := [], poison := [], stale := [], integ := {} }

theorem State.job_of_beyond {s t : State} (h : t.beyond = s.beyond) : t.krm.job = s.krm.job :=
  (congrArg (fun u => u.krm.job) h :)

theorem State.beyond_of_behind {s t : State} (h : t.behind = s.behind) : t.beyond = s.beyond :=
  congrArg (fun u : State => { u with krm.cores := [], mem := [], poison := [], stale := [], integ := {} }) h

theorem State.beyond_raise (s : State) (b i : Nat) : (s.raise b i).beyond = s.beyond :=
  State.beyond_of_behind (State.behind_setIrq ..)

theorem State.beyond_ite {c : Prop} [Decidable c] {s t k : State} (hs : s.beyond = k) (ht : t.beyond = k) :
    (if c then s else t).beyond = k := by split <;> assumption

theorem State.beyond_foldl {β : Type} (l : List β) (f : State → β → State) (s : State)
    (h : ∀ u e, (f u e).beyond = u.beyond) : (l.foldl f s).beyond = s.beyond :=
  foldl_eq State.beyond l f s fun u e _ => h u e

theorem State.beyond_upset (s : State) (u : Upset) : (s.upset u).beyond = s.beyond := by
  unfold State.upset
  split
  · rfl
  · exact State.beyond_ite rfl rfl

theorem State.beyond_corrected (s : State) (source : Nat) : (s.corrected source).beyond = s.beyond :=
  State.beyond_raise ..

theorem State.beyond_uncorrectable (s : State) (source addr typ pos syn : Nat) :
    (s.uncorrectable source addr typ pos syn).beyond = s.beyond :=
  State.beyond_raise ..

theorem State.beyond_seeBlock (s : State) (b : Nat) (queue : Bool) : (s.seeBlock b queue).beyond = s.beyond := by
  unfold State.seeBlock
  extract_lets u c addr bank row read k wb n stale t v
  split
  · rfl
  · split
    · exact State.beyond_ite rfl (State.beyond_corrected ..)
    · exact State.beyond_uncorrectable ..
    · rfl

theorem State.beyond_raiseTier (s : State) (pg i : Nat) : (s.raiseTier pg i).beyond = s.beyond :=
  (State.beyond_raise ..).trans (State.beyond_raise ..)

theorem State.beyond_lineLost (s : State) (l typ pos cw : Nat) : (s.lineLost l typ pos cw).beyond = s.beyond := by
  unfold State.lineLost
  extract_lets st t u
  rw [State.beyond_uncorrectable, State.beyond_raiseTier]
  rfl

theorem State.beyond_seeLine (s : State) (l : Nat) : (s.seeLine l).beyond = s.beyond := by
  unfold State.seeLine
  extract_lets u pg sub st
  split
  · rfl
  · split
    · rfl
    · exact State.beyond_lineLost ..
    · split
      · rfl
      · extract_lets p n t integ v w
        have hw : w.beyond = s.beyond := by
          unfold w
          rw [State.beyond_corrected, State.beyond_raiseTier]
          rfl
        clear_value w
        refine State.beyond_ite ?_ hw
        rw [State.beyond_raiseTier, ← hw]
        rfl

theorem State.beyond_see (s : State) (a n : Nat) : (s.see a n).beyond = s.beyond :=
  State.beyond_ite (State.beyond_foldl _ _ _ fun u b => State.beyond_seeBlock u b true)
    (State.beyond_foldl _ _ _ State.beyond_seeLine)

theorem State.beyond_upsets (s : State) (us : List Upset) : (s.upsets us).beyond = s.beyond :=
  State.beyond_foldl us State.upset s State.beyond_upset

theorem State.beyond_seeCore (s : State) (c a n : Nat) : (s.seeCore c a n).beyond = s.beyond :=
  State.beyond_foldl (pieces a n) _ s fun u p => State.beyond_see u (sramAddr c p.1) p.2

theorem State.beyond_look (s : State) (c : Nat) (found : List Upset) (ranges : List (Nat × Nat)) :
    (s.look c found ranges).beyond = s.beyond := by
  unfold State.look
  exact (State.beyond_foldl ranges (fun u r => u.seeCore c r.1 r.2) (s.upsets found) fun u r =>
    State.beyond_seeCore u c r.1 r.2).trans (State.beyond_upsets s found)

/-- What the decoders find changes no job. -/
theorem State.job_look (s : State) (c : Nat) (found : List Upset) (ranges : List (Nat × Nat)) :
    (s.look c found ranges).krm.job = s.krm.job :=
  State.job_of_beyond (State.beyond_look s c found ranges)

/-! ### Memory, with other cores -/

section
variable {s t : State} {k : List (Nat × Core1)} (h : t = { s with krm.cores := k })
include h

theorem State.fget_cores (b : Nat) (f : Fld) : t.fget b f = s.fget b f := State.fget_eq s t b f (congrArg State.regs h :)

theorem State.flag_cores (b : Nat) (f : Fld) : t.flag b f = s.flag b f := by
  rw [State.flag, State.flag, State.fget_cores h]

theorem State.readBlock_cores (b : Nat) : t.readBlock b = s.readBlock b := by
  have hinteg : t.integ = s.integ := (congrArg State.integ h :)
  have hstale : t.stale = s.stale := (congrArg State.stale h :)
  have hpoison : t.poison = s.poison := (congrArg State.poison h :)
  rw [State.readBlock, State.readBlock, hinteg, hstale, hpoison]

theorem State.readLine_cores (l : Nat) : t.readLine l = s.readLine l := by
  have hinteg : t.integ = s.integ := (congrArg State.integ h :)
  have hmark : t.markOn l = s.markOn l := by
    simp only [State.markOn, State.flag_cores h, State.fget_cores h]
  simp only [State.readLine, hmark, State.flag_cores h, hinteg]

theorem State.delivered_cores (a : Nat) : t.delivered a = s.delivered a := by
  have hinteg : t.integ = s.integ := (congrArg State.integ h :)
  have hmem : t.mem = s.mem := (congrArg State.mem h :)
  simp only [State.delivered, State.byteAt, State.readBlock_cores h, State.readLine_cores h, hinteg, hmem]

theorem State.deliver_cores (a n : Nat) : t.deliver a n = s.deliver a n := by
  induction n generalizing a with
  | zero => rfl
  | succ n ih => rw [State.deliver, State.deliver, State.delivered_cores h, ih]

theorem State.coreRead_cores (c a n : Nat) : t.coreRead c a n = s.coreRead c a n := by
  simp only [State.coreRead, State.deliver_cores h]

end

theorem State.corePoison_eq {s t : State} (h : t.poison = s.poison) (c a n : Nat) :
    t.corePoison c a n = s.corePoison c a n := by
  simp only [State.corePoison, State.poisonedAt, h]

theorem State.poisonIn_eq {s t : State} (h : t.poison = s.poison) (c : Nat) (rs : List (Nat × Nat)) :
    t.poisonIn c rs = s.poisonIn c rs := by
  simp only [State.poisonIn, State.corePoison_eq h]

/-! ### Noted reads -/

/-- `t` is `s` but for the reads that the bundle of core `c` has noted: banks used, generators to step, registers read. -/
def readsNoted (c : Nat) (s t : State) : Prop :=
  coreTo c { s.core c with
    accesses := (t.core c).accesses, steps := (t.core c).steps, carryNext := (t.core c).carryNext, rdV := (t.core c).rdV } s t

theorem readsNoted.refl (c : Nat) (s : State) : readsNoted c s s := ⟨rfl, rfl, fun _ _ => rfl⟩

theorem readsNoted.trans {c : Nat} {s t u : State} (h : readsNoted c s t) (g : readsNoted c t u) : readsNoted c s u := by
  have hu := coreTo.trans h g
  rwa [h.2.1] at hu

theorem readsNoted_modCore {c : Nat} {s : State} {f : Core1 → Core1} (h : ∀ k, f k = { k with
    accesses := (f k).accesses, steps := (f k).steps, carryNext := (f k).carryNext, rdV := (f k).rdV }) :
    readsNoted c s (s.modCore c f) := by
  have hm := coreTo_modCore s c f
  rw [h] at hm
  unfold readsNoted
  rwa [State.core_modCore_same]

theorem readsNoted_access (s : State) (c : Nat) (r : AgRef) (n : Nat) : readsNoted c s (s.access c r n) :=
  readsNoted_modCore fun _ => rfl

theorem readsNoted_useV (s : State) (c r : Nat) : readsNoted c s (s.modCore c fun k => k.useV r) :=
  readsNoted_modCore fun _ => rfl

theorem readsNoted_ahead (s : State) (c : Nat) {f : State → State} (h : ∀ t, readsNoted c t (f t)) :
    readsNoted c s (s.ahead c f) := by
  have hclear : readsNoted c s (s.modCore c fun k => { k with accesses := [] }) := readsNoted_modCore fun _ => rfl
  exact (hclear.trans (h _)).trans (readsNoted_modCore fun _ => rfl)

section
variable {c : Nat} {s t : State} (h : readsNoted c s t)
include h

theorem readsNoted.agAddr (r : AgRef) : (t.core c).agAddr r = (s.core c).agAddr r := by rw [h.2.1]; rfl
theorem readsNoted.accRow (r : Nat) : (t.core c).accRow r = (s.core c).accRow r := by rw [h.2.1]; rfl
theorem readsNoted.vreg (r : Nat) : (t.core c).vreg r = (s.core c).vreg r := by rw [h.2.1]; rfl
theorem readsNoted.pending : (t.core c).pending = (s.core c).pending := by rw [h.2.1]
theorem readsNoted.stores : (t.core c).stores = (s.core c).stores := by rw [h.2.1]
theorem readsNoted.flags : (t.core c).flags = (s.core c).flags := by rw [h.2.1]
theorem readsNoted.accs : (t.core c).accs = (s.core c).accs := by rw [h.2.1]
theorem readsNoted.vregs : (t.core c).vregs = (s.core c).vregs := by rw [h.2.1]
theorem readsNoted.poison : t.poison = s.poison := (congrArg State.poison h.1 :)
theorem readsNoted.sameBytes : sameBytes s t := (coreTo.onlyCore h).2.2.1

theorem readsNoted.coreRead (a n : Nat) : t.coreRead c a n = s.coreRead c a n := State.coreRead_cores h.1 c a n

theorem readsNoted.dots (op : DpuOp) (fa fb : ScaledFmt) (per : Nat) : t.dots c op fa fb per = s.dots c op fa fb per := by
  simp only [State.dots, h.agAddr, h.coreRead]

theorem readsNoted.groupDots (op : DpuOp) (fa fb : Fmt) : t.groupDots c op fa fb = s.groupDots c op fa fb := by
  simp only [State.groupDots, h.agAddr, h.coreRead]

theorem readsNoted.fastOk : t.fastOk = s.fastOk := by rw [State.fastOk, State.fastOk, coreTo.job h]

theorem readsNoted.gathers (row : Nat) (init : Bool) (per : List (List Contrib)) :
    t.gathers c row init per = s.gathers c row init per := by
  simp only [State.gathers, h.accRow, h.fastOk]

theorem readsNoted.fits (row : Nat) (aop : AccOp) (per : List (List Contrib)) :
    t.fits c row aop per ↔ s.fits c row aop per := by
  simp only [State.fits, h.gathers, coreTo.job h]

end

end Sys2Proof.Machine
end

section
/-! SUPPORT. Contributions to a row: what they note, and when they end the job (R117, R118, R149). -/

namespace Sys2Proof.Machine

/-! ### Faults -/

/-- A fault of the running job ends it and changes no byte. -/
theorem jobFault_spec {s : State} (hj : ∃ j, s.krm.job = some j ∧ j.phase = .running) (code cycle : Nat) :
    (s.jobFault code cycle).ended 3 code ∧ sameBytes s (s.jobFault code cycle) := by
  obtain ⟨j, hj, hp⟩ := hj
  exact ⟨State.ended_endJob hj (by rw [hp]; decide) 3 code cycle, (stands_endJob (n := 0) s 3 code cycle).2⟩

/-! ### Contributions -/

theorem State.contribute_none (s : State) (c row : Nat) (per : List (List Contrib)) (lat : Nat) (bad : Bool) :
    s.contribute c row .none per lat bad =
      s.modCore c fun k => { k with flags := Nat.lor k.flags (orFlags (per.map fun l => orFlags (l.map (·.flags)))) } := rfl

/-- MAX_CONTRIB of the job taken (R149). -/
def State.maxContrib (s : State) : Nat :=
  match s.krm.job with
  | some j => j.maxContrib
  | none => 0

/-- The row that contributions make of row `row` (R117, R118, R187). -/
def State.rowMade (s : State) (c row : Nat) (aop : AccOp) (per : List (List Contrib)) (bad : Bool) : AccRow1 :=
  { ((s.core c).accRow row).withAccs ((s.gathers c row (aop = .init) per).map (·.1)) with
    poison := bad || (aop ≠ .init && ((s.core c).accRow row).poison) }

/-- The job has used fast mode where the row works in it. -/
def State.markFast (s : State) (c row : Nat) : State :=
  s.modJob fun j => { j with fastUsed := j.fastUsed || ((s.core c).accRow row).isFast s.fastOk }

theorem coreTo_markFast (s : State) (c row : Nat) (f : Core1 → Core1) :
    coreTo c (f (s.core c)) (s.markFast c row) ((s.markFast c row).modCore c f) := coreTo_modCore (s.markFast c row) c f

/-- Contributions to a row are noted, or end the job where a count passes MAX_CONTRIB. -/
theorem State.contribute_eq (s : State) (c row : Nat) {aop : AccOp} (per : List (List Contrib)) (lat : Nat) (bad : Bool)
    (ha : aop ≠ .none) : s.contribute c row aop per lat bad =
      if (s.gathers c row (aop = .init) per).any fun q => q.1.count > s.maxContrib then s.jobFault 2 (s.core c).now
      else (s.markFast c row).modCore c fun k => { k with
        flags := Nat.lor k.flags (orFlags ((s.gathers c row (aop = .init) per).map (·.2)))
        pending := k.pending ++ [.acc row (s.rowMade c row aop per bad) lat] } := by
  cases aop with
  | none => exact absurd rfl ha
  | init => rfl
  | add => rfl

/-- With a job taken, the counts fit where none passes its MAX_CONTRIB. -/
theorem State.fits_iff {s : State} {j : Job} (hj : s.krm.job = some j) (c row : Nat) {aop : AccOp} (per : List (List Contrib))
    (ha : aop ≠ .none) : s.fits c row aop per ↔
      ((s.gathers c row (aop = .init) per).any fun q => q.1.count > s.maxContrib) = false := by
  simp [State.fits, State.maxContrib, hj, ha]

/-- Contributions within MAX_CONTRIB note the row's next value and the flags, and nothing else (R118, R187). -/
theorem wroteRow_contribute {s : State} {j : Job} (hj : s.krm.job = some j) {c row : Nat} {aop : AccOp}
    {per : List (List Contrib)} (hf : s.fits c row aop per) (lat : Nat) (bad : Bool) :
    wroteRow c row lat aop per bad s (s.contribute c row aop per lat bad) := by
  unfold wroteRow
  by_cases ha : aop = .none
  · subst ha
    have h := coreTo_modCore s c fun k =>
      { k with flags := Nat.lor k.flags (orFlags (per.map fun l => orFlags (l.map (·.flags)))) }
    rw [State.contribute_none, h.2.1]
    exact ⟨(List.append_nil _).symm, rfl, rfl, rfl, h.onlyCore⟩
  · have h := coreTo_markFast s c row fun k => { k with
      flags := Nat.lor k.flags (orFlags ((s.gathers c row (aop = .init) per).map (·.2)))
      pending := k.pending ++ [.acc row (s.rowMade c row aop per bad) lat] }
    rw [State.contribute_eq _ _ _ _ _ _ ha, (State.fits_iff hj c row per ha).1 hf, if_neg Bool.false_ne_true, h.2.1, if_neg ha,
      if_neg ha]
    exact ⟨rfl, rfl, rfl, rfl, h.onlyCore⟩

/-- A count that passes MAX_CONTRIB ends the job. -/
theorem State.contribute_of_not_fits {s : State} {j : Job} (hj : s.krm.job = some j) {c row : Nat} {aop : AccOp}
    {per : List (List Contrib)} (hf : ¬s.fits c row aop per) (lat : Nat) (bad : Bool) :
    s.contribute c row aop per lat bad = s.jobFault 2 (s.core c).now := by
  have ha : aop ≠ .none := fun h => hf (.inl h)
  rw [State.contribute_eq _ _ _ _ _ _ ha, Bool.eq_true_of_not_eq_false (mt (State.fits_iff hj c row per ha).2 hf), if_pos rfl]

theorem wroteRow.of_readsNoted {c row lat : Nat} {aop : AccOp} {per : List (List Contrib)} {bad : Bool} {s t u : State}
    (h : readsNoted c s t) (hw : wroteRow c row lat aop per bad t u) : wroteRow c row lat aop per bad s u := by
  obtain ⟨hp, hfl, ha, hv, ho⟩ := hw
  rw [h.pending, h.accRow, h.gathers] at hp
  rw [h.flags, h.gathers] at hfl
  exact ⟨hp, hfl, ha.trans h.accs, hv.trans h.vregs, (coreTo.onlyCore h).trans ho⟩

/-- A contribution after noted reads: the row within MAX_CONTRIB, or the end of the job. -/
theorem contribute_spec {c row : Nat} {aop : AccOp} {per : List (List Contrib)} {s t : State} (h : readsNoted c s t)
    (hj : ∃ j, s.krm.job = some j ∧ j.phase = .running) (lat : Nat) (bad : Bool) :
    (s.fits c row aop per → wroteRow c row lat aop per bad s (t.contribute c row aop per lat bad)) ∧
    (¬s.fits c row aop per → (t.contribute c row aop per lat bad).ended 3 2 ∧
      sameBytes s (t.contribute c row aop per lat bad)) := by
  obtain ⟨j, hj, hp⟩ := hj
  rw [← coreTo.job h] at hj
  refine ⟨fun hf => (wroteRow_contribute hj ((h.fits ..).2 hf) lat bad).of_readsNoted h, fun hf => ?_⟩
  rw [State.contribute_of_not_fits hj (mt (h.fits ..).1 hf)]
  have hfault := jobFault_spec ⟨j, hj, hp⟩ 2 (t.core c).now
  exact ⟨hfault.1, sameBytes_trans h.sameBytes hfault.2⟩

/-! ### Dots -/

section
variable {c : Nat} {op : DpuOp} {found : List Upset} {s : State} (hs : s.takesSlot c)
include hs

theorem dotScaledRun_misaligned {fa fb : ScaledFmt} {per : Nat} (h : (s.core c).dotAligned op fb per = false) :
    (dotScaledRun c op fa fb per found s).ended 3 1 ∧ sameBytes s (dotScaledRun c op fa fb per found s) := by
  have heq : dotScaledRun c op fa fb per found s = s.alignFault c := by simp [dotScaledRun, h]
  rw [heq]
  exact jobFault_spec hs.job 1 _

/-- Scaled dots of aligned operands, as the decoder delivers them. -/
theorem dotScaledRun_spec {fa fb : ScaledFmt} {per : Nat} (h : (s.core c).dotAligned op fb per = true) {u : State}
    (hu : u = s.look c found ((s.core c).dotRanges op fa fb per)) :
    (u.fits c op.row.val op.aop (u.dots c op fa fb per) →
      wroteRow c op.row.val 6 op.aop (u.dots c op fa fb per) (u.poisonIn c ((s.core c).dotRanges op fa fb per)) u
        (dotScaledRun c op fa fb per found s)) ∧
    (¬u.fits c op.row.val op.aop (u.dots c op fa fb per) →
      (dotScaledRun c op fa fb per found s).ended 3 2 ∧ sameBytes u (dotScaledRun c op fa fb per found s)) := by
  have hread : readsNoted c u (u.ahead c fun s => (((s.access c op.a.data (32 * per * scaledBytes fa)).access c op.a.scale
      (32 * per)).access c op.b.data (per * scaledBytes fb)).access c op.b.scale per) :=
    readsNoted_ahead u c fun t => (((readsNoted_access t ..).trans (readsNoted_access ..)).trans
      (readsNoted_access ..)).trans (readsNoted_access ..)
  have hj : ∃ j, u.krm.job = some j ∧ j.phase = .running := by rw [hu, State.job_look]; exact hs.job
  have hspec := contribute_spec (row := op.row.val) (aop := op.aop) (per := u.dots c op fa fb per) hread hj 6
    (u.poisonIn c ((s.core c).dotRanges op fa fb per))
  have heq : dotScaledRun c op fa fb per found s = (u.ahead c fun s => (((s.access c op.a.data
      (32 * per * scaledBytes fa)).access c op.a.scale (32 * per)).access c op.b.data (per * scaledBytes fb)).access c
      op.b.scale per).contribute c op.row.val op.aop (u.dots c op fa fb per) 6
        (u.poisonIn c ((s.core c).dotRanges op fa fb per)) := by
    rw [← hread.dots, ← State.poisonIn_eq hread.poison]
    simp only [dotScaledRun, h, Bool.not_true, Bool.false_eq_true, if_false, hu]
  rwa [heq]

theorem dotgRun_misaligned {fa fb : Fmt} (ha : halfOf ((s.core c).fmtPair op.fmt.val).1 = some fa)
    (hb : halfOf ((s.core c).fmtPair op.fmt.val).2 = some fb)
    (h : (s.core c).agAddr op.a.data % 128 ≠ 0 ∨ blockAligned ((s.core c).agAddr op.b.data) 64 = false) :
    (dotgRun c op found s).ended 3 1 ∧ sameBytes s (dotgRun c op found s) := by
  have heq : dotgRun c op found s = s.alignFault c := by
    simp only [dotgRun, ha, hb]
    exact if_pos (by simpa using h)
  rw [heq]
  exact jobFault_spec hs.job 1 _

/-- The reads that a DOTG of core `c` notes, its second KiB at `a`. -/
def State.groupReads (s : State) (c : Nat) (op : DpuOp) (a : Nat) : State :=
  (s.ahead c fun s => (s.access c op.a.data 1024).access c op.b.data 64).modCore c fun k => { k with carryNext := banksOf a 1024 }

omit hs in
theorem State.readsNoted_groupReads (s : State) (c : Nat) (op : DpuOp) (a : Nat) : readsNoted c s (s.groupReads c op a) :=
  (readsNoted_ahead s c fun t => (readsNoted_access t ..).trans (readsNoted_access ..)).trans (readsNoted_modCore fun _ => rfl)

/-- The group dots of aligned operands, as the decoder delivers them. -/
theorem dotgRun_spec {fa fb : Fmt} (ha : halfOf ((s.core c).fmtPair op.fmt.val).1 = some fa)
    (hb : halfOf ((s.core c).fmtPair op.fmt.val).2 = some fb) (hal : (s.core c).agAddr op.a.data % 128 = 0)
    (hbl : blockAligned ((s.core c).agAddr op.b.data) 64 = true) {u : State}
    (hu : u = s.look c found ((s.core c).groupRanges op)) :
    (u.fits c op.row.val op.aop (u.groupDots c op fa fb) →
      wroteRow c op.row.val 7 op.aop (u.groupDots c op fa fb) (u.poisonIn c ((s.core c).groupRanges op)) u
        (dotgRun c op found s)) ∧
    (¬u.fits c op.row.val op.aop (u.groupDots c op fa fb) →
      (dotgRun c op found s).ended 3 2 ∧ sameBytes u (dotgRun c op found s)) := by
  have hread := u.readsNoted_groupReads c op ((s.core c).agAddr op.a.data + 1024)
  have hj : ∃ j, u.krm.job = some j ∧ j.phase = .running := by rw [hu, State.job_look]; exact hs.job
  have hspec := contribute_spec (row := op.row.val) (aop := op.aop) (per := u.groupDots c op fa fb) hread hj 7
    (u.poisonIn c ((s.core c).groupRanges op))
  have heq : dotgRun c op found s = (u.groupReads c op ((s.core c).agAddr op.a.data + 1024)).contribute c op.row.val op.aop
      (u.groupDots c op fa fb) 7 (u.poisonIn c ((s.core c).groupRanges op)) := by
    rw [← hread.groupDots, ← State.poisonIn_eq hread.poison]
    simp only [dotgRun, ha, hb, State.groupReads, hu]
    exact if_neg (by simp [hal, hbl])
  rwa [heq]

theorem vaccRun_spec (va row : Nat) (aop : AccOp) :
    (s.fits c row aop ((s.lanes c va).map fun a => [laneContrib a]) →
      wroteRow c row 6 aop ((s.lanes c va).map fun a => [laneContrib a]) ((s.core c).vreg va).poison s (vaccRun c va aop row s)) ∧
    (¬s.fits c row aop ((s.lanes c va).map fun a => [laneContrib a]) →
      (vaccRun c va aop row s).ended 3 2 ∧ sameBytes s (vaccRun c va aop row s)) :=
  contribute_spec (readsNoted_useV s c va) hs.job 6 ((s.core c).vreg va).poison

end

theorem isNarrow_of_mem {f : ScaledFmt} (h : f ∈ [ScaledFmt.e3m2, .e2m3, .e2m1]) : isNarrow f = true := by
  fin_cases h <;> rfl

/-- DOT on a pair of scaled formats. -/
theorem dotRun_eq {c : Nat} {op : DpuOp} {found : List Upset} {fa fb : ScaledFmt} {s : State}
    (ha : scaledOf ((s.core c).fmtPair op.fmt.val).1 = some fa) (hb : scaledOf ((s.core c).fmtPair op.fmt.val).2 = some fb) :
    dotRun c op found s = dotScaledRun c op fa fb 1 found s := by
  simp only [dotRun, ha, hb]

/-- DOT2 on a pair of narrow formats. -/
theorem dot2Run_eq {c : Nat} {op : DpuOp} {found : List Upset} {fa fb : ScaledFmt} {s : State}
    (hna : fa ∈ [ScaledFmt.e3m2, .e2m3, .e2m1]) (hnb : fb ∈ [ScaledFmt.e3m2, .e2m3, .e2m1])
    (ha : scaledOf ((s.core c).fmtPair op.fmt.val).1 = some fa) (hb : scaledOf ((s.core c).fmtPair op.fmt.val).2 = some fb) :
    dot2Run c op found s = dotScaledRun c op fa fb 2 found s := by
  simp only [dot2Run, ha, hb, isNarrow_of_mem hna, isNarrow_of_mem hnb, Bool.and_self, if_true]

/-- Settles O16: operands that lie amiss, counts that fit and counts that do not, for scaled dots, group dots and lanes. -/
theorem contributions : Obligations.Contributions := by
  refine ⟨fun core op found fa fb s u h hu ha hb hal hf => ?_, fun core op found fa fb s u h hu hna hnb ha hb hal hf => ?_,
    fun core op found fa fb s u h hu ha hb hal hbl hf => ?_, fun core va aop row s h hf => ?_,
    fun core va aop row s h hf => ?_, fun core op found fa fb s u h ha hb => ⟨fun hal => ?_, fun hna hnb hal => ?_,
      fun hu hal hf => ?_, fun hu hna hnb hal hf => ?_⟩,
    fun core op found fa fb s u h ha hb => ⟨fun hal => ?_, fun hu hal hbl hf => ?_⟩⟩
  · exact completes_slot h rfl (dotRun_eq ha hb ▸ (dotScaledRun_spec h hal hu).1 hf)
  · exact completes_slot h rfl (dot2Run_eq hna hnb ha hb ▸ (dotScaledRun_spec h hal hu).1 hf)
  · exact completes_slot h rfl ((dotgRun_spec h ha hb hal hbl hu).1 hf)
  · exact completes_slot h rfl ((vaccRun_spec h va.val row.val aop).1 hf)
  · exact completes_slot h rfl ((vaccRun_spec h va.val row.val aop).2 hf)
  · exact completes_slot h rfl (dotRun_eq ha hb ▸ dotScaledRun_misaligned h hal)
  · exact completes_slot h rfl (dot2Run_eq hna hnb ha hb ▸ dotScaledRun_misaligned h hal)
  · exact completes_slot h rfl (dotRun_eq ha hb ▸ (dotScaledRun_spec h hal hu).2 hf)
  · exact completes_slot h rfl (dot2Run_eq hna hnb ha hb ▸ (dotScaledRun_spec h hal hu).2 hf)
  · exact completes_slot h rfl (dotgRun_misaligned h ha hb hal)
  · exact completes_slot h rfl ((dotgRun_spec h ha hb hal hbl hu).2 hf)

end Sys2Proof.Machine
end

section
/-! SUPPORT. The move slot's loads and stores: what each notes, and the end of the job where its address lies amiss (R120,
R126, R182, R187). -/

namespace Sys2Proof.Machine

/-! ### Loads -/

theorem loaded_loadResult (c r : Nat) (v : BitVec 1024) (bad : Bool) (fl : Nat) (s : State) :
    loaded c r v bad fl s (loadResult c r v bad fl s) := by
  have h := coreTo_modCore s c fun k => { k with
    flags := Nat.lor k.flags fl, pending := k.pending ++ [.vreg r ⟨v, bad, 0⟩ 3] }
  have hc : (loadResult c r v bad fl s).core c = _ := h.2.1
  unfold loaded
  rw [hc]
  exact ⟨rfl, rfl, rfl, rfl, h.onlyCore⟩

theorem loaded.of_readsNoted {c r : Nat} {v : BitVec 1024} {bad : Bool} {fl : Nat} {s t u : State} (h : readsNoted c s t)
    (hl : loaded c r v bad fl t u) : loaded c r v bad fl s u := by
  obtain ⟨hp, hfl, hv, ha, ho⟩ := hl
  exact ⟨h.pending ▸ hp, h.flags ▸ hfl, hv.trans h.vregs, ha.trans h.accs, (coreTo.onlyCore h).trans ho⟩

theorem ldv_loaded (c r : Nat) (ag : AgRef) (found : List Upset) {s u : State} {a : Nat} (ha : a = (s.core c).agAddr ag)
    (hu : u = s.look c found [(a, 128)]) (hal : a % 128 = 0) :
    loaded c r (ofVecBytes (u.coreRead c a 128)) (u.corePoison c a 128) 0 u (ldvRun c r ag found s) := by
  have hread := readsNoted_access u c ag 128
  have heq : ldvRun c r ag found s =
      loadResult c r (ofVecBytes (u.coreRead c a 128)) (u.corePoison c a 128) 0 (u.access c ag 128) := by
    rw [← hread.coreRead, ← State.corePoison_eq hread.poison]
    simp only [ldvRun, ← ha, hal, ← hu, bne_self_eq_false, Bool.false_eq_true, if_false]
  rw [heq]
  exact (loaded_loadResult ..).of_readsNoted hread

theorem ldh_loaded (c r : Nat) (ag : AgRef) (fmt : HalfFmt) (found : List Upset) {s u : State} {a : Nat}
    (ha : a = (s.core c).agAddr ag) (hu : u = s.look c found [(a, 64)]) (hal : a % 64 = 0) :
    loaded c r (ofLanes ((groupElems (u.coreRead c a 64) 0).map fun h => (from16 (halfFmt fmt) h).1)) (u.corePoison c a 64)
      (orFlags ((groupElems (u.coreRead c a 64) 0).map fun h => (from16 (halfFmt fmt) h).2)) u (ldhRun c r ag fmt found s) := by
  have hread := readsNoted_access u c ag 64
  have heq : ldhRun c r ag fmt found s =
      loadResult c r (ofLanes ((groupElems (u.coreRead c a 64) 0).map fun h => (from16 (halfFmt fmt) h).1)) (u.corePoison c a 64)
        (orFlags ((groupElems (u.coreRead c a 64) 0).map fun h => (from16 (halfFmt fmt) h).2)) (u.access c ag 64) := by
    rw [← hread.coreRead, ← State.corePoison_eq hread.poison]
    simp only [ldhRun, ← ha, hal, ← hu, bne_self_eq_false, Bool.false_eq_true, if_false, laneResults_map]
  rw [heq]
  exact (loaded_loadResult ..).of_readsNoted hread

theorem ldq_loaded (c r : Nat) (ag sag : AgRef) (fmt : ScaledFmt) (found : List Upset) {s u : State} {a sa : Nat}
    (ha : a = (s.core c).agAddr ag) (hsa : sa = (s.core c).agAddr sag)
    (hu : u = s.look c found [(a, scaledBytes fmt), (sa, 1)]) (hal : blockAligned a (scaledBytes fmt) = true) :
    loaded c r (BitVec.ofNat 1024 (leNat (u.coreRead c a (scaledBytes fmt)) + leNat (u.coreRead c sa 1) * 2 ^ 992))
      (u.corePoison c a (scaledBytes fmt) || u.corePoison c sa 1) 0 u (ldqRun c r ag fmt sag found s) := by
  have hread : readsNoted c u ((u.access c ag (scaledBytes fmt)).access c sag 1) :=
    (readsNoted_access ..).trans (readsNoted_access ..)
  have heq : ldqRun c r ag fmt sag found s = loadResult c r
      (BitVec.ofNat 1024 (leNat (u.coreRead c a (scaledBytes fmt)) + leNat (u.coreRead c sa 1) * 2 ^ 992))
      (u.corePoison c a (scaledBytes fmt) || u.corePoison c sa 1) 0 ((u.access c ag (scaledBytes fmt)).access c sag 1) := by
    rw [← hread.coreRead, ← hread.coreRead, ← State.corePoison_eq hread.poison, ← State.corePoison_eq hread.poison]
    simp only [ldqRun, ← ha, ← hsa, hal, ← hu, Bool.not_true, Bool.false_eq_true, if_false, State.poisonIn, List.any_cons,
      List.any_nil, Bool.or_false]
  rw [heq]
  exact (loaded_loadResult ..).of_readsNoted hread

/-! ### Stores -/

theorem notedStores_of_readsNoted {c : Nat} {s t : State} (h : readsNoted c s t) : notedStores c [] 0 s t :=
  ⟨by rw [h.stores, List.append_nil], h.flags.trans (Nat.or_zero _).symm, h.pending, h.vregs, h.accs, coreTo.onlyCore h⟩

/-- A register read, and the flags of its conversion. -/
theorem notedStores_useV {c : Nat} {s t : State} (h : readsNoted c s t) (r fl : Nat) :
    notedStores c [] fl s (t.modCore c fun k => { k.useV r with flags := Nat.lor k.flags fl }) := by
  have hm := coreTo_modCore t c fun k => { k.useV r with flags := Nat.lor k.flags fl }
  unfold notedStores
  rw [hm.2.1, List.append_nil, ← h.flags]
  exact ⟨h.stores, rfl, h.pending, h.vregs, h.accs, (coreTo.onlyCore h).trans hm.onlyCore⟩

/-- One more store is noted after the others. -/
theorem notedStores.note {c : Nat} {l : List CoreStore} {fl : Nat} {s t : State} (h : notedStores c l fl s t) (a : Nat)
    (bs : List Byte) (bad narrow : Bool) : notedStores c (l ++ [⟨a, bs, bad, narrow⟩]) fl s (t.note c a bs bad narrow) := by
  obtain ⟨hs, hfl, hp, hv, ha, ho⟩ := h
  have hm := coreTo_modCore t c fun k => { k with stores := k.stores ++ [⟨a, bs, bad, narrow⟩] }
  unfold notedStores
  rw [State.note, hm.2.1]
  exact ⟨by rw [hs, List.append_assoc], hfl, hp, hv, ha, ho.trans hm.onlyCore⟩

theorem stv_noted (c r : Nat) (ag : AgRef) {s : State} (hal : (s.core c).agAddr ag % 128 = 0) :
    notedStores c [⟨(s.core c).agAddr ag, vecBytes ((s.core c).vreg r).bits, ((s.core c).vreg r).poison, false⟩] 0 s
      (stvRun c r ag s) := by
  have heq : stvRun c r ag s = ((s.access c ag 128).modCore c fun k => k.useV r).note c ((s.core c).agAddr ag)
      (vecBytes ((s.core c).vreg r).bits) ((s.core c).vreg r).poison false := by
    simp only [stvRun, hal, bne_self_eq_false, Bool.false_eq_true, if_false]
  rw [heq]
  exact (notedStores_of_readsNoted ((readsNoted_access ..).trans (readsNoted_useV ..))).note ..

theorem sth_noted (c r : Nat) (ag : AgRef) (fmt : HalfFmt) (sat : Bool) {s : State} (hal : (s.core c).agAddr ag % 64 = 0) :
    notedStores c [⟨(s.core c).agAddr ag, (s.lanes c r).flatMap fun a => natLe 2 (fto16 (halfFmt fmt) sat a).1,
      ((s.core c).vreg r).poison, false⟩] (orFlags ((s.lanes c r).map fun a => (fto16 (halfFmt fmt) sat a).2)) s
      (sthRun c r ag fmt sat s) := by
  have heq : sthRun c r ag fmt sat s = ((s.access c ag 64).modCore c fun k => { k.useV r with
      flags := Nat.lor k.flags (orFlags ((s.lanes c r).map fun a => (fto16 (halfFmt fmt) sat a).2)) }).note c
        ((s.core c).agAddr ag) ((s.lanes c r).flatMap fun a => natLe 2 (fto16 (halfFmt fmt) sat a).1)
        ((s.core c).vreg r).poison false := by
    simp only [sthRun, hal, bne_self_eq_false, Bool.false_eq_true, if_false, laneResults_map, List.flatMap_map]
    rfl
  rw [heq]
  exact (notedStores_useV (readsNoted_access s c ag 64) r _).note ..

theorem stq_noted (c r : Nat) (ag sag : AgRef) (fmt : ScaledFmt) {s : State}
    (hal : blockAligned ((s.core c).agAddr ag) (scaledBytes fmt) = true) :
    notedStores c
      [⟨(s.core c).agAddr ag, natLe (scaledBytes fmt) ((s.core c).vreg r).bits.toNat, ((s.core c).vreg r).poison, false⟩,
       ⟨(s.core c).agAddr sag, [BitVec.ofNat 8 (((s.core c).vreg r).bits.toNat / 2 ^ 992)], ((s.core c).vreg r).poison, true⟩]
      0 s (stqRun c r ag fmt sag s) := by
  have heq : stqRun c r ag fmt sag s = ((((s.access c ag (scaledBytes fmt)).access c sag 1).modCore c fun k => k.useV r).note c
      ((s.core c).agAddr ag) (natLe (scaledBytes fmt) ((s.core c).vreg r).bits.toNat) ((s.core c).vreg r).poison false).note c
      ((s.core c).agAddr sag) [BitVec.ofNat 8 (((s.core c).vreg r).bits.toNat / 2 ^ 992)] ((s.core c).vreg r).poison true := by
    simp only [stqRun, hal, Bool.not_true, Bool.false_eq_true, if_false]
  rw [heq]
  exact ((notedStores_of_readsNoted (((readsNoted_access ..).trans (readsNoted_access ..)).trans (readsNoted_useV ..))).note
    ..).note ..

/-! ### Addresses that lie amiss -/

/-- An alignment fault on a core that takes slots. -/
theorem alignFault_spec {s : State} {c : Nat} (h : s.takesSlot c) :
    (s.alignFault c).ended 3 1 ∧ sameBytes s (s.alignFault c) := jobFault_spec h.job 1 _

/-- A slot whose act is the alignment fault. -/
theorem completes_misaligned {s : State} {c : Nat} {i : Instr} {act : State → State} (h : s.takesSlot c)
    (he : exec i s = .next (s.slot c i act)) (hf : act s = s.alignFault c) :
    completes i s fun t => t.ended 3 1 ∧ sameBytes s t := completes_slot h he (hf ▸ alignFault_spec h)

/-- Settles O18: the loads, the stores, and the faults, each by what its slot does. -/
theorem loadsAndStores : Obligations.LoadsAndStores := by
  refine ⟨fun core v ag found a s u h ha hu hal => completes_slot h rfl (ldv_loaded _ _ ag found ha hu hal),
    fun core v ag fmt found a s u h ha hu hal => completes_slot h rfl (ldh_loaded _ _ ag fmt found ha hu hal),
    fun core v ag sag fmt found a sa s u h ha hsa hu hal =>
      completes_slot h rfl (ldq_loaded _ _ ag sag fmt found ha hsa hu hal),
    fun core v entry s h => completes_slot h rfl (loaded_loadResult ..),
    fun core v ag s h hal => completes_slot h rfl (stv_noted _ _ ag hal),
    fun core v ag fmt sat s h hal => completes_slot h rfl (sth_noted _ _ ag fmt sat hal),
    fun core v ag sag fmt s h hal => completes_slot h rfl (stq_noted _ _ ag sag fmt hal),
    fun core v ag sag fmt qfmt sat found s h => ⟨fun hal => ?_, fun hal => ?_, fun hal => ?_⟩⟩
  · have hamiss : ((s.core core.val).agAddr ag % 128 != 0) = true := by simpa using hal
    exact ⟨completes_misaligned h rfl (if_pos hamiss), completes_misaligned h rfl (if_pos hamiss)⟩
  · have hamiss : ((s.core core.val).agAddr ag % 64 != 0) = true := by simpa using hal
    exact ⟨completes_misaligned h rfl (if_pos hamiss), completes_misaligned h rfl (if_pos hamiss)⟩
  · have hamiss : (!blockAligned ((s.core core.val).agAddr ag) (scaledBytes qfmt)) = true := by simpa using hal
    exact ⟨completes_misaligned h rfl (if_pos hamiss), completes_misaligned h rfl (if_pos hamiss)⟩

end Sys2Proof.Machine
end

section
/-! SUPPORT. The stores of a bundle: what each puts into memory, and what it leaves of cores, registers and the job (R115, R182,
R187, R188). -/

namespace Sys2Proof.Machine

/-! ### Marks -/

theorem mem_setAdd {l : List Nat} {k x : Nat} : x ∈ setAdd l k ↔ x = k ∨ x ∈ l := by
  induction l with
  | nil => simp [setAdd]
  | cons j t ih =>
    unfold setAdd
    split
    · simp
    · split
      · rename_i h
        simp [h]
      · simp only [List.mem_cons, ih]
        tauto

theorem mem_foldl_setAdd {m l : List Nat} {x : Nat} : x ∈ m.foldl setAdd l ↔ x ∈ m ∨ x ∈ l := by
  induction m generalizing l with
  | nil => simp
  | cons k t ih =>
    rw [List.foldl_cons, ih, mem_setAdd, List.mem_cons]
    tauto

/-- The granules of an access are whole steps from the first, up to its last byte. -/
theorem mem_granulesFrom {g a last fuel p : Nat} (h : p ∈ granulesFrom g a last fuel) :
    p ≤ last ∧ ∃ i, p = a + g * i := by
  induction fuel generalizing a with
  | zero => cases h
  | succ fuel ih =>
    unfold granulesFrom at h
    split at h
    · cases h
    · rcases List.mem_cons.1 h with rfl | h
      · exact ⟨by omega, 0, rfl⟩
      · obtain ⟨hle, i, hi⟩ := ih h
        exact ⟨hle, i + 1, by rw [hi]; ring⟩

/-- The granule of an access's first byte is one of its granules. -/
theorem granule_mem_granules {a n : Nat} (hn : 0 < n) : a / granule a * granule a ∈ granules a n := by
  have hle := Nat.div_mul_le_self a (granule a)
  unfold granules granulesFrom
  rw [if_neg (by omega)]
  dsimp only
  rw [if_neg (by omega)]
  exact List.mem_cons_self ..

/-- A poisoned store marks what it touches. -/
theorem State.poisonedAt_store {s : State} {a : Nat} {bs : List Byte} (h : 0 < bs.length) :
    (s.store a bs true).poisonedAt a bs.length = true := by
  refine List.any_eq_true.2 ⟨_, granule_mem_granules h, ?_⟩
  rw [List.contains_iff_mem]
  exact mem_foldl_setAdd.2 (.inl (granule_mem_granules h))

/-- Whole blocks of SRAM stored without poison carry no mark. -/
theorem State.not_poisonedAt_store {s : State} {a : Nat} {bs : List Byte} (ha : sramBase ≤ a) (h8 : a % 8 = 0)
    (hn : bs.length % 8 = 0) : (s.store a bs false).poisonedAt a bs.length = false := by
  have hg (p : Nat) (hp : sramBase ≤ p) : granule p = 8 := if_pos hp
  refine List.any_eq_false.2 fun p hp => ?_
  rw [List.contains_iff_mem]
  intro hmem
  obtain ⟨-, hc⟩ := List.mem_filter.1 hmem
  unfold granules at hp
  split at hp
  · cases hp
  · rw [hg a ha] at hp
    dsimp only at hp
    rw [Nat.div_mul_cancel (Nat.dvd_of_mod_eq_zero h8)] at hp
    obtain ⟨hle, i, hi⟩ := mem_granulesFrom hp
    simp only [covered, hg p (by omega), Bool.not_eq_true', Bool.and_eq_false_iff, decide_eq_false_iff_not] at hc
    omega

/-! ### One access of a core -/

/-- An access within a row is one piece. -/
theorem pieces_of_oneRow {a n : Nat} (ha : a < sramSize) (hn : 0 < n) (h : oneRow a n = true) : pieces a n = [(a, n)] := by
  have hrow : a % 128 + n ≤ 128 := by simpa [oneRow] using h
  have hone : (a % 128 + n + 127) / 128 = 1 := by omega
  have hmin : min (a + n) ((a / 128 + 0 + 1) * 128) - a = n := by omega
  unfold pieces
  rw [hone]
  simp only [List.range_one, List.map_cons, List.map_nil, if_true, hmin, Nat.mod_eq_of_lt ha]

theorem sramBase_le_sramAddr (c a : Nat) : sramBase ≤ sramAddr c a := by unfold sramAddr; omega

/-! ### What a store leaves -/

/-- `t` comes of `s` by stores of core `c`: of the cores only the banks of `c` may differ, of the registers only those of the
integrity page and beyond, of the job only its poison. -/
structure storeKeeps (c : Nat) (s t : State) : Prop where
  core : ∃ b, t.core c = { s.core c with banks := b }
  others : ∀ d, d ≠ c → t.core d = s.core d
  job : ∀ j, s.krm.job = some j → ∃ b, t.krm.job = some { j with poisoned := b }
  nojob : s.krm.job = none → t.krm.job = none
  krm : t.krm = { s.krm with cores := t.krm.cores, job := t.krm.job }
  regs : ∀ x, x < pINT → t.rd x = s.rd x
  flash : t.flash = s.flash
  sram : t.fwc.sram = s.fwc.sram

/-- A change that shows in none of these. -/
theorem storeKeeps_of_krm {c : Nat} {s t : State} (hk : t.krm = s.krm) (hr : ∀ x, x < pINT → t.rd x = s.rd x)
    (hf : t.flash = s.flash) (hw : t.fwc = s.fwc) : storeKeeps c s t where
  core := ⟨(s.core c).banks, by unfold State.core; rw [hk]⟩
  others d _ := by unfold State.core; rw [hk]
  job j hj := ⟨j.poisoned, by rw [hk, hj]⟩
  nojob hj := by rw [hk, hj]
  krm := by rw [hk]
  regs := hr
  flash := hf
  sram := by rw [hw]

theorem storeKeeps_of_eq {c : Nat} {s t : State} (hk : t.krm = s.krm) (hr : t.regs = s.regs) (hf : t.flash = s.flash)
    (hw : t.fwc = s.fwc) : storeKeeps c s t := storeKeeps_of_krm hk (fun x _ => State.rd_eq s t x hr) hf hw

/-- The job is marked poisoned. -/
theorem storeKeeps_poisoned {c : Nat} {s : State} {j : Job} (hj : s.krm.job = some j) :
    storeKeeps c s { s with krm.job := some { j with poisoned := true } } where
  core := ⟨(s.core c).banks, rfl⟩
  others _ _ := rfl
  job i hi := ⟨true, by rw [hj] at hi; cases hi; rfl⟩
  nojob h := by rw [hj] at h; cases h
  krm := rfl
  regs _ _ := rfl
  flash := rfl
  sram := rfl

theorem storeKeeps.trans {c : Nat} {s t u : State} (h : storeKeeps c s t) (g : storeKeeps c t u) : storeKeeps c s u where
  core := by
    obtain ⟨b, hb⟩ := h.core
    obtain ⟨d, hd⟩ := g.core
    exact ⟨d, by rw [hd, hb]⟩
  others d hd := (g.others d hd).trans (h.others d hd)
  job j hj := by
    obtain ⟨b, hb⟩ := h.job j hj
    obtain ⟨d, hd⟩ := g.job _ hb
    exact ⟨d, hd⟩
  nojob hj := g.nojob (h.nojob hj)
  krm := by rw [g.krm, h.krm]
  regs x hx := (g.regs x hx).trans (h.regs x hx)
  flash := g.flash.trans h.flash
  sram := g.sram.trans h.sram

theorem storeKeeps_foldl {α β : Type} {c : Nat} (st : α → State) (l : List β) (f : α → β → α) (p : α)
    (h : ∀ q x, storeKeeps c (st q) (st (f q x))) : storeKeeps c (st p) (st (l.foldl f p)) := by
  induction l generalizing p with
  | nil => exact storeKeeps_of_eq rfl rfl rfl rfl
  | cons x l ih => exact (h p x).trans (ih _)

theorem storeKeeps_setBank (s : State) (c b : Nat) (k : BankState) : storeKeeps c s (s.setBank c b k) where
  core := ⟨Tab.set (s.core c).banks b k {}, Tab.get_set_same ..⟩
  others _ hd := Tab.get_set_ne _ _ _ _ _ _ hd
  job j hj := ⟨j.poisoned, hj⟩
  nojob hj := hj
  krm := rfl
  regs _ _ := rfl
  flash := rfl
  sram := rfl

theorem storeKeeps_store (s : State) (c a : Nat) (bs : List Byte) (bad : Bool) : storeKeeps c s (s.store a bs bad) :=
  storeKeeps_of_eq rfl rfl rfl rfl

theorem storeKeeps_dropRebuilds (s : State) (c a n : Nat) : storeKeeps c s (s.dropRebuilds c a n) := by
  unfold State.dropRebuilds
  extract_lets b k st
  split
  · exact storeKeeps_of_eq rfl rfl rfl rfl
  · exact storeKeeps_setBank ..

theorem State.rd_bite (s : State) {x : Nat} (hx : x < pINT) : s.bite.rd x = s.rd x := by
  have hint : pINT = 0x610000 := rfl
  have hirq : IRQ_STAT.off = 0x18 := rfl
  have hcnt : pINT ≤ pINT + INT_POISON_CNT.off := Nat.le_add_right ..
  rw [State.bite, State.rd_raise _ _ _ _ (by omega) (by unfold msixWord; omega), State.count,
    State.rd_fset_ne _ _ _ _ _ (by omega)]

theorem storeKeeps_outputBite (s : State) (c a n : Nat) (bad : Bool) : storeKeeps c s (s.outputBite a n bad) := by
  have hk : s.bite.krm = s.krm := by simp [State.bite]
  unfold State.outputBite
  split
  · rename_i j hj
    split
    · have hbite : storeKeeps c s s.bite :=
        storeKeeps_of_krm hk (fun x hx => State.rd_bite s hx) (by simp [State.bite]) (by simp [State.bite])
      exact hbite.trans (storeKeeps_poisoned (by rw [hk, hj]))
    · exact storeKeeps_of_eq rfl rfl rfl rfl
  · exact storeKeeps_of_eq rfl rfl rfl rfl

theorem storeKeeps_coreWrite (s : State) (c a : Nat) (bs : List Byte) (bad : Bool) :
    storeKeeps c s (s.coreWrite c a bs bad) :=
  (storeKeeps_foldl Prod.fst (pieces a bs.length) _ (s, 0) fun q _ =>
    (storeKeeps_store q.1 c ..).trans (storeKeeps_dropRebuilds ..)).trans (storeKeeps_outputBite ..)

theorem storeKeeps_narrowWrite (s : State) (c a : Nat) (v : Byte) (bad : Bool) :
    storeKeeps c s (s.narrowWrite c a v bad) := by
  unfold State.narrowWrite
  extract_lets dev b t u
  have ht : storeKeeps c s t := storeKeeps_store ..
  refine ht.trans (storeKeeps.trans ?_ (storeKeeps_outputBite ..))
  exact storeKeeps_of_eq rfl rfl rfl rfl

/-- The tracker's entry changes a bank, and stale marks. -/
theorem storeKeeps_track (s : State) (c a t : Nat) : storeKeeps c s (s.track c a t).1 := by
  unfold State.track
  extract_lets b row m k
  split
  · exact storeKeeps_setBank ..
  · split
    · exact storeKeeps_setBank ..
    · split
      · exact storeKeeps_of_eq rfl rfl rfl rfl
      · rename_i old rest _
        have hr : storeKeeps c s (s.rebuilt c b old) := storeKeeps_of_eq rfl rfl rfl rfl
        exact hr.trans (storeKeeps_setBank ..)

/-- The tracker may hold the core up, never earlier. -/
theorem le_track (s : State) (c a t : Nat) : t ≤ (s.track c a t).2 := by
  unfold State.track nextSlot
  extract_lets b row m k
  split
  · exact le_refl t
  · split
    · exact le_refl t
    · split
      · exact le_refl t
      · dsimp only
        omega

theorem storeKeeps_makeStore (c : Nat) (p : State × Nat) (x : CoreStore) : storeKeeps c p.1 (makeStore c p x).1 := by
  unfold makeStore
  split
  · exact (storeKeeps_track ..).trans (storeKeeps_narrowWrite ..)
  · exact storeKeeps_coreWrite ..

theorem le_makeStore (c : Nat) (p : State × Nat) (x : CoreStore) : p.2 ≤ (makeStore c p x).2 := by
  unfold makeStore
  split
  · exact le_track ..
  · exact le_refl p.2

theorem le_makeStores (c : Nat) (l : List CoreStore) (p : State × Nat) : p.2 ≤ (l.foldl (makeStore c) p).2 := by
  induction l generalizing p with
  | nil => exact le_refl p.2
  | cons x l ih => exact (le_makeStore c p x).trans (ih _)

/-! ### One store -/

theorem State.outputBite_mem (s : State) (a n : Nat) (bad : Bool) : (s.outputBite a n bad).mem = s.mem := by
  unfold State.outputBite
  split
  · split <;> simp [State.bite]
  · rfl

theorem State.outputBite_poison (s : State) (a n : Nat) (bad : Bool) : (s.outputBite a n bad).poison = s.poison := by
  unfold State.outputBite
  split
  · split <;> simp [State.bite]
  · rfl

theorem State.outputBite_stale (s : State) (a n : Nat) (bad : Bool) : (s.outputBite a n bad).stale = s.stale := by
  unfold State.outputBite
  split
  · split <;> simp [State.bite]
  · rfl

theorem State.poisonedAt_eq {s t : State} (h : t.poison = s.poison) (a n : Nat) : t.poisonedAt a n = s.poisonedAt a n := by
  rw [State.poisonedAt, State.poisonedAt, h]

/-- What a store within one row comes to in memory and among the poison marks. -/
theorem coreWrite_oneRow {s : State} {c a : Nat} {bs : List Byte} (ha : a < sramSize) (hn : 0 < bs.length)
    (h : oneRow a bs.length = true) (bad : Bool) :
    (s.coreWrite c a bs bad).mem = (s.putBytes (sramAddr c a) bs).mem ∧
      (s.coreWrite c a bs bad).poison = (s.store (sramAddr c a) bs bad).poison := by
  have hdrop (u : State) (n : Nat) : (u.dropRebuilds c a n).mem = u.mem ∧ (u.dropRebuilds c a n).poison = u.poison := by
    unfold State.dropRebuilds
    extract_lets b k st
    split <;> exact ⟨rfl, rfl⟩
  have hst : s.coreWrite c a bs bad = ((s.store (sramAddr c a) bs bad).dropRebuilds c a bs.length).outputBite (sramAddr c a)
      bs.length bad := by
    simp only [State.coreWrite, pieces_of_oneRow ha hn h, List.foldl_cons, List.foldl_nil, List.drop_zero, List.take_length]
  rw [hst, State.outputBite_mem, State.outputBite_poison, (hdrop _ _).1, (hdrop _ _).2]
  exact ⟨rfl, rfl⟩

theorem stored_of_mem {s t : State} {c a : Nat} {bs : List Byte} (h : t.mem = (s.putBytes (sramAddr c a) bs).mem) :
    stored c a bs s t := by
  have hb (x : Nat) : t.byteAt x = (s.putBytes (sramAddr c a) bs).byteAt x := congrArg (memByte · 0 x) h
  exact ⟨fun i hi => (hb _).trans (State.byteAt_put_in _ _ _ _ hi), fun x hx => (hb x).trans (State.byteAt_put_out _ _ _ _ hx)⟩

theorem track_mem (s : State) (c a t : Nat) : (s.track c a t).1.mem = s.mem := by
  unfold State.track
  extract_lets b row m k
  split
  · rfl
  · split
    · rfl
    · split <;> rfl

/-- What a narrow store comes to in memory, among the stale marks and the poison marks. -/
theorem narrowWrite_spec (s : State) (c a : Nat) (b : Byte) (bad : Bool) :
    (s.narrowWrite c a b bad).mem = (s.putBytes (sramAddr c a) [b]).mem ∧
      sramAddr c a / 8 * 8 ∈ (s.narrowWrite c a b bad).stale ∧
      (s.narrowWrite c a b bad).poison = (s.store (sramAddr c a) [b] bad).poison := by
  unfold State.narrowWrite
  extract_lets dev p t u
  rw [State.outputBite_mem, State.outputBite_stale, State.outputBite_poison]
  exact ⟨rfl, mem_setAdd.2 (.inl rfl), rfl⟩

end Sys2Proof.Machine
end

section
/-! SUPPORT. A bundle issues: the core, the registers and the memory it leaves before its synchronisation slot acts (R114, R115,
R125, R128, R131, R133). -/

namespace Sys2Proof.Machine

/-! ### Registers and Kermes alone -/

/-- `t` is `s` but for registers and Kermes. -/
def kermesOnly (s t : State) : Prop := t = { s with regs := t.regs, krm := t.krm }

theorem kermesOnly.refl (s : State) : kermesOnly s s := rfl

theorem kermesOnly.trans {s t u : State} (h : kermesOnly s t) (g : kermesOnly t u) : kermesOnly s u := by
  unfold kermesOnly at *
  rw [h] at g
  exact g

theorem kermesOnly_ite {c : Prop} [Decidable c] {s t u : State} (ht : kermesOnly s t) (hu : kermesOnly s u) :
    kermesOnly s (if c then t else u) := by split <;> assumption

theorem kermesOnly_foldl {β : Type} (l : List β) (f : State → β → State) (s : State) (h : ∀ u e, kermesOnly u (f u e)) :
    kermesOnly s (l.foldl f s) := by
  induction l generalizing s with
  | nil => exact kermesOnly.refl s
  | cons a l ih => exact (h s a).trans (ih _)

theorem kermesOnly_fset (s : State) (b : Nat) (f : Fld) (x : Nat) : kermesOnly s (s.fset b f x) := rfl

theorem kermesOnly_modCore (s : State) (c : Nat) (f : Core1 → Core1) : kermesOnly s (s.modCore c f) := rfl

theorem kermesOnly_setCore (s : State) (c : Nat) (k : Core1) : kermesOnly s (s.setCore c k) := rfl

theorem kermesOnly_modJob (s : State) (f : Job → Job) : kermesOnly s (s.modJob f) := rfl

theorem kermesOnly_pset (s : State) (b : Nat) (f : Fld) (x : Nat) : kermesOnly s (s.pset b f x) := rfl

theorem kermesOnly.mem {s t : State} (h : kermesOnly s t) : t.mem = s.mem := (congrArg State.mem h :)
theorem kermesOnly.poison {s t : State} (h : kermesOnly s t) : t.poison = s.poison := (congrArg State.poison h :)
theorem kermesOnly.stale {s t : State} (h : kermesOnly s t) : t.stale = s.stale := (congrArg State.stale h :)

theorem kermesOnly.sameBytes {s t : State} (h : kermesOnly s t) : sameBytes s t :=
  sameBytes_of_eq h.mem (congrArg State.flash h :) (congrArg (Fwc.sram ∘ State.fwc) h :)

/-! ### The cycle of issue -/

theorem le_serve (start from_ : Nat) (busy : Tab Nat) (l : List Nat) (last : Nat) : last ≤ (serve start from_ busy l last).1 := by
  induction l generalizing busy last with
  | nil => exact le_refl last
  | cons b l ih =>
    unfold serve
    exact (le_max_left _ _).trans (ih _ _)

theorem le_issueCycle (k : Core1) (t0 t1 : Nat) : t1 ≤ issueCycle k t0 t1 := le_serve ..

theorem le_foldl_max (l : List Nat) (n : Nat) : n ≤ l.foldl max n := by
  induction l generalizing n with
  | nil => exact le_refl n
  | cons a l ih => exact (le_max_left n a).trans (ih _)

/-! ### The writes of a bundle -/

/-- The writes of a bundle change the core's registers and rows, nothing else (R115). -/
theorem applyWrites_eq (fast : Bool) (t : Nat) (k0 k : Core1) (l : List PendWrite) :
    ∃ v a, l.foldl (applyWrite fast t k0) k = { k with vregs := v, accs := a } := by
  induction l generalizing k with
  | nil => exact ⟨k.vregs, k.accs, rfl⟩
  | cons w l ih =>
    have hone : ∃ v a, applyWrite fast t k0 k w = { k with vregs := v, accs := a } := by
      cases w with
      | vreg r v lat => exact ⟨_, k.accs, rfl⟩
      | acc r v lat => exact ⟨k.vregs, _, rfl⟩
      | readout r row => exact ⟨_, k.accs, rfl⟩
    obtain ⟨v, a, h⟩ := hone
    obtain ⟨v', a', h'⟩ := ih (applyWrite fast t k0 k w)
    exact ⟨v', a', by rw [List.foldl_cons, h', h]⟩

/-- The core as its bundle leaves it, issued at cycle `t`: `k` before it, `k1` with its stores made. -/
def Core1.issued (k k1 : Core1) (fast : Bool) (t : Nat) (loops : List LoopLevel) : Core1 :=
  let k2 := k.pending.foldl (applyWrite fast t k) k1
  let ags := k.steps.eraseDups.foldl (fun m g => Tab.set m g (Tab.get m g {}).step {}) k2.ags
  let ags := k.setags.foldl (fun m p => Tab.set m p.1 (agOf (Tab.get k.agInit p.2 0)) {}) ags
  let tags := k.dmaIssue.foldl (fun m e =>
    let d := k.desc e
    Tab.set m (descTag d) { busy := true, desc := d, issued := t, doneAt := 0 } {}) k2.tags
  { k2.idle with ags := ags, tags := tags, loops := loops, now := t + 1, lastIssue := t, carry := k.carryNext }

/-! ### Flags and reductions -/

/-- The registers and the core that flags change. -/
theorem arithFlags_core (s : State) (c fl : Nat) :
    (∃ a, (s.arithFlags c fl).core c = { s.core c with jobArith := a }) ∧
      (∀ d, d ≠ c → (s.arithFlags c fl).core d = s.core d) ∧ (s.arithFlags c fl).krm.job = s.krm.job ∧
      (s.arithFlags c fl).krm.phase = s.krm.phase := by
  have hk : (s.setArith c fl).krm = s.krm := by
    unfold State.setArith
    split <;> rfl
  have hcore (d : Nat) : (s.setArith c fl).core d = s.core d := by unfold State.core; rw [hk]
  unfold State.arithFlags
  split
  · exact ⟨⟨_, rfl⟩, fun _ _ => rfl, rfl, rfl⟩
  · refine ⟨⟨Nat.lor (s.core c).jobArith fl, ?_⟩, fun d hd => ?_, (congrArg Krm.job hk :), (congrArg Krm.phase hk :)⟩
    · rw [State.core_modCore_same, hcore]
    · rw [State.core_modCore_ne _ _ hd, hcore]

theorem kermesOnly_arithFlags (s : State) (c fl : Nat) : kermesOnly s (s.arithFlags c fl) :=
  kermesOnly_ite rfl (kermesOnly.trans (t := s.setArith c fl) (kermesOnly_ite rfl rfl) (kermesOnly_modCore ..))

/-- The status word of a core takes the flags (R108). -/
theorem State.rd_arithFlags_same (s : State) (c fl : Nat) :
    (s.arithFlags c fl).rd (pKRMCORE c + KCORE_ARITH.off) = s.rd (pKRMCORE c + KCORE_ARITH.off) ||| BitVec.ofNat 32 fl := by
  unfold State.arithFlags
  split
  · rename_i h
    rw [h, BitVec.or_zero]
  · rename_i h
    have hset : s.setArith c fl = s.wr (pKRMCORE c + KCORE_ARITH.off)
      (s.rd (pKRMCORE c + KCORE_ARITH.off) ||| BitVec.ofNat 32 fl) := if_neg h
    rw [hset]
    exact State.rd_wr_same ..

theorem State.rd_arithFlags_ne (s : State) (c fl : Nat) {x : Nat} (hx : x ≠ pKRMCORE c + KCORE_ARITH.off) :
    (s.arithFlags c fl).rd x = s.rd x := by
  unfold State.arithFlags State.setArith
  split
  · rfl
  · exact State.rd_wr_ne _ _ _ _ hx

/-- A core's contributions to reductions change those alone of the job. -/
theorem giveReds_eq (l : Nat) (k : Core1) (t : Nat) (j : Job) (es : List Nat) :
    es.foldl (giveRed l k t) j = { j with reds := (es.foldl (giveRed l k t) j).reds } := by
  induction es generalizing j with
  | nil => rfl
  | cons e es ih => exact ih (giveRed l k t j e)

/-! ### The bundle issued -/

/-- In `m` the stores that the bundle of core `c` noted in `s` are made: none, one alone, or a narrow one alone (R125, R182). -/
def storesMade (c : Nat) (s m : State) : Prop :=
  ((s.core c).stores = [] → sameBytes s m) ∧
  (∀ a bs bad, (s.core c).stores = [⟨a, bs, bad, false⟩] → a < sramSize → 0 < bs.length → oneRow a bs.length = true →
    stored c a bs s m ∧ (bad = true → m.corePoison c a bs.length = true) ∧
      (bad = false → blockAligned a bs.length = true → bs.length % 8 = 0 → m.corePoison c a bs.length = false)) ∧
  ∀ a b bad, (s.core c).stores = [⟨a, [b], bad, true⟩] → a < sramSize → stored c a [b] s m ∧
    sramAddr c a / 8 * 8 ∈ m.stale ∧ (bad = true → m.corePoison c a 1 = true)

theorem kermesOnly.corePoison {s t : State} (h : kermesOnly s t) (c a n : Nat) : t.corePoison c a n = s.corePoison c a n :=
  State.corePoison_eq h.poison c a n

theorem kermesOnly.stored {c a : Nat} {bs : List Byte} {s m r : State} (h : kermesOnly m r) (g : stored c a bs s m) :
    stored c a bs s r :=
  ⟨fun i hi => (h.sameBytes.1 _).trans (g.1 i hi), fun x hx => (h.sameBytes.1 x).trans (g.2 x hx)⟩

theorem storesMade.kermesOnly {c : Nat} {s m r : State} (h : storesMade c s m) (g : kermesOnly m r) : storesMade c s r := by
  obtain ⟨bytes, store, narrow⟩ := h
  refine ⟨fun h => sameBytes_trans (bytes h) g.sameBytes, fun a bs bad h ha hn hrow => ?_, fun a b bad h ha => ?_⟩
  · rw [g.corePoison]
    exact (store a bs bad h ha hn hrow).imp_left g.stored
  · rw [g.corePoison, g.stale]
    exact (narrow a b bad h ha).imp_left g.stored

/-- Bytes and the stores noted are all that the state before counts for. -/
theorem storesMade.of_sameBytes {c : Nat} {s u m : State} (h : storesMade c u m) (hb : sameBytes s u)
    (hs : (u.core c).stores = (s.core c).stores) : storesMade c s m := by
  obtain ⟨bytes, store, narrow⟩ := h
  rw [hs] at bytes store narrow
  have hstored {a : Nat} {bs : List Byte} (g : stored c a bs u m) : stored c a bs s m :=
    ⟨g.1, fun x hx => (g.2 x hx).trans (hb.1 x)⟩
  exact ⟨fun h => sameBytes_trans hb (bytes h), fun a bs bad h ha hn hrow => (store a bs bad h ha hn hrow).imp_left hstored,
    fun a b bad h ha => (narrow a b bad h ha).imp_left hstored⟩

/-- What a bundle of core `c` closed by `op` leaves of `s`, issued at cycle `t`, before its synchronisation slot acts. -/
structure Issued (c : Nat) (op : SyncOp) (s m : State) (t : Nat) : Prop where
  cycle : (s.core c).now ≤ t
  core : ∃ b a w, m.core c = (s.core c).issued { s.core c with banks := b, jobArith := a, waitTags := w } s.fastOk t
    (nextPc (s.pc c) op (s.core c).loops).2
  others : ∀ d, d ≠ c → m.core d = s.core d
  pc : m.pc c = (nextPc (s.pc c) op (s.core c).loops).1 % 2 ^ 14
  arith : m.rd (pKRMCORE c + KCORE_ARITH.off) = s.rd (pKRMCORE c + KCORE_ARITH.off) |||
    BitVec.ofNat 32 (Nat.lor (s.core c).flags (readoutFlags s.fastOk (s.core c)))
  job : ∀ j, s.krm.job = some j →
    ∃ b, m.krm.job = some ((s.core c).redIssue.foldl (giveRed ((s.core c).logical.getD 0) (s.core c) t) { j with poisoned := b })
  phase : m.krm.phase = s.krm.phase
  stores : storesMade c s m

/-- The memory and the marks of the bundle issued. -/
theorem storesMade_of_makeStores {c : Nat} {s u m : State} {t0 : Nat}
    (hu : u = ((s.core c).stores.foldl (makeStore c) (s, t0)).1) (hm : kermesOnly u m) : storesMade c s m := by
  have hpoison {a n : Nat} (ha : a < sramSize) (hn : 0 < n) (h : oneRow a n = true) :
      m.corePoison c a n = u.poisonedAt (sramAddr c a) n := by
    rw [State.corePoison, pieces_of_oneRow ha hn h, List.any_cons, List.any_nil, Bool.or_false,
      State.poisonedAt_eq hm.poison]
  refine ⟨fun h => ?_, fun a bs bad h ha hn hrow => ?_, fun a b bad h ha => ?_⟩ <;> rw [h] at hu
  · rw [hu] at hm
    exact hm.sameBytes
  · obtain ⟨hmem, hmark⟩ := coreWrite_oneRow (s := s) (c := c) ha hn hrow bad
    have hw : u = s.coreWrite c a bs bad := hu
    rw [← hw] at hmem hmark
    refine ⟨stored_of_mem (hm.mem.trans hmem), fun hb => ?_, fun hb hal h8 => ?_⟩
    · rw [hpoison ha hn hrow, State.poisonedAt_eq hmark, hb]
      exact State.poisonedAt_store hn
    · have hal8 : a % 8 = 0 := by
        simp only [blockAligned, Bool.and_eq_true, decide_eq_true_eq] at hal
        exact hal.1
      have hdev : sramAddr c a % 8 = 0 := by
        simp only [sramAddr, sramBase, sramSize] at ha ⊢
        omega
      rw [hpoison ha hn hrow, State.poisonedAt_eq hmark, hb]
      exact State.not_poisonedAt_store (sramBase_le_sramAddr c a) hdev h8
  · let v := (s.track c (a % sramSize) t0).1
    have hw : u = v.narrowWrite c a b bad := hu
    obtain ⟨hmem, hstale, hmark⟩ := narrowWrite_spec v c a b bad
    rw [← hw] at hmem hstale hmark
    have hput : m.mem = (s.putBytes (sramAddr c a) [b]).mem := by
      rw [hm.mem, hmem, State.putBytes, State.putBytes, track_mem]
    have hrow : oneRow a 1 = true := by
      simp only [oneRow, decide_eq_true_eq]
      omega
    refine ⟨stored_of_mem hput, hm.stale ▸ hstale, fun hb => ?_⟩
    rw [hpoison ha Nat.one_pos hrow, State.poisonedAt_eq hmark, hb]
    exact State.poisonedAt_store (bs := [b]) Nat.one_pos

/-- The program counter, the stall counts and the cycle count that an issued bundle leaves on the page at `pg`. -/
def State.counted (s : State) (pg pc d b1 b2 cyc : Nat) : State :=
  let s := s.fset pg KCORE_PC_PC pc
  let s := s.fset pg KCORE_DSTALL (sat32 (s.fget pg KCORE_DSTALL + d))
  let s := s.fset pg KCORE_BSTALL (sat32 (s.fget pg KCORE_BSTALL + b1 + b2))
  s.pset pg KCORE_CYC cyc

theorem kermesOnly_counted (s : State) (pg pc d b1 b2 cyc : Nat) : kermesOnly s (s.counted pg pc d b1 b2 cyc) :=
  (((kermesOnly_fset ..).trans (kermesOnly_fset ..)).trans (kermesOnly_fset ..)).trans (kermesOnly_pset ..)

theorem State.krm_counted (s : State) (pg pc d b1 b2 cyc : Nat) : (s.counted pg pc d b1 b2 cyc).krm = s.krm := by
  simp [State.counted]

theorem State.rd_counted (s : State) (pg pc d b1 b2 cyc : Nat) {x : Nat} (hx : x < pg + KCORE_BSTALL.off) :
    (s.counted pg pc d b1 b2 cyc).rd x = (s.fset pg KCORE_PC_PC pc).rd x := by
  simp only [KCORE_BSTALL] at hx
  unfold State.counted
  extract_lets t u v
  rw [State.pset, State.rd_wr_ne _ _ _ _ (by simp only [KCORE_CYC]; omega),
    State.rd_wr_ne _ _ _ _ (by simp only [KCORE_CYC]; omega), State.rd_fset_ne _ _ _ _ _ (by simp only [KCORE_BSTALL]; omega),
    State.rd_fset_ne _ _ _ _ _ (by simp only [KCORE_DSTALL]; omega)]

/-- Flags and reductions of a bundle, given at cycle `t` with its stores made in `s`. -/
def State.given (s : State) (c : Nat) (k : Core1) (fast : Bool) (t : Nat) : State :=
  (s.arithFlags c (Nat.lor k.flags (readoutFlags fast k))).modJob fun j => k.redIssue.foldl (giveRed (k.logical.getD 0) k t) j

theorem kermesOnly_given (s : State) (c : Nat) (k : Core1) (fast : Bool) (t : Nat) : kermesOnly s (s.given c k fast t) :=
  (kermesOnly_arithFlags ..).trans (kermesOnly_modJob ..)

/-- The core `c` issued by `op` at cycle `t`, in the state `v` with its stores made and its flags given; `k` is the core before. -/
def State.moved (v : State) (c : Nat) (op : SyncOp) (k : Core1) (fast : Bool) (t d b1 b2 cyc : Nat) : State :=
  (v.setCore c (k.issued (v.core c) fast t (nextPc (v.pc c) op k.loops).2)).counted (pKRMCORE c)
    (nextPc (v.pc c) op k.loops).1 d b1 b2 cyc

theorem kermesOnly_moved (v : State) (c : Nat) (op : SyncOp) (k : Core1) (fast : Bool) (t d b1 b2 cyc : Nat) :
    kermesOnly v (v.moved c op k fast t d b1 b2 cyc) := (kermesOnly_setCore ..).trans (kermesOnly_counted ..)

/-- A bundle issues: its stores are made, its flags and reductions given, the core moves on, and its synchronisation slot
acts. -/
theorem State.issueBundle_eq (s : State) (c : Nat) (op : SyncOp) : ∃ ts u t d b1 b2 cyc,
    (s.core c).stores.foldl (makeStore c) (s, ts) = (u, t) ∧ (s.core c).now ≤ t ∧
      s.issueBundle c op = ((u.given c (s.core c) s.fastOk t).moved c op (s.core c) s.fastOk t d b1 b2 cyc).syncEffect c
        ((s.core c).logical.getD 0) t op := by
  unfold State.issueBundle
  extract_lets k pg l t0 ti td t1 ts tr t fast u v k1 k2 ags ags' tags np k' w1 w2 w3 w4 m
  have hle : k.now ≤ t :=
    calc k.now ≤ ti := (le_foldl_max _ _).trans (le_foldl_max _ _)
      _ ≤ t1 := le_max_left _ _
      _ ≤ ts := le_issueCycle ..
      _ ≤ t := le_makeStores c k.stores (s, ts)
  exact ⟨ts, tr.1, t, td - t0, t1 - td, t - t1, t + 1 - k.launchStart, rfl, hle, rfl⟩

/-- The bundle issued, said of the state before it. -/
theorem State.issueBundle_spec (s : State) {c : Nat} (op : SyncOp) (hc : c < 36) :
    ∃ m t, s.issueBundle c op = m.syncEffect c ((s.core c).logical.getD 0) t op ∧ Issued c op s m t := by
  obtain ⟨ts, u, t, d, b1, b2, cyc, hmade, hle, heq⟩ := s.issueBundle_eq c op
  refine ⟨_, t, heq, ?_⟩
  have hu : u = ((s.core c).stores.foldl (makeStore c) (s, ts)).1 := by rw [hmade]
  have hkeep : storeKeeps c s u := hu ▸ storeKeeps_foldl Prod.fst _ (makeStore c) (s, ts) fun q x => storeKeeps_makeStore c q x
  clear heq hmade
  generalize hk : s.core c = k at *
  have hstores := storesMade_of_makeStores (c := c) (s := s) (t0 := ts) (by rw [hk]; exact hu)
    ((kermesOnly_given u c k s.fastOk t).trans (kermesOnly_moved _ c op k s.fastOk t d b1 b2 cyc))
  obtain ⟨⟨a, hua⟩, hud, huj, hup⟩ := arithFlags_core u c (Nat.lor k.flags (readoutFlags s.fastOk k))
  obtain ⟨b, hb⟩ := hkeep.core
  have hpg : pKRMCORE c + 0x124 < pINT := by simp only [pKRMCORE, pINT]; omega
  have hpc : (u.given c k s.fastOk t).pc c = s.pc c := by
    refine congrArg KCORE_PC_PC.get ((State.rd_arithFlags_ne u c _ ?_).trans (hkeep.regs _ ?_)) <;>
      simp only [KCORE_PC_PC, KCORE_ARITH] <;> omega
  have hcore : (u.given c k s.fastOk t).core c = { k with banks := b, jobArith := a } := hua.trans (by rw [hb, hk])
  generalize hv : u.given c k s.fastOk t = v at *
  have hkrm : (v.moved c op k s.fastOk t d b1 b2 cyc).krm =
      (v.setCore c (k.issued (v.core c) s.fastOk t (nextPc (v.pc c) op k.loops).2)).krm := State.krm_counted ..
  exact {
    cycle := by rw [hk]; exact hle
    core := by
      refine ⟨b, a, k.waitTags, ?_⟩
      rw [State.core, hkrm, hk, hcore, hpc]
      exact Tab.get_set_same ..
    others := fun e he => by
      rw [State.core, hkrm]
      refine (Tab.get_set_ne _ _ _ _ _ _ he).trans (Eq.trans ?_ (hkeep.others e he))
      rw [← hv]
      exact hud e he
    pc := by
      rw [State.pc, State.fget, State.moved, State.rd_counted _ _ _ _ _ _ _ (Nat.add_lt_add_left (by decide) _), hpc, hk]
      exact State.fget_fset_same _ _ KCORE_PC_PC _ (by decide)
    arith := by
      rw [State.moved, State.rd_counted _ _ _ _ _ _ _ (Nat.add_lt_add_left (by decide) _), State.rd_fset_ne _ _ _ _ _ (by simp [KCORE_ARITH, KCORE_PC_PC]), hk, ← hv,
        ← hkeep.regs _ (by simp only [KCORE_ARITH]; omega)]
      exact State.rd_arithFlags_same ..
    job := fun j hj => by
      obtain ⟨p, hp⟩ := hkeep.job j hj
      refine ⟨p, ?_⟩
      rw [hkrm, hk]
      show v.krm.job = _
      rw [← hv]
      show (u.arithFlags c _).krm.job.map _ = _
      rw [huj, hp]
      rfl
    phase := by
      rw [hkrm]
      show v.krm.phase = _
      rw [← hv]
      exact hup.trans (congrArg Krm.phase hkeep.krm :)
    stores := hstores }

end Sys2Proof.Machine
end

section
/-! SUPPORT. The synchronisation slot: what its effect leaves of the bundle issued, and how a core comes to close a bundle
(R121, R122, R136, R150). -/

namespace Sys2Proof.Machine

/-! ### The end of a job, once more -/

theorem State.endJob_none {s : State} (hj : s.krm.job = none) (status code cycle : Nat) : s.endJob status code cycle = s := by
  unfold State.endJob
  rw [hj]

/-- A job that has ended already changes its status at most. -/
theorem State.regs_endJob_ended {s : State} {j : Job} (hj : s.krm.job = some j) (hp : j.phase = .ended) (status code cycle : Nat) :
    (s.endJob status code cycle).regs = s.regs := by
  unfold State.endJob
  simp only [hj, if_pos hp]
  split <;> rfl

/-- After the job's cores are stopped, its end writes KG_STAT and the barrier words alone. -/
theorem stands_stopped_endJob {W : Nat → Prop} (hglob : ¬W (pKRMGLOB + 0x104)) (hbar : ∀ q ∈ [0, 1, 2, 3], ¬W (pKRMQUAD q + 0x108))
    {s : State} {j : Job} (hj : s.krm.job = some j) (hp : j.phase ≠ .ended) (status code cycle : Nat) :
    stands W (j.phys.foldl State.stopCore s) (s.endJob status code cycle) := by
  unfold State.endJob
  simp only [hj, if_neg hp]
  refine stands.trans ?_ (stands_foldl _ _ _ fun w q hq => stands_fset w _ _ _ (hbar q hq))
  exact (stands_of_eq rfl rfl rfl rfl).trans ((stands_fset _ _ KG_STAT_RUNNING _ hglob).trans (stands_fset _ _ KG_STAT_LOADING _ hglob))

/-- The end of a job writes RUNNING of its cores, KG_STAT and the barrier words, and no other register. -/
theorem stands_endJob_of {W : Nat → Prop} (hcore : ∀ c, ¬W (pKRMCORE c + 0x104)) (hglob : ¬W (pKRMGLOB + 0x104))
    (hbar : ∀ q ∈ [0, 1, 2, 3], ¬W (pKRMQUAD q + 0x108)) (s : State) (status code cycle : Nat) :
    stands W s (s.endJob status code cycle) := by
  cases hj : s.krm.job with
  | none =>
    rw [State.endJob_none hj]
    exact stands.refl s
  | some j =>
    by_cases hp : j.phase = .ended
    · unfold State.endJob
      simp only [hj, if_pos hp]
      exact stands_ite (fun _ => stands_of_eq rfl rfl rfl rfl) fun _ => stands.refl s
    · have hstop (w : State) (c : Nat) : stands W w (w.stopCore c) :=
        (stands_of_eq rfl rfl rfl rfl).trans (stands_fset _ _ KCORE_STAT_RUNNING _ (hcore c))
      exact (stands_foldl _ _ s fun w c _ => hstop w c).trans (stands_stopped_endJob hglob hbar hj hp status code cycle)

theorem kermesOnly_stopCore (s : State) (c : Nat) : kermesOnly s (s.stopCore c) :=
  (kermesOnly_modCore ..).trans (kermesOnly_fset ..)

theorem kermesOnly_endJob (s : State) (status code cycle : Nat) : kermesOnly s (s.endJob status code cycle) := by
  unfold State.endJob
  split
  · exact kermesOnly.refl s
  · refine kermesOnly_ite (kermesOnly_ite rfl rfl) ?_
    extract_lets ran count t k u v
    have ht : kermesOnly s t := kermesOnly_foldl _ _ s kermesOnly_stopCore
    have hu : kermesOnly t u := rfl
    have hv : kermesOnly u v := (kermesOnly_fset u ..).trans (kermesOnly_fset _ ..)
    exact ((ht.trans hu).trans hv).trans (kermesOnly_foldl _ _ v fun w q => kermesOnly_fset w ..)

/-- A core that the end of a job may have stopped: as it was, or idle and at no barrier. -/
def stoppedAs (k k' : Core1) : Prop := k' = k ∨ k' = { k.idle with waitBar := none }

theorem stoppedAs_stopCore {c : Nat} {k : Core1} {s : State} (h : stoppedAs k (s.core c)) (d : Nat) :
    stoppedAs k ((s.stopCore d).core c) := by
  have hcore : (s.stopCore d).core c = (s.modCore d fun k => { k.idle with waitBar := none }).core c := rfl
  rw [hcore]
  by_cases hd : c = d
  · subst hd
    rw [State.core_modCore_same]
    rcases h with h | h <;> rw [h] <;> exact .inr rfl
  · rwa [State.core_modCore_ne _ _ hd]

theorem stoppedAs_endJob (s : State) (c status code cycle : Nat) :
    stoppedAs (s.core c) ((s.endJob status code cycle).core c) := by
  unfold State.endJob
  split
  · exact .inl rfl
  · rename_i j _
    split
    · split <;> exact .inl rfl
    · extract_lets ran count t k u v
      have ht : ∀ (l : List Nat) (w : State), stoppedAs (s.core c) (w.core c) →
          stoppedAs (s.core c) ((l.foldl State.stopCore w).core c) := by
        intro l
        induction l with
        | nil => exact fun _ h => h
        | cons d l ih => exact fun w h => ih _ (stoppedAs_stopCore h d)
      have hv : ([0, 1, 2, 3].foldl (fun s q => s.fset (pKRMQUAD q) KQ_BAR_ARRIVED 0) v).core c = t.core c := rfl
      rw [hv]
      exact ht j.phys s (.inl rfl)

/-! ### The effect of the slot -/

/-- The program counter and the status word of core `c`. -/
def issueWord (c x : Nat) : Prop := x = pKRMCORE c + KCORE_PC_PC.off ∨ x = pKRMCORE c + KCORE_ARITH.off

theorem not_issueWord_stat {c : Nat} (d : Nat) : ¬issueWord c (pKRMCORE d + 0x104) := by
  simp only [issueWord, pKRMCORE, KCORE_PC_PC, KCORE_ARITH]
  omega

theorem not_issueWord_glob {c : Nat} : ¬issueWord c (pKRMGLOB + 0x104) := by
  simp only [issueWord, pKRMCORE, pKRMGLOB, KCORE_PC_PC, KCORE_ARITH]
  omega

theorem not_issueWord_bar {c : Nat} (hc : c < 36) (q : Nat) : ¬issueWord c (pKRMQUAD q + 0x108) := by
  simp only [issueWord, pKRMCORE, pKRMQUAD, KCORE_PC_PC, KCORE_ARITH]
  omega

theorem stands_endJob_issue {c : Nat} (hc : c < 36) (s : State) (status code cycle : Nat) :
    stands (issueWord c) s (s.endJob status code cycle) :=
  stands_endJob_of not_issueWord_stat not_issueWord_glob (fun q _ => not_issueWord_bar hc q) s status code cycle

theorem stands_showBarrier {c : Nat} (hc : c < 36) (s : State) (q : Nat) (i : Option Nat) :
    stands (issueWord c) s (s.showBarrier q i) := by
  unfold State.showBarrier
  split
  · exact stands.refl s
  · extract_lets m t
    have ht : stands (issueWord c) s t := stands_fset _ _ KQ_BAR_ARRIVED _ (not_issueWord_bar hc q)
    split
    · exact ht.trans (stands_fset _ _ KQ_BAR_LAST_ID _ (not_issueWord_bar hc q))
    · exact ht

theorem kermesOnly_showBarrier (s : State) (q : Nat) (i : Option Nat) : kermesOnly s (s.showBarrier q i) := by
  unfold State.showBarrier
  split
  · exact kermesOnly.refl s
  · split
    · exact (kermesOnly_fset ..).trans (kermesOnly_fset ..)
    · exact kermesOnly_fset ..

theorem State.krm_showBarrier (s : State) (q : Nat) (i : Option Nat) : (s.showBarrier q i).krm = s.krm := by
  unfold State.showBarrier
  split
  · rfl
  · split <;> rfl

/-- A core arrived at a barrier. -/
def State.arrived (s : State) (c l : Nat) (chip : Bool) (ident : Nat) : State :=
  let s := s.modCore c fun k => { k with waitBar := some (chip, ident) }
  if chip then s else s.showBarrier (l / 8) (some ident)

theorem State.krm_arrived (s : State) (c l : Nat) (chip : Bool) (ident : Nat) :
    (s.arrived c l chip ident).krm = (s.modCore c fun k => { k with waitBar := some (chip, ident) }).krm := by
  unfold State.arrived
  split
  · rfl
  · exact State.krm_showBarrier ..

/-- A core arrives, or its identifier is not that of another core in scope. -/
theorem State.arrive_eq {s : State} {j : Job} (hj : s.krm.job = some j) (c l : Nat) (chip : Bool) (ident t : Nat) :
    s.arrive c l chip ident t =
      if ((j.inScope chip (l / 8)).filter fun p => p.2 != c).any fun p =>
          match (s.core p.2).waitBar with | some b => b.1 = chip && b.2 != ident | none => false
      then s.jobFault 4 t else s.arrived c l chip ident := by
  unfold State.arrive
  rw [hj]
  rfl

/-- What the effect of a synchronisation slot leaves: the core's program counter and status word, memory, and of the core, with
nothing of a bundle in progress, all but its barrier and whether it has retired. -/
structure syncKeeps (c : Nat) (s t : State) : Prop where
  words : ∀ x, issueWord c x → t.rd x = s.rd x
  only : kermesOnly s t
  core : (s.core c).idle = { s.core c with carry := [] } →
    ∃ w r a, t.core c = { s.core c with waitBar := w, retired := r, carry := a }

theorem syncKeeps.refl (c : Nat) (s : State) : syncKeeps c s s :=
  ⟨fun _ _ => rfl, rfl, fun _ => ⟨(s.core c).waitBar, (s.core c).retired, (s.core c).carry, rfl⟩⟩

theorem syncKeeps_of_krm {c : Nat} {s t : State} (hw : stands (issueWord c) s t) (ho : kermesOnly s t) (hk : t.krm = s.krm) :
    syncKeeps c s t :=
  ⟨hw.1, ho, fun _ => ⟨(s.core c).waitBar, (s.core c).retired, (s.core c).carry, by unfold State.core; rw [hk]⟩⟩

theorem syncKeeps_endJob {c : Nat} (hc : c < 36) (s : State) (status code cycle : Nat) :
    syncKeeps c s (s.endJob status code cycle) where
  words := (stands_endJob_issue hc s status code cycle).1
  only := kermesOnly_endJob ..
  core hidle := by
    rcases stoppedAs_endJob s c status code cycle with h | h
    · exact ⟨(s.core c).waitBar, (s.core c).retired, (s.core c).carry, h⟩
    · exact ⟨none, (s.core c).retired, [], by rw [h, hidle]⟩

theorem syncKeeps_arrived {c : Nat} (hc : c < 36) (s : State) (l : Nat) (chip : Bool) (ident : Nat) :
    syncKeeps c s (s.arrived c l chip ident) where
  words := by
    unfold State.arrived
    split
    · exact fun _ _ => rfl
    · exact fun x hx => (stands_showBarrier hc _ _ _).1 x hx
  only := kermesOnly_ite (kermesOnly_modCore ..) ((kermesOnly_modCore ..).trans (kermesOnly_showBarrier ..))
  core _ := ⟨some (chip, ident), (s.core c).retired, (s.core c).carry, by
    rw [State.core, State.krm_arrived]
    exact State.core_modCore_same ..⟩

theorem syncKeeps.trans {c : Nat} {s t u : State} (h : syncKeeps c s t) (g : syncKeeps c t u) : syncKeeps c s u where
  words x hx := (g.words x hx).trans (h.words x hx)
  only := h.only.trans g.only
  core hidle := by
    obtain ⟨w, r, a, ht⟩ := h.core hidle
    have hidle' : (t.core c).idle = { t.core c with carry := [] } := by
      have hsame : (t.core c).idle = { (s.core c).idle with waitBar := w, retired := r } := by rw [ht]; rfl
      rw [hsame, hidle, ht]
    obtain ⟨w', r', a', hu⟩ := g.core hidle'
    exact ⟨w', r', a', by rw [hu, ht]⟩

/-- The core retires: RUNNING falls. -/
def State.retires (s : State) (c : Nat) : State :=
  (s.modCore c fun k => { k with retired := true }).fset (pKRMCORE c) KCORE_STAT_RUNNING 0

theorem State.core_retires (s : State) (c : Nat) : (s.retires c).core c = { s.core c with retired := true } := by
  have h : (s.retires c).core c = (s.modCore c fun k => { k with retired := true }).core c := rfl
  rw [h, State.core_modCore_same]

theorem syncKeeps_retires (s : State) (c : Nat) : syncKeeps c s (s.retires c) where
  words x hx := (stands_fset _ _ KCORE_STAT_RUNNING _ (not_issueWord_stat c)).1 x hx
  only := (kermesOnly_modCore ..).trans (kermesOnly_fset ..)
  core _ := ⟨(s.core c).waitBar, true, (s.core c).carry, s.core_retires c⟩

theorem State.syncEffect_endStream (s : State) (c l t : Nat) :
    s.syncEffect c l t .endStream = s.retires c ∨
      ∃ cycle, s.syncEffect c l t .endStream = (s.retires c).endJob 0 0 cycle := by
  have h : s.syncEffect c l t .endStream = match (s.retires c).krm.job with
    | some j => if j.phys.all fun p => ((s.retires c).core p).retired then
        (s.retires c).endJob 0 0 (j.phys.foldl (fun m p => max m ((s.retires c).core p).lastIssue) t) else s.retires c
    | none => s.retires c := rfl
  rw [h]
  split
  · split
    · exact .inr ⟨_, rfl⟩
    · exact .inl rfl
  · exact .inl rfl

theorem syncKeeps_syncEffect {c : Nat} (hc : c < 36) (s : State) (l t : Nat) (op : SyncOp) :
    syncKeeps c s (s.syncEffect c l t op) := by
  cases op with
  | bar chip ident =>
    show syncKeeps c s (s.arrive c l chip ident t)
    cases hj : s.krm.job with
    | none =>
      have h : s.arrive c l chip ident t = s := by unfold State.arrive; rw [hj]
      rw [h]
      exact syncKeeps.refl c s
    | some j =>
      rw [State.arrive_eq hj]
      split
      · exact syncKeeps_endJob hc ..
      · exact syncKeeps_arrived hc ..
  | phase ph =>
    show syncKeeps c s (match s.krm.job with | some j => _ | none => _)
    split
    · split
      · exact ⟨fun _ _ => rfl, rfl, fun _ => ⟨_, _, _, rfl⟩⟩
      · exact syncKeeps.refl c s
    · exact syncKeeps.refl c s
  | mark arg =>
    refine syncKeeps_of_krm (stands_fset _ _ KCORE_MARK_MARK _ ?_) rfl rfl
    simp only [issueWord, KCORE_MARK_MARK, KCORE_PC_PC, KCORE_ARITH]
    omega
  | endStream =>
    have hr := syncKeeps_retires s c
    rcases s.syncEffect_endStream c l t with h | ⟨cycle, h⟩ <;> rw [h]
    · exact hr
    · exact hr.trans (syncKeeps_endJob hc ..)
  | _ => exact syncKeeps.refl c s

end Sys2Proof.Machine
end

section
/-! SUPPORT. A bundle closes: what it leaves whichever synchronisation slot closes it (R114, R115, R121, R125). -/

namespace Sys2Proof.Machine

/-- Tags to wait for are no part of what a bundle makes of its core. -/
theorem Core1.issued_waitTags (k k1 : Core1) (w : List Nat) (fast : Bool) (t : Nat) (loops : List LoopLevel) :
    Core1.issued { k with waitTags := w } k1 fast t loops = k.issued k1 fast t loops := by
  have h : applyWrite fast t { k with waitTags := w } = applyWrite fast t k := by
    funext k' x
    cases x <;> rfl
  unfold Core1.issued
  rw [h]
  rfl

/-- A bundle issues alike when tags to wait for are noted first. -/
theorem Issued.of_waitTags {c : Nat} {op : SyncOp} {s u m : State} {t : Nat} {w : List Nat}
    (hu : coreTo c { s.core c with waitTags := w } s u) (h : Issued c op u m t) : Issued c op s m t := by
  have hjob := hu.job
  have hbytes : sameBytes s u := hu.onlyCore.2.2.1
  obtain ⟨heq, hcore, hne⟩ := hu
  have hpc : u.pc c = s.pc c := (congrArg (State.pc · c) heq :)
  have hrd (x : Nat) : u.rd x = s.rd x := (congrArg (State.rd · x) heq :)
  have hfast : u.fastOk = s.fastOk := (congrArg State.fastOk heq :)
  have hflags : readoutFlags s.fastOk { s.core c with waitTags := w } = readoutFlags s.fastOk (s.core c) := rfl
  obtain ⟨cycle, ⟨b, a, w', core⟩, others, pc, arith, job, phase, stores⟩ := h
  rw [hcore] at cycle core pc arith job
  rw [hpc, hfast, Core1.issued_waitTags] at core
  exact {
    cycle := cycle
    core := ⟨b, a, w', core⟩
    others := fun d hd => (others d hd).trans (hne d hd)
    pc := hpc ▸ pc
    arith := by rw [arith, hrd, hfast, hflags]
    job := fun j hj => job j (hjob.trans hj)
    phase := phase.trans (congrArg (Krm.phase ∘ State.krm) heq :)
    stores := stores.of_sameBytes hbytes (congrArg Core1.stores hcore :) }

/-- The bundle of core `c` has issued in `r`, closed by `op`. -/
def issuesAs (c : Nat) (op : SyncOp) (s r : State) : Prop :=
  ∃ m t, r = m.syncEffect c ((s.core c).logical.getD 0) t op ∧ Issued c op s m t

/-- A bundle that closes issues (R114). -/
theorem State.closes.issues {s : State} {c : Nat} (hc : c < 36) (h : s.closes c) (op : SyncOp) :
    issuesAs c op s (s.closeBundle c op) := by
  obtain ⟨hissue, hhold, hlatch⟩ := h
  obtain ⟨⟨j, hj, hrun⟩, -, -, -, -, hheld⟩ := (s.issuing_iff c).1 hissue
  have hu := coreTo_modCore s c fun k => { k with latch := [], held := none }
  generalize hv : (s.modCore c fun k => { k with latch := [], held := none }) = u at hu
  have hsame : ({ s.core c with latch := [], held := none } : Core1) = { s.core c with waitTags := (s.core c).waitTags } := by
    rw [← hlatch, ← hheld]
  rw [hsame] at hu
  have hjr : u.jobRunning = true := by
    unfold State.jobRunning
    rw [hu.job, hj]
    exact decide_eq_true hrun
  have hclose : s.closeBundle c op = u.issueBundle c op := by
    simp [State.closeBundle, hissue, hhold, State.finishBundle, hlatch, hv, hjr]
  obtain ⟨m, t, hr, hm⟩ := u.issueBundle_spec op hc
  rw [hclose]
  exact ⟨m, t, by rw [hr, hu.2.1], hm.of_waitTags hu⟩

/-- WAITD notes its tag. -/
def State.waitsFor (s : State) (c tag : Nat) : State := s.modCore c fun k => { k with waitTags := k.waitTags ++ [tag] }

theorem State.coreTo_waitsFor (s : State) (c tag : Nat) :
    coreTo c { s.core c with waitTags := (s.core c).waitTags ++ [tag] } s (s.waitsFor c tag) := coreTo_modCore ..

theorem State.issuing_waitsFor (s : State) (c tag : Nat) : (s.waitsFor c tag).issuing c = s.issuing c := by
  simp only [State.issuing, (s.coreTo_waitsFor c tag).job, (s.coreTo_waitsFor c tag).2.1]

/-- A tag noted holds the bundle while it is busy, beside what held it before (R114). -/
theorem State.mustHold_waitsFor {s : State} {c : Nat} (hl : (s.core c).latch = []) (tag : Nat) :
    (s.waitsFor c tag).mustHold c = (s.mustHold c || (Tab.get (s.core c).tags tag {}).busy) := by
  simp only [State.mustHold, State.needRows, Core1.needTags, (s.coreTo_waitsFor c tag).job, (s.coreTo_waitsFor c tag).2.1, hl,
    List.any_append, List.any_cons, List.any_nil, List.filterMap_nil, List.append_nil, Bool.or_false]
  ac_rfl

theorem State.closes.exec_waitd {s : State} {core : PhysCore} (h : s.closes core.val) (tag : Fin 16) :
    exec (.waitd core tag) s = .next ((s.waitsFor core.val tag.val).closeBundle core.val .waitd) := by
  show execWaitd core tag s = _
  simp only [execWaitd, h.1, if_true]
  rfl

/-- A WAITD on a tag that is not busy lets the bundle issue (R121). -/
theorem State.closes.issues_waitd {s : State} {c : Nat} (hc : c < 36) (h : s.closes c) {tag : Nat}
    (ht : (Tab.get (s.core c).tags tag {}).busy = false) : issuesAs c .waitd s ((s.waitsFor c tag).closeBundle c .waitd) := by
  obtain ⟨hissue, hhold, hlatch⟩ := h
  have hcore := s.coreTo_waitsFor c tag
  have hcloses : (s.waitsFor c tag).closes c :=
    ⟨(s.issuing_waitsFor c tag).trans hissue, by rw [State.mustHold_waitsFor hlatch, hhold, ht]; rfl, by rw [hcore.2.1]; exact hlatch⟩
  obtain ⟨m, t, hr, hm⟩ := hcloses.issues hc .waitd
  exact ⟨m, t, by rw [hr, hcore.2.1], hm.of_waitTags hcore⟩

/-! ### The bundle gone, whatever closed it -/

/-- What a bundle of core `c` issued at cycle `t` leaves of `s` in `r`, its synchronisation slot `op` included. -/
structure Closed (c : Nat) (op : SyncOp) (t : Nat) (s r : State) : Prop where
  cycle : (s.core c).now ≤ t
  core : ∃ b a w bar ret ca, r.core c = { (s.core c).issued { s.core c with banks := b, jobArith := a, waitTags := w } s.fastOk t
    (nextPc (s.pc c) op (s.core c).loops).2 with waitBar := bar, retired := ret, carry := ca }
  pc : r.pc c = (nextPc (s.pc c) op (s.core c).loops).1 % 2 ^ 14
  arith : r.rd (pKRMCORE c + KCORE_ARITH.off) = s.rd (pKRMCORE c + KCORE_ARITH.off) |||
    BitVec.ofNat 32 (Nat.lor (s.core c).flags (readoutFlags s.fastOk (s.core c)))
  stores : storesMade c s r

/-- The bundle gone, said of the state its synchronisation slot leaves. -/
theorem issuesAs.closed {c : Nat} (hc : c < 36) {op : SyncOp} {s r : State} (h : issuesAs c op s r) :
    ∃ t, Closed c op t s r := by
  obtain ⟨m, t, hr, cycle, ⟨b, a, w, core⟩, -, pc, arith, -, -, stores⟩ := h
  obtain ⟨words, only, kept⟩ := syncKeeps_syncEffect hc m ((s.core c).logical.getD 0) t op
  rw [← hr] at words only kept
  obtain ⟨bar, ret, ca, hcore⟩ := kept (by rw [core]; rfl)
  exact ⟨t, {
    cycle := cycle
    core := ⟨b, a, w, bar, ret, ca, by rw [hcore, core]⟩
    pc := (congrArg KCORE_PC_PC.get (words _ (.inl rfl))).trans pc
    arith := (words _ (.inr rfl)).trans arith
    stores := stores.kermesOnly only }⟩

variable {c t : Nat} {op : SyncOp} {s r : State}

theorem Closed.issuedAt (h : Closed c op t s r) : issuedAt c t s r := by
  obtain ⟨b, a, w, bar, ret, ca, hcore⟩ := h.core
  exact ⟨h.cycle, by rw [hcore]; rfl, by rw [hcore]; rfl⟩

theorem Closed.loops (h : Closed c op t s r) : (r.core c).loops = (nextPc (s.pc c) op (s.core c).loops).2 := by
  obtain ⟨b, a, w, bar, ret, ca, hcore⟩ := h.core
  rw [hcore]
  rfl

theorem Closed.held (h : Closed c op t s r) : (r.core c).held = none := by
  obtain ⟨b, a, w, bar, ret, ca, hcore⟩ := h.core
  rw [hcore]
  rfl

theorem Closed.bundleGone {fl : Nat} (h : Closed c op t s r) (hfl : readoutFlags s.fastOk (s.core c) = fl) :
    bundleGone c fl s r := by
  obtain ⟨b, a, w, bar, ret, ca, hcore⟩ := h.core
  refine ⟨?_, ?_, ?_, h.held, hfl ▸ h.arith⟩ <;> rw [hcore] <;> rfl

theorem Core1.vreg_applyWrite_vreg (fast : Bool) (t : Nat) (k0 k : Core1) (n lat : Nat) (v : VReg1) :
    (applyWrite fast t k0 k (.vreg n v lat)).vreg n = { v with land := max (k.vreg n).land (t + lat) } := Tab.get_set_same ..

theorem Core1.accRow_applyWrite_acc (fast : Bool) (t : Nat) (k0 k : Core1) (n lat : Nat) (v : AccRow1) :
    (applyWrite fast t k0 k (.acc n v lat)).accRow n = { v with land := max (k.accRow n).land (t + lat) } := Tab.get_set_same ..

theorem Core1.vreg_applyWrite_readout (fast : Bool) (t : Nat) (k0 k : Core1) (n row : Nat) :
    (applyWrite fast t k0 k (.readout n row)).vreg n =
      ⟨ofLanes (readRow (k0.accRow row) fast).1, (k0.accRow row).poison, max (k.vreg n).land (t + 4)⟩ := by
  simp only [applyWrite]
  generalize ofLanes (readRow (k0.accRow row) fast).1 = v
  exact Tab.get_set_same ..

/-- A write noted alone is applied to a core of the same registers and rows. -/
theorem Closed.write (h : Closed c op t s r) {x : PendWrite} (hp : (s.core c).pending = [x]) :
    ∃ k : Core1, k.vregs = (s.core c).vregs ∧ k.accs = (s.core c).accs ∧
      (∀ n, (r.core c).vreg n = (applyWrite s.fastOk t (s.core c) k x).vreg n) ∧
      ∀ n, (r.core c).accRow n = (applyWrite s.fastOk t (s.core c) k x).accRow n := by
  obtain ⟨b, a, w, bar, ret, ca, hcore⟩ := h.core
  refine ⟨{ s.core c with banks := b, jobArith := a, waitTags := w }, rfl, rfl, fun n => ?_, fun n => ?_⟩ <;>
    rw [hcore] <;> simp only [Core1.issued, hp] <;> rfl

theorem Closed.vreg (h : Closed c op t s r) {n lat : Nat} {v : VReg1} (hp : (s.core c).pending = [.vreg n v lat]) :
    (r.core c).vreg n = { v with land := max ((s.core c).vreg n).land (t + lat) } := by
  obtain ⟨k, hk, -, hv, -⟩ := h.write hp
  rw [hv, Core1.vreg_applyWrite_vreg, Core1.vreg, hk, Core1.vreg]

theorem Closed.acc (h : Closed c op t s r) {n lat : Nat} {v : AccRow1} (hp : (s.core c).pending = [.acc n v lat]) :
    (r.core c).accRow n = { v with land := max ((s.core c).accRow n).land (t + lat) } := by
  obtain ⟨k, -, hk, -, hv⟩ := h.write hp
  rw [hv, Core1.accRow_applyWrite_acc, Core1.accRow, hk, Core1.accRow]

theorem Closed.readout (h : Closed c op t s r) {n row : Nat} (hp : (s.core c).pending = [.readout n row]) :
    (r.core c).vreg n = ⟨ofLanes (readRow ((s.core c).accRow row) s.fastOk).1,
      ((s.core c).accRow row).poison, max ((s.core c).vreg n).land (t + 4)⟩ := by
  obtain ⟨k, hk, -, hv, -⟩ := h.write hp
  rw [hv, Core1.vreg_applyWrite_readout, Core1.vreg, hk, Core1.vreg]

/-! Of the writes of a bundle a readout alone has flags. -/

theorem readoutFlags_nil {fast : Bool} {k : Core1} (h : k.pending = []) : readoutFlags fast k = 0 := by
  rw [readoutFlags, h]
  rfl

theorem readoutFlags_vreg {fast : Bool} {k : Core1} {n lat : Nat} {v : VReg1} (h : k.pending = [.vreg n v lat]) :
    readoutFlags fast k = 0 := by
  rw [readoutFlags, h]
  exact Nat.zero_or 0

theorem readoutFlags_acc {fast : Bool} {k : Core1} {n lat : Nat} {v : AccRow1} (h : k.pending = [.acc n v lat]) :
    readoutFlags fast k = 0 := by
  rw [readoutFlags, h]
  exact Nat.zero_or 0

theorem readoutFlags_readout {fast : Bool} {k : Core1} {n row : Nat} (h : k.pending = [.readout n row]) :
    readoutFlags fast k = (readRow (k.accRow row) fast).2 := by
  rw [readoutFlags, h]
  exact Nat.zero_or _

/-- Whichever synchronisation slot closes a bundle, it issues. -/
theorem issues_of_closers {core : PhysCore} {arg : Fin 4096} {ident : BitVec 8} {tag : Fin 16} {ph : Fin 8} {mark : BitVec 12}
    (h : s.closes core.val) (ht : (Tab.get (s.core core.val).tags tag.val {}).busy = false) :
    ∀ i ∈ closers core arg ident tag ph mark, completes i s fun t => ∃ op, issuesAs core.val op s t := by
  have hissue (i : Instr) (op : SyncOp) (he : exec i s = .next (s.closeBundle core.val op)) :
      completes i s fun t => ∃ op, issuesAs core.val op s t := ⟨_, he, op, h.issues core.isLt op⟩
  simp only [closers, List.forall_mem_cons]
  exact ⟨hissue _ _ rfl, hissue _ _ rfl, hissue _ _ rfl, hissue _ _ rfl, hissue _ _ rfl, hissue _ _ rfl,
    ⟨_, h.exec_waitd tag, .waitd, h.issues_waitd core.isLt ht⟩, hissue _ _ rfl, hissue _ _ rfl, hissue _ _ rfl, nofun⟩

end Sys2Proof.Machine
end

section
/-! SUPPORT. Each synchronisation slot: its step of the program counter, and its own effect (R121, R122, R136, R150, R389). -/

namespace Sys2Proof.Machine

/-! ### SNOP: generators, descriptors and reductions of the bundle -/

theorem Core1.ags_issued (k : Core1) (b : Tab BankState) (a : Nat) (w : List Nat) (fast : Bool) (t : Nat) (loops : List LoopLevel) :
    (k.issued { k with banks := b, jobArith := a, waitTags := w } fast t loops).ags =
      k.setags.foldl (fun m p => Tab.set m p.1 (agOf (Tab.get k.agInit p.2 0)) {})
        (k.steps.eraseDups.foldl (fun m g => Tab.set m g (Tab.get m g {}).step {}) k.ags) := by
  obtain ⟨v, c, h⟩ := applyWrites_eq fast t k { k with banks := b, jobArith := a, waitTags := w } k.pending
  simp only [Core1.issued, h]

theorem Core1.tags_issued (k : Core1) (b : Tab BankState) (a : Nat) (w : List Nat) (fast : Bool) (t : Nat) (loops : List LoopLevel) :
    (k.issued { k with banks := b, jobArith := a, waitTags := w } fast t loops).tags =
      k.dmaIssue.foldl (fun m e => Tab.set m (descTag (k.desc e)) { busy := true, desc := k.desc e, issued := t, doneAt := 0 } {})
        k.tags := by
  obtain ⟨v, c, h⟩ := applyWrites_eq fast t k { k with banks := b, jobArith := a, waitTags := w } k.pending
  simp only [Core1.issued, h]

/-- A core's row stands in a reduction of the entry it was given to. -/
theorem mem_addRed (e l : Nat) (row : AccRow1) (t : Nat) (rs : List RedState) :
    ∃ d ∈ addRed e l row t rs, d.entry = e ∧ (l, row, t) ∈ d.got := by
  induction rs with
  | nil => exact ⟨⟨e, [(l, row, t)]⟩, by simp [addRed], rfl, by simp⟩
  | cons d rest ih =>
    unfold addRed
    split
    · rename_i h
      simp only [Bool.and_eq_true, decide_eq_true_eq] at h
      exact ⟨{ d with got := d.got ++ [(l, row, t)] }, by simp, h.1, by simp⟩
    · obtain ⟨d', hd, h⟩ := ih
      exact ⟨d', List.mem_cons_of_mem _ hd, h⟩

variable {c t : Nat} {op : SyncOp} {s r : State}

theorem Issued.ags (h : Issued c op s r t) : (r.core c).ags =
    (s.core c).setags.foldl (fun m p => Tab.set m p.1 (agOf (Tab.get (s.core c).agInit p.2 0)) {})
      ((s.core c).steps.eraseDups.foldl (fun m g => Tab.set m g (Tab.get m g {}).step {}) (s.core c).ags) := by
  obtain ⟨b, a, w, hcore⟩ := h.core
  rw [hcore, Core1.ags_issued]

theorem Issued.tags (h : Issued c op s r t) : (r.core c).tags =
    (s.core c).dmaIssue.foldl (fun m e => Tab.set m (descTag ((s.core c).desc e))
      { busy := true, desc := (s.core c).desc e, issued := t, doneAt := 0 } {}) (s.core c).tags := by
  obtain ⟨b, a, w, hcore⟩ := h.core
  rw [hcore, Core1.tags_issued]

theorem Issued.lastIssue (h : Issued c op s r t) : (r.core c).lastIssue = t := by
  obtain ⟨b, a, w, hcore⟩ := h.core
  rw [hcore]
  rfl

theorem Issued.step (h : Issued c op s r t) {g : Nat} (hset : (s.core c).setags = []) (hstep : (s.core c).steps = [g]) :
    Tab.get (r.core c).ags g {} = (Tab.get (s.core c).ags g {}).step := by
  rw [h.ags, hset, hstep]
  exact Tab.get_set_same ..

theorem Issued.setag (h : Issued c op s r t) {g e : Nat} (hset : (s.core c).setags = [(g, e)]) :
    Tab.get (r.core c).ags g {} = agOf (Tab.get (s.core c).agInit e 0) := by
  rw [h.ags, hset]
  exact Tab.get_set_same ..

theorem Issued.dma (h : Issued c op s r t) {e : Nat} (hdma : (s.core c).dmaIssue = [e]) :
    Tab.get (r.core c).tags (descTag ((s.core c).desc e)) {} =
      { busy := true, desc := (s.core c).desc e, issued := (r.core c).lastIssue, doneAt := 0 } := by
  rw [h.tags, hdma, h.lastIssue, List.foldl_cons, List.foldl_nil, Tab.get_set_same]

theorem Issued.red (h : Issued c op s r t) {j : Job} {l e : Nat} (hj : s.krm.job = some j) (hl : (s.core c).logical = some l)
    (hred : (s.core c).redIssue = [e]) : ∃ k, r.krm.job = some k ∧ ∃ d ∈ k.reds, d.entry = e ∧
      (l, (s.core c).accRow (redRow (Tab.get j.redTab e 0)), (r.core c).lastIssue) ∈ d.got := by
  obtain ⟨b, hk⟩ := h.job j hj
  rw [hred, hl] at hk
  rw [h.lastIssue]
  exact ⟨_, hk, mem_addRed ..⟩

/-- The job after a bundle issued, its participants as they were. -/
theorem Issued.job_phys (h : Issued c op s r t) {j : Job} (hj : s.krm.job = some j) :
    ∃ k, r.krm.job = some k ∧ k.phase = j.phase ∧ k.parts = j.parts ∧ k.phys = j.phys := by
  obtain ⟨b, hk⟩ := h.job j hj
  rw [giveReds_eq] at hk
  exact ⟨_, hk, rfl, rfl, rfl⟩

/-! ### Barriers -/

/-- What an arrival at a barrier comes to, said of the cores in scope before the bundle (R136). -/
theorem issuesAs.bar {chip : Bool} {ident : Nat} (h : issuesAs c (.bar chip ident) s r) {j : Job} {l : Nat}
    (hj : s.krm.job = some j) (hrun : j.phase = .running) (hl : (s.core c).logical = some l) :
    ((∀ p ∈ j.inScope chip (l / 8), p.2 ≠ c → ∀ i, (s.core p.2).waitBar = some (chip, i) → i = ident) →
      (r.core c).waitBar = some (chip, ident) ∧ r.issuing c = false) ∧
    (∀ p ∈ j.inScope chip (l / 8), p.2 ≠ c → ∀ i, (s.core p.2).waitBar = some (chip, i) → i ≠ ident → r.ended 3 4) := by
  obtain ⟨m, t, hr, hm⟩ := h
  obtain ⟨k, hk, hphase, hparts, hphys⟩ := hm.job_phys hj
  have hscope : k.inScope chip (l / 8) = j.inScope chip (l / 8) := by rw [Job.inScope, hparts, hphys, Job.inScope]
  have harr : r = m.arrive c l chip ident t := by rw [hr, hl]; rfl
  rw [State.arrive_eq hk, hscope] at harr
  refine ⟨fun hsame => ?_, fun p hp hne i hi hdiff => ?_⟩
  · rw [if_neg] at harr
    · have hwait : (r.core c).waitBar = some (chip, ident) := by
        rw [harr, State.core, State.krm_arrived]
        exact congrArg Core1.waitBar (State.core_modCore_same ..)
      exact ⟨hwait, by simp [State.issuing, hwait]⟩
    · rw [List.any_eq_true]
      rintro ⟨p, hp, hw⟩
      obtain ⟨hp, hne⟩ := List.mem_filter.1 hp
      have hne : p.2 ≠ c := by simpa using hne
      rw [hm.others _ hne] at hw
      split at hw
      · rename_i b hb
        simp only [Bool.and_eq_true, decide_eq_true_eq, bne_iff_ne] at hw
        exact hw.2 (hsame p hp hne b.2 (by rw [hb, ← hw.1]))
      · cases hw
  · rw [if_pos] at harr
    · rw [harr]
      exact State.ended_endJob hk (by rw [hphase, hrun]; decide) ..
    · refine List.any_eq_true.2 ⟨p, List.mem_filter.2 ⟨hp, by simpa using hne⟩, ?_⟩
      rw [hm.others _ hne, hi]
      simpa using hdiff

/-! ### PHASE, MARK and END -/

theorem issuesAs.phase {ph : Nat} (h : issuesAs c (.phase ph) s r) {j : Job} (hj : s.krm.job = some j)
    (hl : (s.core c).logical.isSome = true) :
    r.krm.phase = if j.parts.head? = (s.core c).logical then ph else s.krm.phase := by
  obtain ⟨m, t, hr, hm⟩ := h
  obtain ⟨k, hk, -, hparts, -⟩ := hm.job_phys hj
  obtain ⟨l, hl⟩ := Option.isSome_iff_exists.1 hl
  have heff : m.syncEffect c l t (.phase ph) = if k.parts.head? = some l then { m with krm.phase := ph } else m := by
    show (match m.krm.job with | some j => _ | none => _) = _
    rw [hk]
  rw [hl] at hr
  rw [hl, hr, Option.getD_some, heff, hparts, apply_ite (fun u : State => u.krm.phase), hm.phase]

theorem issuesAs.mark {arg : Nat} (h : issuesAs c (.mark arg) s r) : r.fget (pKRMCORE c) KCORE_MARK_MARK = arg % 2 ^ 12 := by
  obtain ⟨m, t, rfl, -⟩ := h
  exact State.fget_fset_same m _ KCORE_MARK_MARK arg (by decide)

/-- Core `c` has retired and does not run. -/
def retiredIdle (c : Nat) (s : State) : Prop :=
  (s.core c).retired = true ∧ s.flag (pKRMCORE c) KCORE_STAT_RUNNING = false

theorem retiredIdle_retires (s : State) (c : Nat) : retiredIdle c (s.retires c) :=
  ⟨by rw [State.core_retires], State.flag_fset_same _ _ 0 rfl (by decide)⟩

theorem flag_stopCore {s : State} (h : s.flag (pKRMCORE c) KCORE_STAT_RUNNING = false) (d : Nat) :
    (s.stopCore d).flag (pKRMCORE c) KCORE_STAT_RUNNING = false := by
  by_cases hd : c = d
  · subst hd
    exact State.flag_fset_same _ _ 0 rfl (by decide)
  · refine (congrArg (· != 0) (State.fget_fset_ne _ _ _ _ _ _ ?_)).trans h
    simp only [pKRMCORE, KCORE_STAT_RUNNING]
    omega

/-- The end of a job stops no core but to rest. -/
theorem flag_endJob (hc : c < 36) {s : State} (h : s.flag (pKRMCORE c) KCORE_STAT_RUNNING = false) (status code cycle : Nat) :
    (s.endJob status code cycle).flag (pKRMCORE c) KCORE_STAT_RUNNING = false := by
  have hrest {j : Job} (hj : s.krm.job = some j) (hp : j.phase ≠ .ended) :=
    stands_stopped_endJob (W := (· = pKRMCORE c + 0x104)) (by simp only [pKRMGLOB, pKRMCORE]; omega)
      (fun q _ => by simp only [pKRMQUAD, pKRMCORE]; omega) hj hp status code cycle
  have hstop (l : List Nat) (w : State) (hw : w.flag (pKRMCORE c) KCORE_STAT_RUNNING = false) :
      (l.foldl State.stopCore w).flag (pKRMCORE c) KCORE_STAT_RUNNING = false := by
    induction l generalizing w with
    | nil => exact hw
    | cons d l ih => exact ih _ (flag_stopCore hw d)
  cases hj : s.krm.job with
  | none => rwa [State.endJob_none hj]
  | some j =>
    by_cases hp : j.phase = .ended
    · rw [State.flag, State.fget_eq _ _ _ _ (State.regs_endJob_ended hj hp ..)]
      exact h
    · exact (congrArg (KCORE_STAT_RUNNING.get · != 0) ((hrest hj hp).1 _ rfl)).trans (hstop j.phys s h)

theorem retiredIdle_endJob (hc : c < 36) {s : State} (h : retiredIdle c s) (status code cycle : Nat) :
    retiredIdle c (s.endJob status code cycle) := by
  refine ⟨?_, flag_endJob hc h.2 ..⟩
  rcases stoppedAs_endJob s c status code cycle with hk | hk <;> rw [hk] <;> exact h.1

theorem issuesAs.endStream (hc : c < 36) (h : issuesAs c .endStream s r) : retiredIdle c r := by
  obtain ⟨m, t, rfl, -⟩ := h
  rcases m.syncEffect_endStream c ((s.core c).logical.getD 0) t with h | ⟨cycle, h⟩ <;> rw [h]
  · exact retiredIdle_retires m c
  · exact retiredIdle_endJob hc (retiredIdle_retires m c) ..

/-! ### WAITD -/

/-- A WAITD on a busy tag holds its bundle: the core does not issue, and no register and no byte changes (R121). -/
theorem closeBundle_waitsFor (h : s.closes c) {tag : Nat} (ht : (Tab.get (s.core c).tags tag {}).busy = true) :
    (((s.waitsFor c tag).closeBundle c .waitd).core c).held = some .waitd ∧
      ((s.waitsFor c tag).closeBundle c .waitd).issuing c = false ∧
      sameRegs (fun _ => False) s ((s.waitsFor c tag).closeBundle c .waitd) ∧
      sameBytes s ((s.waitsFor c tag).closeBundle c .waitd) := by
  obtain ⟨hissue, -, hlatch⟩ := h
  have hclose : (s.waitsFor c tag).closeBundle c .waitd = (s.waitsFor c tag).modCore c fun k => { k with held := some .waitd } := by
    have hmust : (s.waitsFor c tag).mustHold c = true := by rw [State.mustHold_waitsFor hlatch, ht, Bool.or_true]
    simp [State.closeBundle, State.issuing_waitsFor, hissue, hmust]
  have hheld : (((s.waitsFor c tag).modCore c fun k => { k with held := some .waitd }).core c).held = some .waitd := by
    rw [State.core_modCore_same]
  rw [hclose]
  exact ⟨hheld, by simp [State.issuing], fun _ _ => rfl, sameBytes_of_eq rfl rfl rfl⟩

end Sys2Proof.Machine
end

section
/-! SUPPORT. The statement about the synchronisation slot, clause by clause. -/

namespace Sys2Proof.Machine

/-- What every closed bundle leaves of its writes, flags and stores (R108, R114, R115, R125, R182). -/
def bundleDone (c : Nat) (s t : State) : Prop := ∃ at_, issuedAt c at_ s t ∧
  ((s.core c).pending = [] → bundleGone c 0 s t) ∧
  (∀ r v lat, (s.core c).pending = [.vreg r v lat] → bundleGone c 0 s t ∧
    (t.core c).vreg r = { v with land := max ((s.core c).vreg r).land (at_ + lat) }) ∧
  (∀ row v lat, (s.core c).pending = [.acc row v lat] → bundleGone c 0 s t ∧
    (t.core c).accRow row = { v with land := max ((s.core c).accRow row).land (at_ + lat) }) ∧
  (∀ r row, (s.core c).pending = [.readout r row] →
    bundleGone c (readRow ((s.core c).accRow row) s.fastOk).2 s t ∧
    (t.core c).vreg r = ⟨ofLanes (readRow ((s.core c).accRow row) s.fastOk).1,
      ((s.core c).accRow row).poison, max ((s.core c).vreg r).land (at_ + 4)⟩) ∧
  storesMade c s t

section
variable {c t : Nat} {op : SyncOp} {s r : State}

theorem issuesAs.bundleDone (hc : c < 36) (h : issuesAs c op s r) : bundleDone c s r := by
  obtain ⟨t, h⟩ := h.closed hc
  exact ⟨t, h.issuedAt, fun hp => h.bundleGone (readoutFlags_nil hp),
    fun n v lat hp => ⟨h.bundleGone (readoutFlags_vreg hp), h.vreg hp⟩,
    fun n v lat hp => ⟨h.bundleGone (readoutFlags_acc hp), h.acc hp⟩,
    fun n row hp => ⟨h.bundleGone (readoutFlags_readout hp), h.readout hp⟩, h.stores⟩

/-- A slot that only goes on takes the program counter on by 1. -/
theorem issuesAs.next (hc : c < 36) (h : issuesAs c op s r) (hop : (nextPc (s.pc c) op (s.core c).loops).1 = s.pc c + 1) :
    r.pc c = (s.pc c + 1) % 2 ^ 14 := by
  obtain ⟨t, h⟩ := h.closed hc
  rw [h.pc, hop]

theorem issuesAs.loops (hc : c < 36) (h : issuesAs c op s r) : (r.core c).loops = (nextPc (s.pc c) op (s.core c).loops).2 := by
  obtain ⟨t, h⟩ := h.closed hc
  exact h.loops

/-- The program counter read is of 14 bits. -/
theorem State.pc_lt (s : State) (c : Nat) : s.pc c < 2 ^ 14 := Nat.mod_lt _ (by decide)

theorem issuesAs.pc_endStream (hc : c < 36) (h : issuesAs c .endStream s r) : r.pc c = s.pc c := by
  obtain ⟨t, h⟩ := h.closed hc
  exact h.pc.trans (Nat.mod_eq_of_lt (s.pc_lt c))

end

section
variable {core : PhysCore} {s : State}

/-- A command that closes a bundle by `op`, from what the bundle issued leaves. -/
theorem completes_close {i : Instr} {op : SyncOp} {P : State → Prop} (h : s.closes core.val)
    (he : exec i s = .next (s.closeBundle core.val op)) (hp : ∀ r, issuesAs core.val op s r → P r) : completes i s P :=
  completes_of_next he (hp _ (h.issues core.isLt op))

theorem snop_closes {j : Job} {l : Nat} (h : s.closes core.val) (hj : s.krm.job = some j) (hl : (s.core core.val).logical = some l) :
    completes (.snop core) s fun t =>
      t.pc core.val = (s.pc core.val + 1) % 2 ^ 14 ∧ (t.core core.val).loops = (s.core core.val).loops ∧
      (∀ g, (s.core core.val).setags = [] → (s.core core.val).steps = [g] →
        Tab.get (t.core core.val).ags g {} = (Tab.get (s.core core.val).ags g {}).step) ∧
      (∀ g e, (s.core core.val).setags = [(g, e)] →
        Tab.get (t.core core.val).ags g {} = agOf (Tab.get (s.core core.val).agInit e 0)) ∧
      (∀ e, (s.core core.val).dmaIssue = [e] → Tab.get (t.core core.val).tags (descTag ((s.core core.val).desc e)) {} =
        { busy := true, desc := (s.core core.val).desc e, issued := (t.core core.val).lastIssue, doneAt := 0 }) ∧
      (∀ e, (s.core core.val).redIssue = [e] → ∃ k, t.krm.job = some k ∧ ∃ d ∈ k.reds, d.entry = e ∧
        (l, (s.core core.val).accRow (redRow (Tab.get j.redTab e 0)), (t.core core.val).lastIssue) ∈ d.got) :=
  completes_close h rfl fun r hr => by
    have hpc := hr.next core.isLt rfl
    have hloops := hr.loops core.isLt
    obtain ⟨m, t, rfl, hm⟩ := hr
    exact ⟨hpc, hloops, fun _ => hm.step, fun _ _ => hm.setag, fun _ => hm.dma, fun _ => hm.red hj hl⟩

theorem endl_closes {x : LoopLevel} {l : List LoopLevel} (h : s.closes core.val) (hx : (s.core core.val).loops = x :: l) :
    completes (.endl core) s fun t =>
      (x.left = 0 → (t.core core.val).loops = l ∧ t.pc core.val = (s.pc core.val + 1) % 2 ^ 14) ∧
      (x.left ≠ 0 → (t.core core.val).loops = { x with left := x.left - 1 } :: l ∧ t.pc core.val = x.top % 2 ^ 14) :=
  completes_close h rfl fun r hr => by
    obtain ⟨t, hr⟩ := hr.closed core.isLt
    have hnext : nextPc (s.pc core.val) .endl (x :: l) =
      if x.left = 0 then (s.pc core.val + 1, l) else (x.top, { x with left := x.left - 1 } :: l) := rfl
    rw [hr.loops, hr.pc, hx, hnext]
    exact ⟨fun h0 => by rw [if_pos h0]; exact ⟨rfl, rfl⟩, fun h0 => by rw [if_neg h0]; exact ⟨rfl, rfl⟩⟩

/-- A barrier slot of either scope. -/
theorem bar_closes {i : Instr} {chip : Bool} {ident : Nat} {j : Job} {l : Nat} (h : s.closes core.val)
    (he : exec i s = .next (s.closeBundle core.val (.bar chip ident))) (hj : s.krm.job = some j)
    (hl : (s.core core.val).logical = some l) :
    ((∀ p ∈ j.inScope chip (l / 8), p.2 ≠ core.val → ∀ i, (s.core p.2).waitBar = some (chip, i) → i = ident) →
      completes i s fun t => (t.core core.val).waitBar = some (chip, ident) ∧ t.issuing core.val = false ∧
        t.pc core.val = (s.pc core.val + 1) % 2 ^ 14) ∧
    (∀ p ∈ j.inScope chip (l / 8), p.2 ≠ core.val → ∀ n, (s.core p.2).waitBar = some (chip, n) → n ≠ ident →
      completes i s fun t => t.ended 3 4) := by
  have hrun : j.phase = .running := by
    obtain ⟨⟨k, hk, hrun⟩, -⟩ := (s.issuing_iff core.val).1 h.1
    exact Option.some.inj (hj.symm.trans hk) ▸ hrun
  refine ⟨fun hsame => completes_close h he fun r hr => ?_, fun p hp hne n hn hdiff => completes_close h he fun r hr => ?_⟩
  · obtain ⟨hwait, hstop⟩ := (hr.bar hj hrun hl).1 hsame
    exact ⟨hwait, hstop, hr.next core.isLt rfl⟩
  · exact (hr.bar hj hrun hl).2 p hp hne n hn hdiff

theorem waitd_closes (tag : Fin 16) (h : s.closes core.val) :
    ((Tab.get (s.core core.val).tags tag.val {}).busy = false → completes (.waitd core tag) s fun t =>
      t.pc core.val = (s.pc core.val + 1) % 2 ^ 14 ∧ (t.core core.val).held = none) ∧
    ((Tab.get (s.core core.val).tags tag.val {}).busy = true → completes (.waitd core tag) s fun t =>
      (t.core core.val).held = some .waitd ∧ t.issuing core.val = false ∧ sameRegs (fun _ => False) s t ∧ sameBytes s t) := by
  refine ⟨fun ht => ⟨_, h.exec_waitd tag, ?_⟩, fun ht => ⟨_, h.exec_waitd tag, closeBundle_waitsFor h ht⟩⟩
  have hr := h.issues_waitd core.isLt ht
  obtain ⟨t, hclosed⟩ := hr.closed core.isLt
  exact ⟨hr.next core.isLt rfl, hclosed.held⟩

theorem phase_closes (ph : Fin 8) {j : Job} (h : s.closes core.val) (hj : s.krm.job = some j) :
    completes (.phase core ph) s fun t => t.pc core.val = (s.pc core.val + 1) % 2 ^ 14 ∧
      t.krm.phase = if j.parts.head? = (s.core core.val).logical then ph.val else s.krm.phase :=
  completes_close h rfl fun _ hr => ⟨hr.next core.isLt rfl, hr.phase hj ((s.issuing_iff core.val).1 h.1).2.1⟩

theorem mark_closes (arg : BitVec 12) (h : s.closes core.val) : completes (.mark core arg) s fun t =>
    t.fget (pKRMCORE core.val) KCORE_MARK_MARK = arg.toNat ∧ t.pc core.val = (s.pc core.val + 1) % 2 ^ 14 :=
  completes_close h rfl fun _ hr => ⟨hr.mark.trans (Nat.mod_eq_of_lt arg.isLt), hr.next core.isLt rfl⟩

theorem endStream_closes (h : s.closes core.val) : completes (.endStream core) s fun t =>
    (t.core core.val).retired = true ∧ t.flag (pKRMCORE core.val) KCORE_STAT_RUNNING = false ∧ t.pc core.val = s.pc core.val :=
  completes_close h rfl fun _ hr => by
    obtain ⟨hret, hrun⟩ := hr.endStream core.isLt
    exact ⟨hret, hrun, hr.pc_endStream core.isLt⟩

end

/-- Settles O20: a bundle that closes issues (`State.closes.issues`), whatever its slot then does to the core. -/
theorem bundlesClose : Obligations.BundlesClose :=
  ⟨fun core _ _ _ _ _ _ h ht i hi => completes_mono (issues_of_closers h ht i hi) fun _ ⟨_, hr⟩ => hr.bundleDone core.isLt,
    fun _ _ _ _ h hj hl => snop_closes h hj hl,
    fun core _ _ h => completes_close h rfl fun _ hr => ⟨hr.loops core.isLt, hr.next core.isLt rfl⟩,
    fun core _ _ h => completes_close h rfl fun _ hr => ⟨hr.loops core.isLt, hr.next core.isLt rfl⟩,
    fun _ _ _ _ h hx => endl_closes h hx,
    fun _ _ _ _ _ h hj hl => bar_closes h rfl hj hl,
    fun _ _ _ _ _ h hj hl => bar_closes h rfl hj hl,
    fun _ tag _ h => waitd_closes tag h,
    fun _ ph _ _ h hj => phase_closes ph h hj,
    fun _ arg _ h => mark_closes arg h,
    fun _ _ h => endStream_closes h⟩

end Sys2Proof.Machine
end

section
/-! SUPPORT. Halts of Kermes and the clearing of a core's status word (R109, R137). -/

namespace Sys2Proof.Machine

/-! ### CLR_ARITH -/

theorem findPage_krmcore (core : PhysCore) : findPage ((pKRMCORE core.val + 0x100) / 0x10000) =
    some (⟨.krmcore, 0x10, 36, 0x101, 0x1B, true, false, 0x0, rowsKRMCORE⟩, core.val) := by
  have hpg : (pKRMCORE core.val + 0x100) / 0x10000 = 0x10 + core.val := by simp only [pKRMCORE]; omega
  rw [hpg]
  fin_cases core <;> rfl

/-- A write that a page takes, of a command that is that write and its action. -/
theorem completes_write {i : Instr} {s : State} {cls : Cls} {a v : Nat} {act : State → State} {P : State → Prop}
    (he : exec i s = .next (writeThen s cls a v act)) (h : s.takes cls a v) (hp : P (act (regWrite s cls a 4 v).2)) :
    completes i s P := completes_of_next he (by rwa [writeThen_of_takes act h])

theorem clrArith_clears (cls : Cls) (core : PhysCore) (s : State) (h : s.takes cls (pKRMCORE core.val + 0x100) 4) :
    completes (.clrArith cls core) s fun t => t.fget (pKRMCORE core.val) KCORE_ARITH = 0 ∧ t.krm = s.krm ∧
      sameRegs (fun a => pKRMCORE core.val ≤ a ∧ a < pKRMCORE core.val + 0x10C) s t := by
  have hoff : (pKRMCORE core.val + 0x100) % 0x10000 = 0x100 := by simp only [pKRMCORE]; omega
  obtain ⟨r, e, hr, hpair, hcls⟩ : ∃ r e, findReg rowsKRMCORE ((pKRMCORE core.val + 0x100) % 0x10000) = some (r, e, 0) ∧
      r.pair = false ∧ r.percls = false := by
    rw [hoff]
    exact ⟨_, _, rfl, rfl, rfl⟩
  obtain ⟨-, hw⟩ := regWrite_word (findPage_krmcore core) hr hpair hcls (by simp) (by decide) h
  have hbase : (pKRMCORE core.val + 0x100) / 0x10000 * 0x10000 = pKRMCORE core.val := by simp only [pKRMCORE]; omega
  rw [hbase] at hw
  refine completes_write rfl h ⟨?_, ?_, fun x hx => ?_⟩
  · exact State.fget_fset_same _ _ KCORE_ARITH 0 (by decide)
  · exact (congrArg State.krm (State.behind_regWrite s cls _ 4 4) :)
  · rw [State.rd_fset_ne _ _ _ _ _ (by simp only [KCORE_ARITH]; omega), hw,
      State.rd_seqUp _ _ _ (by simp only [PAGE_SEQ]; omega), State.rd_wr_ne _ _ _ _ (by omega)]
    rfl

/-! ### HALT -/

theorem State.fget_hwSet_same (s : State) {b : Nat} {f : Fld} (x : Nat) (hw : f.inWord) (hx : x < 2 ^ f.w)
    (hseq : f.off ≠ PAGE_SEQ.off) : (s.hwSet b f x).fget b f = x := by
  unfold State.hwSet
  split
  · assumption
  · rw [State.seqUp, State.fget_fset_ne _ _ _ _ _ _ (by omega), State.fget_fset_same _ _ _ _ hw, Nat.mod_eq_of_lt hx]

theorem stands_endJob_ctrl (s : State) (status code cycle : Nat) :
    stands (· = pKRMGLOB + 0x100) s (s.endJob status code cycle) := by
  refine stands_endJob_of ?_ ?_ ?_ s status code cycle <;> simp only [pKRMCORE, pKRMQUAD, pKRMGLOB] <;> omega

/-- A halt holds the queues, changes no byte, and ends a job taken ABORTED, HALT (R137). -/
theorem State.haltKermes_spec (s : State) : s.haltKermes.flag pKRMGLOB KG_CTRL_QHOLD = true ∧ sameBytes s s.haltKermes ∧
    ∀ j, s.krm.job = some j → j.phase ≠ .ended → s.haltKermes.ended 2 1 := by
  have hheld : (s.hwSet pKRMGLOB KG_CTRL_QHOLD 1).flag pKRMGLOB KG_CTRL_QHOLD = true := by
    rw [State.flag, State.fget_hwSet_same _ _ (by decide) (by decide) (by decide)]
    rfl
  exact ⟨((stands_endJob_ctrl ..).flag rfl).trans hheld, (stands_haltKermes (n := pCLK) s).2,
    fun j hj hp => State.ended_endJob ((congrArg Krm.job (by simp : (s.hwSet pKRMGLOB KG_CTRL_QHOLD 1).krm = s.krm)).trans hj) hp ..⟩

theorem halt_holds (cls : Cls) (s : State)
    (h : s.takes cls (pKRMGLOB + 0x100) ((s.rd (pKRMGLOB + 0x100)).toNat / 2 * 2 + 1)) :
    completes (.halt cls) s fun t => t.flag pKRMGLOB KG_CTRL_QHOLD = true ∧ sameBytes s t ∧
      ∀ j, s.krm.job = some j → j.phase ≠ .ended → t.ended 2 1 := by
  refine completes_write rfl h ?_
  have hbehind := State.behind_regWrite s cls (pKRMGLOB + 0x100) 4 ((s.rd (pKRMGLOB + 0x100)).toNat / 2 * 2 + 1)
  generalize (regWrite s cls (pKRMGLOB + 0x100) 4 ((s.rd (pKRMGLOB + 0x100)).toNat / 2 * 2 + 1)).2 = u at hbehind
  obtain ⟨hheld, hbytes, hended⟩ := u.haltKermes_spec
  have hkrm : u.krm = s.krm := (congrArg State.krm hbehind :)
  exact ⟨hheld, sameBytes_trans (sameBytes_of_behind hbehind) hbytes, fun j hj => hended j (hkrm ▸ hj)⟩

end Sys2Proof.Machine
end

section
/-! SUPPORT. A write of the machine's own through the fabric: what it leaves of the machine beyond storage, and the bytes of one
line (R168, R187, R197). -/

namespace Sys2Proof.Machine

/-! ### Beyond storage -/

theorem State.beyond_noteRange (s : State) (a n : Nat) : (s.noteRange a n).beyond = s.beyond := by
  unfold State.noteRange
  split
  · rfl
  · split <;> rfl

theorem State.beyond_writeLine (s : State) (l a : Nat) (bs : List Byte) (poisoned : Bool) :
    (s.writeLine l a bs poisoned).beyond = s.beyond := by
  unfold State.writeLine
  extract_lets t u v w y
  have hu : u.beyond = s.beyond := (State.beyond_foldl _ State.settle t fun _ _ => rfl).trans (State.beyond_see s a _)
  have hw : w.beyond = s.beyond := State.beyond_ite hu hu
  clear_value w
  have hdrop (z : State) (c a n : Nat) : (z.dropRebuilds c a n).beyond = z.beyond := State.beyond_ite rfl rfl
  exact State.beyond_ite ((State.beyond_foldl _ _ y fun z g => hdrop ..).trans hw) hw

theorem State.beyond_lines (s : State) (a : Nat) (bs : List Byte) (poisoned : Bool) :
    ((linesOf a bs.length).foldl (fun t l => if t.reachable l then
      t.writeLine l (linePart a bs l).1 (linePart a bs l).2 poisoned else t) (s.noteRange a bs.length)).beyond = s.beyond :=
  (State.beyond_foldl _ _ _ fun _ _ => State.beyond_ite (State.beyond_writeLine ..) rfl).trans (State.beyond_noteRange ..)

/-- A write through the fabric leaves the queues as they are. -/
theorem State.hostQ_fabWrite (s : State) (a : Nat) (bs : List Byte) (poisoned : Bool) :
    (s.fabWrite a bs poisoned).krm.hostQ = s.krm.hostQ := by
  have hput (t : State) (a : Nat) (bs : List Byte) : (t.putLine a bs).beyond = t.beyond :=
    State.beyond_ite (State.beyond_writeLine ..) rfl
  unfold State.fabWrite State.watchWrite
  refine (foldl_eq (fun u => u.krm.hostQ) _ _ _ fun t e _ => ?_).trans (congrArg (fun u => u.krm.hostQ) (State.beyond_lines ..) :)
  dsimp only
  split
  · split
    · exact (congrArg (fun u => u.krm.hostQ) ((State.beyond_raise ..).trans (hput ..)) :)
    · rfl
  · rfl

/-! ### One line -/

/-- A line the machine reaches is mapped, and on no fenced channel: an access to it is not recorded. -/
theorem State.noteRange_of_reachable {s : State} {a : Nat} (h : s.reachable a = true) {n : Nat} (hl : linesOf a n = [a]) :
    s.noteRange a n = s := by
  unfold State.reachable at h
  have hmap : mapped a = true := by
    split at h
    · rename_i hs
      simp [mapped, hs]
    · split at h <;> [assumption; cases h]
  have hfence : (!inSram a && s.flag (tierPage a) PAGE_STAT_FENCED) = false := by
    split at h
    · rename_i hs
      simp [hs]
    · rename_i hs
      simpa [hs, hmap] using h
  simp [State.noteRange, hl, hmap, hfence]

theorem linesOf_line {a : Nat} (h : a % 64 = 0) : linesOf a 64 = [a] := by
  have ha : a / 64 * 64 = a := by omega
  have h1 : ¬a > a + 64 - 1 := by omega
  have h2 : a + 64 > a + 64 - 1 := by omega
  simp [linesOf, granulesFrom, ha]

theorem linePart_line {a : Nat} {bs : List Byte} (h : bs.length = 64) : linePart a bs a = (a, bs) := by
  simp [linePart, ← h]

/-- What a line written holds after its merge. -/
theorem State.mem_writeLine (s : State) (l a : Nat) (bs : List Byte) :
    ∃ u : State, (s.writeLine l a bs false).mem = (u.putBytes a bs).mem := by
  unfold State.writeLine
  extract_lets t u v w y
  refine ⟨u, ?_⟩
  split
  · exact foldl_eq State.mem _ _ y fun z g _ => by unfold State.dropRebuilds; dsimp only; split <;> rfl
  · rfl

theorem memBytes_eq_map (m : List Host.Cell) (d : Byte) (a n : Nat) :
    memBytes m d a n = (List.range n).map fun i => memByte m d (a + i) := by
  induction n generalizing a with
  | zero => rfl
  | succ n ih =>
    rw [memBytes, ih, List.range_succ_eq_map, List.map_cons, List.map_map]
    congr 1
    exact List.map_congr_left fun i _ => by simp [Nat.add_assoc, Nat.add_comm 1]

theorem memBytes_congr {m m' : List Host.Cell} {d : Byte} (h : ∀ x, memByte m d x = memByte m' d x) {a n : Nat} :
    memBytes m d a n = memBytes m' d a n := by
  simp only [memBytes_eq_map, h]

/-- The bytes of a string as it was put. -/
theorem memBytes_memPut (m : List Host.Cell) (d : Byte) (a : Nat) (l : List Byte) : memBytes (memPut m d a l) d a l.length = l := by
  rw [memBytes_eq_map]
  refine List.ext_getElem (by simp) fun i h1 h2 => ?_
  rw [List.getElem_map, List.getElem_range, memByte_put_in _ _ _ _ _ h2]

/-- A line written whole where the machine reaches it and no watch covers it. -/
theorem State.bytesAt_fabWrite {s : State} {a : Nat} {bs : List Byte} (hlen : bs.length = 64) (ha : a % 64 = 0)
    (hr : s.reachable a = true) (hw : s.qw.watch = []) : (s.fabWrite a bs false).bytesAt a 64 = bs := by
  have hlines : linesOf a bs.length = [a] := hlen ▸ linesOf_line ha
  have hwatch : (s.writeLine a a bs false).qw.watch = [] :=
    (congrArg (fun u => u.qw.watch) (State.beyond_writeLine s a a bs false) :).trans hw
  have hwrite : s.fabWrite a bs false = s.writeLine a a bs false := by
    rw [State.fabWrite, State.noteRange_of_reachable hr hlines, hlines, List.foldl_cons, List.foldl_nil, if_pos hr,
      linePart_line hlen, State.watchWrite, hwatch, List.foldl_nil]
  obtain ⟨u, hmem⟩ := s.mem_writeLine a a bs
  rw [hwrite, State.bytesAt, hmem, ← hlen]
  exact memBytes_memPut ..

end Sys2Proof.Machine
end

section
/-! SUPPORT. The completion record (R150, R151, R158). -/

namespace Sys2Proof.Machine

theorem natLe_length (n v : Nat) : (natLe n v).length = n := by
  induction n generalizing v with
  | zero => rfl
  | succ n ih => rw [natLe, List.length_cons, ih]

theorem slice_length (l : List Byte) (off n : Nat) : (slice l off n).length = n := by
  simp only [slice, List.length_append, List.length_replicate, List.length_take]
  omega

theorem completionBytes_length (s : State) (j : Job) : (completionBytes s j).length = 64 := by
  have hprog : (if j.status = 1 then List.replicate 8 (0 : Byte) else slice j.progDigest 0 8).length = 8 := by
    split
    · simp
    · exact slice_length ..
  simp only [completionBytes, List.length_append, natLe_length, List.length_singleton, hprog]

/-! ### Cores released -/

theorem stands_releaseCores {W : Nat → Prop} (s : State) (j : Job) : stands W s (releaseCores s j) :=
  (show stands W s { s with krm.job := none } from stands_of_eq rfl rfl rfl rfl).trans
    (stands_foldl _ _ _ fun _ _ _ => stands_of_eq rfl rfl rfl rfl)

theorem releaseCores_spec (s : State) (j : Job) : sameBytes s (releaseCores s j) ∧
    (releaseCores s j).krm.job = none ∧ (releaseCores s j).krm.hostQ = s.krm.hostQ :=
  ⟨(stands_releaseCores (W := fun _ => False) s j).2,
    foldl_eq (fun u => u.krm.job) _ _ { s with krm.job := none } fun _ _ _ => rfl,
    foldl_eq (fun u => u.krm.hostQ) _ _ { s with krm.job := none } fun _ _ _ => rfl⟩

/-! ### What becomes of a job that has ended -/

/-- A job aborted by a fence goes back to the head of the queue (R158). -/
def State.resubmits (s : State) (j : Job) : State :=
  { (releaseCores s j) with
    krm.hostQ := { j.sub with resubmitted := true } :: (releaseCores s j).krm.hostQ }.showQueues

/-- The next entry of the completion ring. -/
def State.cringAt (s : State) : Nat := s.pget pKRMGLOB KG_CRING_BASE + 64 * (s.fget pKRMGLOB KG_CRING_WR % s.cringSize)

/-- The record is in the ring, counted. -/
def State.recorded (s : State) (j : Job) : State :=
  (s.fabWrite s.cringAt (completionBytes s j) false).fset pKRMGLOB KG_CRING_WR (s.fget pKRMGLOB KG_CRING_WR + 1)

/-- The ring's fill shows, and the cores are free. -/
def State.coresFreed (s : State) (j : Job) : State :=
  (releaseCores s.showCring j).raise pKRMGLOB (if j.status = 1 then 4 else 3)

/-- The job is over, and its digests, if it asks for them, follow. -/
def State.jobOver (s : State) (j : Job) : State :=
  if !j.digest then s.coresFreed j
  else if j.status = 0 then { (s.coresFreed j) with krm.lastDone := some j }
  else (s.coresFreed j).makeRecord j 2

/-- Whether a host job that a fence aborted goes back to its queue. -/
def State.resubmitting (s : State) (j : Job) : Bool :=
  j.status = 2 && j.code = 2 && !j.sub.witness && !j.sub.resubmitted && s.fget pKRMGLOB KG_CTRL_FENCE_POLICY = 1

section
variable {j : Job} {s : State} (hj : s.krm.job = some j) (hp : j.phase = .ended) (hl : s.krm.lastDone = none)
  (hbusy : ∀ c ∈ j.phys, ∀ e ∈ (s.core c).tags, e.2.busy = false)
include hj hp hl hbusy

/-- What becomes of a job that has ended and has no transfer under way. -/
theorem exec_completionRecord : exec .completionRecord s = .next (if s.resubmitting j then s.resubmits j
    else if j.sub.witness then { (releaseCores s j) with krm.lastDone := some j }
    else if s.cringFull then s else (s.recorded j).jobOver j) := by
  have hidle : (j.phys.any fun c => (s.core c).tags.any fun t => t.2.busy) = false := by
    simpa only [List.any_eq_false, Bool.not_eq_true] using hbusy
  have h : exec .completionRecord s = execCompletionRecord s := rfl
  rw [apply_ite Host.Outcome.next, apply_ite Host.Outcome.next, apply_ite Host.Outcome.next, h, execCompletionRecord, hj]
  simp only [hp, hl, hidle, bne_self_eq_false, Option.isSome_none, Bool.or_self, Bool.false_eq_true, if_false]
  rfl

end

end Sys2Proof.Machine
end

section
/-! SUPPORT. The completion record: what each of its outcomes leaves (R150, R151, R158). -/

namespace Sys2Proof.Machine

/-- The word that counts the entries of the completion ring. -/
def cringWord (x : Nat) : Prop := x = pKRMGLOB + KG_CRING_WR.off

theorem cringWord_msix (x : Nat) (hx : cringWord x) : ¬msixWord x := by
  simp only [cringWord, pKRMGLOB, KG_CRING_WR] at hx
  simp only [msixWord]
  omega

theorem stands_raise_cring {b : Nat} (hb : b % 0x10000 = 0) (s : State) (i : Nat) : stands cringWord s (s.raise b i) :=
  stands_raise s b i (by simp only [cringWord, IRQ_STAT, pKRMGLOB, KG_CRING_WR]; omega) cringWord_msix

theorem stands_showCring (s : State) : stands cringWord s s.showCring := by
  have hfset (x : Nat) : stands cringWord s (s.fset pKRMGLOB KG_STAT_CRING_FULL x) :=
    stands_fset _ _ _ _ (by simp only [cringWord, KG_STAT_CRING_FULL, KG_CRING_WR]; omega)
  exact stands_ite (fun _ => (hfset _).trans (stands_raise_cring rfl _ 5)) fun _ => hfset _

theorem State.krm_showCring (s : State) : s.showCring.krm = s.krm := by
  unfold State.showCring
  extract_lets f t
  have ht : t.krm = s.krm := rfl
  split
  · rw [State.raise_krm, ht]
  · exact ht

/-- The record of a job that was not digested waits for its ring (R253). -/
theorem makeRecord_undigested (s : State) (j : Job) :
    stands cringWord s (s.makeRecord j 2) ∧ (s.makeRecord j 2).krm = s.krm := by
  have h : ∃ u r, u = (if s.ringFull then s.raise pDGT 5 else s) ∧ s.makeRecord j 2 = { u with dgt.held := u.dgt.held ++ [r] } := by
    simp only [State.makeRecord, (by decide : ¬2 = 0), if_false]
    exact ⟨_, _, rfl, rfl⟩
  obtain ⟨u, r, hu, h⟩ := h
  have hs : stands cringWord s u := hu ▸ stands_ite (fun _ => stands_raise_cring rfl s 5) fun _ => stands.refl s
  have hk : u.krm = s.krm := by rw [hu]; split <;> simp
  rw [h]
  exact ⟨hs.trans (stands_of_eq rfl rfl rfl rfl), hk⟩

theorem State.coresFreed_spec (s : State) (j : Job) : stands cringWord s (s.coresFreed j) ∧ (s.coresFreed j).krm.job = none ∧
    (s.coresFreed j).krm.hostQ = s.krm.hostQ := by
  obtain ⟨-, hjob, hq⟩ := releaseCores_spec s.showCring j
  unfold State.coresFreed
  rw [State.raise_krm, hjob, hq, State.krm_showCring]
  exact ⟨(stands_showCring s).trans ((stands_releaseCores _ j).trans (stands_raise_cring rfl _ _)), rfl, rfl⟩

/-- The end of a job leaves the ring's count, every byte and the queues. -/
theorem State.jobOver_spec (s : State) (j : Job) : stands cringWord s (s.jobOver j) ∧ (s.jobOver j).krm.job = none ∧
    (s.jobOver j).krm.hostQ = s.krm.hostQ := by
  obtain ⟨hv, hkv⟩ := s.coresFreed_spec j
  unfold State.jobOver
  generalize s.coresFreed j = v at hv hkv
  split
  · exact ⟨hv, hkv⟩
  · split
    · exact ⟨hv.trans (stands_of_eq rfl rfl rfl rfl), hkv⟩
    · obtain ⟨hrec, hkrm⟩ := makeRecord_undigested v j
      rw [hkrm]
      exact ⟨hv.trans hrec, hkv⟩

theorem State.resubmits_spec (s : State) (j : Job) : (s.resubmits j).krm.job = none ∧
    (s.resubmits j).krm.hostQ = { j.sub with resubmitted := true } :: s.krm.hostQ ∧ sameBytes s (s.resubmits j) := by
  obtain ⟨hbytes, hjob, hq⟩ := releaseCores_spec s j
  exact ⟨hjob, by rw [← hq]; rfl, sameBytes_trans hbytes (sameBytes_of_eq rfl rfl rfl)⟩

theorem sameBytes.bytesAt {s t : State} (h : sameBytes s t) (a n : Nat) : t.bytesAt a n = s.bytesAt a n := memBytes_congr h.1

/-- The record in the ring. -/
theorem State.recorded_spec (s : State) (j : Job) : (s.recorded j).krm.hostQ = s.krm.hostQ ∧
    (s.recorded j).fget pKRMGLOB KG_CRING_WR = (s.fget pKRMGLOB KG_CRING_WR + 1) % 2 ^ 32 ∧
    (s.qw.watch = [] → s.cringAt % 64 = 0 → s.reachable s.cringAt = true →
      (s.recorded j).bytesAt s.cringAt 64 = completionBytes s j) := by
  unfold State.recorded
  refine ⟨?_, ?_, fun hwatch ha hr => ?_⟩
  · rw [State.fset_krm]
    exact State.hostQ_fabWrite ..
  · generalize s.fget pKRMGLOB KG_CRING_WR + 1 = n
    rw [State.fget_fset_same _ _ _ _ (by decide)]
    rfl
  · have hline := State.bytesAt_fabWrite (completionBytes_length s j) ha hr hwatch
    exact ((stands_fset (W := fun _ => False) _ pKRMGLOB KG_CRING_WR _ id).2.bytesAt s.cringAt 64).trans hline

section
variable {j : Job} {s : State} (hj : s.krm.job = some j) (hp : j.phase = .ended) (hl : s.krm.lastDone = none)
  (hbusy : ∀ c ∈ j.phys, ∀ e ∈ (s.core c).tags, e.2.busy = false)
include hj hp hl hbusy

/-- A host job that does not go back to its queue leaves its record in the ring, where the ring has room. -/
theorem completionRecord_records (hw : j.sub.witness = false) (hfull : s.cringFull = false)
    (hpol : j.status = 2 → j.code = 2 → s.fget pKRMGLOB KG_CTRL_FENCE_POLICY = 0) :
    completes .completionRecord s fun t => t.krm.job = none ∧ t.krm.hostQ = s.krm.hostQ ∧
      t.fget pKRMGLOB KG_CRING_WR = (s.fget pKRMGLOB KG_CRING_WR + 1) % 2 ^ 32 ∧
      (s.qw.watch = [] → s.cringAt % 64 = 0 → s.reachable s.cringAt = true →
        t.bytesAt s.cringAt 64 = completionBytes s j) := by
  have hstay : s.resubmitting j = false := by
    by_cases h2 : j.status = 2 ∧ j.code = 2
    · simp [State.resubmitting, hpol h2.1 h2.2]
    · simp only [State.resubmitting]
      rcases not_and_or.1 h2 with h | h <;> simp [h]
  refine completes_of_next (exec_completionRecord hj hp hl hbusy) ?_
  simp only [hstay, hw, hfull, Bool.false_eq_true, if_false]
  obtain ⟨hs, hjob, hq⟩ := (s.recorded j).jobOver_spec j
  obtain ⟨hrecq, hwr, hrec⟩ := s.recorded_spec j
  refine ⟨hjob, hq.trans hrecq, (hs.fget rfl).trans hwr, fun hwatch ha hr => ?_⟩
  exact (hs.2.bytesAt _ 64).trans (hrec hwatch ha hr)

theorem completionRecord_witness (hw : j.sub.witness = true) : completes .completionRecord s fun t =>
    t.krm.lastDone = some j ∧ t.krm.job = none ∧ sameBytes s t := by
  obtain ⟨hbytes, hjob, -⟩ := releaseCores_spec s j
  refine completes_of_next (exec_completionRecord hj hp hl hbusy) ?_
  have hstay : s.resubmitting j = false := by simp [State.resubmitting, hw]
  simp only [hstay, hw, Bool.false_eq_true, if_false, if_true]
  exact ⟨trivial, hjob, sameBytes_trans hbytes (sameBytes_of_eq rfl rfl rfl)⟩

theorem completionRecord_waits (hw : j.sub.witness = false) (hst : j.status ≠ 2) (hfull : s.cringFull = true) :
    exec .completionRecord s = .next s := by
  have hstay : s.resubmitting j = false := by simp [State.resubmitting, hst]
  rw [exec_completionRecord hj hp hl hbusy]
  simp only [hstay, hw, hfull, Bool.false_eq_true, if_false, if_true]

theorem completionRecord_resubmits (hw : j.sub.witness = false) (hst : j.status = 2) (hcode : j.code = 2)
    (hnew : j.sub.resubmitted = false) (hpol : s.fget pKRMGLOB KG_CTRL_FENCE_POLICY = 1) :
    completes .completionRecord s fun t => t.krm.job = none ∧
      t.krm.hostQ = { j.sub with resubmitted := true } :: s.krm.hostQ ∧ sameBytes s t := by
  have hback : s.resubmitting j = true := by simp [State.resubmitting, hw, hst, hcode, hnew, hpol]
  refine completes_of_next (exec_completionRecord hj hp hl hbusy) ?_
  rw [if_pos hback]
  exact s.resubmits_spec j

end

end Sys2Proof.Machine
end

section
/-! SUPPORT. Power states: what a fold over cores leaves of each core's status word and of the core itself (R153, R154, R155, R162). -/

namespace Sys2Proof.Machine

/-! ### Folds over cores -/

/-- What only the step at `c` changes, a fold over units that are all different changes once, if it meets `c`. -/
theorem foldl_once {α : Type} (g : State → α) (F : α → α) (f : State → Nat → State) {c : Nat}
    (hother : ∀ u d, d ≠ c → g (f u d) = g u) (hsame : ∀ u, g (f u c) = F (g u)) {l : List Nat} (hl : l.Nodup) (s : State) :
    g (l.foldl f s) = if c ∈ l then F (g s) else g s := by
  induction l generalizing s with
  | nil => rfl
  | cons d l ih =>
    obtain ⟨hd, hl⟩ := List.nodup_cons.1 hl
    rw [List.foldl_cons, ih hl]
    by_cases hdc : d = c
    · subst hdc
      rw [if_neg hd, if_pos (List.mem_cons_self ..), hsame]
    · rw [hother s d hdc]
      simp only [List.mem_cons, Ne.symm hdc, false_or]

/-- What the step at `c` brings about and no other undoes, where every step keeps what the one at `c` needs. -/
theorem foldl_at {I P : State → Prop} {f : State → Nat → State} {c : Nat} (hI : ∀ u d, I u → I (f u d))
    (hset : ∀ u, I u → P (f u c)) (hkeep : ∀ u d, d ≠ c → P u → P (f u d)) {l : List Nat} (hc : c ∈ l) {s : State} (hs : I s) :
    P (l.foldl f s) := by
  have hrest (l : List Nat) (u : State) (hu : I u) (hp : P u) : P (l.foldl f u) := by
    induction l generalizing u with
    | nil => exact hp
    | cons d l ih =>
      refine ih _ (hI u d hu) ?_
      by_cases hd : d = c
      · exact hd ▸ hset u hu
      · exact hkeep u d hd hp
  induction l generalizing s with
  | nil => cases hc
  | cons d l ih =>
    rcases List.mem_cons.1 hc with rfl | hc
    · exact hrest l _ (hI s c hs) (hset s hs)
    · exact ih hc (hI s d hs)

/-- A fold whose steps do nothing. -/
theorem foldl_still {f : State → Nat → State} {s : State} {l : List Nat} (h : ∀ c ∈ l, f s c = s) : l.foldl f s = s := by
  induction l with
  | nil => rfl
  | cons c l ih =>
    rw [List.foldl_cons, h c (List.mem_cons_self ..)]
    exact ih fun d hd => h d (List.mem_cons_of_mem c hd)

/-! ### The status word of a core -/

theorem pKRMCORE_ne {c d : Nat} (h : d ≠ c) (f g : Fld) (hf : f.off < 0x10000) (hg : g.off < 0x10000) :
    pKRMCORE c + f.off ≠ pKRMCORE d + g.off := by
  simp only [pKRMCORE]
  omega

theorem pKRMCORE_ne_glob {c : Nat} (h : c < 36) (f g : Fld) (hf : f.off < 0x10000) :
    pKRMCORE c + f.off ≠ pKRMGLOB + g.off := by
  simp only [pKRMCORE, pKRMGLOB]
  omega

/-- A field of Kermes' own page shows in no core's. -/
theorem State.fget_fset_glob (s : State) {c : Nat} (h : c < 36) (f g : Fld) (x : Nat) (hf : f.off < 0x10000) :
    (s.fset pKRMGLOB g x).fget (pKRMCORE c) f = s.fget (pKRMCORE c) f :=
  State.fget_fset_ne _ _ _ _ _ _ (pKRMCORE_ne_glob h f g hf)

theorem State.fget_showPstate (s : State) {c : Nat} (h : c < 36) (f : Fld) (hf : f.off < 0x10000) :
    s.showPstate.fget (pKRMCORE c) f = s.fget (pKRMCORE c) f := State.fget_fset_glob s h f _ _ hf

/-! ### PSTATE_ENTER -/

theorem State.deepest_lt (s : State) : s.deepest < 4 := by
  unfold State.deepest
  generalize hx : List.find? _ _ = x
  cases x with
  | none => decide
  | some n =>
    have hn := List.mem_of_find?_eq_some hx
    simp only [List.mem_cons, List.not_mem_nil, or_false] at hn
    rw [Option.getD_some]
    omega

/-- What is left of a core that has lost what it held. -/
def Core1.lost (k : Core1) : Core1 :=
  { banks := tabOf {} (k.banks.map fun e => (e.1, e.2.kept)), tags := k.tags.filter (·.2.busy)
    logical := k.logical, latched := k.latched, selftest := k.selftest }

theorem State.core_loseCore_same (s : State) (c : Nat) : (s.loseCore c).core c = (s.core c).lost := Tab.get_set_same ..

theorem State.core_loseCore_ne (s : State) {c d : Nat} (h : c ≠ d) : (s.loseCore d).core c = s.core c :=
  Tab.get_set_ne _ _ _ _ _ _ h

/-- The status word of a core, and the core. -/
def State.coreShown (c : Nat) (s : State) : BitVec 32 × Core1 := (s.rd (pKRMCORE c + KCORE_STAT_PSTATE.off), s.core c)

theorem State.pstate_shown (s : State) (c : Nat) :
    s.fget (pKRMCORE c) KCORE_STAT_PSTATE = KCORE_STAT_PSTATE.get (s.coreShown c).1 := rfl

theorem State.shutting_shown (s : State) (c : Nat) :
    s.flag (pKRMCORE c) KCORE_STAT_SHUTTING = (KCORE_STAT_SHUTTING.get (s.coreShown c).1 != 0) := rfl

theorem State.core_shown (s : State) (c : Nat) : s.core c = (s.coreShown c).2 := rfl

/-- What a deeper state `st` makes of them. -/
def deepened (st : Nat) (p : BitVec 32 × Core1) : BitVec 32 × Core1 :=
  if KCORE_STAT_PSTATE.get p.1 < st then
    (KCORE_STAT_PSTATE.put (if st = 3 then KCORE_STAT_SHUTTING.put p.1 1 else p.1) st, if st = 3 then p.2.lost else p.2)
  else p

theorem coreShown_deepen_ne (st : Nat) (s : State) {c d : Nat} (h : d ≠ c) :
    (s.deepen st d).coreShown c = s.coreShown c := by
  have hfset (u : State) (f : Fld) (x : Nat) (hf : f.off < 0x10000) : (u.fset (pKRMCORE d) f x).coreShown c = u.coreShown c :=
    congrArg (·, u.core c) (State.rd_fset_ne _ _ _ _ _ (pKRMCORE_ne h _ _ (by decide) hf))
  unfold State.deepen
  split
  · rw [hfset _ _ _ (by decide)]
    split
    · rw [hfset _ _ _ (by decide)]
      exact congrArg (s.rd _, ·) (State.core_loseCore_ne s h.symm)
    · rfl
  · rfl

theorem coreShown_deepen_same (st : Nat) (s : State) (c : Nat) :
    (s.deepen st c).coreShown c = deepened st (s.coreShown c) := by
  have hfset (u : State) (f : Fld) (x : Nat) (hf : f.off = KCORE_STAT_PSTATE.off) : (u.fset (pKRMCORE c) f x).coreShown c =
      (f.put (u.coreShown c).1 x, (u.coreShown c).2) :=
    Prod.ext (by rw [State.coreShown, State.fset, hf]; exact State.rd_wr_same ..) rfl
  by_cases h : s.fget (pKRMCORE c) KCORE_STAT_PSTATE < st
  · have hshown : KCORE_STAT_PSTATE.get (s.coreShown c).1 < st := h
    rw [State.deepen, if_pos h, deepened, if_pos hshown, hfset _ _ _ rfl]
    split
    · rw [hfset _ KCORE_STAT_SHUTTING _ rfl]
      exact congrArg (KCORE_STAT_PSTATE.put (KCORE_STAT_SHUTTING.put (s.coreShown c).1 1) st, ·) (State.core_loseCore_same ..)
    · rfl
  · have hshown : ¬KCORE_STAT_PSTATE.get (s.coreShown c).1 < st := h
    rw [State.deepen, if_neg h, deepened, if_neg hshown]

/-- The state of a core that goes deeper: the deeper of the two. -/
theorem pstate_deepened {st : Nat} (hst : st < 4) (p : BitVec 32 × Core1) :
    KCORE_STAT_PSTATE.get (deepened st p).1 = max (KCORE_STAT_PSTATE.get p.1) st := by
  unfold deepened
  split
  · rename_i h
    rw [Fld.get_put_same _ _ _ (by decide), max_eq_right h.le]
    exact Nat.mod_eq_of_lt hst
  · rename_i h
    exact (max_eq_left (not_lt.1 h)).symm

/-- A core that enters K3 powers down, its registers and rows lost. -/
theorem deepened_lost {p : BitVec 32 × Core1} (h : KCORE_STAT_PSTATE.get p.1 < 3) :
    KCORE_STAT_SHUTTING.get (deepened 3 p).1 = 1 ∧ (deepened 3 p).2.vregs = [] ∧ (deepened 3 p).2.accs = [] := by
  rw [deepened, if_pos h]
  refine ⟨?_, rfl, rfl⟩
  rw [Fld.get_put_apart _ _ _ _ (by decide) (by decide), if_pos rfl, Fld.get_put_same _ _ _ (by decide)]
  rfl

/-- The cores that a loaded job holds, though they run nothing. -/
def State.loadedCores (s : State) : List Nat :=
  match s.krm.job with
  | some j => if j.phase = JobPhase.loaded then j.phys else []
  | none => []

theorem State.mem_loadedCores (s : State) (c : Nat) :
    c ∈ s.loadedCores ↔ ∃ j, s.krm.job = some j ∧ j.phase = .loaded ∧ c ∈ j.phys := by
  unfold State.loadedCores
  cases s.krm.job with
  | none => simp
  | some j => by_cases h : j.phase = .loaded <;> simp [h]

/-- The cores that PSTATE_ENTER takes deeper (R153). -/
def State.resting (s : State) : List Nat :=
  (List.range 36).filter fun c => s.inService c && ((s.core c).logical.isNone || s.loadedCores.contains c)

theorem State.mem_resting {s : State} {c : Nat} (hc : c < 36) : c ∈ s.resting ↔
    s.inService c = true ∧ ((s.core c).logical = none ∨ ∃ j, s.krm.job = some j ∧ j.phase = .loaded ∧ c ∈ j.phys) := by
  simp [State.resting, hc, ← State.mem_loadedCores]

/-- The cores of PSTATE_ENTER at the state `st`. -/
def State.rest (s : State) (st : Nat) : State := s.resting.foldl (State.deepen st) (if st = 3 then s.unload else s)

theorem exec_pstateEnter {s : State} (h : s.flag pKRMGLOB KG_STAT_WAKING = false) :
    exec .pstateEnter s = .next (s.rest s.deepest).showPstate := by
  have he : exec .pstateEnter s = execPstateEnter s := rfl
  rw [he, execPstateEnter, h]
  rfl

/-- What PSTATE_ENTER leaves of a core. -/
theorem coreShown_pstateEnter (s : State) {c : Nat} (hc : c < 36) (st : Nat) : (s.rest st).showPstate.coreShown c =
    if c ∈ s.resting then deepened st (s.coreShown c) else s.coreShown c := by
  have hshow (u : State) : u.showPstate.coreShown c = u.coreShown c :=
    congrArg (·, u.core c) (State.rd_fset_ne _ _ KG_STAT_PSTATE _ _ (pKRMCORE_ne_glob hc _ _ (by decide)))
  have hunload : (if st = 3 then s.unload else s).coreShown c = s.coreShown c := by split <;> rfl
  have hnodup : s.resting.Nodup := List.nodup_range.filter _
  rw [hshow, State.rest, foldl_once (State.coreShown c) (deepened st) (State.deepen st)
    (fun u _ h => coreShown_deepen_ne st u h) (fun u => coreShown_deepen_same st u c) hnodup, hunload]

theorem sameBytes_rest (s : State) {st : Nat} (h : st ≠ 3) : sameBytes s (s.rest st) := by
  unfold State.rest
  rw [if_neg h]
  refine (stands_foldl (W := fun _ => False) _ _ s fun u c _ => stands_ite (fun _ => ?_) fun _ => stands.refl u).2
  rw [if_neg h]
  exact stands_fset _ _ _ _ id

theorem hostQ_rest (s : State) (st : Nat) : (s.rest st).krm.hostQ = s.krm.hostQ := by
  have hunload : (if st = 3 then s.unload else s).krm.hostQ = s.krm.hostQ := by split <;> rfl
  refine (foldl_eq (fun u => u.krm.hostQ) _ _ _ fun u c _ => ?_).trans hunload
  unfold State.deepen
  split
  · split <;> rfl
  · rfl

theorem pstateEnter_rests (s : State) (h : s.flag pKRMGLOB KG_STAT_WAKING = false) : completes .pstateEnter s fun t =>
    (∀ c, c < 36 → s.inService c = true →
      ((s.core c).logical = none ∨ ∃ j, s.krm.job = some j ∧ j.phase = .loaded ∧ c ∈ j.phys) →
      t.fget (pKRMCORE c) KCORE_STAT_PSTATE = max (s.fget (pKRMCORE c) KCORE_STAT_PSTATE) s.deepest ∧
      (s.fget (pKRMCORE c) KCORE_STAT_PSTATE < s.deepest → s.deepest = 3 →
        t.flag (pKRMCORE c) KCORE_STAT_SHUTTING = true ∧ (t.core c).vregs = [] ∧ (t.core c).accs = [])) ∧
    (∀ c, c < 36 → (s.inService c = false ∨
      ((s.core c).logical ≠ none ∧ ∀ j, s.krm.job = some j → j.phase = .loaded → c ∉ j.phys)) →
      t.fget (pKRMCORE c) KCORE_STAT_PSTATE = s.fget (pKRMCORE c) KCORE_STAT_PSTATE ∧ t.core c = s.core c) ∧
    (s.deepest ≠ 3 → sameBytes s t) ∧ t.krm.hostQ = s.krm.hostQ := by
  have hshown {c : Nat} (hc : c < 36) := coreShown_pstateEnter s hc s.deepest
  have hbytes (hd : s.deepest ≠ 3) : sameBytes s (s.rest s.deepest).showPstate :=
    sameBytes_trans (sameBytes_rest s hd) (sameBytes_of_eq rfl rfl rfl)
  have hq : (s.rest s.deepest).showPstate.krm.hostQ = s.krm.hostQ := hostQ_rest s s.deepest
  have he := exec_pstateEnter h
  generalize (s.rest s.deepest).showPstate = t at hshown hbytes hq he
  simp only [State.pstate_shown, State.shutting_shown, State.core_shown _ _]
  refine completes_of_next he ⟨fun c hc hin hfree => ?_, fun c hc hout => ?_, hbytes, hq⟩
  · rw [hshown hc, if_pos ((State.mem_resting hc).2 ⟨hin, hfree⟩)]
    refine ⟨pstate_deepened s.deepest_lt _, fun hlt h3 => ?_⟩
    rw [h3] at hlt ⊢
    obtain ⟨hshut, hlost⟩ := deepened_lost hlt
    exact ⟨by rw [hshut]; rfl, hlost⟩
  · have hnot : c ∉ s.resting := by
      rw [State.mem_resting hc]
      rintro ⟨hin, hfree⟩
      rcases hout with hout | ⟨hl, hj⟩
      · rw [hin] at hout
        cases hout
      · rcases hfree with hnone | ⟨j, hjob, hp, hm⟩
        · exact hl hnone
        · exact hj j hjob hp hm
    rw [hshown hc, if_neg hnot]
    exact ⟨rfl, rfl⟩

/-! ### WAKE -/

/-- A core of the wake set asked to wake: one that still powers down latches the request (R162). -/
def State.askWake (s : State) (c : Nat) : State :=
  if s.flag (pKRMCORE c) KCORE_STAT_SHUTTING then s.latchStart c .wake else s

/-- The cores of the wake set that are not in K0. -/
def State.asleep (s : State) : List Nat := s.wakeSet.filter fun c => s.fget (pKRMCORE c) KCORE_STAT_PSTATE != 0

theorem exec_wake {s : State} (h : ∃ c ∈ s.wakeSet, s.fget (pKRMCORE c) KCORE_STAT_PSTATE ≠ 0) :
    exec .wake s = .next ((s.asleep.foldl State.askWake s).fset pKRMGLOB KG_STAT_WAKING 1) := by
  obtain ⟨c, hc, hp⟩ := h
  have hne : s.asleep ≠ [] := List.ne_nil_of_mem (List.mem_filter.2 ⟨hc, by simpa using hp⟩)
  have he : exec .wake s = execWake s := rfl
  rw [he, execWake]
  exact if_neg hne

theorem stands_askWake {W : Nat → Prop} (hW : ∀ c, ¬W (pKRMCORE c + KCORE_STAT_RESTART_PEND.off)) (s : State) (c : Nat) :
    stands W s (s.askWake c) :=
  stands_ite (fun _ => (stands_of_eq rfl rfl rfl rfl).trans (stands_fset _ _ KCORE_STAT_RESTART_PEND _ (hW c))) fun _ => stands.refl s

/-- A core asked to wake powers down as before. -/
theorem shutting_askWake (s : State) (c d : Nat) :
    (s.askWake d).flag (pKRMCORE c) KCORE_STAT_SHUTTING = s.flag (pKRMCORE c) KCORE_STAT_SHUTTING := by
  unfold State.askWake
  split
  · by_cases h : d = c
    · subst h
      exact State.flag_fset_apart _ _ KCORE_STAT_RESTART_PEND _ _ rfl (by decide) (by decide)
    · exact congrArg (· != 0) (State.fget_fset_ne _ _ _ _ _ _ (pKRMCORE_ne h _ _ (by decide) (by decide)))
  · rfl

theorem State.core_latchStart_same (s : State) (c : Nat) (r : StartReq) :
    (s.latchStart c r).core c = { s.core c with latched := some r } :=
  (State.core_modCore_same s c fun k => { k with latched := some r } :)

theorem State.core_latchStart_ne (s : State) {c d : Nat} (r : StartReq) (h : c ≠ d) : (s.latchStart d r).core c = s.core c :=
  (State.core_modCore_ne s (fun k => { k with latched := some r }) h :)

/-- A start request is latched on core `c`. -/
def wakeLatched (c : Nat) (s : State) : Prop :=
  (s.core c).latched = some .wake ∧ s.flag (pKRMCORE c) KCORE_STAT_RESTART_PEND = true

theorem wakeLatched_askWake {c : Nat} {s : State} (h : s.flag (pKRMCORE c) KCORE_STAT_SHUTTING = true) :
    wakeLatched c (s.askWake c) := by
  rw [State.askWake, if_pos h]
  exact ⟨congrArg Core1.latched (State.core_latchStart_same s c .wake), State.flag_fset_same _ _ 1 rfl (by decide)⟩

theorem wakeLatched_askWake_ne {c d : Nat} {s : State} (hd : d ≠ c) (h : wakeLatched c s) : wakeLatched c (s.askWake d) := by
  unfold State.askWake
  split
  · exact ⟨(congrArg Core1.latched (State.core_latchStart_ne s .wake hd.symm)).trans h.1,
      (congrArg (· != 0) (State.fget_fset_ne _ _ _ _ _ _ (pKRMCORE_ne hd _ _ (by decide) (by decide)))).trans h.2⟩
  · exact h

theorem wake_asks (s : State) (h : ∃ c ∈ s.wakeSet, s.fget (pKRMCORE c) KCORE_STAT_PSTATE ≠ 0) : completes .wake s fun t =>
    t.flag pKRMGLOB KG_STAT_WAKING = true ∧ sameBytes s t ∧
    (∀ c ∈ s.wakeSet, c < 36 → s.fget (pKRMCORE c) KCORE_STAT_PSTATE ≠ 0 → s.flag (pKRMCORE c) KCORE_STAT_SHUTTING = true →
      (t.core c).latched = some .wake ∧ t.flag (pKRMCORE c) KCORE_STAT_RESTART_PEND = true) ∧
    ((∀ c ∈ s.wakeSet, s.flag (pKRMCORE c) KCORE_STAT_SHUTTING = false) → t.krm = s.krm ∧
      sameRegs (· = pKRMGLOB + KG_STAT_WAKING.off) s t) := by
  refine completes_of_next (exec_wake h) ⟨State.flag_fset_same _ _ 1 rfl (by decide), ?_, fun c hc h36 hp hs => ?_, fun hs => ?_⟩
  · exact sameBytes_trans (stands_foldl (W := fun _ => False) _ _ s fun u c _ => stands_askWake (fun _ => id) u c).2
      (sameBytes_of_eq rfl rfl rfl)
  · have hm : c ∈ s.asleep := List.mem_filter.2 ⟨hc, by simpa using hp⟩
    obtain ⟨hlatch, hpend⟩ : wakeLatched c (s.asleep.foldl State.askWake s) :=
      foldl_at (I := fun u => u.flag (pKRMCORE c) KCORE_STAT_SHUTTING = true)
        (fun u d hu => (shutting_askWake u c d).trans hu) (fun _ => wakeLatched_askWake) (fun _ _ => wakeLatched_askWake_ne) hm hs
    exact ⟨hlatch, (congrArg (· != 0) (State.fget_fset_glob _ h36 _ _ _ (by decide))).trans hpend⟩
  · have hstill : s.asleep.foldl State.askWake s = s := foldl_still fun c hc => by
      rw [State.askWake, hs c (List.mem_of_mem_filter hc)]
      rfl
    rw [hstill]
    exact ⟨rfl, fun x hx => State.rd_fset_ne _ _ _ _ _ hx⟩

/-! ### WAKE_DONE -/

/-- A core in K0. -/
def State.awake (s : State) (c : Nat) : State :=
  (s.modCore c fun k => if k.selftest = some .wake then { k with selftest := none } else k).fset (pKRMCORE c) KCORE_STAT_PSTATE 0

/-- A job that lost what was loaded is loaded again. -/
def State.reload (s : State) : State :=
  match s.krm.job with
  | some j => if j.phase = JobPhase.loading then s.fset pKRMGLOB KG_STAT_LOADING 1 else s
  | none => s

/-- It leaves the job, every byte and the cores' words. -/
theorem State.reload_spec (s : State) : s.reload.krm.job = s.krm.job ∧ sameBytes s s.reload ∧
    ∀ c, c < 36 → s.reload.fget (pKRMCORE c) KCORE_STAT_PSTATE = s.fget (pKRMCORE c) KCORE_STAT_PSTATE := by
  have hstill : s.krm.job = s.krm.job ∧ sameBytes s s ∧
      ∀ c, c < 36 → s.fget (pKRMCORE c) KCORE_STAT_PSTATE = s.fget (pKRMCORE c) KCORE_STAT_PSTATE :=
    ⟨rfl, sameBytes_refl s, fun _ _ => rfl⟩
  unfold State.reload
  split
  · split
    · exact ⟨rfl, sameBytes_of_eq rfl rfl rfl, fun c hc => State.fget_fset_glob s hc _ _ _ (by decide)⟩
    · exact hstill
  · exact hstill

theorem exec_wakeDone {s : State} (hw : s.flag pKRMGLOB KG_STAT_WAKING = true)
    (hs : ∀ c ∈ s.wakeSet, s.flag (pKRMCORE c) KCORE_STAT_SHUTTING = false) :
    exec .wakeDone s = .next ((s.wakeSet.foldl State.awake s).reload.fset pKRMGLOB KG_STAT_WAKING 0).showPstate := by
  have hnone : (s.wakeSet.any fun c => s.flag (pKRMCORE c) KCORE_STAT_SHUTTING) = false := by
    simpa only [List.any_eq_false, Bool.not_eq_true] using hs
  have he : exec .wakeDone s = execWakeDone s := rfl
  rw [he, execWakeDone, hw, hnone]
  rfl

theorem State.fget_awake_same (s : State) (c : Nat) : (s.awake c).fget (pKRMCORE c) KCORE_STAT_PSTATE = 0 := by
  unfold State.awake
  rw [State.fget_fset_same _ _ _ _ (by decide)]
  rfl

theorem State.fget_awake_ne (s : State) {c d : Nat} (h : d ≠ c) :
    (s.awake d).fget (pKRMCORE c) KCORE_STAT_PSTATE = s.fget (pKRMCORE c) KCORE_STAT_PSTATE := by
  unfold State.awake
  rw [State.fget_fset_ne _ _ _ _ _ _ (pKRMCORE_ne h _ _ (by decide) (by decide))]
  rfl

theorem awake_pstate {c : Nat} (s : State) {l : List Nat} (hc : c ∈ l) :
    (l.foldl State.awake s).fget (pKRMCORE c) KCORE_STAT_PSTATE = 0 :=
  foldl_at (I := fun _ => True) (P := fun u => u.fget (pKRMCORE c) KCORE_STAT_PSTATE = 0) (fun _ _ _ => trivial)
    (fun u _ => u.fget_awake_same c) (fun u _ hd hu => (u.fget_awake_ne hd).trans hu) hc trivial

theorem State.waking_showPstate (s : State) : s.showPstate.flag pKRMGLOB KG_STAT_WAKING = s.flag pKRMGLOB KG_STAT_WAKING := by
  unfold State.showPstate
  rw [State.flag_fset_apart _ _ KG_STAT_PSTATE KG_STAT_WAKING _ rfl (by decide) (by decide)]

theorem wakeDone_wakes (s : State) (hw : s.flag pKRMGLOB KG_STAT_WAKING = true)
    (hs : ∀ c ∈ s.wakeSet, s.flag (pKRMCORE c) KCORE_STAT_SHUTTING = false) : completes .wakeDone s fun t =>
      t.flag pKRMGLOB KG_STAT_WAKING = false ∧
      (∀ c ∈ s.wakeSet, c < 36 → t.fget (pKRMCORE c) KCORE_STAT_PSTATE = 0) ∧ t.krm.job = s.krm.job ∧ sameBytes s t := by
  have hawake : stands (fun _ => False) s (s.wakeSet.foldl State.awake s) :=
    stands_foldl _ _ s fun _ _ _ => (stands_of_eq rfl rfl rfl rfl).trans (stands_fset _ _ KCORE_STAT_PSTATE _ id)
  have hjob : (s.wakeSet.foldl State.awake s).krm.job = s.krm.job := foldl_eq (fun u => u.krm.job) _ _ s fun _ _ _ => rfl
  have hk0 (c : Nat) (hc : c ∈ s.wakeSet) := awake_pstate s hc
  have he := exec_wakeDone hw hs
  generalize s.wakeSet.foldl State.awake s = u at he hawake hjob hk0
  obtain ⟨hrjob, hrbytes, hrk0⟩ := u.reload_spec
  refine completes_of_next he ⟨?_, fun c hc h36 => ?_, hrjob.trans hjob, ?_⟩
  · rw [State.waking_showPstate, State.flag_fset_same _ _ _ rfl (by decide)]
    rfl
  · rw [State.fget_showPstate _ h36 _ (by decide), State.fget_fset_glob _ h36 _ _ _ (by decide), hrk0 c h36, hk0 c hc]
  · exact sameBytes_trans hawake.2 (sameBytes_trans hrbytes (sameBytes_of_eq rfl rfl rfl))

/-- Settles O23: halts, the completion record of a job that has ended, and the power states of the cores. -/
theorem jobsEnd : Obligations.JobsEnd := by
  refine ⟨halt_holds, clrArith_clears, fun j s hj hp hw hl hbusy hfull hpol => ?_, fun j s hj hp hl hbusy => ?_,
    pstateEnter_rests, wake_asks, wakeDone_wakes⟩
  · exact completes_mono (completionRecord_records hj hp hl hbusy hw hfull hpol) fun t ⟨hjob, hq, hwr, hrec⟩ =>
      ⟨hjob, hq, hwr, fun _ => hrec⟩
  · exact ⟨completionRecord_witness hj hp hl hbusy, completionRecord_waits hj hp hl hbusy,
      completionRecord_resubmits hj hp hl hbusy⟩

end Sys2Proof.Machine
end

section
/-! SUPPORT. The encoding of a bundle: each command that is a slot is what its slot decodes to (R115, R116, R119-R121). -/

namespace Sys2Proof.Machine

/-! ### Fields -/

/-- A flag fills one bit and reads back as it was. -/
theorem bit_eq_one (b : Bool) : (bit b = 1) = (b = true) := by cases b <;> simp [bit]

theorem bf_zero (hi lo : Nat) : bf 0 hi lo = 0 := by simp [bf]

theorem decodeSrc_encodeSrc (s : DpuSrc) : decodeSrc (encodeSrc s) = some s := by
  have hp := bit_lt s.data.step
  have hq := bit_lt s.scale.step
  have ha := s.data.ag.isLt
  have hb := s.scale.ag.isLt
  have hsrc : bf (encodeSrc s) 15 14 = 1 ∧ bf (encodeSrc s) 5 0 = 0 ∧ bf (encodeSrc s) 13 11 = s.data.ag.val ∧
      bf (encodeSrc s) 10 10 = bit s.data.step ∧ bf (encodeSrc s) 9 7 = s.scale.ag.val ∧
      bf (encodeSrc s) 6 6 = bit s.scale.step := by
    simp only [bf, encodeSrc]
    omega
  obtain ⟨h1, h2, h3, h4, h5, h6⟩ := hsrc
  simp [decodeSrc, h1, h2, h3, h4, h5, h6, bit_eq_one]

theorem decodeAcc_encodeAcc (op : AccOp) (row : AccRow) : decodeAcc (encodeAcc op row) = some (op, row) := by
  have hr := row.isLt
  have hacc : bf (encodeAcc op row) 3 0 = 0 ∧ bf (encodeAcc op row) 11 10 = accCode op ∧ bf (encodeAcc op row) 9 4 = row.val := by
    have hop : accCode op < 3 := by cases op <;> decide
    simp only [bf, encodeAcc]
    omega
  obtain ⟨h1, h2, h3⟩ := hacc
  cases op <;> simp [decodeAcc, h1, h2, h3, accCode]

theorem scaledOf_scaledCode (f : ScaledFmt) : scaledOf (scaledCode f) = some f := by cases f <;> rfl

theorem halfOfCode_halfCode (f : HalfFmt) : halfOfCode (halfCode f) = some f := by cases f <;> rfl

/-! ### The vector slot -/

section
variable {op d a b c low : Nat} (hop : op < 64) (hd : d < 32) (ha : a < 32) (hb : b < 32) (hc : c < 32)
include hop hd ha hb hc

theorem bf_vecSlot : bf (vecSlot op d a b c) 31 26 = op ∧ bf (vecSlot op d a b c) 25 21 = d ∧
    bf (vecSlot op d a b c) 20 16 = a ∧ bf (vecSlot op d a b c) 15 11 = b ∧ bf (vecSlot op d a b c) 10 6 = c ∧
    bf (vecSlot op d a b c) 0 0 = 0 := by
  simp only [bf, vecSlot]
  omega

/-- The fields of a vector slot with a format `low` in its bits 5..1. -/
theorem bf_vecSlot_low (hlow : low < 32) : bf (vecSlot op d a b c + low * 2) 31 26 = op ∧
    bf (vecSlot op d a b c + low * 2) 25 21 = d ∧ bf (vecSlot op d a b c + low * 2) 20 16 = a ∧
    bf (vecSlot op d a b c + low * 2) 5 5 = low / 16 ∧ bf (vecSlot op d a b c + low * 2) 4 1 = low % 16 ∧
    bf (vecSlot op d a b c + low * 2) 0 0 = 0 := by
  simp only [bf, vecSlot]
  omega

end

theorem scaledCode_lt (f : ScaledFmt) : scaledCode f < 6 := by cases f <;> decide

theorem decodeVec_vdequant (core : PhysCore) (d a : VReg) (f : ScaledFmt) (acc : Nat) :
    decodeVec core (encodeVec (.vdequant core d a f)) acc = some (.vdequant core d a f) := by
  have hf := scaledCode_lt f
  have hcode : scaledCode f % 16 = scaledCode f := by omega
  simp [encodeVec, decodeVec, bf_vecSlot_low, show scaledCode f < 32 by omega, hcode, scaledOf_scaledCode]

theorem decodeVec_vquant (core : PhysCore) (d a : VReg) (f : ScaledFmt) (t : Bool) (acc : Nat) :
    decodeVec core (encodeVec (.vquant core d a f t)) acc = some (.vquant core d a f t) := by
  have hf := scaledCode_lt f
  have ht := bit_lt t
  have hlow : encodeVec (.vquant core d a f t) = vecSlot 0x1C d.val a.val 0 0 + (bit t * 16 + scaledCode f) * 2 := by
    simp only [encodeVec]
    omega
  have hsat : (bit t * 16 + scaledCode f) / 16 = bit t := by omega
  have hcode : (bit t * 16 + scaledCode f) % 16 = scaledCode f := by omega
  rw [hlow]
  simp [decodeVec, bf_vecSlot_low, show bit t * 16 + scaledCode f < 32 by omega, hsat, hcode, scaledOf_scaledCode, bit_eq_one]

/-- The vector slot of each command that is one, by its code: the fields hold its registers, VACC's target its row. -/
theorem decodeVec_encodeSlot {i : Instr} {core : PhysCore} (h : slotOf i = some (core, 1)) :
    decodeVec core (encodeSlot i).vec (encodeSlot i).acc = some i := by
  revert h
  fun_cases slotOf i
  all_goals (intro h; cases h)
  case case28 => exact decodeVec_vquant ..
  case case29 => exact decodeVec_vdequant ..
  all_goals simp [encodeVec, decodeVec, encodeSlot, bf_vecSlot, bf_zero, decodeAcc_encodeAcc]

/-! ### The move slot -/

/-- The fields of a move slot, with `imm` in its bits 14..0. -/
theorem bf_movSlot {op r imm : Nat} (g : AgRef) (hop : op < 16) (hr : r < 32) (himm : imm < 32768) :
    bf (movSlot op r g imm) 27 24 = op ∧ bf (movSlot op r g imm) 23 19 = r ∧ bf (movSlot op r g imm) 18 16 = g.ag.val ∧
      bf (movSlot op r g imm) 15 15 = bit g.step ∧ bf (movSlot op r g imm) 14 0 = imm ∧
      bf (movSlot op r g imm) 14 12 = imm / 4096 ∧ bf (movSlot op r g imm) 14 6 = imm / 64 ∧
      bf (movSlot op r g imm) 11 11 = imm / 2048 % 2 ∧ bf (movSlot op r g imm) 11 0 = imm % 4096 ∧
      bf (movSlot op r g imm) 8 0 = imm % 512 ∧ bf (movSlot op r g imm) 5 0 = imm % 64 ∧
      bf (movSlot op r g imm) 4 4 = imm / 16 % 2 ∧ bf (movSlot op r g imm) 3 0 = imm % 16 := by
  have hg := g.ag.isLt
  have hs := bit_lt g.step
  simp only [bf, movSlot]
  omega

theorem halfCode_lt (f : HalfFmt) : halfCode f < 16 := by cases f <;> decide

/-- The IMM of a form with a scale generator and a format. -/
theorem scaleImm_fields (sg : AgRef) (f : ScaledFmt) : scaleImm sg + scaledCode f < 32768 ∧
    (scaleImm sg + scaledCode f) / 4096 = sg.ag.val ∧ (scaleImm sg + scaledCode f) / 2048 % 2 = bit sg.step ∧
    (scaleImm sg + scaledCode f) % 16 = scaledCode f := by
  have hg := sg.ag.isLt
  have hs := bit_lt sg.step
  have hf := scaledCode_lt f
  simp only [scaleImm]
  omega

/-- The move slot of each command that is one, by its code: a format, an entry or a row in IMM reads back as it was. -/
theorem decodeMov_encodeSlot {i : Instr} {core : PhysCore} (h : slotOf i = some (core, 2)) :
    decodeMov core (encodeSlot i).mov = some i := by
  revert h
  fun_cases slotOf i
  all_goals (intro h; cases h)
  case case34 r g f =>
    have hf := halfCode_lt f
    simp (disch := omega) [encodeSlot, encodeMov, decodeMov, bf_movSlot, Nat.mod_eq_of_lt hf, halfOfCode_halfCode, bit_eq_one]
  case case35 r g f t =>
    have hf := halfCode_lt f
    have ht := bit_lt t
    have hsat : (bit t * 2 ^ 4 + halfCode f) / 16 % 2 = bit t := by omega
    have hcode : (bit t * 2 ^ 4 + halfCode f) % 16 = halfCode f := by omega
    simp (disch := omega) only [encodeSlot, encodeMov, decodeMov, bf_movSlot, hsat, hcode, halfOfCode_halfCode]
    simp [bit_eq_one]
  case case36 r g f sg =>
    obtain ⟨himm, hag, hstep, hcode⟩ := scaleImm_fields sg f
    simp [encodeSlot, encodeMov, decodeMov, bf_movSlot, himm, hag, hstep, hcode, scaledOf_scaledCode, bit_eq_one]
  case case37 r g f sg =>
    obtain ⟨himm, hag, hstep, hcode⟩ := scaleImm_fields sg f
    simp [encodeSlot, encodeMov, decodeMov, bf_movSlot, himm, hag, hstep, hcode, scaledOf_scaledCode, bit_eq_one]
  case case40 row e =>
    have hrow : (e.val * 2 ^ 6 + row.val) % 64 = row.val := by omega
    have hentry : (e.val * 2 ^ 6 + row.val) / 64 = e.val := by omega
    simp (disch := omega) only [encodeSlot, encodeMov, decodeMov, bf_movSlot, hrow, hentry]
    simp
  all_goals simp (disch := omega) [encodeSlot, encodeMov, decodeMov, bf_movSlot, bf_zero, Nat.mod_eq_of_lt, bit_eq_one]

/-! ### The synchronisation slot -/

/-- The fields of a synchronisation slot: its code, and the argument in its bits 11..0. -/
theorem bf_sync {code arg : Nat} (hcode : code % 4096 = 0) (hlt : code < 65536) (harg : arg < 4096) :
    bf (code + arg) 15 12 = code / 4096 ∧ bf (code + arg) 11 0 = arg ∧ bf (code + arg) 7 0 = arg % 256 ∧
      bf (code + arg) 3 0 = arg % 16 ∧ bf (code + arg) 2 0 = arg % 8 := by
  simp only [bf]
  omega

/-- The synchronisation slot of each command that is one, by its code. -/
theorem decodeSync_encodeSlot {i : Instr} {core : PhysCore} (h : slotOf i = some (core, 3)) :
    decodeSync core (encodeSlot i).sync = some i := by
  revert h
  fun_cases slotOf i
  all_goals (intro h; cases h)
  case case48 => simp [encodeSlot, encodeSync, decodeSync, bf]
  case case54 => simp [encodeSlot, encodeSync, decodeSync, bf]
  all_goals simp (disch := omega) [encodeSlot, encodeSync, decodeSync, bf_sync, bf_zero, Nat.mod_eq_of_lt]

/-! ### The DPU slot -/

/-- The fields of a DPU slot. -/
theorem bf_dpu {code : Nat} (hcode : code < 8) (fmt : Fin 8) : bf (code * 2 ^ 5 + fmt.val * 2 ^ 2) 7 5 = code ∧
    bf (code * 2 ^ 5 + fmt.val * 2 ^ 2) 1 0 = 0 ∧ bf (code * 2 ^ 5 + fmt.val * 2 ^ 2) 4 2 = fmt.val := by
  simp only [bf]
  omega

/-- The DPU slot of each command that is one, by its code, with both sources and the target. -/
theorem decodeDpu_encodeSlot {i : Instr} {core : PhysCore} (h : slotOf i = some (core, 0)) :
    decodeDpu core (encodeSlot i) = some i := by
  revert h
  fun_cases slotOf i
  all_goals (intro h; cases h)
  case case1 => simp [encodeSlot, decodeDpu, emptySrc, bf_zero]
  all_goals
    simp only [encodeSlot, encodeDpu, decodeDpu, bf_dpu, decodeSrc_encodeSrc, decodeAcc_encodeAcc, Nat.reduceLT]
    simp

/-! ### The slots of a bundle -/

theorem slotOf_lt {i : Instr} {core : PhysCore} {k : Nat} (h : slotOf i = some (core, k)) : k < 4 := by
  revert h
  fun_cases slotOf i
  all_goals (intro h; cases h)
  all_goals decide

/-- Each command that is a slot is what its own slot decodes to (R115, R116, R119-R121). -/
theorem decodeSlot_encodeSlot (i : Instr) (core : PhysCore) (k : Nat) (h : slotOf i = some (core, k)) :
    decodeSlot core k (encodeSlot i) = some i :=
  match k, h with
  | 0, h => decodeDpu_encodeSlot h
  | 1, h => decodeVec_encodeSlot h
  | 2, h => decodeMov_encodeSlot h
  | 3, h => decodeSync_encodeSlot h
  | _ + 4, h => absurd (slotOf_lt h) (by omega)

/-- A bundle of fields within their widths gives back those fields (R115). -/
theorem slotsOf_bundle {s : Slots} (h : s.fit) : slotsOf s.bundle = s := by
  obtain ⟨hdpu, ha, hb, hacc, hvec, hmov, hsync⟩ := h
  obtain ⟨dpu, a, b, acc, vec, mov, sync⟩ := s
  dsimp only at *
  simp only [slotsOf, Slots.bundle, BitVec.toNat_ofNat, bf, Slots.mk.injEq]
  omega

/-- Settles O17: each slot by the fields its encoding fills, the bundle by its layout, and the empty slots by what they run. -/
theorem slotEncodings : Obligations.SlotEncodings :=
  ⟨decodeSlot_encodeSlot, fun _ => slotsOf_bundle, fun _ _ => ⟨rfl, rfl, rfl⟩⟩

end Sys2Proof.Machine
end

section
/-! SUPPORT. The move slot's accumulators, generators, descriptors and reductions: each notes a change of its core alone (R120,
R125, R131, R133). -/

namespace Sys2Proof.Machine

/-- A slot that changes its core alone notes what it makes of it. -/
theorem notes_modCore (c : Nat) (f : Core1 → Core1) (s : State) : notes c f s (s.modCore c f) :=
  have h := coreTo_modCore s c f
  ⟨h.2.1, h.onlyCore, h.job⟩

theorem redRun_eq {s : State} {j : Job} (hj : s.krm.job = some j) (c e : Nat) :
    redRun c e s = s.modCore c fun k => { k with
      rdR := k.rdR ++ [redRow (Tab.get j.redTab e 0)], redIssue := k.redIssue ++ [e] } := by
  simp only [redRun, hj]

/-- Settles O19: each slot is a change of its core alone. -/
theorem otherMoves : Obligations.OtherMoves :=
  ⟨fun _ _ _ _ h => completes_slot h rfl (notes_modCore ..), fun _ _ _ h => completes_slot h rfl (notes_modCore ..),
    fun _ _ _ _ h => completes_slot h rfl (notes_modCore ..), fun _ _ _ _ h => completes_slot h rfl (notes_modCore ..),
    fun _ _ _ h => completes_slot h rfl (notes_modCore ..),
    fun _ _ _ _ h hj => completes_slot h rfl (redRun_eq hj .. ▸ notes_modCore ..)⟩

end Sys2Proof.Machine
end

section
/-! SUPPORT. What storage and the journal leave alone: the cores but for their banks, the job and the queues, the timebase, and the
registers before the tiers' (R168, R174, R197, R263). -/

namespace Sys2Proof.Machine

/-- What neither storage nor the journal touches: the cores of Kermes but for their banks, the job and the queues, the
timebase, and the registers of the pages before the tiers'. -/
def State.aside (s : State) : (Nat → Core1) × Krm × Ffy × (Nat → BitVec 32) :=
  (fun d => { s.core d with banks := [] }, { s.krm with cores := [] }, s.ffy, fun x => if x < 0x400000 then s.rd x else 0)

section
variable {s t : State} (h : t.aside = s.aside)
include h

theorem State.core_of_aside (d : Nat) : ∃ b, t.core d = { s.core d with banks := b } := by
  have hd : { t.core d with banks := [] } = { s.core d with banks := [] } := congrFun (congrArg Prod.fst h) d
  exact ⟨(t.core d).banks, (congrArg (fun k : Core1 => { k with banks := (t.core d).banks }) hd :)⟩

theorem State.krm_of_aside : t.krm = { s.krm with cores := t.krm.cores } :=
  (congrArg (fun p => { p.2.1 with cores := t.krm.cores }) h :)

theorem State.job_of_aside : t.krm.job = s.krm.job := (congrArg (fun p => p.2.1.job) h :)

theorem State.ffy_of_aside : t.ffy = s.ffy := (congrArg (fun p => p.2.2.1) h :)

theorem State.rd_of_aside {x : Nat} (hx : x < 0x400000) : t.rd x = s.rd x := by
  have hr := congrFun (congrArg (fun p => p.2.2.2) h) x
  simpa only [State.aside, if_pos hx] using hr

end

theorem State.aside_wr (s : State) {a : Nat} (v : BitVec 32) (ha : 0x400000 ≤ a) : (s.wr a v).aside = s.aside := by
  have hr : (fun x => if x < 0x400000 then (s.wr a v).rd x else 0) = fun x => if x < 0x400000 then s.rd x else 0 :=
    funext fun x => by
      split
      · exact State.rd_wr_ne _ _ _ _ (by omega)
      · rfl
  exact congrArg (fun r => (fun d => { s.core d with banks := [] }, { s.krm with cores := [] }, s.ffy, r)) hr

theorem State.aside_ite {c : Prop} [Decidable c] {s t : State} {k} (hs : s.aside = k) (ht : t.aside = k) :
    (if c then s else t).aside = k := by split <;> assumption

theorem State.aside_foldl {β : Type} (l : List β) (f : State → β → State) (s : State)
    (h : ∀ u e, (f u e).aside = u.aside) : (l.foldl f s).aside = s.aside :=
  foldl_eq State.aside l f s fun u e _ => h u e

section
variable (s : State) {b : Nat} (hb : 0x400000 ≤ b)
include hb

theorem State.aside_fset (f : Fld) (x : Nat) : (s.fset b f x).aside = s.aside := State.aside_wr s _ (by omega)

theorem State.aside_count (f : Fld) (n : Nat) : (s.count b f n).aside = s.aside := State.aside_fset s hb f _

theorem State.aside_pset (f : Fld) (x : Nat) : (s.pset b f x).aside = s.aside :=
  (State.aside_wr _ _ (by omega)).trans (State.aside_wr s _ (by omega))

theorem State.aside_raise (i : Nat) : (s.raise b i).aside = s.aside := by
  have hsend (u : State) (v : Nat) : (u.sendMsix v).aside = u.aside :=
    State.aside_ite (State.aside_ite (State.aside_wr u _ (by simp only [msixPba]; omega)) rfl) rfl
  have hwr := State.aside_wr s (s.rd (b + IRQ_STAT.off) ||| BitVec.ofNat 32 (2 ^ i)) (a := b + IRQ_STAT.off) (by omega)
  exact State.aside_ite ((hsend ..).trans hwr) hwr

end

/-! ### The findings of the decoders -/

theorem State.aside_setBank (s : State) (c b : Nat) (k : BankState) : (s.setBank c b k).aside = s.aside := by
  have hc : (fun d => { (s.setBank c b k).core d with banks := [] }) = fun d => { s.core d with banks := [] } :=
    funext fun d => by
      by_cases hd : d = c
      · subst hd
        exact congrArg (fun k : Core1 => { k with banks := [] }) (Tab.get_set_same ..)
      · exact congrArg (fun k : Core1 => { k with banks := [] }) (Tab.get_set_ne _ _ _ _ _ _ hd)
  exact congrArg (fun p => (p, { s.krm with cores := [] }, s.ffy, fun x => if x < 0x400000 then s.rd x else 0)) hc

theorem State.aside_lastEvent (s : State) (addr source typ pos syn : Nat) :
    (s.lastEvent addr source typ pos syn).aside = s.aside :=
  (State.aside_wr _ _ (by decide)).trans (State.aside_pset s (by decide) _ _)

theorem State.aside_corrected (s : State) (source : Nat) : (s.corrected source).aside = s.aside :=
  (State.aside_raise _ (by decide) _).trans (State.aside_count s (by decide) _ _)

theorem State.aside_uncorrectable (s : State) (source addr typ pos syn : Nat) :
    (s.uncorrectable source addr typ pos syn).aside = s.aside :=
  (State.aside_raise _ (by decide) _).trans ((State.aside_lastEvent ..).trans (State.aside_count s (by decide) _ _))

theorem State.aside_bite (s : State) : s.bite.aside = s.aside :=
  (State.aside_raise _ (by decide) _).trans (State.aside_count s (by decide) _ _)

theorem State.aside_seeBlock (s : State) (b : Nat) (queue : Bool) : (s.seeBlock b queue).aside = s.aside := by
  unfold State.seeBlock
  extract_lets u c addr bank row read k wb n stale t v
  split
  · rfl
  · split
    · exact State.aside_ite (State.aside_setBank ..) ((State.aside_corrected ..).trans (State.aside_setBank ..))
    · exact (State.aside_uncorrectable ..).trans (State.aside_setBank ..)
    · rfl

theorem le_tierPage (l : Nat) : 0x400000 ≤ tierPage l := by
  unfold tierPage pNTRCHAN pBLKCHAN
  split <;> omega

theorem le_tierGlobal (b : Nat) : 0x400000 ≤ tierGlobal b := by
  unfold tierGlobal
  split <;> decide

theorem State.aside_raiseTier (s : State) (l i : Nat) : (s.raiseTier (tierPage l) i).aside = s.aside :=
  (State.aside_raise _ (le_tierGlobal _) _).trans (State.aside_raise s (le_tierPage l) _)

theorem State.aside_lineLost (s : State) (l typ pos cw : Nat) : (s.lineLost l typ pos cw).aside = s.aside := by
  unfold State.lineLost
  extract_lets st t u
  rw [State.aside_uncorrectable, State.aside_raiseTier, State.aside_count _ (le_tierPage l)]
  rfl

theorem State.aside_seeLine (s : State) (l : Nat) : (s.seeLine l).aside = s.aside := by
  have hpg := le_tierPage l
  unfold State.seeLine
  extract_lets u pg sub st
  split
  · rfl
  · split
    · rfl
    · exact State.aside_lineLost ..
    · split
      · rfl
      · extract_lets p n t integ v w
        have hw : w.aside = s.aside := by
          unfold w
          rw [State.aside_corrected, State.aside_raiseTier, State.aside_count _ hpg]
          rfl
        clear_value w
        refine State.aside_ite ?_ hw
        rw [State.aside_raiseTier, State.aside_fset _ hpg, State.aside_fset _ hpg, State.aside_fset _ hpg, hw]

theorem State.aside_see (s : State) (a n : Nat) : (s.see a n).aside = s.aside :=
  State.aside_ite (State.aside_foldl _ _ _ fun u b => State.aside_seeBlock u b true)
    (State.aside_foldl _ _ _ State.aside_seeLine)

theorem State.aside_upsets (s : State) (us : List Upset) : (s.upsets us).aside = s.aside :=
  State.aside_foldl us State.upset s fun u e => by
    unfold State.upset
    split
    · rfl
    · exact State.aside_ite rfl rfl

theorem State.aside_noteRange (s : State) (a n : Nat) : (s.noteRange a n).aside = s.aside := by
  unfold State.noteRange
  split
  · exact State.aside_lastEvent ..
  · split
    · exact State.aside_lastEvent ..
    · rfl

theorem State.aside_noteAccess (s : State) (a n : Nat) : (s.noteAccess a n).aside = s.aside :=
  (State.aside_foldl _ _ _ fun u l => State.aside_ite (State.aside_see u l 64) rfl).trans (State.aside_noteRange s a n)

theorem State.aside_rangeSee (s : State) (rs : List (Nat × Nat)) : (s.rangeSee rs).aside = s.aside :=
  State.aside_foldl rs _ s fun u r => State.aside_noteAccess u r.1 r.2

/-! ### Writes through the fabric -/

theorem State.aside_dropRebuilds (s : State) (c a n : Nat) : (s.dropRebuilds c a n).aside = s.aside :=
  State.aside_ite rfl (State.aside_setBank ..)

theorem State.aside_writeLine (s : State) (l a : Nat) (bs : List Byte) (poisoned : Bool) :
    (s.writeLine l a bs poisoned).aside = s.aside := by
  unfold State.writeLine
  extract_lets t u v w y
  have hu : u.aside = s.aside := (State.aside_foldl _ State.settle t fun _ _ => rfl).trans (State.aside_see s a _)
  have hw : w.aside = s.aside := State.aside_ite hu hu
  clear_value w
  exact State.aside_ite ((State.aside_foldl _ _ y fun z g => State.aside_dropRebuilds ..).trans hw) hw

theorem State.aside_watchWrite (s : State) (a n : Nat) : (s.watchWrite a n).aside = s.aside :=
  State.aside_foldl _ _ s fun _ _ => State.aside_ite (State.aside_ite ((State.aside_raise _ (by decide) _).trans
    (State.aside_ite (State.aside_writeLine ..) rfl)) rfl) rfl

theorem State.aside_fabWrite (s : State) (a : Nat) (bs : List Byte) (poisoned : Bool) :
    (s.fabWrite a bs poisoned).aside = s.aside :=
  (State.aside_watchWrite ..).trans ((State.aside_foldl _ _ _ fun _ _ =>
    State.aside_ite (State.aside_writeLine ..) rfl).trans (State.aside_noteRange ..))

/-! ### The journal -/

theorem State.aside_showFree (s : State) : s.showFree.aside = s.aside := State.aside_pset s (by decide) _ _

theorem State.aside_jrnWrite (s : State) (a : Nat) (bs : List Byte) : (s.jrnWrite a bs).aside = s.aside :=
  State.aside_fabWrite ..

theorem State.aside_fsetJrn (s : State) (f : Fld) (x : Nat) : (s.fset pJRN f x).aside = s.aside :=
  State.aside_fset s (by decide) f x

theorem State.aside_openSeg (s : State) (i : Nat) : (s.openSeg i).aside = s.aside := by
  unfold State.openSeg
  extract_lets n t jrn u v
  have ht : t.aside = s.aside := (State.aside_pset _ (by decide) _ _).trans (State.aside_fsetJrn s JRN_OPEN i)
  have hv : v.aside = s.aside := (State.aside_jrnWrite u ..).trans ht
  exact (State.aside_showFree _).trans ((State.aside_fsetJrn ..).trans hv)

theorem State.aside_openNext (s : State) : s.openNext.aside = s.aside := by
  unfold State.openNext
  split
  · exact State.aside_openSeg ..
  · exact State.aside_ite (State.aside_showFree s) ((State.aside_showFree _).trans ((State.aside_raise _ (by decide) _).trans
      (State.aside_fsetJrn ..)))

theorem State.aside_setPin (s : State) (i : Nat) : (s.setPin i).aside = s.aside :=
  (State.aside_showFree _).trans ((State.aside_jrnWrite ..).trans (State.aside_fsetJrn _ JRN_PINNED _))

theorem State.aside_sealSeg (s : State) : s.sealSeg.aside = s.aside := by
  unfold State.sealSeg
  extract_lets i a d t u v jrn w x
  have hv : v.aside = s.aside := (State.aside_jrnWrite u ..).trans ((State.aside_jrnWrite t ..).trans (State.aside_jrnWrite s ..))
  have hw : w.aside = s.aside := hv
  clear_value w
  have hx : x.aside = s.aside := State.aside_ite ((State.aside_setPin ..).trans ((State.aside_fsetJrn w ..).trans hw)) hw
  exact State.aside_ite rfl ((State.aside_showFree _).trans ((State.aside_raise _ (by decide) _).trans hx))

theorem State.aside_addEntry (s : State) (head body : List Byte) (elen : Nat) :
    (s.addEntry head body elen).aside = s.aside := by
  unfold State.addEntry
  extract_lets a pad d t u
  have ht : t.aside = s.aside := State.aside_ite (State.aside_jrnWrite ..) rfl
  have hu : u.aside = s.aside := (State.aside_jrnWrite ..).trans ht
  exact (State.aside_showFree _).trans hu

theorem State.aside_makeRoom (s : State) (elen : Nat) : (s.makeRoom elen).aside = s.aside :=
  State.aside_ite (State.aside_openNext s) (State.aside_ite rfl ((State.aside_openNext _).trans
    ((State.aside_sealSeg _).trans (State.aside_ite rfl (State.aside_addEntry ..)))))

theorem State.aside_journal (s : State) (kind flags queue seq : Nat) (record input : List Byte) :
    (s.journal kind flags queue seq record input).2.aside = s.aside := by
  unfold State.journal
  extract_lets elen t
  have ht : t.aside = s.aside := State.aside_makeRoom ..
  split
  · rfl
  · split
    · exact ht
    · exact (State.aside_addEntry ..).trans ht

end Sys2Proof.Machine
end

section
/-! SUPPORT. The bytes that a fabric read delivers, and those of other lines, which a line's read leaves (R168, R174, R178). -/

namespace Sys2Proof.Machine

/-! ### Bytes read -/

theorem State.deliver_length (s : State) (a n : Nat) : (s.deliver a n).length = n := by
  induction n generalizing a with
  | zero => rfl
  | succ n ih => rw [State.deliver, List.length_cons, ih]

theorem State.fabBytes_eq_map (s : State) (a n : Nat) : s.fabBytes a n = (List.range n).map fun i => s.fabByte (a + i) := by
  induction n generalizing a with
  | zero => rfl
  | succ n ih =>
    rw [State.fabBytes, ih, List.range_succ_eq_map, List.map_cons, List.map_map]
    congr 1
    exact List.map_congr_left fun i _ => by simp [Nat.add_assoc, Nat.add_comm 1]

theorem State.fabBytes_length (s : State) (a n : Nat) : (s.fabBytes a n).length = n := by
  simp [State.fabBytes_eq_map]

theorem State.getElem_fabBytes (s : State) (a n i : Nat) (h : i < (s.fabBytes a n).length) :
    (s.fabBytes a n)[i] = s.fabByte (a + i) := by
  simp [State.fabBytes_eq_map]

/-! ### What a line's read leaves of the bytes of others -/

/-- The bytes outside `[a, a + n)` are as they were. -/
def sameOutside (a n : Nat) (s t : State) : Prop := ∀ x, x < a ∨ a + n ≤ x → t.byteAt x = s.byteAt x

theorem sameOutside.trans {a n : Nat} {s t u : State} (h : sameOutside a n s t) (g : sameOutside a n t u) :
    sameOutside a n s u := fun x hx => (g x hx).trans (h x hx)

theorem sameOutside_of_mem {a n : Nat} {s t : State} (h : t.mem = s.mem) : sameOutside a n s t :=
  fun x _ => congrArg (memByte · 0 x) h

theorem sameOutside_foldl {β : Type} {a n : Nat} (l : List β) (f : State → β → State) (s : State)
    (h : ∀ u, ∀ e ∈ l, sameOutside a n u (f u e)) : sameOutside a n s (l.foldl f s) := by
  induction l generalizing s with
  | nil => exact sameOutside_of_mem rfl
  | cons e l ih => exact (h s e (List.mem_cons_self ..)).trans (ih _ fun u d hd => h u d (List.mem_cons_of_mem _ hd))

/-- A granule's settling touches that granule. -/
theorem sameOutside_settle {a n b : Nat} (s : State) (hb : a ≤ b) (hn : b + granule b ≤ a + n) :
    sameOutside a n s (s.settle b) := fun x hx =>
  State.byteAt_put_out s b x (s.deliver b (granule b)) (by rw [State.deliver_length]; omega)

theorem State.mem_uncorrectable (s : State) (source addr typ pos syn : Nat) :
    (s.uncorrectable source addr typ pos syn).mem = s.mem := by
  simp [State.uncorrectable, State.lastEvent]

theorem State.mem_corrected (s : State) (source : Nat) : (s.corrected source).mem = s.mem := by
  simp [State.corrected]

theorem State.mem_raiseTier (s : State) (pg i : Nat) : (s.raiseTier pg i).mem = s.mem := by
  simp [State.raiseTier]

theorem sameOutside_seeBlock {a n b : Nat} (s : State) (hb : a ≤ b) (hn : b + granule b ≤ a + n) (queue : Bool) :
    sameOutside a n s (s.seeBlock b queue) := by
  unfold State.seeBlock
  extract_lets u c addr bank row read k wb m stale t
  split
  · exact sameOutside_of_mem rfl
  · split
    · split
      · exact sameOutside_of_mem rfl
      · exact sameOutside_of_mem (State.mem_corrected ..)
    · have ht : sameOutside a n s t := sameOutside_of_mem rfl
      exact (ht.trans (sameOutside_settle t hb hn)).trans (sameOutside_of_mem (State.mem_uncorrectable ..))
    · exact sameOutside_of_mem rfl

theorem sameOutside_seeLine {a n l : Nat} (s : State) (hb : a ≤ l) (hn : l + granule l ≤ a + n) :
    sameOutside a n s (s.seeLine l) := by
  unfold State.seeLine
  extract_lets u pg sub st
  split
  · exact sameOutside_of_mem rfl
  · split
    · exact sameOutside_of_mem rfl
    · unfold State.lineLost
      extract_lets _ t
      have ht : sameOutside a n s t := sameOutside_settle (s.setChan l _) hb hn
      refine (ht.trans (t := t) (sameOutside_of_mem ?_))
      rw [State.mem_uncorrectable, State.mem_raiseTier, State.count_mem]
    · split
      · exact sameOutside_of_mem rfl
      · extract_lets p m t integ v w
        have hw : w.mem = s.mem := by
          unfold w
          rw [State.mem_corrected, State.mem_raiseTier, State.count_mem]
          rfl
        clear_value w
        split
        · exact sameOutside_of_mem (by rw [State.mem_raiseTier]; simpa using hw)
        · exact sameOutside_of_mem hw

/-- A whole line that the machine reaches lies within its tier or within the SRAM. -/
theorem State.granule_of_reachable {s : State} {a : Nat} (h : s.reachable a = true) :
    granule a = if inSram a then 8 else 64 := by
  unfold State.reachable at h
  unfold granule
  by_cases hs : inSram a = true
  · have hle : sramBase ≤ a := by
      simp only [inSram, Bool.and_eq_true, decide_eq_true_eq] at hs
      exact hs.1
    rw [if_pos hs, if_pos hle]
  · have hm : mapped a = true := by
      by_contra hm
      simp [hs, hm] at h
    have hlt : a < bulkEnd := by
      simp only [mapped, Bool.eq_false_of_not_eq_true hs, inNear, inBulk, Bool.or_eq_true, Bool.and_eq_true,
        decide_eq_true_eq, Bool.false_eq_true, or_false] at hm
      exact hm.elim (fun hn => hn.trans (by decide)) And.right
    rw [if_neg hs, if_neg (hlt.trans (by decide)).not_ge]

/-- The granules of a whole line lie within it. -/
theorem granules_line {a g : Nat} (ha : a % 64 = 0) (hg : g ∈ granules a 64) : a ≤ g ∧ g + granule g ≤ a + 64 := by
  unfold granules at hg
  rw [if_neg (by decide)] at hg
  obtain ⟨hle, i, hi⟩ := mem_granulesFrom hg
  by_cases hs : sramBase ≤ a
  · have hga : granule a = 8 := if_pos hs
    rw [hga] at hi
    have hgg : granule g = 8 := if_pos (by omega)
    omega
  · have hga : granule a = 64 := if_neg hs
    rw [hga] at hi
    have hgg : g = a := by omega
    rw [hgg, hga]
    omega

theorem sameOutside_see {s : State} {a : Nat} (ha : a % 64 = 0) (h : s.reachable a = true) :
    sameOutside a 64 s (s.see a 64) := by
  unfold State.see
  split
  · exact sameOutside_foldl _ _ _ fun u b hb =>
      have hg := granules_line ha hb
      sameOutside_seeBlock u hg.1 hg.2 true
  · rename_i hs
    rw [linesOf_line ha]
    have hg : granule a = 64 := (State.granule_of_reachable h).trans (if_neg hs)
    exact sameOutside_seeLine s le_rfl (by omega)

end Sys2Proof.Machine
end

section
/-! SUPPORT. A core's start, barriers, reductions and the watchdog (R133, R135, R136, R150). -/

namespace Sys2Proof.Machine

/-! ### A core's start and the watchdog -/

/-- A participant starts, by its rank's ramp (R135). -/
theorem completes_coreStart {core : PhysCore} {j : Job} {l : Nat} {s : State} (hj : s.krm.job = some j) (hp : j.phase = .running)
    (hl : (s.core core.val).logical = some l) (hs : (s.core core.val).started = false)
    (hr : (s.core core.val).retired = false) :
    completes (.coreStart core) s fun t => t.core core.val = { s.core core.val with
        started := true, start := 512 * j.parts.idxOf l, launchStart := 512 * j.parts.idxOf l
        now := 512 * j.parts.idxOf l, lastIssue := 512 * j.parts.idxOf l } ∧
      t.flag (pKRMCORE core.val) KCORE_STAT_RUNNING = true ∧
      onlyCore (· = pKRMCORE core.val + KCORE_STAT_RUNNING.off) core.val s t := by
  have hexec : exec (.coreStart core) s = execCoreStart core s := rfl
  unfold execCoreStart at hexec
  simp only [hj, hl, hp, hs, hr, decide_true, Bool.not_false, Bool.and_self, if_true] at hexec
  refine ⟨_, hexec, ?_, ?_, fun d hd => State.core_setCore_ne _ _ hd, fun a ha => ?_, ?_, rfl⟩
  · exact (State.core_setCore_same ..).trans (by simp only [hl, hr])
  · exact State.flag_fset_same _ _ (f := KCORE_STAT_RUNNING) 1 rfl (by decide)
  · exact State.rd_wr_ne _ _ _ _ ha
  · exact sameBytes_of_eq rfl rfl rfl

/-- The watchdog of a started, unretired core ends the running job (R150). -/
theorem completes_kermesWatchdog {core : PhysCore} {s : State} (hj : s.jobRunning = true)
    (hl : (s.core core.val).logical.isSome = true) (hs : (s.core core.val).started = true)
    (hr : (s.core core.val).retired = false) (hw : s.fget pKRMGLOB KG_WDOG ≠ 0) :
    completes (.kermesWatchdog core) s fun t => t.ended 3 5 ∧ sameBytes s t := by
  have hexec : exec (.kermesWatchdog core) s = execKermesWatchdog core s := rfl
  have hrun : ∃ j, s.krm.job = some j ∧ j.phase = .running := by
    unfold State.jobRunning at hj
    split at hj
    · exact ⟨_, by assumption, of_decide_eq_true hj⟩
    · cases hj
  have hst : s.jobStands = true := by
    obtain ⟨j, hj, hp⟩ := hrun
    simp [State.jobStands, hj, hp]
  simp only [execKermesWatchdog, hst, hl, hs, hr, bne_iff_ne.2 hw, Bool.not_false, Bool.and_self, if_true] at hexec
  exact ⟨_, hexec, jobFault_spec hrun ..⟩

/-! ### Barriers -/

/-- The n-th of the cores that a barrier frees goes on from its place in the ramp (R136). -/
def State.release (r : Nat) (s : State) (p : (Nat × Nat) × Nat) : State :=
  let u := s.setCore p.1.2 { s.core p.1.2 with waitBar := none, start := r + 512 * p.2, now := r + 512 * p.2 }
  u.fset (pKRMCORE p.1.2) KCORE_DSTALL (sat32 (u.fget (pKRMCORE p.1.2) KCORE_DSTALL + (r + 512 * p.2 - (s.core p.1.2).now)))

theorem State.core_release_same (r : Nat) (s : State) (p : (Nat × Nat) × Nat) : (s.release r p).core p.1.2 =
    { s.core p.1.2 with waitBar := none, start := r + 512 * p.2, now := r + 512 * p.2 } := State.core_setCore_same ..

theorem State.core_release_ne (r : Nat) (s : State) (p : (Nat × Nat) × Nat) {d : Nat} (h : d ≠ p.1.2) :
    (s.release r p).core d = s.core d := State.core_setCore_ne _ _ h

/-- Cores that are not among those freed stay. -/
theorem State.core_foldl_release_of_notMem {r : Nat} {d : Nat} (l : List ((Nat × Nat) × Nat)) (s : State)
    (h : ∀ p ∈ l, d ≠ p.1.2) : (l.foldl (State.release r) s).core d = s.core d :=
  foldl_eq (fun u => u.core d) l _ s fun u p hp => State.core_release_ne r u p (h p hp)

/-- Each core freed once goes on from its own place. -/
theorem State.core_foldl_release {r : Nat} (l : List ((Nat × Nat) × Nat)) (s : State) (h : (l.map (·.1.2)).Nodup)
    {p : (Nat × Nat) × Nat} (hp : p ∈ l) : ((l.foldl (State.release r) s).core p.1.2).waitBar = none ∧
      ((l.foldl (State.release r) s).core p.1.2).now = r + 512 * p.2 := by
  induction l generalizing s with
  | nil => cases hp
  | cons e l ih =>
    obtain ⟨hnot, hl⟩ := List.nodup_cons.1 h
    rcases List.mem_cons.1 hp with rfl | hp
    · have hkeep : ((p :: l).foldl (State.release r) s).core p.1.2 = (s.release r p).core p.1.2 :=
        State.core_foldl_release_of_notMem l _ fun q hq he => hnot (List.mem_map.2 ⟨q, hq, he.symm⟩)
      rw [hkeep, State.core_release_same]
      exact ⟨rfl, rfl⟩
    · exact ih _ hl hp

/-- The cycle from which the cores that wait at a barrier are freed (R136). -/
def State.releaseAt (s : State) (chip : Bool) (ms : List (Nat × Nat)) : Nat :=
  ms.foldl (fun m p => max m ((s.core p.2).now - 1)) 0 + (if chip then 32 else 8)

/-- A barrier at which every core in scope waits frees them; beyond that it only shows (R136). -/
theorem exec_barrierRelease {scope : Option Quad} {j : Job} {i : Nat} {s : State} {ms : List (Nat × Nat)}
    (hj : s.krm.job = some j) (hms : ms = j.inScope scope.isNone ((scope.map Fin.val).getD 0))
    (hi : barrierIdent s scope.isNone ms = some i) : ∃ t, exec (.barrierRelease scope) s = .next t ∧
      t.krm = (ms.zipIdx.foldl (State.release (s.releaseAt scope.isNone ms)) s).krm := by
  have hexec : exec (.barrierRelease scope) s = execBarrierRelease scope s := rfl
  subst hms
  rw [hexec]
  unfold execBarrierRelease
  rw [hj]
  dsimp only
  cases scope with
  | none =>
    split
    · rename_i hnone
      cases hi.symm.trans hnone
    · exact ⟨_, rfl, rfl⟩
  | some q =>
    split
    · rename_i hnone
      cases hi.symm.trans hnone
    · exact ⟨_, rfl, (State.krm_showBarrier _ q.val none :)⟩

/-- Each of the cores freed goes on from its place in the ramp (R136). -/
theorem completes_barrierRelease {scope : Option Quad} {j : Job} {i : Nat} {s : State} {ms : List (Nat × Nat)}
    (hj : s.krm.job = some j) (hms : ms = j.inScope scope.isNone ((scope.map Fin.val).getD 0))
    (hi : barrierIdent s scope.isNone ms = some i) (hd : (ms.map (·.2)).Nodup) :
    completes (.barrierRelease scope) s fun t => ∀ (n : Nat) (h : n < ms.length),
      (t.core ms[n].2).waitBar = none ∧ (t.core ms[n].2).now = s.releaseAt scope.isNone ms + 512 * n := by
  obtain ⟨t, hexec, ht⟩ := exec_barrierRelease hj hms hi
  refine ⟨t, hexec, fun n h => ?_⟩
  have hnodup : (ms.zipIdx.map (·.1.2)).Nodup := by
    have hz : ms.zipIdx.map (·.1.2) = ms.map (·.2) := by
      rw [show (fun p : (Nat × Nat) × Nat => p.1.2) = Prod.snd ∘ Prod.fst from rfl, ← List.map_map, List.zipIdx_map_fst]
    rwa [hz]
  have hmem : (ms[n], n) ∈ ms.zipIdx := List.mk_mem_zipIdx_iff_getElem?.2 (List.getElem?_eq_getElem h)
  unfold State.core
  rw [ht]
  exact State.core_foldl_release ms.zipIdx s hnodup hmem

/-! ### Reductions -/

/-- The result that replaces the root's row, landing no earlier than `at_` (R133). -/
def landRow (i at_ : Nat) (r : AccRow1) (k : Core1) : Core1 :=
  { k with accs := Tab.set k.accs i { r with land := max (k.accRow i).land at_ } {} }

/-- The job with the reductions left. -/
def State.redsLeft (s : State) (j : Job) (rest : List RedState) : State := { s with krm.job := some { j with reds := rest } }

/-- No held bundle goes on. -/
theorem State.resume_of_held {s : State} {c : Nat} (h : (s.core c).held = none) : s.resume c = s := by
  unfold State.resume
  rw [h]

section
variable {e c at_ : Nat} {w : BitVec 64} {j : Job} {d : RedState} {rest : List RedState} {r : AccRow1 × Nat} {s : State}
  (hw : w = Tab.get j.redTab e 0) (hj : s.krm.job = some j) (ht : takeRed e w j.reds = some (d, rest))
  (hc : c = (j.physOf (redRoot w)).getD 0)
  (hr : r = reduceRows ((s.core c).accRow (redRow w)) j.fastOk
    ((List.range 32).filterMap fun l => (d.got.find? (·.1 = l)).map (·.2.1)))
  (hat : at_ = d.got.foldl (fun m g => max m g.2.2) 0 + (if redChip w then 48 else 16))
  (hfit : ∀ a ∈ r.1.accs, a.2.count ≤ j.maxContrib)
include hw hj ht hc hr hat hfit

/-- A complete reduction within the counts: its flags and its row are the root's core's. -/
theorem redEnd_eq : redEnd e s =
    ((s.redsLeft j rest).arithFlags c r.2).modCore c (landRow (redRow w) at_ r.1) := by
  have hany : (r.1.accs.any fun a => decide (a.2.count > j.maxContrib)) = false :=
    List.any_eq_false.2 fun a ha => by simpa using hfit a ha
  unfold redEnd
  rw [hj]
  dsimp only
  rw [← hw, ht]
  dsimp only
  rw [← hc, ← hr, hany, ← hat]
  rfl

/-- The root's row is the combination of the contributors' (R133). -/
theorem completes_reductionComplete {entry : Fin 512} (he : e = entry.val) (hp : j.phase = .running)
    (hh : (s.core c).held = none) : completes (.reductionComplete entry) s fun t =>
      (t.core c).accRow (redRow w) = { r.1 with land := max ((s.core c).accRow (redRow w)).land at_ } ∧
      t.krm.job = some { j with reds := rest } ∧ sameBytes s t := by
  obtain ⟨⟨a, ha⟩, -, hjob, -⟩ := arithFlags_core (s.redsLeft j rest) c r.2
  have hrun : s.jobRunning = true := by simp [State.jobRunning, hj, hp]
  have hred : redEnd entry.val s = ((s.redsLeft j rest).arithFlags c r.2).modCore c (landRow (redRow w) at_ r.1) :=
    he ▸ redEnd_eq hw hj ht hc hr hat hfit
  have hcore : (redEnd entry.val s).core c = landRow (redRow w) at_ r.1 { s.core c with jobArith := a } := by
    rw [hred, State.core_modCore_same, ha]
    rfl
  have hjob' : (redEnd entry.val s).krm.job = some { j with reds := rest } := by rw [hred]; exact hjob
  have hexec : exec (.reductionComplete entry) s = .next (redEnd entry.val s) := by
    have h : exec (.reductionComplete entry) s = execReductionComplete entry s := rfl
    rw [h, execReductionComplete, if_neg (by simp [hrun])]
    dsimp only
    rw [hjob']
    have hc' : c = (Job.physOf { j with reds := rest } (redRoot (Tab.get j.redTab entry.val 0))).getD 0 := by
      rw [hc, hw, he]
      rfl
    refine congrArg Host.Outcome.next ?_
    dsimp only
    rw [← hc']
    exact State.resume_of_held (by rw [hcore]; exact hh)
  refine ⟨_, hexec, ?_, hjob', ?_⟩
  · rw [hcore]
    exact Tab.get_set_same ..
  · rw [hred]
    have hleft : kermesOnly s (s.redsLeft j rest) := rfl
    exact (hleft.trans ((kermesOnly_arithFlags ..).trans (kermesOnly_modCore ..))).sameBytes

end

end Sys2Proof.Machine
end

section
/-! SUPPORT. A whole line written through the fabric, and what a read that finds upsets leaves in reach (R168, R186, R187). -/

namespace Sys2Proof.Machine

/-! ### A line written whole -/

theorem covered_line {a g : Nat} (ha : a % 64 = 0) (hg : g ∈ granules a 64) : covered a 64 g = true := by
  obtain ⟨h1, h2⟩ := granules_line ha hg
  simp [covered, h1, h2]

theorem State.mem_dropRebuilds (s : State) (c a n : Nat) : (s.dropRebuilds c a n).mem = s.mem := by
  unfold State.dropRebuilds
  dsimp only
  split <;> rfl

theorem State.poison_dropRebuilds (s : State) (c a n : Nat) : (s.dropRebuilds c a n).poison = s.poison := by
  unfold State.dropRebuilds
  dsimp only
  split <;> rfl

section
variable {s : State} {a : Nat} {bs : List Byte} (hlen : bs.length = 64) (ha : a % 64 = 0)
include hlen ha

/-- Nothing of a line written whole is merged. -/
theorem State.merged_line (u : State) :
    ((granules a bs.length).filter fun g => !(covered a bs.length g)).foldl State.settle u = u := by
  have hnone : ((granules a bs.length).filter fun g => !(covered a bs.length g)) = [] :=
    List.filter_eq_nil_iff.2 fun g hg => by
      rw [hlen] at hg ⊢
      simp [covered_line ha hg]
  rw [hnone, List.foldl_nil]

theorem State.mem_writeLine_line (bad : Bool) :
    (s.writeLine a a bs bad).mem = ((s.see a 64).putBytes a bs).mem := by
  unfold State.writeLine
  extract_lets t u v w y
  have hu : u = s.see a 64 := (State.merged_line hlen ha t).trans (congrArg (s.see a) hlen)
  have hw : w.mem = ((s.see a 64).putBytes a bs).mem := by
    rw [← hu]
    unfold w
    split <;> rfl
  clear_value w
  split
  · exact (foldl_eq State.mem _ _ y fun z g _ => State.mem_dropRebuilds ..).trans hw
  · exact hw

theorem State.poison_writeLine_line (bad : Bool) : (s.writeLine a a bs bad).poison =
    if bad then (granules a 64).foldl setAdd ((s.see a 64).store a bs bad).poison else ((s.see a 64).store a bs bad).poison := by
  unfold State.writeLine
  extract_lets t u v w y
  have hu : u = s.see a 64 := (State.merged_line hlen ha t).trans (congrArg (s.see a) hlen)
  have hw : w.poison = if bad then (granules a 64).foldl setAdd ((s.see a 64).store a bs bad).poison
      else ((s.see a 64).store a bs bad).poison := by
    rw [← hu]
    unfold w
    split <;> rfl
  clear_value w
  split
  · exact (foldl_eq State.poison _ _ y fun z g _ => State.poison_dropRebuilds ..).trans hw
  · exact hw

/-- A line written whole carries the mark of the write. -/
theorem State.poisonedAt_writeLine_line (bad : Bool) : (s.writeLine a a bs bad).poisonedAt a 64 = bad := by
  have hp := State.poison_writeLine_line (s := s) hlen ha bad
  unfold State.poisonedAt
  rw [hp]
  cases bad with
  | true =>
    have hfirst : a / granule a * granule a ∈ granules a 64 := granule_mem_granules (by decide)
    refine List.any_eq_true.2 ⟨_, hfirst, ?_⟩
    rw [List.contains_iff_mem]
    exact mem_foldl_setAdd.2 (.inl hfirst)
  | false =>
    refine List.any_eq_false.2 fun g hg => ?_
    rw [List.contains_iff_mem]
    intro hmem
    have hcov := (List.mem_filter.1 hmem).2
    rw [hlen, covered_line ha hg] at hcov
    cases hcov

variable (hr : s.reachable a = true) (hw : s.qw.watch = [])
include hr hw

/-- A write of a whole line in reach, where no weights are watched. -/
theorem State.fabWrite_line (bad : Bool) : s.fabWrite a bs bad = s.writeLine a a bs bad := by
  have hlines : linesOf a bs.length = [a] := hlen ▸ linesOf_line ha
  have hwatch : (s.writeLine a a bs bad).qw.watch = [] :=
    (congrArg (fun u => u.qw.watch) (State.beyond_writeLine s a a bs bad) :).trans hw
  rw [State.fabWrite, State.noteRange_of_reachable hr hlines, hlines, List.foldl_cons, List.foldl_nil, if_pos hr,
    linePart_line hlen, State.watchWrite, hwatch, List.foldl_nil]

/-- Its bytes and its mark are the write's, and no other byte changes. -/
theorem State.fabWrite_line_spec (bad : Bool) :
    (∀ (i : Nat) (h : i < bs.length), (s.fabWrite a bs bad).byteAt (a + i) = bs[i]) ∧
    (s.fabWrite a bs bad).poisonedAt a 64 = bad ∧ sameOutside a 64 s (s.fabWrite a bs bad) := by
  rw [State.fabWrite_line hlen ha hr hw]
  have hmem := State.mem_writeLine_line (s := s) hlen ha bad
  have hput : sameOutside a 64 (s.see a 64) ((s.see a 64).putBytes a bs) := fun x hx =>
    State.byteAt_put_out _ _ _ _ (by omega)
  refine ⟨fun i h => ?_, State.poisonedAt_writeLine_line hlen ha bad, ?_⟩
  · exact (congrArg (memByte · 0 (a + i)) hmem).trans (State.byteAt_put_in _ _ _ _ h)
  · exact ((sameOutside_see ha hr).trans hput).trans (sameOutside_of_mem hmem)

end

/-! ### Reads that find upsets -/

section
variable (s : State) (a n : Nat)

theorem State.beyond_noteAccess : (s.noteAccess a n).beyond = s.beyond :=
  (State.beyond_foldl _ _ _ fun _ _ => State.beyond_ite (State.beyond_see ..) rfl).trans (State.beyond_noteRange ..)

theorem State.ctrl_noteAccess {x : Nat} (hx : ctrlWord x) : (s.noteAccess a n).rd x = s.rd x :=
  (State.rd_foldl _ _ _ fun _ _ => State.rd_branch (State.ctrl_see hx ..) rfl).trans (State.ctrl_noteRange hx ..)

/-- What a read finds puts nothing out of reach. -/
theorem State.reachable_noteAccess (d : Nat) : (s.noteAccess a n).reachable d = s.reachable d := by
  have hrd {x : Nat} (hx : x < 0x400000) : (s.noteAccess a n).rd x = s.rd x := State.rd_of_aside (State.aside_noteAccess ..) hx
  unfold State.reachable State.flag State.fget
  split
  · rename_i hs
    have hc : sramCore d < 36 := by
      simp only [inSram, Bool.and_eq_true, decide_eq_true_eq] at hs
      have hend : d < sramBase + sramSize * 36 := hs.2
      exact Nat.div_lt_of_lt_mul (by omega)
    rw [hrd, hrd] <;> simp only [pKRMCORE, PAGE_STAT_FENCED, KCORE_STAT_PSTATE] <;> omega
  · have hpg : ctrlWord (tierPage d + PAGE_STAT_FENCED.off) := by
      have hmod := tierPage_page d
      simp only [ctrlWord, PAGE_STAT_FENCED]
      omega
    rw [State.ctrl_noteAccess s a n hpg]

end

end Sys2Proof.Machine
end

section
/-! SUPPORT. Transfers, by the lines moved, the stop and the tag freed (R131, R132, R187, R205). -/

namespace Sys2Proof.Machine

/-! ### What a transfer leaves of the cores -/

/-- Of core `d` at most the banks changed. -/
def banksOnly (d : Nat) (s t : State) : Prop := ∃ b, t.core d = { s.core d with banks := b }

theorem banksOnly.trans {d : Nat} {s t u : State} (h : banksOnly d s t) (g : banksOnly d t u) : banksOnly d s u := by
  obtain ⟨b, hb⟩ := h
  obtain ⟨b', hb'⟩ := g
  exact ⟨b', by rw [hb', hb]⟩

theorem banksOnly_of_aside {s t : State} (h : t.aside = s.aside) (d : Nat) : banksOnly d s t := State.core_of_aside h d

theorem banksOnly_dmaMove (j : Job) (c : Nat) (d : BitVec 256) (s : State) (i e : Nat) :
    banksOnly e s (dmaMove j c d s i) :=
  (banksOnly_of_aside (State.aside_noteAccess ..) e).trans
    ((banksOnly_of_aside (State.aside_fabWrite ..) e).trans (storeKeeps_outputBite ..).core)

/-! ### The end of a transfer, by its parts -/

/-- The line at which a transfer stops (R131, R132). -/
def State.dmaStop (s : State) (j : Job) (c : Nat) (d : BitVec 256) (err : Option Nat) : Option Nat :=
  (List.range (descRows d * (descRowBytes d / 64))).find? fun i => s.dmaFails j c d i || err = some i

/-- The lines before the stop have moved, and what the stop records is recorded. -/
def State.dmaMoved (s : State) (j : Job) (c : Nat) (d : BitVec 256) (stop : Option Nat) : State :=
  let m := (List.range (stop.getD (descRows d * (descRowBytes d / 64)))).foldl (dmaMove j c d) s
  match stop with
  | some i => (m.noteAccess (dmaLine j c d i).1 64).noteRange (dmaLine j c d i).2 64
  | none => m

theorem banksOnly_dmaMoved (s : State) (j : Job) (c : Nat) (d : BitVec 256) (stop : Option Nat) (e : Nat) :
    banksOnly e s (s.dmaMoved j c d stop) := by
  have hmove (l : List Nat) (u : State) : banksOnly e u (l.foldl (dmaMove j c d) u) := by
    induction l generalizing u with
    | nil => exact ⟨_, rfl⟩
    | cons i l ih => exact (banksOnly_dmaMove j c d u i e).trans (ih _)
  unfold State.dmaMoved
  extract_lets m
  have hm : banksOnly e s m := hmove ..
  split
  · exact hm.trans ((banksOnly_of_aside (State.aside_noteAccess ..) e).trans (banksOnly_of_aside (State.aside_noteRange ..) e))
  · exact hm

/-- The tag of a transfer, complete at cycle `done`. -/
def State.tagFreed (s : State) (c t : Nat) (tag : DmaTag) (done : Nat) : State :=
  ({ s with free := s.free + 1 } : State).modCore c fun k =>
    { k with tags := Tab.set k.tags t { tag with busy := false, doneAt := done } {} }

/-- How a transfer that had tag `tag` ends. -/
def State.dmaEnded (s : State) (c t : Nat) (tag : DmaTag) (done : Nat) (stopped : Bool) : State :=
  if stopped then (s.tagFreed c t tag done).jobFault 3 done else s.tagFreed c t tag done

theorem dmaEnd_eq {c t : Nat} {err : Option Nat} {found : List Upset} {j : Job} {s : State} {tag : DmaTag}
    (hj : s.krm.job = some j) (ht : tag = Tab.get (s.core c).tags t {}) (hb : tag.busy = true) :
    ∃ done, dmaEnd c t err found s = ((s.upsets found).dmaMoved j c tag.desc
      ((s.upsets found).dmaStop j c tag.desc err)).dmaEnded c t tag done ((s.upsets found).dmaStop j c tag.desc err).isSome := by
  unfold dmaEnd
  rw [hj, ← ht]
  dsimp only
  rw [if_neg (by simp [hb])]
  exact ⟨_, rfl⟩

/-- The core of the transfer goes on with its tag free, whether the job ends or not. -/
theorem State.core_dmaEnded {s : State} {c t : Nat} {tag : DmaTag} {done : Nat} {stopped : Bool} (h : (s.core c).held = none) :
    (Tab.get ((s.dmaEnded c t tag done stopped).core c).tags t {}).busy = false ∧
      ((s.dmaEnded c t tag done stopped).core c).held = none := by
  have hcore : (s.tagFreed c t tag done).core c = { s.core c with
      tags := Tab.set (s.core c).tags t { tag with busy := false, doneAt := done } {} } := State.core_modCore_same ..
  have hfree : (Tab.get ((s.tagFreed c t tag done).core c).tags t {}).busy = false := by
    rw [hcore, Tab.get_set_same]
  have hheld : ((s.tagFreed c t tag done).core c).held = none := by rw [hcore]; exact h
  cases stopped with
  | false => exact ⟨hfree, hheld⟩
  | true =>
    rcases stoppedAs_endJob (s.tagFreed c t tag done) c 3 3 done with he | he
    · have hk : (s.dmaEnded c t tag done true).core c = (s.tagFreed c t tag done).core c := he
      rw [hk]
      exact ⟨hfree, hheld⟩
    · have hk : (s.dmaEnded c t tag done true).core c = { ((s.tagFreed c t tag done).core c).idle with waitBar := none } := he
      rw [hk]
      exact ⟨hfree, rfl⟩

section
variable {core : PhysCore} {tag : Fin 16} {err : Option Nat} {found : List Upset} {j : Job} {d : BitVec 256} {s u : State}
  (hj : s.krm.job = some j) (hh : (s.core core.val).held = none)
  (hb : (Tab.get (s.core core.val).tags tag.val {}).busy = true) (hd : d = (Tab.get (s.core core.val).tags tag.val {}).desc)
  (hu : u = s.upsets found)
include hj hh hb hd hu

/-- A transfer's completion frees its tag; its end is as its parts say. -/
theorem exec_dmaComplete : ∃ e done, e = Tab.get (s.core core.val).tags tag.val {} ∧
    exec (.dmaComplete core tag err found) s = .next ((u.dmaMoved j core.val d (u.dmaStop j core.val d err)).dmaEnded
      core.val tag.val e done (u.dmaStop j core.val d err).isSome) ∧
    ((u.dmaMoved j core.val d (u.dmaStop j core.val d err)).core core.val).held = none := by
  obtain ⟨done, hend⟩ := dmaEnd_eq (err := err) (found := found) hj rfl hb
  rw [← hd, ← hu] at hend
  have hheld : ((u.dmaMoved j core.val d (u.dmaStop j core.val d err)).core core.val).held = none := by
    have hsu : banksOnly core.val s u := hu ▸ banksOnly_of_aside (State.aside_upsets s found) core.val
    obtain ⟨b, hcore⟩ := hsu.trans (banksOnly_dmaMoved u j core.val d (u.dmaStop j core.val d err) core.val)
    rw [hcore]
    exact hh
  refine ⟨_, done, rfl, ?_, hheld⟩
  have hexec : exec (.dmaComplete core tag err found) s = .next ((dmaEnd core.val tag.val err found s).resume core.val) := rfl
  rw [hexec, hend, State.resume_of_held (State.core_dmaEnded hheld).2]

end

/-! ### A first line that fails from outside -/

theorem State.dmaStop_first (u : State) (j : Job) (c : Nat) {d : BitVec 256} (h : 0 < descRows d * (descRowBytes d / 64)) :
    u.dmaStop j c d (some 0) = some 0 := by
  unfold State.dmaStop
  obtain ⟨n, hn⟩ := Nat.exists_eq_add_of_lt h
  rw [hn, List.range_succ_eq_map, List.find?_cons_of_pos (by simp)]

theorem State.dmaMoved_first (u : State) (j : Job) (c : Nat) (d : BitVec 256) :
    u.dmaMoved j c d (some 0) = (u.noteAccess (dmaLine j c d 0).1 64).noteRange (dmaLine j c d 0).2 64 := rfl

theorem sameBytes_noteRange (s : State) (a n : Nat) : sameBytes s (s.noteRange a n) := by
  unfold State.noteRange
  split
  · exact sameBytes_of_eq rfl rfl rfl
  · split <;> exact sameBytes_of_eq rfl rfl rfl

/-- The job ends at a line that failed, and only what was found there changes a byte. -/
theorem State.dmaEnded_first {u : State} {j : Job} (hj : u.krm.job = some j) (hp : j.phase = .running) (c t : Nat)
    (d : BitVec 256) (tag : DmaTag) (done : Nat) : ((u.dmaMoved j c d (some 0)).dmaEnded c t tag done true).ended 3 3 ∧
      sameBytes (u.noteAccess (dmaLine j c d 0).1 64) ((u.dmaMoved j c d (some 0)).dmaEnded c t tag done true) := by
  have hnote : (u.dmaMoved j c d (some 0)).krm.job = u.krm.job := by
    rw [State.dmaMoved_first]
    exact State.job_of_aside ((State.aside_noteRange ..).trans (State.aside_noteAccess ..))
  have hjob : ((u.dmaMoved j c d (some 0)).tagFreed c t tag done).krm.job = (u.dmaMoved j c d (some 0)).krm.job := rfl
  obtain ⟨hended, hbytes⟩ := jobFault_spec ⟨j, hjob.trans (hnote.trans hj), hp⟩ 3 done
  have hfree : sameBytes (u.dmaMoved j c d (some 0)) ((u.dmaMoved j c d (some 0)).tagFreed c t tag done) :=
    sameBytes_of_eq rfl rfl rfl
  exact ⟨hended, sameBytes_trans (sameBytes_noteRange ..) (sameBytes_trans hfree hbytes)⟩

/-! ### A transfer of one line -/

section
variable {u : State} {j : Job} {c : Nat} {d : BitVec 256} (hrows : descRows d = 1) (hrow : descRowBytes d = 64)
include hrows hrow

theorem State.dmaStop_line (h : u.dmaFails j c d 0 = false) : u.dmaStop j c d none = none := by
  simp [State.dmaStop, hrows, hrow, h]

theorem State.dmaMoved_line : u.dmaMoved j c d none = dmaMove j c d u 0 := by
  simp [State.dmaMoved, hrows, hrow]

end

/-- One line moved, with its mark, where no weights are watched; no other byte changes. -/
theorem dmaMove_spec {u v : State} {j : Job} {c i src dst : Nat} {d : BitVec 256} (hl : (src, dst) = dmaLine j c d i)
    (hv : v = u.noteAccess src 64) (hdst : dst % 64 = 0) (hr : u.reachable dst = true) (hw : u.qw.watch = []) :
    (∀ k, k < 64 → (dmaMove j c d u i).byteAt (dst + k) = v.fabByte (src + k)) ∧
      (dmaMove j c d u i).poisonedAt dst 64 = v.fabPoison src 64 ∧ sameOutside dst 64 v (dmaMove j c d u i) := by
  have hmove : dmaMove j c d u i =
      (v.fabWrite dst (v.fabBytes src 64) (v.fabPoison src 64)).outputBite dst 64 (v.fabPoison src 64) := by
    rw [dmaMove, ← hl, hv]
    rfl
  have hvr : v.reachable dst = true := by rw [hv, State.reachable_noteAccess, hr]
  have hvw : v.qw.watch = [] := by
    rw [hv]
    exact (congrArg (fun u => u.qw.watch) (State.beyond_noteAccess u src 64) :).trans hw
  obtain ⟨hin, hmark, hout⟩ := State.fabWrite_line_spec (State.fabBytes_length v src 64) hdst hvr hvw (v.fabPoison src 64)
  have hmem := State.outputBite_mem (v.fabWrite dst (v.fabBytes src 64) (v.fabPoison src 64)) dst 64 (v.fabPoison src 64)
  rw [hmove]
  refine ⟨fun k hk => ?_, ?_, hout.trans (sameOutside_of_mem hmem)⟩
  · have hlt : k < (v.fabBytes src 64).length := by rwa [State.fabBytes_length]
    have hbyte := hin k hlt
    rw [State.getElem_fabBytes] at hbyte
    exact (congrArg (memByte · 0 (dst + k)) hmem).trans hbyte
  · rw [State.poisonedAt_eq (State.outputBite_poison ..), hmark]

/-! ### The obligation -/

section
variable {core : PhysCore} {tag : Fin 16} {err : Option Nat} {found : List Upset} {j : Job} {d : BitVec 256} {src dst : Nat}
  {s u : State} (hj : s.krm.job = some j) (hh : (s.core core.val).held = none)
  (hb : (Tab.get (s.core core.val).tags tag.val {}).busy = true) (hd : d = (Tab.get (s.core core.val).tags tag.val {}).desc)
  (hl : (src, dst) = dmaLine j core.val d 0) (hu : u = s.upsets found)
include hj hh hb hd hl hu

/-- A transfer's completion frees its tag, and moves one line or ends the job at a failed one (R131, R132). -/
theorem completes_dmaComplete : completes (.dmaComplete core tag err found) s fun t =>
      (Tab.get (t.core core.val).tags tag.val {}).busy = false ∧
      (err = some 0 → j.phase = .running → 0 < descRows d * (descRowBytes d / 64) →
        t.ended 3 3 ∧ sameBytes (u.noteAccess src 64) t) ∧
      (err = none → descRows d = 1 → descRowBytes d = 64 → s.qw.watch = [] → src % 64 = 0 → dst % 64 = 0 →
        u.dmaFails j core.val d 0 = false → u.reachable dst = true →
        (∀ i, i < 64 → t.byteAt (dst + i) = (u.noteAccess src 64).fabByte (src + i)) ∧
        t.poisonedAt dst 64 = (u.noteAccess src 64).fabPoison src 64 ∧
        ∀ x, x < dst ∨ dst + 64 ≤ x → t.byteAt x = (u.noteAccess src 64).byteAt x) := by
  obtain ⟨e, done, -, hexec, hheld⟩ := exec_dmaComplete (err := err) hj hh hb hd hu
  have hsrc : src = (dmaLine j core.val d 0).1 := congrArg Prod.fst hl
  refine ⟨_, hexec, (State.core_dmaEnded hheld).1, fun herr hp hn => ?_, fun herr hrows hrow hwatch _ hdst hfail hreach => ?_⟩
  · have hju : u.krm.job = some j := by rw [hu, State.job_of_aside (State.aside_upsets s found), hj]
    rw [herr, State.dmaStop_first u j core.val hn, hsrc]
    exact State.dmaEnded_first hju hp ..
  · have hwu : u.qw.watch = [] := by
      rw [hu]
      exact (congrArg (fun u => u.qw.watch) (State.beyond_upsets s found) :).trans hwatch
    rw [herr, State.dmaStop_line hrows hrow hfail, State.dmaMoved_line hrows hrow]
    exact dmaMove_spec hl rfl hdst hreach hwu

end

/-- Settles O21: starts, barriers, reductions and the watchdog by what each changes of the cores and the job; a transfer by its
parts, the lines moved, the stop and the tag freed. -/
theorem coresTogether : Obligations.CoresTogether := by
  unfold Obligations.CoresTogether
  refine ⟨fun core j l s => completes_coreStart, fun scope j i s hj hi hd => ?_, fun core tag err found j d src dst s u =>
    completes_dmaComplete, fun entry j d rest c s hj hp ht hc hh hfit => ?_, fun core s => completes_kermesWatchdog⟩
  · exact completes_barrierRelease hj rfl hi hd
  · exact completes_reductionComplete rfl hj ht hc rfl rfl hfit rfl hp hh

end Sys2Proof.Machine
end

section
/-! SUPPORT. A fence by its steps: the job, the core, its slot, an activation under way, and the shutdown (R156, R157). -/

namespace Sys2Proof.Machine

/-! ### The steps of a fence -/

/-- Whether core `c` takes part in the job taken. -/
def State.takesPart (s : State) (c : Nat) : Bool :=
  match s.krm.job with
  | some j => j.phys.contains c
  | none => false

/-- The job that core `c` takes part in is aborted, and the core stops with the cause (R157). -/
def State.stoppedBy (s : State) (c code : Nat) : State :=
  ((if s.takesPart c then s.endJob 2 2 s.lastCycle else s).stopCore c).fset (pKRMCORE c) KCORE_FCAUSE_CAUSE code

/-- The slot that core `c` held is empty. -/
def State.vacated (s : State) (c : Nat) : State :=
  match s.slotOf c with
  | some k => ((s.hwSet (quadPage c) (mapSlot k) 0xF).setActive c false).fset (pKRMCORE c) KCORE_STAT_LOGICAL 0x3F
  | none => s

/-- Core `c` is its quadrant's spare no longer. -/
def State.unspared (s : State) (c : Nat) : State :=
  if s.fget (quadPage c) KQ_SPARE_SPARE = c % 9 then
    (s.hwSet (quadPage c) KQ_SPARE_SPARE 0xF).fset (pKRMCORE c) KCORE_STAT_SPARE 0 else s

/-- An activation of core `c` under way ends. -/
def State.unclaimed (s : State) (c : Nat) : State :=
  if (s.core c).activating then s.fset (quadPage c) KQ_SPARE_BUSY 0 else s

/-- Core `c` shows FENCED and powers down. -/
def State.shutOff (s : State) (c : Nat) : State :=
  ((((s.modCore c fun k => { k with selftest := none }).setStat (pKRMCORE c) PAGE_STAT_FENCED true).fset (pKRMCORE c)
    KCORE_STAT_SHUTTING 1).raise pKRMGLOB 6).showPstate

theorem State.fenceCore_eq {s : State} {c : Nat} (h : s.flag (pKRMCORE c) PAGE_STAT_FENCED = false) (code : Nat) :
    s.fenceCore c code = ((((s.stoppedBy c code).vacated c).unspared c).unclaimed c).shutOff c := by
  unfold State.fenceCore
  extract_lets pg mine t u v w x y z
  rw [if_neg (by rw [h]; decide)]
  rfl

/-! ### The job and the core -/

theorem State.krm_vacated (s : State) (c : Nat) : (s.vacated c).krm = s.krm := by
  unfold State.vacated
  split
  · rw [State.fset_krm, State.krm_setActive, State.hwSet_krm]
  · rfl

theorem State.krm_unspared (s : State) (c : Nat) : (s.unspared c).krm = s.krm := by
  unfold State.unspared
  split
  · rw [State.fset_krm, State.hwSet_krm]
  · rfl

theorem State.krm_unclaimed (s : State) (c : Nat) : (s.unclaimed c).krm = s.krm := by
  unfold State.unclaimed
  split
  · rw [State.fset_krm]
  · rfl

theorem State.job_shutOff (s : State) (c : Nat) : (s.shutOff c).krm.job = s.krm.job := by
  rw [State.shutOff, State.showPstate, State.fset_krm, State.raise_krm, State.fset_krm, State.setStat_krm]
  rfl

/-- The job that a fenced core takes part in ends ABORTED, FENCE (R157). -/
theorem State.ended_fenceCore_fence {s : State} {c : Nat} {j : Job} (h : s.flag (pKRMCORE c) PAGE_STAT_FENCED = false)
    (hj : s.krm.job = some j) (hc : c ∈ j.phys) (hp : j.phase ≠ .ended) (code : Nat) : (s.fenceCore c code).ended 2 2 := by
  have hpart : s.takesPart c = true := by simp [State.takesPart, hj, hc]
  have hstop : (s.stoppedBy c code).krm.job = (s.endJob 2 2 s.lastCycle).krm.job := by
    rw [State.stoppedBy, State.fset_krm, if_pos hpart, State.stopCore, State.fset_krm]
    rfl
  have hjob : (s.fenceCore c code).krm.job = (s.endJob 2 2 s.lastCycle).krm.job := by
    rw [State.fenceCore_eq h, State.job_shutOff, State.krm_unclaimed, State.krm_unspared, State.krm_vacated, hstop]
  unfold State.ended
  rw [hjob]
  exact State.ended_endJob hj hp 2 2 _

/-- Until its activation is dropped, a fenced core is as much being activated as before. -/
theorem State.activating_unspared (s : State) (c code : Nat) :
    ((((s.stoppedBy c code).vacated c).unspared c).core c).activating = (s.core c).activating := by
  have hkrm : (((s.stoppedBy c code).vacated c).unspared c).core c = (s.stoppedBy c code).core c := by
    unfold State.core
    rw [State.krm_unspared, State.krm_vacated]
  have hend : stoppedAs (s.core c) ((if s.takesPart c then s.endJob 2 2 s.lastCycle else s).core c) := by
    split
    · exact stoppedAs_endJob ..
    · exact .inl rfl
  have hstop : stoppedAs (s.core c) ((s.stoppedBy c code).core c) := by
    unfold State.stoppedBy State.core
    rw [State.fset_krm]
    exact stoppedAs_stopCore hend c
  rw [hkrm]
  rcases hstop with he | he
  · rw [he]
  · rw [he]
    rfl

/-! ### The cause -/

/-- The word of a cause on a core's page. -/
def atCause (x : Nat) : Prop := x % 0x10000 = KCORE_FCAUSE_CAUSE.off

theorem not_atCause {b o : Nat} (hb : b % 0x10000 = 0) (ho : o < 0x10000 ∧ o ≠ 0x10C) : ¬atCause (b + o) := by
  simp only [atCause, KCORE_FCAUSE_CAUSE]
  omega

theorem atCause.not_msixWord (x : Nat) (h : atCause x) : ¬msixWord x := by
  simp only [atCause, KCORE_FCAUSE_CAUSE] at h
  unfold msixWord
  omega

/-- What the number of active cores and the map of them write. -/
theorem stands_setActive_of {W : Nat → Prop} (hlo : ¬W (pKRMGLOB + 0x158)) (hhi : ¬W (pKRMGLOB + 0x15C))
    (hseq : ¬W (pKRMGLOB + 0x34)) (hfam : ¬W (pGEN + 0x100)) (hgseq : ¬W (pGEN + 0x34)) (s : State) (c : Nat) (on : Bool) :
    stands W s (s.setActive c on) :=
  ((stands_wr _ _ _ hlo).trans (stands_wr _ _ _ hhi)).trans
    ((stands_hwSet _ _ GEN_FAMILY_ACT_CORES _ hfam hgseq).trans (stands_fset _ _ PAGE_SEQ _ hseq))

theorem stands_vacated_cause (s : State) (c : Nat) : stands atCause s (s.vacated c) := by
  have hq := quadPage_page c
  unfold State.vacated
  split
  · rename_i k _
    have hslot : stands atCause s (s.hwSet (quadPage c) (mapSlot k) 0xF) :=
      stands_hwSet _ _ _ _ (not_atCause (o := 0x100) hq (by decide)) (not_atCause hq (by decide))
    have hact (t : State) : stands atCause t (t.setActive c false) :=
      stands_setActive_of (not_atCause rfl (by decide)) (not_atCause rfl (by decide)) (not_atCause rfl (by decide))
        (not_atCause rfl (by decide)) (not_atCause rfl (by decide)) t c false
    exact (hslot.trans (hact _)).trans (stands_fset _ _ KCORE_STAT_LOGICAL _ (not_atCause (pKRMCORE_page c) (by decide)))
  · exact stands.refl s

theorem stands_unspared_cause (s : State) (c : Nat) : stands atCause s (s.unspared c) :=
  stands_ite (fun _ => (stands_hwSet _ _ KQ_SPARE_SPARE _ (not_atCause (quadPage_page c) (by decide))
    (not_atCause (quadPage_page c) (by decide))).trans
      (stands_fset _ _ KCORE_STAT_SPARE _ (not_atCause (pKRMCORE_page c) (by decide)))) fun _ => stands.refl s

theorem stands_unclaimed_cause (s : State) (c : Nat) : stands atCause s (s.unclaimed c) :=
  stands_ite (fun _ => stands_fset _ _ KQ_SPARE_BUSY _ (not_atCause (quadPage_page c) (by decide))) fun _ => stands.refl s

/-- What a core that is shut off writes: its page's status, and the interrupt and the state shown for Kermes. -/
theorem stands_shutOff {W : Nat → Prop} {c : Nat} (hstat : ¬W (pKRMCORE c + 0x14)) (hseq : ¬W (pKRMCORE c + 0x34))
    (hirq : ¬W (pKRMCORE c + 0x18)) (hshut : ¬W (pKRMCORE c + 0x104)) (hglob : ¬W (pKRMGLOB + 0x18))
    (hps : ¬W (pKRMGLOB + 0x104)) (hm : ∀ x, W x → ¬msixWord x) (s : State) : stands W s (s.shutOff c) := by
  have hcore : stands W s (s.modCore c fun k => { k with selftest := none }) := stands_of_eq rfl rfl rfl rfl
  exact (((hcore.trans (stands_setStat _ _ PAGE_STAT_FENCED _ hstat hseq hirq hm)).trans
    (stands_fset _ _ KCORE_STAT_SHUTTING _ hshut)).trans (stands_raise _ _ _ hglob hm)).trans
      (stands_fset _ _ KG_STAT_PSTATE _ hps)

theorem stands_shutOff_cause (s : State) (c : Nat) : stands atCause s (s.shutOff c) := by
  have hc := pKRMCORE_page c
  exact stands_shutOff (not_atCause hc (by decide)) (not_atCause hc (by decide)) (not_atCause hc (by decide))
    (not_atCause hc (by decide)) (not_atCause rfl (by decide)) (not_atCause rfl (by decide)) atCause.not_msixWord s

theorem State.fcause_fenceCore {s : State} {c code : Nat} (h : s.flag (pKRMCORE c) PAGE_STAT_FENCED = false)
    (hcode : code < 256) : (s.fenceCore c code).fget (pKRMCORE c) KCORE_FCAUSE_CAUSE = code := by
  have hst : stands atCause (s.stoppedBy c code) (s.fenceCore c code) := by
    rw [State.fenceCore_eq h]
    exact (((stands_vacated_cause ..).trans (stands_unspared_cause ..)).trans (stands_unclaimed_cause ..)).trans
      (stands_shutOff_cause ..)
  have hword : atCause (pKRMCORE c + KCORE_FCAUSE_CAUSE.off) := by
    simp only [atCause, pKRMCORE, KCORE_FCAUSE_CAUSE]
    omega
  rw [hst.fget hword]
  exact (State.fget_fset_same _ _ KCORE_FCAUSE_CAUSE _ (by decide)).trans (Nat.mod_eq_of_lt hcode)

/-! ### The shutdown, and an activation under way -/

theorem State.shutting_fenceCore {s : State} {c : Nat} (hc : c < 36) (h : s.flag (pKRMCORE c) PAGE_STAT_FENCED = false)
    (code : Nat) : (s.fenceCore c code).flag (pKRMCORE c) KCORE_STAT_SHUTTING = true := by
  rw [State.fenceCore_eq h]
  unfold State.shutOff State.flag
  rw [State.fget_showPstate _ hc _ (by decide), State.fget, State.rd_raise _ _ _ _
    (pKRMCORE_ne_glob hc KCORE_STAT_SHUTTING IRQ_STAT (by decide))
    (by simp only [msixWord, pKRMCORE, KCORE_STAT_SHUTTING]; omega)]
  exact State.flag_fset_same _ _ (f := KCORE_STAT_SHUTTING) 1 rfl (by decide)

theorem State.busy_fenceCore {s : State} {c : Nat} (hc : c < 36) (h : s.flag (pKRMCORE c) PAGE_STAT_FENCED = false)
    (code : Nat) (hact : (s.core c).activating = true) : (s.fenceCore c code).flag (quadPage c) KQ_SPARE_BUSY = false := by
  have hst (t : State) : stands (· = quadPage c + 0x104) t (t.shutOff c) := by
    refine stands_shutOff ?_ ?_ ?_ ?_ ?_ ?_ ?_ t <;> simp only [quadPage, pKRMQUAD, pKRMCORE, pKRMGLOB, msixWord] <;> omega
  rw [State.fenceCore_eq h, (hst _).flag rfl, State.unclaimed, State.activating_unspared, if_pos hact]
  exact State.flag_fset_same _ _ (f := KQ_SPARE_BUSY) 0 rfl (by decide)

end Sys2Proof.Machine
end

section
/-! SUPPORT. The commands that fence, unfence and test a core, by the write each rides on (R156, R157, R161, R162). -/

namespace Sys2Proof.Machine

/-! ### Writes of a core's and a quadrant's control register -/

theorem krm_regWrite (s : State) (cls : Cls) (a v : Nat) : (regWrite s cls a 4 v).2.krm = s.krm :=
  (congrArg State.krm (State.behind_regWrite s cls a 4 v) :)

/-- A write that a core's KCORE_CTRL takes changes that register and PAGE_SEQ alone. -/
theorem rd_regWrite_core {cls : Cls} {core : PhysCore} {v x : Nat} {s : State} (h : s.takes cls (pKRMCORE core.val + 0x100) v)
    (hv : v < 0x100000000) (hx : x ≠ pKRMCORE core.val + 0x100 ∧ x ≠ pKRMCORE core.val + 0x34) :
    (regWrite s cls (pKRMCORE core.val + 0x100) 4 v).2.rd x = s.rd x := by
  have hoff : (pKRMCORE core.val + 0x100) % 0x10000 = 0x100 := by simp only [pKRMCORE]; omega
  obtain ⟨r, e, hr, hpair, hcls⟩ : ∃ r e, findReg rowsKRMCORE ((pKRMCORE core.val + 0x100) % 0x10000) = some (r, e, 0) ∧
      r.pair = false ∧ r.percls = false := by
    rw [hoff]
    exact ⟨_, _, rfl, rfl, rfl⟩
  obtain ⟨-, hw⟩ := regWrite_word (findPage_krmcore core) hr hpair hcls (by simp) hv h
  have hbase : (pKRMCORE core.val + 0x100) / 0x10000 * 0x10000 = pKRMCORE core.val := by simp only [pKRMCORE]; omega
  rw [hw, hbase, State.rd_seqUp _ _ _ hx.2, State.rd_wr_ne _ _ _ _ hx.1]
  rfl

theorem findPage_krmquad (q : Quad) : findPage ((pKRMQUAD q.val + 0x104) / 0x10000) =
    some (⟨.krmquad, 0x34, 4, 0x102, 0x1B, true, false, 0x0, rowsKRMQUAD⟩, q.val) := by
  have hpg : (pKRMQUAD q.val + 0x104) / 0x10000 = 0x34 + q.val := by simp only [pKRMQUAD]; omega
  rw [hpg]
  fin_cases q <;> rfl

/-- What a write gives KQ_SPARE: the slot named, and ACTIVATE 0 again. -/
theorem writeWord_spare (old : BitVec 32) (v : Nat) :
    writeWord [⟨3, 1, .w1s, 0, none⟩, ⟨0, 3, .rw, 0, none⟩] old v = (⟨0x104, 0, 4⟩ : Fld).put old (v % 8) := by
  have hmask : coverMask [⟨3, 1, .w1s, 0, none⟩, ⟨0, 3, .rw, 0, none⟩] = 15 := by decide
  have hrw : [(⟨3, 1, .w1s, 0, none⟩ : FRow), ⟨0, 3, .rw, 0, none⟩].filter FRow.writable =
      [⟨3, 1, .w1s, 0, none⟩, ⟨0, 3, .rw, 0, none⟩] := by decide
  have hlt : v % 8 % 16 = v % 8 := by omega
  rw [writeWord, hmask, hrw]
  simp [FRow.write, FRow.val, Fld.put, Fld.mask, hlt]

/-- A write that KQ_SPARE takes changes its low bits and PAGE_SEQ alone. -/
theorem regWrite_quad {cls : Cls} {q : Quad} {v : Nat} {s : State} (h : s.takes cls (pKRMQUAD q.val + 0x104) v)
    (hv : v < 0x100000000) : (∀ x, x ≠ pKRMQUAD q.val + 0x104 → x ≠ pKRMQUAD q.val + 0x34 →
        (regWrite s cls (pKRMQUAD q.val + 0x104) 4 v).2.rd x = s.rd x) ∧
      ∀ f : Fld, f.off = 0x104 → 4 ≤ f.lo → f.inWord →
        (regWrite s cls (pKRMQUAD q.val + 0x104) 4 v).2.fget (pKRMQUAD q.val) f = s.fget (pKRMQUAD q.val) f := by
  have hoff : (pKRMQUAD q.val + 0x104) % 0x10000 = 0x104 := by simp only [pKRMQUAD]; omega
  obtain ⟨r, e, hr, hpair, hcls, hf⟩ : ∃ r e, findReg rowsKRMQUAD ((pKRMQUAD q.val + 0x104) % 0x10000) = some (r, e, 0) ∧
      r.pair = false ∧ r.percls = false ∧ r.fields = [⟨3, 1, .w1s, 0, none⟩, ⟨0, 3, .rw, 0, none⟩] := by
    rw [hoff]
    exact ⟨_, _, rfl, rfl, rfl, rfl⟩
  obtain ⟨-, hw⟩ := regWrite_word (findPage_krmquad q) hr hpair hcls (by simp) hv h
  have hbase : (pKRMQUAD q.val + 0x104) / 0x10000 * 0x10000 = pKRMQUAD q.val := by simp only [pKRMQUAD]; omega
  rw [hw, hbase, hf, writeWord_spare]
  refine ⟨fun x hx hseq => ?_, fun f hfo hlo hin => ?_⟩
  · rw [State.rd_seqUp _ _ _ hseq, State.rd_wr_ne _ _ _ _ hx]
    rfl
  · unfold State.fget
    rw [hfo, State.rd_seqUp _ _ _ (by simp only [PAGE_SEQ]; omega), State.rd_wr_same]
    exact Fld.get_put_apart _ _ _ _ hin (.inl hlo)

/-! ### FENCE and CORE_FENCED -/

theorem completes_fence {cls : Cls} {core : PhysCore} {s : State} (h : s.takes cls (pKRMCORE core.val + 0x100) 1)
    (hf : s.flag (pKRMCORE core.val) PAGE_STAT_FENCED = false) : completes (.fence cls core) s fun t =>
      t.flag (pKRMCORE core.val) PAGE_STAT_FENCED = true ∧ t.fget (pKRMCORE core.val) KCORE_FCAUSE_CAUSE = 1 ∧
      t.flag (pKRMCORE core.val) KCORE_STAT_SHUTTING = true ∧
      ((s.core core.val).activating = true → t.flag (quadPage core.val) KQ_SPARE_BUSY = false) ∧
      ∀ j, s.krm.job = some j → core.val ∈ j.phys → j.phase ≠ .ended → t.ended 2 2 := by
  have hkrm := krm_regWrite s cls (pKRMCORE core.val + 0x100) 1
  have hfu : (regWrite s cls (pKRMCORE core.val + 0x100) 4 1).2.flag (pKRMCORE core.val) PAGE_STAT_FENCED = false :=
    (congrArg (fun w => PAGE_STAT_FENCED.get w != 0) (rd_regWrite_core h (by decide) (by simp [PAGE_STAT_FENCED]))).trans hf
  refine completes_write rfl h ⟨State.flag_fenceCore (by simp only [pKRMCORE, pHST]; omega) ..,
    State.fcause_fenceCore hfu (by decide), State.shutting_fenceCore core.isLt hfu 1, fun hact => ?_, fun j hj hc hp => ?_⟩
  · refine State.busy_fenceCore core.isLt hfu 1 ?_
    unfold State.core
    rw [hkrm]
    exact hact
  · exact State.ended_fenceCore_fence hfu (by rw [hkrm, hj]) hc hp 1

theorem completes_coreFenced {core : PhysCore} (cause : FenceCause) {s : State} (hm : s.pins.mainPwrGood = true)
    (hf : s.flag (pKRMCORE core.val) PAGE_STAT_FENCED = false) : completes (.coreFenced core cause) s fun t =>
      t.flag (pKRMCORE core.val) PAGE_STAT_FENCED = true ∧ t.fget (pKRMCORE core.val) KCORE_FCAUSE_CAUSE = fenceCode cause ∧
      ∀ j, s.krm.job = some j → core.val ∈ j.phys → j.phase ≠ .ended → t.ended 2 2 := by
  have hexec : exec (.coreFenced core cause) s = .next (s.fenceCore core.val (fenceCode cause)) := by
    have he : exec (.coreFenced core cause) s = execCoreFenced core cause s := rfl
    rw [he, execCoreFenced, if_pos hm]
  exact ⟨_, hexec, State.flag_fenceCore (by simp only [pKRMCORE, pHST]; omega) ..,
    State.fcause_fenceCore hf (by cases cause <;> decide), fun j hj hc hp => State.ended_fenceCore_fence hf hj hc hp _⟩

/-! ### Starts of a core -/

theorem State.selftest_startCore {s : State} {c : Nat} (h : s.flag (pKRMCORE c) KCORE_STAT_SHUTTING = false) (r : StartReq) :
    ((s.startCore c r).core c).selftest = some r := by
  rw [State.startCore, if_neg (by rw [h]; decide)]
  exact congrArg Core1.selftest (State.core_modCore_same ..)

theorem State.startCore_of_shutting {s : State} {c : Nat} (h : s.flag (pKRMCORE c) KCORE_STAT_SHUTTING = true) (r : StartReq) :
    s.startCore c r = s.latchStart c r := if_pos h

theorem State.rd_startCore (s : State) (c : Nat) (r : StartReq) {x : Nat} (hx : x ≠ pKRMCORE c + 0x104) :
    (s.startCore c r).rd x = s.rd x := by
  unfold State.startCore
  split
  · exact State.rd_fset_ne _ _ KCORE_STAT_RESTART_PEND _ _ hx
  · rfl

/-! ### UNFENCE -/

section
variable {cls : Cls} {core : PhysCore} {s : State} (h : s.takes cls (pKRMCORE core.val + 0x100) 2)
include h

theorem fget_quad_regWrite_core (f : Fld) : (regWrite s cls (pKRMCORE core.val + 0x100) 4 2).2.fget (quadPage core.val) f =
    s.fget (quadPage core.val) f :=
  congrArg f.get (rd_regWrite_core h (by decide) (by simp only [quadPage, pKRMQUAD, pKRMCORE]; omega))

theorem fget_core_regWrite_core {f : Fld} (hf : f.off ≠ 0x100 ∧ f.off ≠ 0x34) :
    (regWrite s cls (pKRMCORE core.val + 0x100) 4 2).2.fget (pKRMCORE core.val) f = s.fget (pKRMCORE core.val) f :=
  congrArg f.get (rd_regWrite_core h (by decide) (by omega))

/-- While the quadrant has a spare, UNFENCE is refused (R161). -/
theorem completes_unfence_refused (hs : s.fget (quadPage core.val) KQ_SPARE_SPARE ≠ 0xF) :
    completes (.unfence cls core) s fun t => t.krm = s.krm ∧
      (s.fget (quadPage core.val) ERR_CODE_CODE = 0 → t.fget (quadPage core.val) ERR_CODE_CODE = 0x102) := by
  have hkrm := krm_regWrite s cls (pKRMCORE core.val + 0x100) 2
  have hq := fget_quad_regWrite_core h
  refine completes_write rfl h ?_
  generalize (regWrite s cls (pKRMCORE core.val + 0x100) 4 2).2 = u at hkrm hq ⊢
  have hact : unfenceAct cls core.val u = u.spareRefused cls core.val 0x100 := if_pos (by simpa [hq] using hs)
  rw [hact, State.spareRefused]
  refine ⟨?_, fun herr => ?_⟩
  · rw [State.latch_krm, State.latch_krm, hkrm]
  · have hword : ¬msixWord (quadPage core.val + ERR_CODE_CODE.off) := by
      simp only [msixWord, quadPage, pKRMQUAD, ERR_CODE_CODE]
      omega
    unfold State.fget
    rw [State.rd_latch_off _ _ _ _ _ _ (by simp only [quadPage, pKRMQUAD, pKRMGLOB, ERR_CODE_CODE]; omega) hword]
    exact State.latch_code _ _ _ _ _ ((hq _).trans herr) (by decide) hword

/-- UNFENCE of a fenced core starts its self-test, or is latched while the core powers down (R161, R162). -/
theorem completes_unfence (hf : s.flag (pKRMCORE core.val) PAGE_STAT_FENCED = true)
    (hs : s.fget (quadPage core.val) KQ_SPARE_SPARE = 0xF) : completes (.unfence cls core) s fun t =>
      (s.flag (pKRMCORE core.val) KCORE_STAT_SHUTTING = false → (t.core core.val).selftest = some .unfence) ∧
      (s.flag (pKRMCORE core.val) KCORE_STAT_SHUTTING = true → (t.core core.val).latched = some .unfence ∧
        t.flag (pKRMCORE core.val) KCORE_STAT_RESTART_PEND = true) ∧
      t.flag (pKRMCORE core.val) PAGE_STAT_FENCED = true := by
  have hq := fget_quad_regWrite_core h
  have hfu := (congrArg (· != 0) (fget_core_regWrite_core h (f := PAGE_STAT_FENCED) (by decide)) :).trans hf
  have hsu := (congrArg (· != 0) (fget_core_regWrite_core h (f := KCORE_STAT_SHUTTING) (by decide)) :)
  refine completes_write rfl h ?_
  generalize (regWrite s cls (pKRMCORE core.val + 0x100) 4 2).2 = u at hq hfu hsu ⊢
  have hact : unfenceAct cls core.val u = u.startCore core.val .unfence := by
    rw [unfenceAct, if_neg (by simp [hq, hs])]
    exact if_pos hfu
  have hsu' : u.flag (pKRMCORE core.val) KCORE_STAT_SHUTTING = s.flag (pKRMCORE core.val) KCORE_STAT_SHUTTING := hsu
  rw [hact]
  refine ⟨fun hshut => State.selftest_startCore (hsu'.trans hshut) _, fun hshut => ?_, ?_⟩
  · rw [State.startCore_of_shutting (hsu'.trans hshut)]
    exact ⟨congrArg Core1.latched (State.core_latchStart_same ..), State.flag_fset_same _ _ 1 rfl (by decide)⟩
  · exact (congrArg (fun w => PAGE_STAT_FENCED.get w != 0)
      (State.rd_startCore u core.val .unfence (by simp only [PAGE_STAT_FENCED]; omega))).trans hfu

end

/-! ### SELFTEST_DONE -/

section
variable {core : PhysCore} {s : State} (h : (s.core core.val).selftest = some .unfence)
include h

/-- A failed self-test leaves the core fenced, with its cause (R161). -/
theorem completes_selftestFailed : completes (.selftestDone core false) s fun t =>
    t.fget (pKRMCORE core.val) KCORE_FCAUSE_CAUSE = 5 ∧ (t.core core.val).selftest = none ∧
      sameRegs (· = pKRMCORE core.val + KCORE_FCAUSE_CAUSE.off) s t := by
  have hexec : exec (.selftestDone core false) s = .next ((s.modCore core.val fun k => { k with selftest := none }).fset
      (pKRMCORE core.val) KCORE_FCAUSE_CAUSE 5) := by
    have he : exec (.selftestDone core false) s = execSelftestDone core false s := rfl
    rw [he, execSelftestDone]
    exact if_pos h
  refine ⟨_, hexec, State.fget_fset_same _ _ KCORE_FCAUSE_CAUSE 5 (by decide), ?_, fun x hx => State.rd_wr_ne _ _ _ _ hx⟩
  exact congrArg Core1.selftest (State.core_modCore_same s core.val fun k => { k with selftest := none })

/-- An unfenced core that has passed its self-test holds nothing and is fenced no longer. -/
def State.cleared (s : State) (c : Nat) : State :=
  ((s.modCore c fun k => { k with selftest := none }).loseCore c).setStat (pKRMCORE c) PAGE_STAT_FENCED false

/-- It is its quadrant's spare. -/
def State.returned (s : State) (c : Nat) : State :=
  ((((s.cleared c).fset (pKRMCORE c) KCORE_FCAUSE_CAUSE 0).fset (pKRMCORE c) KCORE_STAT_SPARE 1).fset (pKRMCORE c)
    KCORE_STAT_PSTATE 0).hwSet (quadPage c) KQ_SPARE_SPARE (c % 9)

theorem exec_selftestPassed (hs : s.fget (quadPage core.val) KQ_SPARE_SPARE = 0xF) :
    exec (.selftestDone core true) s = .next (s.returned core.val) := by
  have he : exec (.selftestDone core true) s = execSelftestDone core true s := rfl
  rw [he, execSelftestDone]
  refine (if_pos h).trans (if_pos ?_)
  exact (Bool.true_and _).trans (decide_eq_true hs)

/-- A core that passes is its quadrant's spare, in K0 and in service (R161). -/
theorem completes_selftestPassed (hs : s.fget (quadPage core.val) KQ_SPARE_SPARE = 0xF) :
    completes (.selftestDone core true) s fun t => t.flag (pKRMCORE core.val) PAGE_STAT_FENCED = false ∧
      t.fget (quadPage core.val) KQ_SPARE_SPARE = core.val % 9 ∧ t.flag (pKRMCORE core.val) KCORE_STAT_SPARE = true ∧
      t.fget (pKRMCORE core.val) KCORE_STAT_PSTATE = 0 ∧ (t.core core.val).selftest = none := by
  have hquad (x o : Nat) (hx : x < 0x10000) : pKRMCORE core.val + x ≠ quadPage core.val + o := by
    simp only [pKRMCORE, quadPage, pKRMQUAD]
    omega
  have hlast (u : State) {f : Fld} (hf : f.off < 0x10000) : (u.hwSet (quadPage core.val) KQ_SPARE_SPARE (core.val % 9)).fget
      (pKRMCORE core.val) f = u.fget (pKRMCORE core.val) f :=
    congrArg f.get (State.rd_hwSet _ _ _ _ _ (hquad _ _ hf) (hquad _ _ hf))
  refine ⟨_, exec_selftestPassed h hs, ?_, ?_, ?_, ?_, ?_⟩
  · unfold State.returned State.flag
    rw [hlast _ (by decide), State.fget_fset_ne _ _ _ _ _ _ (by simp [PAGE_STAT_FENCED, KCORE_STAT_PSTATE]),
      State.fget_fset_ne _ _ _ _ _ _ (by simp [PAGE_STAT_FENCED, KCORE_STAT_SPARE]),
      State.fget_fset_ne _ _ _ _ _ _ (by simp [PAGE_STAT_FENCED, KCORE_FCAUSE_CAUSE])]
    exact State.flag_setStat_same _ _ false rfl (by decide) (by decide)
      (by simp only [msixWord, pKRMCORE, PAGE_STAT_FENCED]; omega)
  · exact State.fget_hwSet_same _ _ (by decide) (by simp only [KQ_SPARE_SPARE]; omega) (by decide)
  · unfold State.returned State.flag
    rw [hlast _ (by decide), State.fget_fset_apart _ _ KCORE_STAT_PSTATE KCORE_STAT_SPARE _ rfl (by decide) (by decide)]
    exact State.flag_fset_same _ _ (f := KCORE_STAT_SPARE) 1 rfl (by decide)
  · unfold State.returned
    rw [hlast _ (by decide), State.fget_fset_same _ _ _ _ (by decide)]
    rfl
  · unfold State.returned State.cleared State.core
    rw [State.hwSet_krm, State.fset_krm, State.fset_krm, State.fset_krm, State.setStat_krm]
    exact congrArg Core1.selftest ((State.core_loseCore_same ..).trans (congrArg Core1.lost (State.core_modCore_same ..)))

end

end Sys2Proof.Machine
end

section
/-! SUPPORT. Spares and the power-down of a core (R159, R162, R191). -/

namespace Sys2Proof.Machine

/-! ### SPARE_ACTIVATE -/

/-- Activation into an empty slot starts the spare's self-test (R159). -/
theorem completes_spareActivate {cls : Cls} {quad : Quad} {slot : Fin 8} {s : State} {c : Nat}
    (h : s.takes cls (pKRMQUAD quad.val + 0x104) (8 + slot.val)) (hslot : s.fget (pKRMQUAD quad.val) (mapSlot slot.val) = 0xF)
    (hsp : s.fget (pKRMQUAD quad.val) KQ_SPARE_SPARE < 9) (hb : s.flag (pKRMQUAD quad.val) KQ_SPARE_BUSY = false)
    (hc : c = 9 * quad.val + s.fget (pKRMQUAD quad.val) KQ_SPARE_SPARE)
    (hshut : s.flag (pKRMCORE c) KCORE_STAT_SHUTTING = false) : completes (.spareActivate cls quad slot) s fun t =>
      t.flag (pKRMQUAD quad.val) KQ_SPARE_BUSY = true ∧ (t.core c).selftest = some (.spare slot.val) := by
  obtain ⟨hrd, hfield⟩ := regWrite_quad h (by omega)
  refine completes_write rfl h ?_
  generalize (regWrite s cls (pKRMQUAD quad.val + 0x104) 4 (8 + slot.val)).2 = u at hrd hfield ⊢
  have hne (o : Nat) : pKRMCORE c + 0x104 ≠ pKRMQUAD quad.val + o := by
    simp only [pKRMCORE, pKRMQUAD]
    omega
  have hmap : u.fget (pKRMQUAD quad.val) (mapSlot slot.val) = 0xF :=
    (congrArg (mapSlot slot.val).get (hrd _ (by simp [mapSlot, KQ_MAP_SLOT0]) (by simp [mapSlot, KQ_MAP_SLOT0]))).trans hslot
  have hspare := hfield KQ_SPARE_SPARE rfl (by decide) (by decide)
  have hbusy : u.flag (pKRMQUAD quad.val) KQ_SPARE_BUSY = false :=
    (congrArg (· != 0) (hfield KQ_SPARE_BUSY rfl (by decide) (by decide))).trans hb
  have hact : activateAct cls quad.val slot.val u =
      (u.fset (pKRMQUAD quad.val) KQ_SPARE_BUSY 1).startCore c (.spare slot.val) := by
    unfold activateAct
    rw [if_neg (by rw [hmap, hbusy, hspare]; simp; omega), hspare, ← hc]
  have hidle : (u.fset (pKRMQUAD quad.val) KQ_SPARE_BUSY 1).flag (pKRMCORE c) KCORE_STAT_SHUTTING = false := by
    unfold State.flag
    rw [State.fget_fset_ne _ _ _ _ _ _ (hne _)]
    exact (congrArg (fun w => KCORE_STAT_SHUTTING.get w != 0) (hrd _ (hne _) (hne _))).trans hshut
  rw [hact]
  refine ⟨?_, State.selftest_startCore hidle _⟩
  exact (congrArg (fun w => KQ_SPARE_BUSY.get w != 0) (State.rd_startCore _ _ _ (hne _).symm)).trans
    (State.flag_fset_same _ _ (f := KQ_SPARE_BUSY) 1 rfl (by decide))

/-! ### SPARE_DONE -/

/-- The spare, having lost what it held, is the quadrant's spare no longer but holds slot `k`. -/
def State.slotted (s : State) (q c k : Nat) : State :=
  ((((s.fset (pKRMQUAD q) KQ_SPARE_BUSY 0).loseCore c).modCore c fun k => { k with selftest := none }).hwSet (pKRMQUAD q)
    KQ_SPARE_SPARE 0xF).hwSet (pKRMQUAD q) (mapSlot k) (c % 9)

/-- Its own page shows it in K0 under its logical index. -/
def State.named (s : State) (q c k : Nat) : State :=
  ((s.fset (pKRMCORE c) KCORE_STAT_SPARE 0).fset (pKRMCORE c) KCORE_STAT_LOGICAL (8 * q + k)).fset (pKRMCORE c)
    KCORE_STAT_PSTATE 0

/-- It counts among the active cores. -/
def State.countedActive (s : State) (c : Nat) : State := ((s.setActive c true).raise pKRMGLOB 7).showPstate

section
variable {quad : Quad} {c k : Nat} {s : State} (hc : c = 9 * quad.val + s.fget (pKRMQUAD quad.val) KQ_SPARE_SPARE)
  (ht : (s.core c).selftest = some (.spare k))
include hc ht

theorem exec_spareDone_passed : exec (.spareDone quad true) s =
    .next (((s.slotted quad.val c k).named quad.val c k).countedActive c) := by
  have he : exec (.spareDone quad true) s = execSpareDone quad true s := rfl
  rw [he, execSpareDone]
  dsimp only
  rw [← hc, ht]
  rfl

theorem exec_spareDone_failed : exec (.spareDone quad false) s =
    .next ((s.fset (pKRMQUAD quad.val) KQ_SPARE_BUSY 0).fenceCore c 5) := by
  have he : exec (.spareDone quad false) s = execSpareDone quad false s := rfl
  rw [he, execSpareDone]
  dsimp only
  rw [← hc, ht]
  rfl

end

/-- A word of a core's or a quadrant's page. -/
def coreWord (x : Nat) : Prop := 0x100000 ≤ x ∧ x < pKRMGLOB

theorem stands_countedActive (s : State) (c : Nat) : stands coreWord s (s.countedActive c) := by
  have hglob (o : Nat) : ¬coreWord (pKRMGLOB + o) := by
    unfold coreWord
    omega
  have hgen : ¬coreWord (pGEN + 0x100) ∧ ¬coreWord (pGEN + 0x34) := by
    unfold coreWord pGEN
    omega
  exact ((stands_setActive_of (hglob _) (hglob _) (hglob _) hgen.1 hgen.2 s c true).trans
    (stands_raise _ _ _ (hglob _) fun x hx => by unfold coreWord pKRMGLOB at hx; unfold msixWord; omega)).trans
      (stands_fset _ _ KG_STAT_PSTATE _ (hglob _))

theorem coreWord_core {c o : Nat} (hc : c < 36) (ho : o < 0x10000) : coreWord (pKRMCORE c + o) := by
  unfold coreWord pKRMCORE pKRMGLOB
  omega

theorem coreWord_quad (q : Quad) {o : Nat} (ho : o < 0x10000) : coreWord (pKRMQUAD q.val + o) := by
  unfold coreWord pKRMQUAD pKRMGLOB
  omega

/-- A field that the hardware sets takes the value's low bits. -/
theorem State.fget_hwSet_mod (s : State) {b : Nat} {f : Fld} (x : Nat) (hw : f.inWord) (hseq : f.off ≠ PAGE_SEQ.off) :
    (s.hwSet b f x).fget b f = x % 2 ^ f.w := by
  unfold State.hwSet
  split
  · rename_i h
    rw [h, ← h, State.fget, Fld.get, Nat.mod_mod]
  · rw [State.seqUp, State.fget_fset_ne _ _ _ _ _ _ (by omega), State.fget_fset_same _ _ _ _ hw]

theorem State.fget_hwSet_apart (s : State) {b : Nat} {f g : Fld} (x : Nat) (ho : g.off = f.off) (hw : g.inWord)
    (ha : Fld.apart f g) (hseq : g.off ≠ PAGE_SEQ.off) : (s.hwSet b f x).fget b g = s.fget b g := by
  unfold State.hwSet
  split
  · rfl
  · rw [State.seqUp, State.fget_fset_ne _ _ _ _ _ _ (by omega), State.fget_fset_apart _ _ _ _ _ ho hw ha]

theorem State.fget_hwSet_ne (s : State) {b c : Nat} {f g : Fld} (x : Nat) (h : c + g.off ≠ b + f.off)
    (hseq : c + g.off ≠ b + PAGE_SEQ.off) : (s.hwSet b f x).fget c g = s.fget c g :=
  congrArg g.get (State.rd_hwSet _ _ _ _ _ h hseq)

/-- What a spare's activation shows on its quadrant's page (R159). -/
theorem State.slotted_spec (s : State) (q c : Nat) {k : Nat} (hk : k < 8) :
    (s.slotted q c k).fget (pKRMQUAD q) (mapSlot k) = c % 9 ∧ (s.slotted q c k).fget (pKRMQUAD q) KQ_SPARE_SPARE = 0xF ∧
      (s.slotted q c k).flag (pKRMQUAD q) KQ_SPARE_BUSY = false := by
  have hmap : (mapSlot k).inWord ∧ (mapSlot k).off = 0x100 ∧ (mapSlot k).w = 4 :=
    ⟨show 4 * k + 4 ≤ 32 by omega, rfl, rfl⟩
  have hoff {f : Fld} (hf : f.off = 0x104) : pKRMQUAD q + f.off ≠ pKRMQUAD q + (mapSlot k).off ∧
      pKRMQUAD q + f.off ≠ pKRMQUAD q + PAGE_SEQ.off := by
    rw [hf, hmap.2.1]
    simp [PAGE_SEQ]
  refine ⟨?_, ?_, ?_⟩
  · exact State.fget_hwSet_same _ _ hmap.1 (by rw [hmap.2.2]; omega) (by rw [hmap.2.1]; decide)
  · unfold State.slotted
    rw [State.fget_hwSet_ne _ _ (hoff rfl).1 (hoff rfl).2]
    exact State.fget_hwSet_same _ _ (by decide) (by decide) (by decide)
  · unfold State.slotted State.flag
    rw [State.fget_hwSet_ne _ _ (hoff rfl).1 (hoff rfl).2,
      State.fget_hwSet_apart _ _ (f := KQ_SPARE_SPARE) (g := KQ_SPARE_BUSY) rfl (by decide) (by decide) (by decide)]
    exact State.flag_fset_same _ _ (f := KQ_SPARE_BUSY) 0 rfl (by decide)

/-- A spare takes its slot without a word of the pages before the cores'. -/
theorem State.rd_named_slotted (s : State) (q c k : Nat) {x : Nat} (hx : x < 0x100000) :
    ((s.slotted q c k).named q c k).rd x = s.rd x := by
  have hq (o : Nat) : x ≠ pKRMQUAD q + o := by
    unfold pKRMQUAD
    omega
  have hc (o : Nat) : x ≠ pKRMCORE c + o := by
    unfold pKRMCORE
    omega
  unfold State.named State.slotted
  rw [State.rd_fset_ne _ _ _ _ _ (hc _), State.rd_fset_ne _ _ _ _ _ (hc _), State.rd_fset_ne _ _ _ _ _ (hc _),
    State.rd_hwSet _ _ _ _ _ (hq _) (hq _), State.rd_hwSet _ _ _ _ _ (hq _) (hq _)]
  exact State.rd_fset_ne _ _ KQ_SPARE_BUSY _ _ (hq _)

/-- One more core counts (R159). -/
theorem State.actCores_countedActive (s : State) (c : Nat) :
    (s.countedActive c).fget pGEN GEN_FAMILY_ACT_CORES = (s.fget pGEN GEN_FAMILY_ACT_CORES + 1) % 64 := by
  unfold State.countedActive State.showPstate State.setActive
  rw [State.fget_fset_ne _ _ _ _ _ _ (by decide), State.fget, State.rd_raise _ _ _ _ (by decide) (by unfold msixWord; decide)]
  dsimp only
  rw [State.rd_seqUp _ _ _ (by decide)]
  exact State.fget_hwSet_mod _ _ (by decide) (by decide)

/-- A spare that passes holds the slot, in K0, and counts (R159). -/
theorem completes_spareDone_passed {quad : Quad} {c k : Nat} {s : State}
    (hc : c = 9 * quad.val + s.fget (pKRMQUAD quad.val) KQ_SPARE_SPARE) (hsp : s.fget (pKRMQUAD quad.val) KQ_SPARE_SPARE < 9)
    (hk : k < 8) (ht : (s.core c).selftest = some (.spare k)) : completes (.spareDone quad true) s fun t =>
      t.fget (pKRMQUAD quad.val) (mapSlot k) = c % 9 ∧ t.fget (pKRMQUAD quad.val) KQ_SPARE_SPARE = 0xF ∧
      t.flag (pKRMQUAD quad.val) KQ_SPARE_BUSY = false ∧ t.fget (pKRMCORE c) KCORE_STAT_LOGICAL = 8 * quad.val + k ∧
      t.fget (pKRMCORE c) KCORE_STAT_PSTATE = 0 ∧
      t.fget pGEN GEN_FAMILY_ACT_CORES = (s.fget pGEN GEN_FAMILY_ACT_CORES + 1) % 64 := by
  have hc36 : c < 36 := by omega
  have hq4 : quad.val < 4 := quad.isLt
  have hcount := stands_countedActive ((s.slotted quad.val c k).named quad.val c k) c
  have hquad {f : Fld} (hf : f.off < 0x10000) : (((s.slotted quad.val c k).named quad.val c k).countedActive c).fget
      (pKRMQUAD quad.val) f = (s.slotted quad.val c k).fget (pKRMQUAD quad.val) f := by
    have hne (o : Nat) (ho : o < 0x10000) : pKRMQUAD quad.val + f.off ≠ pKRMCORE c + o := by
      unfold pKRMQUAD pKRMCORE
      omega
    rw [hcount.fget (coreWord_quad quad hf)]
    unfold State.named
    rw [State.fget_fset_ne _ _ _ _ _ _ (hne _ (by decide)), State.fget_fset_ne _ _ _ _ _ _ (hne _ (by decide)),
      State.fget_fset_ne _ _ _ _ _ _ (hne _ (by decide))]
  obtain ⟨hmap, hspare, hbusy⟩ := s.slotted_spec quad.val c hk
  refine ⟨_, exec_spareDone_passed hc ht, ?_, ?_, ?_, ?_, ?_, ?_⟩
  · exact (hquad (f := mapSlot k) (by simp [mapSlot, KQ_MAP_SLOT0])).trans hmap
  · rw [hquad (by decide), hspare]
  · exact (congrArg (· != 0) (hquad (by decide))).trans hbusy
  · rw [hcount.fget (coreWord_core hc36 (by decide)), State.named,
      State.fget_fset_apart _ _ KCORE_STAT_PSTATE KCORE_STAT_LOGICAL _ rfl (by decide) (by decide),
      State.fget_fset_same _ _ _ _ (by decide)]
    exact Nat.mod_eq_of_lt (show 8 * quad.val + k < 64 by omega)
  · rw [hcount.fget (coreWord_core hc36 (by decide)), State.named, State.fget_fset_same _ _ _ _ (by decide)]
    rfl
  · rw [State.actCores_countedActive, State.fget, State.rd_named_slotted _ _ _ _ (by decide)]
    rfl

/-- A spare that fails is fenced with cause SELFTEST (R159). -/
theorem completes_spareDone_failed {quad : Quad} {c k : Nat} {s : State}
    (hc : c = 9 * quad.val + s.fget (pKRMQUAD quad.val) KQ_SPARE_SPARE) (hsp : s.fget (pKRMQUAD quad.val) KQ_SPARE_SPARE < 9)
    (ht : (s.core c).selftest = some (.spare k)) (hf : s.flag (pKRMCORE c) PAGE_STAT_FENCED = false) :
    completes (.spareDone quad false) s fun t =>
      t.flag (pKRMCORE c) PAGE_STAT_FENCED = true ∧ t.fget (pKRMCORE c) KCORE_FCAUSE_CAUSE = 5 := by
  have hq4 : quad.val < 4 := quad.isLt
  have hfq : (s.fset (pKRMQUAD quad.val) KQ_SPARE_BUSY 0).flag (pKRMCORE c) PAGE_STAT_FENCED = false :=
    (congrArg (· != 0) (State.fget_fset_ne _ _ _ _ _ _
      (by simp only [pKRMCORE, pKRMQUAD, PAGE_STAT_FENCED, KQ_SPARE_BUSY]; omega))).trans hf
  exact ⟨_, exec_spareDone_failed hc ht, State.flag_fenceCore (by simp only [pKRMCORE, pHST]; omega) ..,
    State.fcause_fenceCore hfq (by decide)⟩

/-! ### CORE_POWER_DOWN_DONE -/

/-- A core that has powered down: it has lost what it held, and is in K3. -/
def State.poweredDown (s : State) (c : Nat) : State :=
  ((s.loseCore c).fset (pKRMCORE c) KCORE_STAT_SHUTTING 0).fset (pKRMCORE c) KCORE_STAT_PSTATE 3

/-- A latched start request is taken up. -/
def State.takeLatched (s : State) (c : Nat) (r : StartReq) : State :=
  ((s.modCore c fun k => { k with latched := none }).fset (pKRMCORE c) KCORE_STAT_RESTART_PEND 0).startCore c r

theorem exec_corePowerDownDone {core : PhysCore} {s : State} (h : s.flag (pKRMCORE core.val) KCORE_STAT_SHUTTING = true) :
    exec (.corePowerDownDone core) s = .next (match (s.core core.val).latched with
      | some r => (s.poweredDown core.val).takeLatched core.val r
      | none => s.poweredDown core.val) := by
  have he : exec (.corePowerDownDone core) s = execCorePowerDownDone core s := rfl
  rw [he, execCorePowerDownDone, if_neg (by rw [h]; decide)]
  dsimp only
  generalize (s.core core.val).latched = l
  cases l <;> rfl

theorem State.core_poweredDown (s : State) (c : Nat) : (s.poweredDown c).core c = (s.core c).lost := State.core_loseCore_same s c

theorem State.shutting_poweredDown (s : State) (c : Nat) :
    (s.poweredDown c).flag (pKRMCORE c) KCORE_STAT_SHUTTING = false := by
  unfold State.poweredDown State.flag
  rw [State.fget_fset_apart _ _ KCORE_STAT_PSTATE KCORE_STAT_SHUTTING _ rfl (by decide) (by decide)]
  exact State.flag_fset_same _ _ (f := KCORE_STAT_SHUTTING) 0 rfl (by decide)

theorem State.pstate_poweredDown (s : State) (c : Nat) : (s.poweredDown c).fget (pKRMCORE c) KCORE_STAT_PSTATE = 3 :=
  State.fget_fset_same _ _ KCORE_STAT_PSTATE 3 (by decide)

/-- The SRAM of a core that has lost what it held reads as zeros (R191). -/
theorem State.byteAt_loseCore (s : State) {c x : Nat} (hlo : sramBase + c * sramSize ≤ x)
    (hhi : x < sramBase + (c + 1) * sramSize) : (s.loseCore c).byteAt x = 0 := by
  have hdrop := Tab.find?_filter s.mem
    (fun y => !(decide (sramBase + c * sramSize ≤ y) && decide (y < sramBase + c * sramSize + sramSize))) x
  rw [if_neg (by simp [hlo]; rw [Nat.succ_mul] at hhi; omega)] at hdrop
  unfold State.byteAt memByte Tab.get
  exact congrArg (·.getD 0) hdrop

/-- A latched request starts the core, and changes beyond it only RESTART_PEND. -/
theorem State.takeLatched_eq {s : State} {c : Nat} (h : s.flag (pKRMCORE c) KCORE_STAT_SHUTTING = false) (r : StartReq) :
    s.takeLatched c r = ((s.modCore c fun k => { k with latched := none }).fset (pKRMCORE c) KCORE_STAT_RESTART_PEND 0).modCore c
      fun k => { k with selftest := some r } := by
  refine if_neg ?_
  unfold State.flag
  rw [State.fget_fset_apart _ _ KCORE_STAT_RESTART_PEND KCORE_STAT_SHUTTING _ rfl (by decide) (by decide)]
  have hs : (s.modCore c fun k => { k with latched := none }).flag (pKRMCORE c) KCORE_STAT_SHUTTING = false := h
  unfold State.flag at hs
  rw [hs]
  decide

theorem State.core_takeLatched (s : State) {c : Nat} (h : s.flag (pKRMCORE c) KCORE_STAT_SHUTTING = false) (r : StartReq) :
    (s.takeLatched c r).core c = { s.core c with latched := none, selftest := some r } := by
  have hlatch : ((s.modCore c fun k => { k with latched := none }).fset (pKRMCORE c) KCORE_STAT_RESTART_PEND 0).core c =
      { s.core c with latched := none } := by
    unfold State.core
    rw [State.fset_krm]
    exact State.core_modCore_same ..
  rw [State.takeLatched_eq h, State.core_modCore_same, hlatch]

theorem State.fget_takeLatched {s : State} {c : Nat} (h : s.flag (pKRMCORE c) KCORE_STAT_SHUTTING = false) (r : StartReq)
    {f : Fld} (ho : f.off = 0x104) (hw : f.inWord) (ha : Fld.apart KCORE_STAT_RESTART_PEND f) :
    (s.takeLatched c r).fget (pKRMCORE c) f = s.fget (pKRMCORE c) f := by
  have hregs : (s.takeLatched c r).regs = (s.fset (pKRMCORE c) KCORE_STAT_RESTART_PEND 0).regs := by
    rw [State.takeLatched_eq h]
    rfl
  rw [State.fget_eq _ _ _ _ hregs]
  exact State.fget_fset_apart _ _ KCORE_STAT_RESTART_PEND f 0 ho hw ha

theorem completes_corePowerDownDone {core : PhysCore} {s : State}
    (h : s.flag (pKRMCORE core.val) KCORE_STAT_SHUTTING = true) : completes (.corePowerDownDone core) s fun t =>
      t.flag (pKRMCORE core.val) KCORE_STAT_SHUTTING = false ∧
      t.fget (pKRMCORE core.val) KCORE_STAT_PSTATE = 3 ∧ (t.core core.val).vregs = [] ∧ (t.core core.val).accs = [] ∧
      (t.core core.val).latched = none ∧
      (∀ r, (s.core core.val).latched = some r → (t.core core.val).selftest = some r) ∧
      ∀ x, sramBase + core.val * sramSize ≤ x → x < sramBase + (core.val + 1) * sramSize → t.byteAt x = 0 := by
  have hexec := exec_corePowerDownDone h
  have hcore := s.core_poweredDown core.val
  have hshut := s.shutting_poweredDown core.val
  have hps := s.pstate_poweredDown core.val
  cases hl : (s.core core.val).latched with
  | none =>
    rw [hl] at hexec
    refine ⟨s.poweredDown core.val, hexec, hshut, hps, ?_, ?_, ?_, fun r hr => ?_, fun x => State.byteAt_loseCore s⟩
    · rw [hcore]
      rfl
    · rw [hcore]
      rfl
    · rw [hcore]
      exact hl
    · cases hr
  | some r =>
    rw [hl] at hexec
    have hpend {f : Fld} := State.fget_takeLatched hshut r (f := f)
    have hc := (s.poweredDown core.val).core_takeLatched hshut r
    rw [hcore] at hc
    refine ⟨(s.poweredDown core.val).takeLatched core.val r, hexec, ?_, ?_, ?_, ?_, ?_, fun r' hr => ?_, fun x hlo hhi => ?_⟩
    · exact (congrArg (· != 0) (hpend rfl (by decide) (by decide))).trans hshut
    · exact (hpend rfl (by decide) (by decide)).trans hps
    · rw [hc]
      rfl
    · rw [hc]
      rfl
    · rw [hc]
    · rw [hc]
      exact hr
    · rw [State.takeLatched_eq hshut r]
      exact State.byteAt_loseCore s hlo hhi

/-- Settles O24: a fence by its steps, UNFENCE and the self-tests by what each starts, a spare by the slot it takes, and the
power-down by what is lost. -/
theorem fencesAndSpares : Obligations.FencesAndSpares := by
  unfold Obligations.FencesAndSpares
  refine ⟨fun cls core s => completes_fence, fun core cause s => completes_coreFenced cause,
    fun cls core s h => ⟨completes_unfence_refused h, completes_unfence h⟩,
    fun core s h => ⟨completes_selftestPassed h, completes_selftestFailed h⟩,
    fun cls quad slot s h hslot hsp hb hshut => completes_spareActivate h hslot hsp hb rfl hshut,
    fun quad c k s hc hsp hk ht => ⟨completes_spareDone_passed hc hsp hk ht, completes_spareDone_failed hc hsp ht⟩,
    fun core s => completes_corePowerDownDone⟩

end Sys2Proof.Machine
end

section
/-! SUPPORT. Submission, taking and loading of a job (R144, R145, R146, R148). -/

namespace Sys2Proof.Machine

/-! ### SUBMIT -/

/-- A write of KG_SUBMIT that the page takes changes that register and PAGE_SEQ alone. -/
theorem regWrite_submit {cls : Cls} {s : State} (h : s.takes cls (pKRMGLOB + 0x13C) 1) :
    (regWrite s cls (pKRMGLOB + 0x13C) 4 1).2.copies = s.copies ∧
      ∀ x, x ≠ pKRMGLOB + 0x13C → x ≠ pKRMGLOB + 0x34 → (regWrite s cls (pKRMGLOB + 0x13C) 4 1).2.rd x = s.rd x := by
  obtain ⟨p, i, r, e, hp, hr, hk, hpair, hcls⟩ : ∃ p i r e, findPage ((pKRMGLOB + 0x13C) / 0x10000) = some (p, i) ∧
      findReg p.regs ((pKRMGLOB + 0x13C) % 0x10000) = some (r, e, 0) ∧ p.kind = .krmglob ∧ r.pair = false ∧
      r.percls = false := ⟨_, _, _, _, rfl, rfl, rfl, rfl, rfl⟩
  obtain ⟨-, hw⟩ := regWrite_word hp hr hpair hcls (by rw [hk]; decide) (by decide) h
  have hbase : (pKRMGLOB + 0x13C) / 0x10000 * 0x10000 = pKRMGLOB := rfl
  rw [hw, hbase]
  refine ⟨rfl, fun x hx hseq => ?_⟩
  rw [State.rd_seqUp _ _ _ hseq, State.rd_wr_ne _ _ _ _ hx]
  rfl

/-- The entry that a class's submission values make (R144). -/
def State.subEntry (s : State) (cls : Cls) : JobSub where
  addr := s.subPair cls KG_SUB_ADDR
  tick := BitVec.ofNat 64 (s.subPair cls KG_SUB_TICK)
  nbase := s.subPair cls KG_SUB_NBASE
  nsize := s.subPair cls KG_SUB_NSIZE
  bbase := s.subPair cls KG_SUB_BBASE
  bsize := s.subPair cls KG_SUB_BSIZE
  jobId := Tab.get s.copies (clsKey cls (pKRMGLOB + KG_SUB_ID.off)) 0

theorem State.subEntry_congr {s t : State} (h : t.copies = s.copies) (cls : Cls) : t.subEntry cls = s.subEntry cls := by
  unfold State.subEntry State.subPair
  rw [h]

theorem submitAct_of_room {s : State} (h : s.krm.hostQ.length < 16) (cls : Cls) :
    submitAct cls s = ({ s with krm.hostQ := s.krm.hostQ ++ [s.subEntry cls] } : State).showQueues := if_neg h.not_ge

theorem State.hqDepth_showQueues {s : State} (h : s.krm.hostQ.length ≤ 16) :
    s.showQueues.fget pKRMGLOB KG_STAT_HQ_DEPTH = s.krm.hostQ.length := by
  unfold State.showQueues
  rw [State.fget_fset_apart _ _ KG_STAT_WQ_DEPTH KG_STAT_HQ_DEPTH _ rfl (by decide) (by decide),
    State.fget_fset_same _ _ _ _ (by decide)]
  exact Nat.mod_eq_of_lt (show s.krm.hostQ.length < 32 by omega)

theorem State.krm_showQueues (s : State) : s.showQueues.krm = s.krm := by
  unfold State.showQueues
  rw [State.fset_krm, State.fset_krm]

section
variable {cls : Cls} {s : State} (h : s.takes cls (pKRMGLOB + 0x13C) 1)
include h

theorem completes_submit (hroom : s.krm.hostQ.length < 16) : completes (.submit cls) s fun t =>
    t.krm.hostQ = s.krm.hostQ ++ [s.subEntry cls] ∧ t.krm.witQ = s.krm.witQ ∧ t.krm.job = s.krm.job ∧
      t.fget pKRMGLOB KG_STAT_HQ_DEPTH = s.krm.hostQ.length + 1 ∧ sameBytes s t := by
  have hbehind := State.behind_regWrite s cls (pKRMGLOB + 0x13C) 4 1
  have hkrm := krm_regWrite s cls (pKRMGLOB + 0x13C) 1
  have hcopies := (regWrite_submit h).1
  refine completes_write rfl h ?_
  generalize (regWrite s cls (pKRMGLOB + 0x13C) 4 1).2 = u at hbehind hkrm hcopies ⊢
  rw [submitAct_of_room (by rwa [hkrm]), State.subEntry_congr hcopies]
  refine ⟨?_, ?_, ?_, ?_, sameBytes_trans (sameBytes_of_behind hbehind) (sameBytes_of_eq rfl rfl rfl)⟩
  · rw [State.krm_showQueues, hkrm]
  · rw [State.krm_showQueues, hkrm]
  · rw [State.krm_showQueues, hkrm]
  · have hlen : (u.krm.hostQ ++ [s.subEntry cls]).length = s.krm.hostQ.length + 1 := by rw [hkrm, List.length_append]; rfl
    rw [State.hqDepth_showQueues]
    · exact hlen
    · exact hlen.trans_le hroom

theorem completes_submit_full (hfull : 16 ≤ s.krm.hostQ.length) : completes (.submit cls) s fun t => t.krm = s.krm ∧
    (s.fget pKRMGLOB ERR_CODE_CODE = 0 → t.fget pKRMGLOB ERR_CODE_CODE = 0x101) := by
  have hkrm := krm_regWrite s cls (pKRMGLOB + 0x13C) 1
  have hrd := (regWrite_submit h).2
  refine completes_write rfl h ?_
  generalize (regWrite s cls (pKRMGLOB + 0x13C) 4 1).2 = u at hkrm hrd ⊢
  have hact : submitAct cls u = u.latch pKRMGLOB 0x0101 (clsCode cls) 0x13C := if_pos (by rwa [hkrm])
  rw [hact, State.latch_krm]
  refine ⟨hkrm, fun herr => State.latch_code _ _ _ _ _ ?_ (by decide) (by unfold msixWord; decide)⟩
  exact (congrArg ERR_CODE_CODE.get (hrd _ (by decide) (by decide))).trans herr

end

/-! ### JOB_LOAD -/

/-- The job that Kermes takes, before its container is checked. -/
def State.taken (s : State) (e : JobSub) : Job := { sub := e, digest := e.witness || s.flag pDGT DGT_CTRL_HOST_DIGEST }

/-- A job whose container is refused with the check `r` (R146). -/
def State.refused (u : State) (e : JobSub) (r : Nat × Nat × Nat) : State :=
  let s := if r.1 = 5 then u.bite else u
  { s with krm.job := some { u.taken e with
    phase := .ended, status := 1, code := r.1, shortfall := r.2.1, refuseMask := r.2.2, endTick := s.tick } }

/-- A job whose container is taken, with what its header says (R145). -/
def State.admitted (s : State) (e : JobSub) : State :=
  let c := readCont s e
  { s with krm.job := some { s.taken e with
    parts := c.parts, phys := c.parts.map fun l => c.phys s l
    flags := BitVec.ofNat 8 (s.fabLe (e.addr + 0x19) 1), bound := s.fabLe (e.addr + 0x20) 8
    maxContrib := c.foot s 0x20 4
    redTab := tabOf 0 ((List.range (c.entries 12 0xFFFF)).map fun i => (i, BitVec.ofNat 64 (c.entry s 12 0xFFFF i)))
    tensors := c.tensors s } }.fset pKRMGLOB KG_STAT_LOADING 1

section
variable {e : JobSub} {r u s : State} (hj : s.krm.job = none) (hq : s.flag pKRMGLOB KG_CTRL_QHOLD = false)
  (hl : s.hr.lost = false) (hc : s.cringFull = false) (hm : s.modeBits = s.krm.mode) (hp : s.pins.mainPwrGood = true)
  (hn : s.takeNext = some (e, r)) (hu : u = r.showQueues.noteAccess e.addr (readCont r.showQueues e).total)
include hj hq hl hc hm hp hn hu

theorem exec_jobLoad : exec .jobLoad s = .next (if (loadCheck u e u.jrnFree).1 != 0 then u.refused e (loadCheck u e u.jrnFree)
    else u.admitted e) := by
  have he : exec .jobLoad s = execJobLoad s := rfl
  rw [he, execJobLoad, if_neg (by simp [hj, hq, hl, hc, hm, hp]), hn]
  dsimp only
  rw [← hu, apply_ite Host.Outcome.next]
  rfl

/-- The entry taken is loading, or refused with the code of the check; the queues are without it (R145, R146). -/
theorem completes_jobLoad : completes .jobLoad s fun t => ∃ j, t.krm.job = some j ∧ j.sub = e ∧
      t.krm.hostQ = r.krm.hostQ ∧ t.krm.witQ = r.krm.witQ ∧
      ((loadCheck u e u.jrnFree).1 = 0 → j.phase = .loading ∧ t.flag pKRMGLOB KG_STAT_LOADING = true ∧
        j.parts = (readCont u e).parts) ∧
      ((loadCheck u e u.jrnFree).1 ≠ 0 → j.phase = .ended ∧ j.status = 1 ∧ j.code = (loadCheck u e u.jrnFree).1) := by
  have hexec := exec_jobLoad hj hq hl hc hm hp hn hu
  have hkrm : u.krm = { r.krm with cores := u.krm.cores } := by
    rw [hu]
    have h := State.krm_of_aside (State.aside_noteAccess r.showQueues e.addr (readCont r.showQueues e).total)
    rwa [State.krm_showQueues] at h
  generalize loadCheck u e u.jrnFree = code at hexec ⊢
  by_cases hcode : code.1 = 0
  · rw [if_neg (by simp [hcode])] at hexec
    refine ⟨_, hexec, _, rfl, rfl, ?_, ?_, fun _ => ⟨rfl, ?_, rfl⟩, fun h => absurd hcode h⟩
    · exact (congrArg Krm.hostQ hkrm :)
    · exact (congrArg Krm.witQ hkrm :)
    · exact State.flag_fset_same _ _ (f := KG_STAT_LOADING) 1 rfl (by decide)
  · have hbite : (if code.1 = 5 then u.bite else u).krm =
        { r.krm with cores := (if code.1 = 5 then u.bite else u).krm.cores } := by
      split
      · rw [State.krm_of_aside (State.aside_bite u), hkrm]
      · exact hkrm
    rw [if_pos (by simpa using hcode)] at hexec
    refine ⟨_, hexec, _, rfl, rfl, ?_, ?_, fun h => absurd h hcode, fun _ => ⟨rfl, rfl, rfl⟩⟩
    · exact (congrArg Krm.hostQ hbite :)
    · exact (congrArg Krm.witQ hbite :)

end

/-! ### LOAD_COMPLETE -/

/-- Loading changes the cores and storage. -/
def State.besideCores (s : State) : State := { s with krm.cores := [], mem := [], poison := [], stale := [], integ := {} }

theorem besideCores_loadCore (c : Cont) (resident : Bool) (s : State) (p : Nat × Nat) :
    (loadCore c resident s p).besideCores = s.besideCores := by
  unfold loadCore
  extract_lets l k s1
  split <;> rfl

theorem core_loadCore (c : Cont) (resident : Bool) (s : State) (l d : Nat) :
    ((loadCore c resident s (l, d)).core d).logical = some l ∧
      ((loadCore c resident s (l, d)).core d).store = loadTable c s 3 l ∧
      ((loadCore c resident s (l, d)).core d).storeLen = c.entries 3 l ∧
      ((loadCore c resident s (l, d)).core d).started = false := by
  unfold loadCore
  extract_lets m k s1
  have hcore : ∃ k' : Core1, s1.core d = k' ∧ k'.logical = some l ∧ k'.store = loadTable c s 3 l ∧
      k'.storeLen = c.entries 3 l ∧ k'.started = false := ⟨_, State.core_setCore_same .., rfl, rfl, rfl, rfl⟩
  obtain ⟨k', hk, hfields⟩ := hcore
  rw [← hk] at hfields
  split
  · exact hfields
  · exact hfields

/-- Every participant's core loaded. -/
def State.coresLoaded (s : State) (j : Job) : State :=
  (j.parts.zip j.phys).foldl (Machine.loadCore (readCont s j.sub) (j.flags.getLsbD 2)) s

theorem State.besideCores_coresLoaded (s : State) (j : Job) : (s.coresLoaded j).besideCores = s.besideCores :=
  foldl_eq State.besideCores _ _ s fun _ _ _ => besideCores_loadCore ..

theorem State.core_coresLoaded {s : State} {j : Job} {l c : Nat} (hl : j.parts = [l]) (hc : j.phys = [c]) :
    ((s.coresLoaded j).core c).logical = some l ∧ ((s.coresLoaded j).core c).store = loadTable (readCont s j.sub) s 3 l ∧
      ((s.coresLoaded j).core c).storeLen = (readCont s j.sub).entries 3 l ∧ ((s.coresLoaded j).core c).started = false := by
  have hone : s.coresLoaded j = Machine.loadCore (readCont s j.sub) (j.flags.getLsbD 2) s (l, c) := by
    rw [State.coresLoaded, hl, hc]
    rfl
  rw [hone]
  exact core_loadCore ..

/-- The digests of loading leave the cores but for their banks, and of the job what does not bear on digests. -/
theorem loadDigests_spec (s : State) (j : Job) :
    (∃ j', (loadDigests s j).krm.job = some j' ∧ j'.phase = j.phase ∧ j'.late = j.late) ∧
    ∀ d, ∃ b, (loadDigests s j).core d = { s.core d with banks := b } := by
  unfold loadDigests
  extract_lets jp _ inR t inBad u param ji _ wR v bad w
  have hu : u.aside = s.aside := by
    unfold u
    split
    · exact (State.aside_bite t).trans (State.aside_rangeSee s inR)
    · exact State.aside_rangeSee s inR
  split
  · exact ⟨⟨_, rfl, rfl, rfl⟩, fun d => ⟨(s.core d).banks, rfl⟩⟩
  · split
    · exact ⟨⟨_, rfl, rfl, rfl⟩, fun d => (State.core_of_aside hu d :)⟩
    · have hw : w.aside = s.aside := by
        unfold w
        split
        · exact (State.aside_bite v).trans ((State.aside_rangeSee u wR).trans hu)
        · exact (State.aside_rangeSee u wR).trans hu
      exact ⟨⟨_, rfl, rfl, rfl⟩, fun d => (State.core_of_aside hw d :)⟩

/-- A job that is late under LATE_POLICY 1 is refused (R146). -/
theorem lateRefuse_ended (u : State) (j : Job) : (lateRefuse u j).ended 1 0x30 ∧
    (lateRefuse u j).flag pKRMGLOB KG_STAT_LOADING = false ∧ (lateRefuse u j).jrn = u.jrn :=
  ⟨⟨_, rfl, rfl, rfl, rfl⟩, State.flag_fset_same _ _ (f := KG_STAT_LOADING) 0 rfl (by decide), rfl⟩

section
variable {j : Job} {s : State} (hj : s.krm.job = some j) (hp : j.phase = .loading)
  (hk : ∀ c ∈ j.phys, s.fget (pKRMCORE c) KCORE_STAT_PSTATE ≠ 3)
include hj hp hk

theorem exec_loadComplete : exec .loadComplete s = .next (if s.tickPassed j && s.flag pKRMGLOB KG_CTRL_LATE_POLICY then
    lateRefuse (s.coresLoaded j) j
    else (loadDigests (s.coresLoaded j) { j with phase := .loaded, late := s.tickPassed j }).fset pKRMGLOB
      KG_STAT_LOADING 0) := by
  have hoff : (j.phys.any fun c => decide (s.fget (pKRMCORE c) KCORE_STAT_PSTATE = 3)) = false :=
    List.any_eq_false.2 fun c hc => by simpa using hk c hc
  have hbeside := s.besideCores_coresLoaded j
  have hpassed : (s.coresLoaded j).tickPassed j = s.tickPassed j := (congrArg (fun u => State.tickPassed u j) hbeside :)
  have hpolicy : (s.coresLoaded j).flag pKRMGLOB KG_CTRL_LATE_POLICY = s.flag pKRMGLOB KG_CTRL_LATE_POLICY :=
    (congrArg (fun u => State.flag u pKRMGLOB KG_CTRL_LATE_POLICY) hbeside :)
  have he : exec .loadComplete s = execLoadComplete s := rfl
  rw [he, execLoadComplete, hj]
  dsimp only
  rw [if_neg (by simp [hp, hoff]), ← hpassed, ← hpolicy, apply_ite Host.Outcome.next]
  rfl

theorem completes_loadComplete (hlate : s.tickPassed j = false ∨ s.flag pKRMGLOB KG_CTRL_LATE_POLICY = false) :
    completes .loadComplete s fun t => ∃ j', t.krm.job = some j' ∧ j'.phase = .loaded ∧ j'.late = s.tickPassed j ∧
        t.flag pKRMGLOB KG_STAT_LOADING = false ∧
        ∀ l c, j.parts = [l] → j.phys = [c] → (t.core c).logical = some l ∧
          (t.core c).store = loadTable (readCont s j.sub) s 3 l ∧
          (t.core c).storeLen = (readCont s j.sub).entries 3 l ∧ (t.core c).started = false := by
  have hexec := exec_loadComplete hj hp hk
  rw [if_neg (by rcases hlate with h | h <;> simp [h])] at hexec
  obtain ⟨⟨j', hj', hphase, hlate'⟩, hcores⟩ := loadDigests_spec (s.coresLoaded j)
    { j with phase := .loaded, late := s.tickPassed j }
  refine ⟨_, hexec, j', hj', hphase, hlate', State.flag_fset_same _ _ (f := KG_STAT_LOADING) 0 rfl (by decide),
    fun l c hl hc => ?_⟩
  obtain ⟨b, hb⟩ := hcores c
  have hcore : ((loadDigests (s.coresLoaded j) { j with phase := .loaded, late := s.tickPassed j }).fset pKRMGLOB
      KG_STAT_LOADING 0).core c = { (s.coresLoaded j).core c with banks := b } := hb
  rw [hcore]
  exact State.core_coresLoaded hl hc

theorem completes_loadComplete_late (hlate : s.tickPassed j = true) (hpol : s.flag pKRMGLOB KG_CTRL_LATE_POLICY = true) :
    completes .loadComplete s fun t => t.ended 1 0x30 ∧ t.flag pKRMGLOB KG_STAT_LOADING = false := by
  have hexec := exec_loadComplete hj hp hk
  rw [if_pos (by simp [hlate, hpol])] at hexec
  exact ⟨_, hexec, (lateRefuse_ended _ j).1, (lateRefuse_ended _ j).2.1⟩

end

end Sys2Proof.Machine
end

section
/-! SUPPORT. Launch of a job: its cores, the words they leave, and the job that runs (R113, R134, R147, R210, R211). -/

namespace Sys2Proof.Machine

/-! ### A table made of a function -/

/-- An entry of a table made of a function reads as the function's value, written or not. -/
theorem Tab.get_tabOf_map {α : Type} [DecidableEq α] (d : α) (f : Nat → α) (l : List Nat) {k : Nat} (hk : k ∈ l) :
    Tab.get (tabOf d (l.map fun i => (i, f i))) k d = f k := by
  have hget : ∀ l : List Nat, Tab.get (tabOf d (l.map fun i => (i, f i))) k d = if k ∈ l then f k else d := by
    intro l
    induction l with
    | nil => rfl
    | cons i l ih =>
      unfold tabOf Tab.get at ih ⊢
      by_cases hd : f i = d
      · rw [List.map_cons, List.filter_cons_of_neg (by simpa using hd), ih]
        by_cases hi : k = i
        · subst hi
          simp [hd]
        · simp [hi]
      · rw [List.map_cons, List.filter_cons_of_pos (by simpa using hd)]
        by_cases hi : k = i
        · subst hi
          simp [Tab.find?]
        · simp only [Tab.find?, List.mem_cons, hi, false_or]
          rw [if_neg (Ne.symm hi)]
          exact ih
  rw [hget, if_pos hk]

/-! ### A core at launch -/

/-- What a launch makes of a core (R113). -/
def Core1.atLaunch (k : Core1) : Core1 :=
  Core1.idle { k with
    vregs := [], accs := tabOf {} ((List.range 64).map fun r => (r, rowOf (Tab.get k.accCfg r 0)))
    ags := tabOf {} ((List.range 8).map fun g => (g, agOf (Tab.get k.agInit g 0)))
    loops := [], tags := [], started := false, retired := false, start := 0, launchStart := 0, now := 0, lastIssue := 0
    waitBar := none, jobArith := 0 }

theorem core_launchCore_same (s : State) (c : Nat) : (launchCore s c).core c = (s.core c).atLaunch := by
  unfold launchCore State.core State.pset
  rw [State.wr_krm, State.wr_krm, State.fset_krm, State.fset_krm, State.fset_krm]
  exact Tab.get_set_same ..

theorem core_launchCore_ne (s : State) {c d : Nat} (h : d ≠ c) : (launchCore s c).core d = s.core d := by
  unfold launchCore State.core State.pset
  rw [State.wr_krm, State.wr_krm, State.fset_krm, State.fset_krm, State.fset_krm]
  exact Tab.get_set_ne _ _ _ _ _ _ h

/-- The words of a core's page that a launch clears. -/
def launchWord (c x : Nat) : Prop := pKRMCORE c + 0x110 ≤ x ∧ x < pKRMCORE c + 0x128 ∧ x ≠ pKRMCORE c + 0x114

theorem rd_launchCore (s : State) {c x : Nat} (h : ¬launchWord c x) : (launchCore s c).rd x = s.rd x := by
  unfold launchWord at h
  unfold launchCore State.pset
  rw [State.rd_wr_ne _ _ _ _ (by simp only [KCORE_CYC]; omega), State.rd_wr_ne _ _ _ _ (by simp only [KCORE_CYC]; omega),
    State.rd_fset_ne _ _ _ _ _ (by simp only [KCORE_DSTALL]; omega),
    State.rd_fset_ne _ _ _ _ _ (by simp only [KCORE_BSTALL]; omega),
    State.rd_fset_ne _ _ _ _ _ (by simp only [KCORE_PC_PC]; omega)]
  rfl

theorem pc_launchCore_same (s : State) (c : Nat) : (launchCore s c).fget (pKRMCORE c) KCORE_PC_PC = 0 := by
  unfold launchCore State.pset State.fget
  rw [State.rd_wr_ne _ _ _ _ (by simp [KCORE_CYC, KCORE_PC_PC]), State.rd_wr_ne _ _ _ _ (by simp [KCORE_CYC, KCORE_PC_PC]),
    State.rd_fset_ne _ _ _ _ _ (by simp [KCORE_DSTALL, KCORE_PC_PC]),
    State.rd_fset_ne _ _ _ _ _ (by simp [KCORE_BSTALL, KCORE_PC_PC])]
  exact State.fget_fset_same _ _ KCORE_PC_PC 0 (by decide)

theorem pc_launchCore_ne (s : State) {c d : Nat} (h : d ≠ c) :
    (launchCore s d).fget (pKRMCORE c) KCORE_PC_PC = s.fget (pKRMCORE c) KCORE_PC_PC :=
  congrArg KCORE_PC_PC.get (rd_launchCore s (by simp only [launchWord, pKRMCORE, KCORE_PC_PC]; omega))

/-- Core `c` stands at the head of its stream, with its rows as `cfg` gives them (R113). -/
def atHead (c : Nat) (cfg : Tab (BitVec 32)) (t : State) : Prop :=
  (t.core c).vregs = [] ∧ (t.core c).loops = [] ∧ (t.core c).tags = [] ∧ (t.core c).started = false ∧
    t.fget (pKRMCORE c) KCORE_PC_PC = 0 ∧ ∀ r, r < 64 → (t.core c).accRow r = rowOf (Tab.get cfg r 0)

theorem atHead_launchCore_same {s : State} {c : Nat} : atHead c (s.core c).accCfg (launchCore s c) := by
  unfold atHead
  rw [core_launchCore_same]
  exact ⟨rfl, rfl, rfl, rfl, pc_launchCore_same s c, fun r hr =>
    (Tab.get_tabOf_map ({} : AccRow1) (fun r => rowOf (Tab.get (s.core c).accCfg r 0)) (List.range 64) (List.mem_range.2 hr) :)⟩

theorem atHead_launchCore_ne {s : State} {c d : Nat} {cfg} (h : d ≠ c) (ha : atHead c cfg s) :
    atHead c cfg (launchCore s d) := by
  unfold atHead at ha ⊢
  rw [core_launchCore_ne _ h.symm, pc_launchCore_ne _ h]
  exact ha

theorem atHead_launchCores {s : State} {l : List Nat} {c : Nat} (hc : c ∈ l) :
    atHead c (s.core c).accCfg (l.foldl launchCore s) :=
  foldl_at (I := fun u => (u.core c).accCfg = (s.core c).accCfg) (P := atHead c (s.core c).accCfg)
    (fun u d hu => by
      by_cases hd : d = c
      · subst hd
        rw [core_launchCore_same]
        exact hu
      · rwa [core_launchCore_ne _ (Ne.symm hd)])
    (fun u hu => hu ▸ atHead_launchCore_same) (fun u d hd => atHead_launchCore_ne hd) hc rfl

/-- Launched cores leave the words below the tiers' pages but those the launch clears, and all else but the cores. -/
theorem State.rd_launchCores (s : State) (l : List Nat) {x : Nat} (h : ∀ c, ¬launchWord c x) :
    (l.foldl launchCore s).rd x = s.rd x :=
  State.rd_foldl l launchCore s fun u c => rd_launchCore u (h c)

theorem State.ffy_launchCores (s : State) (l : List Nat) : (l.foldl launchCore s).ffy = s.ffy :=
  foldl_eq State.ffy l launchCore s fun _ _ _ => rfl

/-! ### LAUNCH -/

theorem aside_loadJournal (s : State) (c : Cont) (j : Job) : (loadJournal s c j).aside = s.aside := by
  unfold loadJournal
  extract_lets n rs t img fit r
  split
  · rfl
  · exact (State.aside_journal ..).trans (State.aside_rangeSee s rs)

/-- The journal entry is written, and every participant's core stands at the head of its stream. -/
def State.lined (s : State) (j : Job) : State := j.phys.foldl launchCore (loadJournal s (readCont s j.sub) j)

/-- The job runs, late or not. -/
def State.underWay (s : State) (j : Job) (late : Bool) : State :=
  { s with krm.phase := 3, krm.job := some { j with
    phase := .running, launched := true, late := late, strict := s.flag pGEN GEN_MODE_STRICT_ACT
    fastOk := s.krm.mode.fastReduce
    launchTick := if j.sub.tick != 0 && !late then j.sub.tick else s.tick
    actMap := BitVec.ofNat 64 (s.pget pKRMGLOB KG_ACT_MAP) } }.fset pKRMGLOB KG_STAT_RUNNING 1

theorem State.rd_lined (s : State) (j : Job) {x : Nat} (hx : x < 0x400000) (h : ∀ c, ¬launchWord c x) :
    (s.lined j).rd x = s.rd x :=
  (State.rd_launchCores _ _ h).trans (State.rd_of_aside (aside_loadJournal ..) hx)

theorem State.tick_lined (s : State) (j : Job) : (s.lined j).tick = s.tick :=
  congrArg Ffy.counter ((State.ffy_launchCores ..).trans (State.ffy_of_aside (aside_loadJournal s (readCont s j.sub) j)))

theorem State.atHead_lined (s : State) {j : Job} {c : Nat} (hc : c ∈ j.phys) : atHead c (s.core c).accCfg (s.lined j) := by
  obtain ⟨b, hb⟩ := State.core_of_aside (aside_loadJournal s (readCont s j.sub) j) c
  have h := atHead_launchCores (s := loadJournal s (readCont s j.sub) j) hc
  rwa [hb] at h

theorem atHead_underWay {s : State} {j : Job} {late : Bool} {c : Nat} {cfg} (hc : c < 36) (h : atHead c cfg s) :
    atHead c cfg (s.underWay j late) := by
  obtain ⟨hv, hl, ht, hs, hpc, hr⟩ := h
  exact ⟨hv, hl, ht, hs, (State.fget_fset_glob _ hc _ _ _ (by decide)).trans hpc, hr⟩

theorem exec_launch_waits {j : Job} {s : State} (hj : s.krm.job = some j) (hw : s.launchWaits j = true) :
    exec .launch s = .next s := by
  have he : exec .launch s = execLaunch s := rfl
  rw [he, execLaunch, hj]
  exact if_pos (by simp [hw])

section
variable {j : Job} {s : State} (hj : s.krm.job = some j) (hp : j.phase = .loaded)
include hj hp

theorem exec_launch (hw : s.launchWaits j = false) : exec .launch s = .next (if s.tickPassed j && !j.late &&
    s.flag pKRMGLOB KG_CTRL_LATE_POLICY then lateRefuse s j else (s.lined j).underWay j (j.late || s.tickPassed j)) := by
  have he : exec .launch s = execLaunch s := rfl
  rw [he, execLaunch, hj]
  dsimp only
  rw [if_neg (by simp [hw, hp]), apply_ite Host.Outcome.next]
  rfl

theorem completes_launch (hw : s.launchWaits j = false)
    (hlate : s.tickPassed j = false ∨ j.late = true ∨ s.flag pKRMGLOB KG_CTRL_LATE_POLICY = false) :
    completes .launch s fun t => (∃ j', t.krm.job = some j' ∧ j'.phase = .running ∧ j'.late = (j.late || s.tickPassed j) ∧
        j'.strict = s.flag pGEN GEN_MODE_STRICT_ACT ∧ j'.actMap = BitVec.ofNat 64 (s.pget pKRMGLOB KG_ACT_MAP) ∧
        j'.launchTick = if j.sub.tick ≠ 0 ∧ j'.late = false then j.sub.tick else s.tick) ∧
      t.flag pKRMGLOB KG_STAT_RUNNING = true ∧ t.krm.phase = 3 ∧
      ∀ c ∈ j.phys, c < 36 → atHead c (s.core c).accCfg t := by
  have hexec := exec_launch hj hp hw
  rw [if_neg (by rcases hlate with h | h | h <;> simp [h])] at hexec
  have hrd {x : Nat} (hx : x < 0x400000) (hoff : x % 0x10000 < 0x110 ∨ 0x128 ≤ x % 0x10000) : (s.lined j).rd x = s.rd x :=
    s.rd_lined j hx fun c => by
      simp only [launchWord, pKRMCORE]
      omega
  have hstrict : (s.lined j).flag pGEN GEN_MODE_STRICT_ACT = s.flag pGEN GEN_MODE_STRICT_ACT :=
    congrArg (fun w => GEN_MODE_STRICT_ACT.get w != 0) (hrd (by decide) (by decide))
  have hmap : (s.lined j).pget pKRMGLOB KG_ACT_MAP = s.pget pKRMGLOB KG_ACT_MAP := by
    unfold State.pget
    rw [hrd (by decide) (by decide), hrd (by decide) (by decide)]
  refine ⟨_, hexec, ⟨_, rfl, rfl, rfl, hstrict, congrArg (BitVec.ofNat 64) hmap, ?_⟩, ?_, rfl, fun c hc h36 => ?_⟩
  · dsimp only
    rw [State.tick_lined]
    congr 1
    simp
  · exact State.flag_fset_same _ _ (f := KG_STAT_RUNNING) 1 rfl (by decide)
  · exact atHead_underWay h36 (s.atHead_lined hc)

theorem completes_launch_late (hw : s.launchWaits j = false) (hpass : s.tickPassed j = true) (hl : j.late = false)
    (hpol : s.flag pKRMGLOB KG_CTRL_LATE_POLICY = true) : completes .launch s fun t => t.ended 1 0x30 ∧ t.jrn = s.jrn := by
  have hexec := exec_launch hj hp hw
  rw [if_pos (by simp [hpass, hl, hpol])] at hexec
  exact ⟨_, hexec, (lateRefuse_ended s j).1, (lateRefuse_ended s j).2.2⟩

end

theorem State.launchWaits_of {s : State} {j : Job} (h : s.flag pKRMGLOB KG_CTRL_QHOLD = true ∨ s.cringFull = true ∨
    (j.sub.tick ≠ 0 ∧ s.tick.toNat < j.sub.tick.toNat) ∨ (j.sub.tick ≠ 0 ∧ s.flag pFFY FFY_STAT_VALID = false)) :
    s.launchWaits j = true := by
  unfold State.launchWaits
  rcases h with h | h | ⟨hn, h⟩ | ⟨hn, h⟩
  · simp [h]
  · simp [h]
  · exact Bool.or_eq_true_iff.2 (.inr (Bool.and_eq_true_iff.2 ⟨bne_iff_ne.2 hn, by simp [h]⟩))
  · exact Bool.or_eq_true_iff.2 (.inr (Bool.and_eq_true_iff.2 ⟨bne_iff_ne.2 hn, by simp [h]⟩))

/-- Settles O22: SUBMIT by the write it rides on, JOB_LOAD by the check, LOAD_COMPLETE and LAUNCH by what the loader, the journal
and the digests leave alone. -/
theorem jobsSubmittedAndLoaded : Obligations.JobsSubmittedAndLoaded := by
  unfold Obligations.JobsSubmittedAndLoaded
  refine ⟨fun cls s h => ⟨fun hroom => ?_, completes_submit_full h⟩, fun e r u s => completes_jobLoad,
    fun j s hj hp hk => ⟨completes_loadComplete hj hp hk, completes_loadComplete_late hj hp hk⟩,
    fun j s hj hp hw => ⟨fun hlate => ?_, completes_launch_late hj hp hw⟩,
    fun j s hj _ h => exec_launch_waits hj (State.launchWaits_of h)⟩
  · exact completes_mono (completes_submit h hroom) fun t ht =>
      ⟨s.subEntry cls, ht.1, rfl, rfl, rfl, rfl, rfl, rfl, rfl, rfl, ht.2⟩
  · exact completes_launch hj hp hw hlate

end Sys2Proof.Machine
end

section
/-! SUPPORT. The stop registers: what a taken write leaves of them and what its bits start (R327, R328). -/

namespace Sys2Proof.Machine

/-! ### Fields of a word that stands -/

theorem State.fget_of_rd {s t : State} {b : Nat} {f : Fld} (h : t.rd (b + f.off) = s.rd (b + f.off)) :
    t.fget b f = s.fget b f := congrArg f.get h

theorem State.flag_of_rd {s t : State} {b : Nat} {f : Fld} (h : t.rd (b + f.off) = s.rd (b + f.off)) :
    t.flag b f = s.flag b f := congrArg (fun w => f.get w != 0) h

/-! ### What a taken write of a plain word leaves -/

/-- The word `w` at `a`, the shadow of that word used up, and one count of its page. -/
def State.written (s : State) (cls : Cls) (a : Nat) (w : BitVec 32) : State :=
  ((s.unshadow cls a).wr a w).seqUp (a / 0x10000 * 0x10000)

theorem State.rd_written_ne (s : State) (cls : Cls) {a x : Nat} (w : BitVec 32) (hx : x ≠ a)
    (hseq : x ≠ a / 0x10000 * 0x10000 + 0x34) : (s.written cls a w).rd x = s.rd x := by
  rw [State.written, State.rd_seqUp _ _ _ hseq, State.rd_wr_ne _ _ _ _ hx]
  rfl

theorem State.rd_written_same (s : State) (cls : Cls) {a : Nat} (w : BitVec 32) (h : a % 0x10000 ≠ 0x34) :
    (s.written cls a w).rd a = w := by
  rw [State.written, State.rd_seqUp _ _ _ (by simp only [PAGE_SEQ]; omega), State.rd_wr_same]

theorem sameBytes_written (s : State) (cls : Cls) (a : Nat) (w : BitVec 32) : sameBytes s (s.written cls a w) :=
  sameBytes_of_eq rfl rfl rfl

/-! ### The stop registers (R327, R328) -/

/-- The word of a path's stop register. -/
def stopWord : StopPath → Nat
  | .host => pHST + 0x104
  | .rack => pRCK + 0x114

/-- TRAY_DRIVE of a path's stop register. -/
def driveFld : StopPath → Fld
  | .host => ⟨0x104, 3, 1⟩
  | .rack => ⟨0x114, 2, 1⟩

/-- The weight of TRAY_DRIVE in a path's stop register. -/
def driveUnit : StopPath → Nat
  | .host => 8
  | .rack => 4

/-- The fields of a path's stop register: TRAY_DRIVE, and the bits that start an action. -/
def stopFields : StopPath → List FRow
  | .host => [⟨3, 1, .rw, 3, none⟩, ⟨2, 1, .w1s, 0, none⟩, ⟨1, 1, .w1s, 0, none⟩, ⟨0, 1, .w1s, 0, none⟩]
  | .rack => [⟨2, 1, .rw, 34, none⟩, ⟨1, 1, .w1s, 34, none⟩, ⟨0, 1, .w1s, 34, none⟩]

/-- What a path's stop register starts. -/
def stopEffect : StopPath → Nat → State → State
  | .host => hostStop
  | .rack => stopAct

theorem State.driveBit_eq (s : State) (path : StopPath) :
    s.driveBit path = driveUnit path * (driveFld path).get (s.rd (stopWord path)) := by cases path <;> rfl

theorem regWrite_stop {cls : Cls} {path : StopPath} {v : Nat} {s : State} (h : s.takes cls (stopWord path) v)
    (hv : v < 0x100000000) : (regWrite s cls (stopWord path) 4 v).2 =
      s.written cls (stopWord path) (writeWord (stopFields path) (s.rd (stopWord path)) v) := by
  obtain ⟨p, i, r, e, hp, hr, hpair, hcls, hk, hf⟩ : ∃ p i r e, findPage (stopWord path / 0x10000) = some (p, i) ∧
      findReg p.regs (stopWord path % 0x10000) = some (r, e, 0) ∧ r.pair = false ∧ r.percls = false ∧
      (p.kind ≠ .gen ∧ p.kind ≠ .hzdsens) ∧ r.fields = stopFields path := by
    cases path
    · exact ⟨_, _, _, _, rfl, rfl, rfl, rfl, by decide, rfl⟩
    · exact ⟨_, _, _, _, rfl, rfl, rfl, rfl, by decide, rfl⟩
  rw [(regWrite_word hp hr hpair hcls hk hv h).2, hf]
  rfl

theorem Fld.get_bit (o lo : Nat) (w : BitVec 32) : (⟨o, lo, 1⟩ : Fld).get w = (w.getLsbD lo).toNat := by
  simp [Fld.get, BitVec.getLsbD, Nat.toNat_testBit, Nat.shiftRight_eq_div_pow]

/-- A write gives TRAY_DRIVE its bit and leaves the bits that start an action at 0. -/
theorem writeWord_stop (path : StopPath) (old : BitVec 32) (v : Nat) : (driveFld path).get (writeWord (stopFields path) old v) =
    v / driveUnit path % 2 := by
  cases path with
  | host =>
    have hmask : coverMask (stopFields .host) = 15 := by decide
    have hall : (stopFields .host).filter FRow.writable = stopFields .host := by decide
    rw [writeWord, hmask, hall, driveFld, Fld.get_bit]
    rcases Nat.mod_two_eq_zero_or_one (v / 8) with h | h <;> simp [stopFields, FRow.write, FRow.val, driveUnit, h]
  | rack =>
    have hmask : coverMask (stopFields .rack) = 7 := by decide
    have hall : (stopFields .rack).filter FRow.writable = stopFields .rack := by decide
    rw [writeWord, hmask, hall, driveFld, Fld.get_bit]
    rcases Nat.mod_two_eq_zero_or_one (v / 4) with h | h <;> simp [stopFields, FRow.write, FRow.val, driveUnit, h]

/-- A taken write of a stop register: the word, then what its bits start. -/
theorem State.stopWrite_of_takes {cls : Cls} {path : StopPath} {v : Nat} {s : State} (h : s.stopTakes cls path v)
    (hv : v < 0x100000000) : s.stopWrite cls path v =
      stopEffect path v (s.written cls (stopWord path) (writeWord (stopFields path) (s.rd (stopWord path)) v)) := by
  have htakes : s.takes cls (stopWord path) v := by cases path <;> exact h
  rw [← regWrite_stop htakes hv]
  cases path
  · exact writeThen_of_takes (hostStop v) h
  · exact writeThen_of_takes (stopAct v) h

/-! ### What the bits of a stop register start -/

theorem stopAct_of_powered {s : State} (hm : s.pins.mainPwrGood = true) (v : Nat) : stopAct v s =
    if v / 2 % 2 = 1 then (if v % 2 = 1 then s.haltKermes else s).haltPorts 1 else if v % 2 = 1 then s.haltKermes else s :=
  if_neg (by rw [hm]; decide)

theorem stopEffect_of_plain {path : StopPath} {v : Nat} {s t : State} (h : stopAct v s = t)
    (h4 : path = .host → v / 4 % 2 ≠ 1) : stopEffect path v s = t := by
  cases path with
  | host => exact (if_neg (h4 rfl)).trans h
  | rack => exact h

section
variable {s : State} (hm : s.pins.mainPwrGood = true) (path : StopPath) (x : Nat)
include hm

theorem stopEffect_haltKrm : stopEffect path (1 + driveUnit path * x) s = s.haltKermes := by
  have h2 : (1 + driveUnit path * x) / 2 % 2 ≠ 1 := by cases path <;> simp only [driveUnit] <;> omega
  have h1 : (1 + driveUnit path * x) % 2 = 1 := by cases path <;> simp only [driveUnit] <;> omega
  refine stopEffect_of_plain (by rw [stopAct_of_powered hm, if_neg h2, if_pos h1]) ?_
  rintro rfl
  simp only [driveUnit]
  omega

theorem stopEffect_haltAcc : stopEffect path (2 + driveUnit path * x) s = s.haltPorts 1 := by
  have h2 : (2 + driveUnit path * x) / 2 % 2 = 1 := by cases path <;> simp only [driveUnit] <;> omega
  have h1 : (2 + driveUnit path * x) % 2 ≠ 1 := by cases path <;> simp only [driveUnit] <;> omega
  refine stopEffect_of_plain (by rw [stopAct_of_powered hm, if_pos h2, if_neg h1]) ?_
  rintro rfl
  simp only [driveUnit]
  omega

theorem stopEffect_dispatchOff : stopEffect .host (4 + driveUnit .host * x) s = s.stopDispatch := by
  simp only [driveUnit]
  have h4 : (4 + 8 * x) / 4 % 2 = 1 := by omega
  have h2 : (4 + 8 * x) / 2 % 2 ≠ 1 := by omega
  have h1 : (4 + 8 * x) % 2 ≠ 1 := by omega
  rw [stopEffect, hostStop, stopAct_of_powered hm, if_neg h2, if_neg h1]
  exact if_pos h4

theorem stopEffect_trayDrive : stopEffect path (x * driveUnit path) s = s := by
  have h2 : x * driveUnit path / 2 % 2 ≠ 1 := by cases path <;> simp only [driveUnit] <;> omega
  have h1 : x * driveUnit path % 2 ≠ 1 := by cases path <;> simp only [driveUnit] <;> omega
  refine stopEffect_of_plain (by rw [stopAct_of_powered hm, if_neg h2, if_neg h1]) ?_
  rintro rfl
  simp only [driveUnit]
  omega

end

/-! ### HALT_KRM -/

theorem kermesOnly_haltKermes (s : State) : kermesOnly s s.haltKermes :=
  (kermesOnly_ite (kermesOnly.refl s) rfl : kermesOnly s (s.hwSet pKRMGLOB KG_CTRL_QHOLD 1)).trans (kermesOnly_endJob ..)

theorem kermesOnly.slk {s t : State} (h : kermesOnly s t) : t.slk = s.slk := (congrArg State.slk h :)

theorem kermesOnly.outs {s t : State} (h : kermesOnly s t) : t.outs = s.outs := (congrArg State.outs h :)

theorem kermesOnly.pins {s t : State} (h : kermesOnly s t) : t.pins = s.pins := (congrArg State.pins h :)

theorem State.driveBit_lt (s : State) (path : StopPath) :
    ∃ x, x < 2 ∧ s.driveBit path = driveUnit path * x :=
  ⟨_, by cases path <;> exact Nat.mod_lt _ (by decide), s.driveBit_eq path⟩

theorem completes_haltKrm {cls : Cls} {path : StopPath} {s : State} (hm : s.pins.mainPwrGood = true)
    (h : s.stopTakes cls path (1 + s.driveBit path)) : completes (.haltKrm cls path) s fun t =>
      t.flag pKRMGLOB KG_CTRL_QHOLD = true ∧ (∀ j, s.krm.job = some j → j.phase ≠ .ended → t.ended 2 1) ∧
      t.slk = s.slk ∧ sameBytes s t := by
  obtain ⟨x, hx, hdrive⟩ := s.driveBit_lt path
  have hv : 1 + driveUnit path * x < 0x100000000 := by cases path <;> simp only [driveUnit] <;> omega
  have hexec : exec (.haltKrm cls path) s = .next (s.stopWrite cls path (1 + s.driveBit path)) := rfl
  rw [hdrive] at h hexec
  rw [State.stopWrite_of_takes h hv] at hexec
  generalize writeWord (stopFields path) (s.rd (stopWord path)) _ = w at hexec
  rw [stopEffect_haltKrm (by exact hm)] at hexec
  obtain ⟨hheld, hbytes, hended⟩ := (s.written cls (stopWord path) w).haltKermes_spec
  exact completes_of_next hexec ⟨hheld, fun j hj => hended j hj, (kermesOnly_haltKermes _).slk,
    sameBytes_trans (sameBytes_written ..) hbytes⟩

/-! ### TRAY_DRIVE -/

theorem completes_trayDrive {cls : Cls} {path : StopPath} (pull : Bool) {s : State} (hm : s.pins.mainPwrGood = true)
    (h : s.stopTakes cls path (bit pull * driveUnit path)) : completes (.trayDrive cls path pull) s fun t =>
      t.driveBit path = bit pull * driveUnit path ∧ t.krm = s.krm ∧ t.slk = s.slk ∧ t.qw = s.qw ∧ sameBytes s t := by
  have hx : bit pull < 2 := by cases pull <;> decide
  have hv : bit pull * driveUnit path < 0x100000000 := by cases path <;> simp only [driveUnit] <;> omega
  have hexec : exec (.trayDrive cls path pull) s = .next (s.stopWrite cls path (bit pull * driveUnit path)) := by
    cases path <;> rfl
  rw [State.stopWrite_of_takes h hv, stopEffect_trayDrive (by exact hm)] at hexec
  refine completes_of_next hexec ⟨?_, rfl, rfl, rfl, sameBytes_written ..⟩
  rw [State.driveBit_eq, State.rd_written_same _ _ _ (by cases path <;> decide), writeWord_stop]
  cases path <;> simp only [driveUnit] <;> omega

end Sys2Proof.Machine
end

section
/-! SUPPORT. HALT on the Silk ports and the fall of DISPATCH (R235, R276, R295, R327). -/

namespace Sys2Proof.Machine

/-! ### Sending on the ports: what it leaves, and what it adds -/

/-- `t` is `s` after sends on Silk ports: the ports and the outputs alone have changed, and the outputs have grown. -/
def sends (s t : State) : Prop := t = { s with slk := t.slk, outs := t.outs } ∧ s.outs <+: t.outs

theorem sends.refl (s : State) : sends s s := ⟨rfl, List.prefix_refl _⟩

theorem sends.trans {s t u : State} (h : sends s t) (g : sends t u) : sends s u := by
  refine ⟨?_, h.2.trans g.2⟩
  rw [g.1, h.1]

theorem sends_ite {c : Prop} [Decidable c] {s t u : State} (ht : sends s t) (hu : sends s u) :
    sends s (if c then t else u) := by split <;> assumption

theorem sends_foldl {β : Type} (l : List β) (f : State → β → State) (s : State) (h : ∀ u e, sends u (f u e)) :
    sends s (l.foldl f s) := by
  induction l generalizing s with
  | nil => exact sends.refl s
  | cons e l ih => exact (h s e).trans (ih _)

theorem sends_emit (s : State) (o : Out) : sends s (s.emit o) := ⟨rfl, List.prefix_append ..⟩

theorem sends_modPort (s : State) (p : Nat) (f : SlkPort → SlkPort) : sends s (s.modPort p f) := ⟨rfl, List.prefix_refl _⟩

theorem sends_flushPort (s : State) (p : Nat) : sends s (s.flushPort p) :=
  sends_ite (sends.refl s) ((sends_modPort ..).trans (sends_foldl _ _ _ fun _ _ => sends_emit ..))

theorem sends_sendUnit (s : State) (p : Nat) (u : SilkUnit) : sends s (s.sendUnit p u) := by
  unfold State.sendUnit
  split
  · exact sends_emit ..
  · exact (sends_modPort ..).trans (sends_flushPort ..)
  · exact (sends_modPort ..).trans (sends_flushPort ..)

theorem sends_sendHalt (s : State) (reason p : Nat) : sends s (s.sendHalt reason p) :=
  sends_ite (sends_sendUnit ..) (sends.refl s)

theorem sends_haltPorts (s : State) (reason : Nat) : sends s (s.haltPorts reason) :=
  sends_foldl _ _ s fun u p => sends_sendHalt u reason p

theorem sends.regs {s t : State} (h : sends s t) : t.regs = s.regs := (congrArg State.regs h.1 :)

theorem sends.krm {s t : State} (h : sends s t) : t.krm = s.krm := (congrArg State.krm h.1 :)

theorem sends.pins {s t : State} (h : sends s t) : t.pins = s.pins := (congrArg State.pins h.1 :)

theorem sends.rd {s t : State} (h : sends s t) (x : Nat) : t.rd x = s.rd x := State.rd_eq _ _ _ h.regs

theorem sends.sameBytes {s t : State} (h : sends s t) : sameBytes s t :=
  sameBytes_of_eq (congrArg State.mem h.1 :) (congrArg State.flash h.1 :) (congrArg (fun t => t.fwc.sram) h.1 :)

/-! ### The port that sends -/

theorem State.slk_foldl_emit (l : List SilkUnit) (p : Nat) (s : State) :
    (l.foldl (fun s u => s.emit (.silk p u)) s).slk = s.slk := foldl_eq State.slk _ _ _ fun _ _ _ => rfl

theorem State.portState_of_rd {s t : State} {p : Nat}
    (h : t.rd (pSLK p + SLK_STAT_STATE.off) = s.rd (pSLK p + SLK_STAT_STATE.off)) : t.portState p = s.portState p :=
  State.fget_of_rd h

theorem State.port_modPort_ne (s : State) {p q : Nat} (f : SlkPort → SlkPort) (h : q ≠ p) :
    (s.modPort p f).port q = s.port q :=
  Tab.get_set_ne _ _ _ _ _ _ h

theorem State.port_of_slk {s t : State} (h : t.slk = s.slk) (p : Nat) : t.port p = s.port p := by simp only [State.port, h]

theorem State.port_flushPort_ne (s : State) {p q : Nat} (h : q ≠ p) : (s.flushPort p).port q = s.port q := by
  unfold State.flushPort
  extract_lets k c r t
  split
  · rfl
  · exact (State.port_of_slk (State.slk_foldl_emit ..) q).trans (State.port_modPort_ne _ _ h)

theorem State.port_sendUnit_ne (s : State) {p q : Nat} (u : SilkUnit) (h : q ≠ p) : (s.sendUnit p u).port q = s.port q := by
  unfold State.sendUnit
  split
  · rfl
  · exact (State.port_flushPort_ne _ h).trans (State.port_modPort_ne _ _ h)
  · exact (State.port_flushPort_ne _ h).trans (State.port_modPort_ne _ _ h)

theorem State.port_sendHalt_ne (s : State) (reason : Nat) {p q : Nat} (h : q ≠ p) :
    (s.sendHalt reason p).port q = s.port q := by
  unfold State.sendHalt
  split
  · exact State.port_sendUnit_ne _ _ h
  · rfl

/-- A CONTROL unit that waits alone, with a credit, is sent. -/
theorem drainUnits_control {cred : List Nat} (h : 1 ≤ nth cred 0) (payload : List Byte) :
    (drainUnits cred [] [ctlUnit 0x30 payload]).1 = [ctlUnit 0x30 payload] := by
  have hblocks : unitBlocks (ctlUnit 0x30 payload) = 1 := by simp [unitBlocks, ctlUnit]
  have hclass : unitClass (ctlUnit 0x30 payload).typ.toNat = 0 := rfl
  simp only [drainUnits, hclass, hblocks, List.contains_nil, Bool.false_or, decide_eq_true_eq]
  rw [if_neg (by omega)]

theorem State.outs_foldl_emit (l : List SilkUnit) (p : Nat) (s : State) :
    (l.foldl (fun s u => s.emit (.silk p u)) s).outs = s.outs ++ l.map (.silk p) := by
  induction l generalizing s with
  | nil => simp
  | cons u l ih => rw [List.foldl_cons, ih, State.emit, List.map_cons, List.append_assoc, List.singleton_append]

/-- Since `s`, the port has sent HALT with the reason. -/
def haltSent (s : State) (reason p : Nat) (t : State) : Prop :=
  .silk p (ctlUnit 0x30 [BitVec.ofNat 8 reason]) ∈ t.outs.drop s.outs.length

theorem haltSent.mono {s t u : State} {reason p : Nat} (h : haltSent s reason p t) (g : sends t u) : haltSent s reason p u :=
  (g.2.drop _).subset h

theorem haltSent_of_sent {s u t : State} {reason p : Nat} (h : sends s u) (g : haltSent u reason p t) : haltSent s reason p t :=
  List.drop_subset_drop_left _ h.2.length_le g

/-- A port that can take a HALT sends it. -/
theorem State.mem_sendHalt {s : State} {p : Nat} (hup : s.portUp p = true) (hl0 : (s.port p).inL0 = true) (hclear : s.clearPort p)
    (hcred : 1 ≤ nth (s.port p).cred 0) (reason : Nat) :
    haltSent s reason p (s.sendHalt reason p) := by
  unfold haltSent
  obtain ⟨hwait, hresp⟩ := hclear
  generalize hu : ctlUnit 0x30 [BitVec.ofNat 8 reason] = u
  have hdrain : (drainUnits (s.port p).cred [] [u]).1 = [u] := hu ▸ drainUnits_control hcred _
  have hsend : s.sendHalt reason p = (s.modPort p fun k => { k with waiting := k.waiting ++ [u] }).flushPort p := by
    rw [State.sendHalt, if_pos hup, hu, State.sendUnit, ← hu]
    rfl
  have hport : (s.modPort p fun k => { k with waiting := k.waiting ++ [u] }).port p = { s.port p with waiting := [u] } := by
    rw [State.port_modPort, hwait, List.nil_append]
  rw [hsend, State.flushPort, hport]
  dsimp only
  rw [if_neg (by rw [hl0]; decide), State.outs_foldl_emit, hdrain, List.map_append]
  simp [State.modPort]

theorem State.halts_of {s t : State} {p : Nat} (hstate : t.portState p = s.portState p) (hslk : t.slk = s.slk) (h : s.halts p) :
    t.halts p := by
  unfold State.halts State.clearPort at *
  rwa [hstate, State.port_of_slk hslk]

theorem mem_portList {p : Nat} : p ∈ portList ↔ p < 8 := by
  simp only [portList, List.mem_cons, List.not_mem_nil, or_false]
  omega

theorem State.haltPorts_spec (s : State) (reason : Nat) {p : Nat} (hp : p < 8) (h : s.halts p) :
    haltSent s reason p (s.haltPorts reason) := by
  obtain ⟨hup, hl0, hclear, hcred⟩ := h
  have hsend (u : State) (hs : sends s u) (hu : u.port p = s.port p ∨ haltSent s reason p u) :
      haltSent s reason p (u.sendHalt reason p) := by
    rcases hu with hq | hx
    · have hstate : u.portState p = s.portState p := State.portState_of_rd (hs.rd _)
      refine haltSent_of_sent hs (State.mem_sendHalt ?_ (by rw [hq, hl0]) ?_ (by rw [hq]; exact hcred) reason)
      · rw [State.portUp, hstate, hup]
        rfl
      · rw [State.clearPort, hq]
        exact hclear
    · exact hx.mono (sends_sendHalt ..)
  have hstep (u : State) (d : Nat) (hu : sends s u ∧ (u.port p = s.port p ∨ haltSent s reason p u)) :
      sends s (u.sendHalt reason d) ∧
        ((u.sendHalt reason d).port p = s.port p ∨ haltSent s reason p (u.sendHalt reason d)) := by
    refine ⟨hu.1.trans (sends_sendHalt ..), ?_⟩
    by_cases hd : p = d
    · exact .inr (hd ▸ hsend u hu.1 hu.2)
    · exact hu.2.imp (fun hq => (State.port_sendHalt_ne u reason hd).trans hq) fun hx => hx.mono (sends_sendHalt ..)
  exact foldl_at hstep (fun u hu => hsend u hu.1 hu.2) (fun u d _ hu => hu.mono (sends_sendHalt ..)) (mem_portList.2 hp)
    ⟨sends.refl s, .inl rfl⟩

/-! ### HALT_ACC -/

theorem pSLK_apart_stop (path : StopPath) {p : Nat} (hp : p < 8) : pSLK p + 0x104 ≠ stopWord path ∧
    pSLK p + 0x104 ≠ stopWord path / 0x10000 * 0x10000 + 0x34 := by
  have hword : 0x780000 ≤ stopWord path := by cases path <;> decide
  unfold pSLK
  omega

theorem State.portState_written_stop (s : State) (cls : Cls) (path : StopPath) (w : BitVec 32) {p : Nat} (hp : p < 8) :
    (s.written cls (stopWord path) w).portState p = s.portState p :=
  State.portState_of_rd (State.rd_written_ne s cls w (pSLK_apart_stop path hp).1 (pSLK_apart_stop path hp).2)

theorem completes_haltAcc {cls : Cls} {path : StopPath} {s : State} (hm : s.pins.mainPwrGood = true)
    (h : s.stopTakes cls path (2 + s.driveBit path)) : completes (.haltAcc cls path) s fun t =>
      t.krm = s.krm ∧ t.flag pKRMGLOB KG_CTRL_QHOLD = s.flag pKRMGLOB KG_CTRL_QHOLD ∧ sameBytes s t ∧
      ∀ p, p < 8 → s.halts p → .silk p (ctlUnit 0x30 [1]) ∈ t.outs.drop s.outs.length := by
  obtain ⟨x, hx, hdrive⟩ := s.driveBit_lt path
  have hv : 2 + driveUnit path * x < 0x100000000 := by cases path <;> simp only [driveUnit] <;> omega
  have hexec : exec (.haltAcc cls path) s = .next (s.stopWrite cls path (2 + s.driveBit path)) := rfl
  rw [hdrive] at h hexec
  rw [State.stopWrite_of_takes h hv] at hexec
  generalize writeWord (stopFields path) (s.rd (stopWord path)) _ = w at hexec
  rw [stopEffect_haltAcc (by exact hm)] at hexec
  have hsends := sends_haltPorts (s.written cls (stopWord path) w) 1
  refine completes_of_next hexec ⟨hsends.krm, ?_, sameBytes_trans (sameBytes_written ..) hsends.sameBytes, fun p hp hh => ?_⟩
  · refine State.flag_of_rd ((hsends.rd _).trans ?_)
    cases path <;> exact State.rd_written_ne _ _ _ (by decide) (by decide)
  · exact (s.written cls (stopWord path) w).haltPorts_spec 1 hp
      (State.halts_of (s.portState_written_stop cls path w hp) (by exact rfl) hh)

/-! ### DISPATCH_OFF -/

theorem State.rd_showQmg (s : State) {x : Nat} (hx : x < pQMG + 0x104 ∨ pQMG + 0x118 ≤ x) : s.showQmg.rd x = s.rd x := by
  simp only [pQMG] at hx
  rw [State.showQmg, State.rd_fset_ne _ _ _ _ _ (by simp only [pQMG, QMG_STAT_STALLED]; omega),
    State.rd_fset_ne _ _ _ _ _ (by simp only [pQMG, QMG_STAT_IDLE]; omega),
    State.rd_fset_ne _ _ _ _ _ (by simp only [pQMG, QMG_PENDING]; omega),
    State.rd_fset_ne _ _ _ _ _ (by simp only [pQMG, QMG_ENABLED]; omega)]

/-- A fall of DISPATCH, by the page's own doing. -/
theorem State.stopDispatch_spec {s : State} (h : s.flag pQMG QMG_CTRL_DISPATCH = true) :
    s.stopDispatch.flag pQMG QMG_CTRL_DISPATCH = false ∧ s.stopDispatch.qw.inPass = false ∧
      (∀ e ∈ s.stopDispatch.qw.queues, e.2.noted = 0) ∧ s.stopDispatch.krm = s.krm ∧ sameBytes s s.stopDispatch := by
  have hset : (s.hwSet pQMG QMG_CTRL_DISPATCH 0).fget pQMG QMG_CTRL_DISPATCH = 0 :=
    State.fget_hwSet_same _ _ (by decide) (by decide) (by decide)
  have honly : kermesOnly s (s.hwSet pQMG QMG_CTRL_DISPATCH 0) := kermesOnly_ite (kermesOnly.refl s) rfl
  have hkrm : (s.hwSet pQMG QMG_CTRL_DISPATCH 0).krm = s.krm := by simp
  rw [State.stopDispatch, if_pos h]
  generalize s.hwSet pQMG QMG_CTRL_DISPATCH 0 = u at hset honly hkrm
  refine ⟨?_, rfl, fun e he => ?_, hkrm, sameBytes_trans honly.sameBytes (sameBytes_of_eq rfl rfl rfl)⟩
  · refine congrArg (· != 0) (Eq.trans ?_ hset)
    exact State.fget_of_rd (State.rd_showQmg _ (.inl (by decide)))
  · obtain ⟨q, -, rfl⟩ := List.mem_map.1 he
    rfl

theorem completes_dispatchOff {cls : Cls} {s : State} (hm : s.pins.mainPwrGood = true)
    (hon : s.flag pQMG QMG_CTRL_DISPATCH = true) (h : s.stopTakes cls .host (4 + s.driveBit .host)) :
    completes (.dispatchOff cls) s fun t =>
      t.flag pQMG QMG_CTRL_DISPATCH = false ∧ t.qw.inPass = false ∧ (∀ e ∈ t.qw.queues, e.2.noted = 0) ∧
      t.krm = s.krm ∧ sameBytes s t := by
  obtain ⟨x, hx, hdrive⟩ := s.driveBit_lt .host
  have hv : 4 + driveUnit .host * x < 0x100000000 := by simp only [driveUnit]; omega
  have hexec : exec (.dispatchOff cls) s = .next (s.stopWrite cls .host (4 + s.driveBit .host)) := rfl
  rw [hdrive] at h hexec
  rw [State.stopWrite_of_takes h hv] at hexec
  generalize writeWord (stopFields .host) (s.rd (stopWord .host)) _ = w at hexec
  rw [stopEffect_dispatchOff (by exact hm)] at hexec
  have hflag : (s.written cls (stopWord .host) w).flag pQMG QMG_CTRL_DISPATCH = true :=
    (State.flag_of_rd (State.rd_written_ne _ _ _ (by decide) (by decide))).trans hon
  obtain ⟨hoff, hpass, hnoted, hkrm, hbytes⟩ := State.stopDispatch_spec hflag
  exact completes_of_next hexec ⟨hoff, hpass, hnoted, hkrm, sameBytes_trans (sameBytes_written ..) hbytes⟩

end Sys2Proof.Machine
end

section
/-! SUPPORT. TRAY_HALT, with the ports standing through the end of a job, and the heartbeat (R324, R326, R328). -/

namespace Sys2Proof.Machine

/-! ### TRAY_HALT (R328) -/

/-- A field that a write of another keeps: at another word, or on other bits. -/
theorem State.fget_fset_clear (s : State) (b c : Nat) {f g : Fld} (x : Nat) (hw : g.inWord) (h : Fld.apart f g) :
    (s.fset b f x).fget c g = s.fget c g := by
  by_cases ha : c + g.off = b + f.off
  · unfold State.fget State.fset
    rw [ha, State.rd_wr_same]
    exact Fld.get_put_apart f g _ x hw h
  · exact State.fget_fset_ne _ _ _ _ _ _ ha

theorem State.portState_stopCore (s : State) (c p : Nat) : (s.stopCore c).portState p = s.portState p :=
  (State.fget_fset_clear _ _ _ (f := KCORE_STAT_RUNNING) 0 (by decide) (by decide)).trans rfl

/-- The end of a job moves no port, whatever cores it names. -/
theorem State.portState_endJob (s : State) (status code cycle p : Nat) :
    (s.endJob status code cycle).portState p = s.portState p := by
  cases hj : s.krm.job with
  | none => rw [State.endJob_none hj]
  | some j =>
    by_cases hp : j.phase = .ended
    · exact State.portState_of_rd (State.rd_eq _ _ _ (State.regs_endJob_ended hj hp status code cycle))
    · have hstands : stands (· = pSLK p + SLK_STAT_STATE.off) (j.phys.foldl State.stopCore s) (s.endJob status code cycle) := by
        refine stands_stopped_endJob ?_ ?_ hj hp status code cycle <;>
          simp only [pSLK, pKRMGLOB, pKRMQUAD, SLK_STAT_STATE, List.mem_cons, List.not_mem_nil] <;> omega
      exact (hstands.fget rfl).trans (foldl_eq (fun s => s.portState p) _ _ s fun u c _ => u.portState_stopCore c p)

theorem State.portState_haltKermes (s : State) (p : Nat) : s.haltKermes.portState p = s.portState p := by
  refine (State.portState_endJob ..).trans (State.portState_of_rd (State.rd_hwSet _ _ _ _ _ ?_ ?_)) <;>
    simp only [pSLK, pKRMGLOB, SLK_STAT_STATE, KG_CTRL_QHOLD, PAGE_SEQ] <;> omega

/-- What an interrupt adds to the outputs comes after them. -/
theorem State.outs_raise (s : State) (b i : Nat) : s.outs <+: (s.raise b i).outs := by
  have hmsix (t : State) (v : Nat) : t.outs <+: (t.sendMsix v).outs := by
    unfold State.sendMsix
    split
    · split
      · exact List.prefix_refl _
      · exact List.prefix_append ..
    · exact List.prefix_refl _
  unfold State.raise State.raiseBits State.setIrq
  extract_lets t
  split
  · exact hmsix t _
  · exact List.prefix_refl _

/-- Both halts, and what shows them. -/
def State.trayHalted (s : State) : State := ((s.haltKermes.haltPorts 4).fset pHST HST_STAT_TRAY_HALT 1).raise pHST 6

theorem State.trayHalted_spec (s : State) : s.trayHalted.flag pKRMGLOB KG_CTRL_QHOLD = true ∧ s.trayHalted.pins = s.pins ∧
    (∀ j, s.krm.job = some j → j.phase ≠ .ended → s.trayHalted.ended 2 1) ∧
    s.trayHalted.flag pHST HST_STAT_TRAY_HALT = true ∧
    (∀ p, p < 8 → s.halts p → haltSent s 4 p s.trayHalted) ∧ sameBytes s s.trayHalted := by
  obtain ⟨hheld, hbytes, hended⟩ := s.haltKermes_spec
  have honly := kermesOnly_haltKermes s
  have hsends := sends_haltPorts s.haltKermes 4
  have hsent (p : Nat) (hp : p < 8) (hh : s.halts p) : haltSent s 4 p (s.haltKermes.haltPorts 4) := by
    have h := s.haltKermes.haltPorts_spec 4 hp (State.halts_of (s.portState_haltKermes p) honly.slk hh)
    rwa [haltSent, honly.outs] at h
  unfold State.trayHalted
  generalize s.haltKermes = k at hheld hbytes hended honly hsends hsent
  generalize k.haltPorts 4 = u at hsends hsent
  have hkrm : ((u.fset pHST HST_STAT_TRAY_HALT 1).raise pHST 6).krm = k.krm := by
    rw [State.raise_krm, State.fset_krm, hsends.krm]
  have hpins : ((u.fset pHST HST_STAT_TRAY_HALT 1).raise pHST 6).pins = s.pins := by
    rw [State.raise_pins, State.fset_pins, hsends.pins, honly.pins]
  refine ⟨?_, hpins, fun j hj hp => ?_, ?_, fun p hp hh => ?_, ?_⟩
  · refine (State.flag_of_rd ?_).trans hheld
    rw [State.rd_raise _ _ _ _ (by decide) (by simp only [msixWord]; decide), State.rd_fset_ne _ _ _ _ _ (by decide), hsends.rd]
  · rw [State.ended, hkrm]
    exact hended j hj hp
  · refine (State.flag_of_rd ?_).trans (State.flag_fset_same u pHST 1 rfl (by decide))
    exact State.rd_raise _ _ _ _ (by decide) (by simp only [msixWord]; decide)
  · exact ((State.outs_raise ..).drop _).subset (hsent p hp hh)
  · exact sameBytes_trans hbytes (sameBytes_trans hsends.sameBytes
      (sameBytes_of_behind ((State.behind_setIrq ..).trans (State.behind_fset ..))))

/-- The line as another party holds it. -/
def State.lineHeld (s : State) (other : Bool) : State := { s with pins.trayExtLow := other }

theorem exec_trayHalt (other : Bool) (s : State) : exec (.trayHalt other) s =
    if !(s.lineHeld other).pins.mainPwrGood || !trayHaltLow (s.lineHeld other) then .next (s.lineHeld other)
    else .next (s.lineHeld other).trayHalted := rfl

theorem trayHaltLow_lineHeld (s : State) (other : Bool) : trayHaltLow (s.lineHeld other) =
    (other || (s.pins.mainPwrGood && s.flag pHST HST_STOP_TRAY_DRIVE) || s.flag pRCK RCK_STOP_TRAY_DRIVE) := rfl

theorem completes_trayHalt {other : Bool} {s : State} (hm : s.pins.mainPwrGood = true)
    (h : other = true ∨ s.flag pHST HST_STOP_TRAY_DRIVE = true ∨ s.flag pRCK RCK_STOP_TRAY_DRIVE = true) :
    completes (.trayHalt other) s fun t => t.flag pKRMGLOB KG_CTRL_QHOLD = true ∧ t.pins.trayExtLow = other ∧
      (∀ j, s.krm.job = some j → j.phase ≠ .ended → t.ended 2 1) ∧ t.flag pHST HST_STAT_TRAY_HALT = true ∧
      (∀ p, p < 8 → s.halts p → .silk p (ctlUnit 0x30 [4]) ∈ t.outs.drop s.outs.length) ∧ sameBytes s t := by
  have hexec := exec_trayHalt other s
  have hlow : trayHaltLow (s.lineHeld other) = true := by
    rw [trayHaltLow_lineHeld, hm]
    rcases h with h | h | h <;> simp [h]
  have hmain : (s.lineHeld other).pins.mainPwrGood = true := hm
  rw [hmain, hlow, if_neg (by decide)] at hexec
  obtain ⟨hheld, hpins, hended, hshown, hsent, hbytes⟩ := (s.lineHeld other).trayHalted_spec
  exact completes_of_next hexec ⟨hheld, congrArg Pins.trayExtLow hpins, fun j hj => hended j hj, hshown,
    fun p hp hh => hsent p hp hh, sameBytes_trans (sameBytes_of_eq rfl rfl rfl) hbytes⟩

/-- Where nobody pulls the line, it has been released. -/
theorem completes_trayHalt_released {s : State} (hhost : s.flag pHST HST_STOP_TRAY_DRIVE = false)
    (hrack : s.flag pRCK RCK_STOP_TRAY_DRIVE = false) :
    completes (.trayHalt false) s fun t => t = { s with pins.trayExtLow := false } := by
  have hexec := exec_trayHalt false s
  rw [trayHaltLow_lineHeld, hhost, hrack, if_pos (by simp)] at hexec
  exact completes_of_next hexec rfl

/-! ### The heartbeat (R324, R326) -/

theorem regWrite_heartbeat {cls : Cls} {s : State} (h : s.takes cls (pHST + 0x110) 0) :
    ∃ w, (regWrite s cls (pHST + 0x110) 4 0).2 = s.written cls (pHST + 0x110) w := by
  obtain ⟨p, i, r, e, hp, hr, hpair, hcls, hk⟩ : ∃ p i r e, findPage ((pHST + 0x110) / 0x10000) = some (p, i) ∧
      findReg p.regs ((pHST + 0x110) % 0x10000) = some (r, e, 0) ∧ r.pair = false ∧ r.percls = false ∧
      (p.kind ≠ .gen ∧ p.kind ≠ .hzdsens) := ⟨_, _, _, _, rfl, rfl, rfl, rfl, by decide⟩
  exact ⟨_, (regWrite_word hp hr hpair hcls hk (by decide) h).2⟩

theorem heartbeat_spec (s : State) : (heartbeat s).hr.hbAgeNs = 0 ∧ (heartbeat s).hr.lost = (s.hr.lost && !s.hr.helloSince) ∧
    sameBytes s (heartbeat s) := by
  unfold heartbeat
  dsimp only
  split
  · next h =>
    obtain ⟨hlost, hhello⟩ : s.hr.lost = true ∧ s.hr.helloSince = true := by simpa using h
    refine ⟨?_, ?_, ?_⟩
    · simp [State.showQmg]
    · simp [State.showQmg, hhello]
    · exact sameBytes_of_eq rfl rfl rfl
  · next h =>
    refine ⟨rfl, ?_, sameBytes_of_eq rfl rfl rfl⟩
    show s.hr.lost = _
    cases hl : s.hr.lost <;> simp_all

theorem completes_hbWrite {cls : Cls} {s : State} (h : s.takes cls (pHST + 0x110) 0) : completes (.hbWrite cls) s fun t =>
    t.hr.hbAgeNs = 0 ∧ t.hr.lost = (s.hr.lost && !s.hr.helloSince) ∧ sameBytes s t := by
  have hexec : exec (.hbWrite cls) s = .next (writeThen s cls (pHST + 0x110) 0 heartbeat) := rfl
  obtain ⟨w, hw⟩ := regWrite_heartbeat h
  rw [writeThen_of_takes _ h, hw] at hexec
  obtain ⟨hage, hlost, hbytes⟩ := heartbeat_spec (s.written cls (pHST + 0x110) w)
  exact completes_of_next hexec ⟨hage, hlost, sameBytes_trans (sameBytes_written ..) hbytes⟩

end Sys2Proof.Machine
end

section
/-! SUPPORT. Loss of the driver (R324, R325, R326). -/

namespace Sys2Proof.Machine

/-! ### DRIVER_LOST (R324, R325) -/

/-- What loss of the driver leaves before the cap is withdrawn. -/
def State.driverGone (s : State) : State :=
  (({ s with hr.lost := true, hr.helloSince := false }.showQmg).raise pHST 5).fset pRCK RCK_ALERT_SRC_DRIVER_LOST 1

theorem State.loseDriver_eq {s : State} (h : s.hr.lost = false) : s.loseDriver = s.driverGone.withdrawCap :=
  if_neg (by rw [h]; decide)

theorem State.hr_driverGone (s : State) : s.driverGone.hr = { s.hr with lost := true, helloSince := false } := by
  rw [State.driverGone, State.fset_hr, State.raise_hr]
  rfl

theorem State.runs_driverGone (s : State) : s.driverGone.runs 0 = s.runs 0 := by
  refine congrArg (fun w => decide ((FWC_CORE_STAT_STATE.nth 0 0x40).get w = 2)) ?_
  rw [State.driverGone, State.rd_fset_ne _ _ _ _ _ (by decide),
    State.rd_raise _ _ _ _ (by decide) (by simp only [msixWord]; decide), State.rd_showQmg _ (by decide)]
  rfl

theorem State.flag_driverGone (s : State) : s.driverGone.flag pRCK RCK_ALERT_SRC_DRIVER_LOST = true :=
  State.flag_fset_same _ pRCK 1 rfl (by decide)

theorem alertSrc_outOfReach : outOfReach (pGOVGLOB + 0x10C) (pRCK + RCK_ALERT_SRC_DRIVER_LOST.off) := by
  unfold outOfReach onPage msixWord
  decide

theorem State.rd_withdrawCap (s : State) {x : Nat} (h : outOfReach (pGOVGLOB + 0x10C) x) : s.withdrawCap.rd x = s.rd x := by
  unfold State.withdrawCap
  split
  · exact State.rd_regWrite (by decide) h s .fwp 0 (by decide)
  · rfl

theorem State.hr_withdrawCap (s : State) : s.withdrawCap.hr.helloSince = s.hr.helloSince ∧
    s.withdrawCap.hr.session = s.hr.session := by
  unfold State.withdrawCap
  split
  · have h := State.behind_regWrite s .fwp (pGOVGLOB + 0x10C) 4 0
    exact ⟨congrArg (fun t => t.hr.helloSince) h, congrArg (fun t => t.hr.session) h⟩
  · exact ⟨rfl, rfl⟩

theorem State.capDue_withdrawCap {s : State} (h : s.runs 0 = false) : s.withdrawCap.hr.capDue = true := by
  rw [State.withdrawCap, if_neg (by rw [h]; decide)]

/-- The heartbeat's age, put at `n`. -/
def State.aged (s : State) (n : Nat) : State := { s with hr.hbAgeNs := n }

theorem exec_driverLost {s : State} (hl : s.hr.lost = false) (hm : s.pins.mainPwrGood = true) :
    ∃ n, exec .driverLost s = .next (s.aged n).loseDriver :=
  ⟨_, if_neg (by rw [hl, hm]; decide)⟩

theorem State.runs_aged (s : State) (n : Nat) : (s.aged n).runs 0 = s.runs 0 := by
  have hrd (x : Nat) : (s.aged n).rd x = s.rd x := State.rd_eq _ _ _ rfl
  exact congrArg (fun x => decide (x = 2)) (State.fget_of_rd (hrd _))

theorem completes_driverLost {s : State} (hl : s.hr.lost = false) (hm : s.pins.mainPwrGood = true) :
    completes .driverLost s fun t => t.hr.lost = true ∧ t.hr.helloSince = false ∧
      t.flag pRCK RCK_ALERT_SRC_DRIVER_LOST = true ∧ (s.runs 0 = false → t.hr.capDue = true) ∧
      t.hr.session = s.hr.session ∧ sameBytes s t := by
  obtain ⟨n, hexec⟩ := exec_driverLost hl hm
  have hbytes : sameBytes s (s.aged n).loseDriver :=
    sameBytes_trans (sameBytes_of_eq rfl rfl rfl) (stands_loseDriver (s.aged n)).2
  have hlost := (s.aged n).lost_loseDriver
  have hlose : (s.aged n).loseDriver = (s.aged n).driverGone.withdrawCap := State.loseDriver_eq hl
  rw [hlose] at hexec hbytes hlost
  obtain ⟨hhello, hsession⟩ := (s.aged n).driverGone.hr_withdrawCap
  rw [State.hr_driverGone] at hhello hsession
  refine completes_of_next hexec ⟨hlost, hhello, ?_, fun hr => ?_, hsession, hbytes⟩
  · exact (State.flag_of_rd (State.rd_withdrawCap _ alertSrc_outOfReach)).trans (s.aged n).flag_driverGone
  · exact State.capDue_withdrawCap ((s.aged n).runs_driverGone.trans ((s.runs_aged n).trans hr))

end Sys2Proof.Machine
end

section
/-! SUPPORT. The rack's limit pin, its paths to THROTTLE and to Kermes' step, and O42 (R290, R332, R386). -/

namespace Sys2Proof.Machine

/-! ### THROTTLE of every port (R290) -/

/-- What stands where registers, outputs and Kermes alone have changed. -/
theorem State.rest_of_behind {s t : State} {k : Krm} (h : t.behind = { s.behind with krm := k }) :
    t.pins = s.pins ∧ t.hr.presetTimer = s.hr.presetTimer ∧ t.gov = s.gov ∧ sameBytes s t :=
  ⟨(congrArg State.pins h :), (congrArg (fun t => t.hr.presetTimer) h :), (congrArg State.gov h :),
    sameBytes_of_eq (congrArg State.mem h :) (congrArg State.flash h :) (congrArg (fun t => t.fwc.sram) h :)⟩

theorem State.rest_of_behind_eq {s t : State} (h : t.behind = s.behind) :
    t.pins = s.pins ∧ t.hr.presetTimer = s.hr.presetTimer ∧ t.gov = s.gov ∧ sameBytes s t :=
  State.rest_of_behind (k := s.krm) h

theorem State.behind_throttle (s : State) (p : Nat) : (s.throttle p).behind = s.behind := by
  rw [State.throttle, State.behind_fset, State.behind_fset, State.behind_fset]

theorem State.rd_throttle (s : State) (p : Nat) {x : Nat} (hx : x ≠ pSLK p + 0x104) : (s.throttle p).rd x = s.rd x := by
  rw [State.throttle, State.rd_fset_ne _ _ SLK_STAT_ALERT _ _ hx, State.rd_fset_ne _ _ SLK_STAT_THROTTLE _ _ hx,
    State.rd_fset_ne _ _ SLK_STAT_THR_SRC _ _ hx]

/-- Every port throttles as its sources ask. -/
def State.throttled (s : State) : State := portList.foldl State.throttle s

theorem State.behind_throttled (s : State) : s.throttled.behind = s.behind :=
  foldl_eq State.behind _ _ s fun u p _ => u.behind_throttle p

theorem State.rd_throttled (s : State) {x : Nat} (hx : x < 0x700000 ∨ 0x780000 ≤ x) : s.throttled.rd x = s.rd x := by
  refine foldl_eq (State.rd · x) _ _ s fun u p hp => u.rd_throttle p ?_
  have := mem_portList.1 hp
  unfold pSLK
  omega

/-- A port that follows the pin throttles while the pin is low. -/
theorem State.flag_throttled {s : State} (hlow : s.pins.rackLimitLow = true) {p : Nat} (hp : p < 8)
    (h : s.flag (pSLK p) SLK_CTRL_RACK_THR_EN = true) : s.throttled.flag (pSLK p) SLK_STAT_THROTTLE = true := by
  refine foldl_at (I := fun u => u.rd (pSLK p + 0x100) = s.rd (pSLK p + 0x100) ∧ u.pins = s.pins)
    (P := fun u => u.flag (pSLK p) SLK_STAT_THROTTLE = true) (fun u d hu => ⟨?_, ?_⟩) (fun u hu => ?_) (fun u d hd hu => ?_)
    (mem_portList.2 hp) ⟨rfl, rfl⟩
  · exact (u.rd_throttle d (by unfold pSLK; omega)).trans hu.1
  · obtain ⟨hpins, -, -, -⟩ := State.rest_of_behind_eq (u.behind_throttle d)
    exact hpins.trans hu.2
  · have hen : u.flag (pSLK p) SLK_CTRL_RACK_THR_EN = true := (State.flag_of_rd hu.1).trans h
    rw [State.flag_throttle, State.throttleAsked, hu.2, hlow, hen]
    simp
  · exact (State.flag_of_rd (u.rd_throttle d (by simp only [pSLK, SLK_STAT_THROTTLE]; omega))).trans hu

/-! ### The pin's path to Kermes' step (R386) -/

theorem State.behind_raise (s : State) (b i : Nat) : (s.raise b i).behind = s.behind := State.behind_setIrq ..

theorem State.behind_of_krm {s u : State} (h : u.behind = s.behind) (k : Krm) :
    ({ u with krm := k } : State).behind = { s.behind with krm := k } := congrArg (fun v : State => { v with krm := k }) h

/-- A step put into effect changes registers, outputs and the running job. -/
theorem State.setStep_krm (s : State) (n : Nat) : ∃ k, (s.setStep n).behind = { s.behind with krm := k } := by
  unfold State.setStep
  extract_lets t u
  have ht : t.behind = s.behind := (State.behind_fset ..).trans (State.behind_fset ..)
  have hu : u.behind = s.behind := (State.behind_raise ..).trans ((State.behind_fset ..).trans ((State.behind_fset ..).trans ht))
  split
  · exact ⟨s.krm, ht⟩
  · exact ⟨_, State.behind_of_krm hu _⟩

theorem State.forceStep_krm (s : State) : ∃ k, s.forceStep.behind = { s.behind with krm := k } := by
  unfold State.forceStep
  split
  · exact State.setStep_krm ..
  · exact ⟨s.krm, rfl⟩

/-- A word that no step of Kermes writes. -/
theorem State.rd_forceStep (s : State) {x : Nat} (hx : x < 0x780000) : s.forceStep.rd x = s.rd x := by
  have hset (b : Nat) (f : Fld) (k : Nat) (u : State) (hb : 0x780000 ≤ b) : (u.fset b f k).rd x = u.rd x :=
    State.rd_fset_ne _ _ _ _ _ (by omega)
  refine State.rd_branch ?_ rfl
  generalize (if s.flag pGOVGLOB GG_STAT_NO_MEAS then _ else _) = n
  unfold State.setStep
  extract_lets t u
  have ht : t.rd x = s.rd x := (hset pCLK _ _ _ (by decide)).trans (hset pGOVGLOB _ _ _ (by decide))
  refine State.rd_branch ht ?_
  show u.rd x = _
  refine (State.rd_raise _ _ _ _ ?_ ?_).trans ((hset pCLK _ _ _ (by decide)).trans ((hset pCLK _ _ _ (by decide)).trans ht))
  · simp only [pCLK]; omega
  · simp only [msixWord]; omega

theorem State.fget_setStep (s : State) {n : Nat} (hn : n < 64) : (s.setStep n).fget pCLK CLK_KRM_STEP = n := by
  have hapart : ((s.fset pGOVGLOB GG_STAT_KRM_TARGET n).fset pCLK CLK_KRM_TARGET n).fget pCLK CLK_KRM_STEP =
      s.fget pCLK CLK_KRM_STEP := by
    rw [State.fget_fset_apart _ _ CLK_KRM_TARGET CLK_KRM_STEP _ rfl (by decide) (by decide),
      State.fget_fset_ne _ _ _ _ _ _ (by decide)]
  unfold State.setStep
  extract_lets t u
  split
  · next h => exact hapart.trans h
  · show u.fget pCLK CLK_KRM_STEP = n
    refine (State.fget_of_rd (State.rd_raise _ _ _ _ (by decide) (by simp only [msixWord]; decide))).trans ?_
    refine (State.fget_fset_ne _ _ _ _ _ _ (by decide)).trans ?_
    rw [State.fget_fset_same _ _ _ _ (by decide)]
    exact Nat.mod_eq_of_lt hn

theorem State.minStep_lt (s : State) : s.minStep < 64 := lt_of_le_of_lt (Nat.min_le_right ..) (Nat.mod_lt _ (by decide))

/-! ### RACK_LIMIT_ASSERT -/

/-- The pin low, and no time running after it. -/
def State.pinLow (s : State) : State := { s with pins.rackLimitLow := true, hr.presetTimer := false }

/-- The state in which the pin's fall decides on Kermes' step. -/
def State.pinFallen (s : State) : State :=
  let u := s.pinLow.throttled.showPreset
  if u.presetOn && !s.presetOn then u.raise pRCK 4 else u

theorem exec_rackLimitAssert (s : State) : exec .rackLimitAssert s = .next s.pinFallen.forceStep := rfl

theorem State.behind_pinFallen (s : State) : s.pinFallen.behind = s.pinLow.behind := by
  have h (u : State) : u.throttled.showPreset.behind = u.behind := (State.behind_fset ..).trans u.behind_throttled
  unfold State.pinFallen
  dsimp only
  split
  · exact (State.behind_raise ..).trans (h _)
  · exact h _

/-- A word that the fall of the pin leaves, but for Kermes' step. -/
theorem State.rd_pinFallen (s : State) {x : Nat} (hx : x < 0x700000 ∨ 0x790000 ≤ x)
    (hrck : x ≠ pRCK + 0x18 ∧ x ≠ pRCK + 0x108) : s.pinFallen.rd x = s.rd x := by
  have h (u : State) : u.throttled.showPreset.rd x = u.rd x :=
    (State.rd_fset_ne _ _ _ _ _ hrck.2).trans (u.rd_throttled (by omega))
  unfold State.pinFallen
  dsimp only
  refine State.rd_branch ((State.rd_raise _ _ _ _ hrck.1 ?_).trans (h _)) (h _)
  unfold msixWord
  omega

theorem State.flag_pinFallen (s : State) {p : Nat} (hp : p < 8) (h : s.flag (pSLK p) SLK_CTRL_RACK_THR_EN = true) :
    s.pinFallen.flag (pSLK p) SLK_STAT_THROTTLE = true := by
  have hflag := State.flag_throttled (s := s.pinLow) rfl hp h
  refine (State.flag_of_rd ?_).trans hflag
  have hpage : pSLK p + 0x104 < 0x780000 := by unfold pSLK; omega
  have hshow (u : State) : u.showPreset.rd (pSLK p + 0x104) = u.rd (pSLK p + 0x104) :=
    State.rd_fset_ne _ pRCK RCK_STAT_PRESET_ACT _ _ (by simp only [pRCK]; omega)
  unfold State.pinFallen
  dsimp only
  refine State.rd_branch ((State.rd_raise _ _ _ _ ?_ ?_).trans (hshow _)) (hshow _)
  · simp only [pRCK, SLK_STAT_THROTTLE]; omega
  · simp only [msixWord, SLK_STAT_THROTTLE]; omega

theorem State.presetOn_pinFallen (s : State) : s.pinFallen.presetOn = (s.fget pRCK RCK_PRESET_CAP != 0) := by
  obtain ⟨hpins, -, -, -⟩ := State.rest_of_behind_eq s.behind_pinFallen
  have hlow : s.pinFallen.pins.rackLimitLow = true := congrArg Pins.rackLimitLow hpins
  have hcap : s.pinFallen.fget pRCK RCK_PRESET_CAP = s.fget pRCK RCK_PRESET_CAP :=
    State.fget_of_rd (s.rd_pinFallen (.inr (by decide)) (by decide))
  rw [State.presetOn, hlow, hcap]
  simp

theorem State.minStep_pinFallen (s : State) : s.pinFallen.minStep = s.minStep := by
  have hmin : s.pinFallen.fget pGOVGLOB GG_KRM_CFG_MIN_STEP = s.fget pGOVGLOB GG_KRM_CFG_MIN_STEP :=
    State.fget_of_rd (s.rd_pinFallen (.inr (by decide)) (by decide))
  have hlim : s.pinFallen.fget pCLK CLK_KRM_LIMIT_LIMIT = s.fget pCLK CLK_KRM_LIMIT_LIMIT :=
    State.fget_of_rd (s.rd_pinFallen (.inr (by decide)) (by decide))
  rw [State.minStep, hmin, hlim]
  rfl

/-- Without a preset the pin leaves the step. -/
theorem State.forceStep_pinFallen_none {s : State} (h : s.fget pRCK RCK_PRESET_CAP = 0) :
    s.pinFallen.forceStep = s.pinFallen := by
  rw [State.forceStep, State.krmForced, State.presetOn_pinFallen, h]
  rfl

theorem State.step_pinFallen (s : State) : s.pinFallen.fget pCLK CLK_KRM_STEP = s.fget pCLK CLK_KRM_STEP :=
  State.fget_of_rd (s.rd_pinFallen (.inr (by decide)) (by decide))

/-- With a preset and readings the pin forces MIN_STEP. -/
theorem State.step_forced {s : State} (hcap : s.fget pRCK RCK_PRESET_CAP ≠ 0) (hen : s.flag pGOVGLOB GG_CTRL_PRESET_KRM = true)
    (hm : s.pins.mainPwrGood = true) (hmeas : s.flag pGOVGLOB GG_STAT_NO_MEAS = false) :
    s.pinFallen.forceStep.fget pCLK CLK_KRM_STEP = s.minStep := by
  have hword {x : Nat} (hx : x = pGOVGLOB + 0x100 ∨ x = pGOVGLOB + 0x104) : s.pinFallen.rd x = s.rd x := by
    rcases hx with rfl | rfl <;> exact s.rd_pinFallen (.inr (by decide)) (by decide)
  have hon : s.pinFallen.presetOn = true := by rw [State.presetOn_pinFallen]; simpa using hcap
  have henf : s.pinFallen.flag pGOVGLOB GG_CTRL_PRESET_KRM = true :=
    (State.flag_of_rd (hword (.inl rfl))).trans hen
  obtain ⟨hpins, -, -, -⟩ := State.rest_of_behind_eq s.behind_pinFallen
  have hmf : s.pinFallen.pins.mainPwrGood = true := (congrArg Pins.mainPwrGood hpins).trans hm
  have hmeasf : s.pinFallen.flag pGOVGLOB GG_STAT_NO_MEAS = false :=
    (State.flag_of_rd (hword (.inr rfl))).trans hmeas
  rw [State.forceStep, State.krmForced, hon, henf, hmf, hmeasf, ← s.minStep_pinFallen]
  exact State.fget_setStep _ (State.minStep_lt _)

theorem completes_rackLimitAssert (s : State) : completes .rackLimitAssert s fun t =>
    t.pins.rackLimitLow = true ∧ t.hr.presetTimer = false ∧
    (∀ p, p < 8 → s.flag (pSLK p) SLK_CTRL_RACK_THR_EN = true → t.flag (pSLK p) SLK_STAT_THROTTLE = true) ∧
    t.gov = s.gov ∧
    (s.fget pRCK RCK_PRESET_CAP = 0 → t.fget pCLK CLK_KRM_STEP = s.fget pCLK CLK_KRM_STEP) ∧
    (s.fget pRCK RCK_PRESET_CAP ≠ 0 → s.flag pGOVGLOB GG_CTRL_PRESET_KRM = true → s.pins.mainPwrGood = true →
      s.flag pGOVGLOB GG_STAT_NO_MEAS = false → t.fget pCLK CLK_KRM_STEP = s.minStep) ∧ sameBytes s t := by
  obtain ⟨k, hstep⟩ := s.pinFallen.forceStep_krm
  obtain ⟨hpins, htimer, hgov, hbytes⟩ := State.rest_of_behind hstep
  obtain ⟨hpins', htimer', hgov', hbytes'⟩ := State.rest_of_behind_eq s.behind_pinFallen
  refine completes_of_next (exec_rackLimitAssert s) ⟨by rw [hpins, hpins']; rfl, htimer.trans htimer',
    fun p hp h => ?_, hgov.trans hgov', fun hcap => ?_,
    State.step_forced, sameBytes_trans (sameBytes_trans (sameBytes_of_eq rfl rfl rfl) hbytes') hbytes⟩
  · refine (State.flag_of_rd (State.rd_forceStep _ ?_)).trans (s.flag_pinFallen hp h)
    simp only [pSLK, SLK_STAT_THROTTLE]
    omega
  · rw [State.forceStep_pinFallen_none hcap, State.step_pinFallen]

/-! ### RACK_LIMIT_RELEASE and PRESET_WITHDRAW -/

theorem State.behind_showPreset (s : State) : s.showPreset.behind = s.behind := State.behind_fset ..

/-- The pin high, and the time after it running. -/
def State.pinHigh (s : State) : State := { s with pins.rackLimitLow := false, hr.presetTimer := true }

theorem exec_rackLimitRelease (s : State) : exec .rackLimitRelease s =
    if !s.pins.rackLimitLow then .next s else .next s.pinHigh.throttled.showPreset := rfl

theorem completes_rackLimitRelease {s : State} (h : s.pins.rackLimitLow = true) : completes .rackLimitRelease s fun t =>
    t.pins.rackLimitLow = false ∧ t.hr.presetTimer = true ∧ t.gov = s.gov ∧ sameBytes s t := by
  have hexec := exec_rackLimitRelease s
  rw [h, if_neg (by decide)] at hexec
  obtain ⟨hpins, htimer, hgov, hbytes⟩ := State.rest_of_behind_eq
    ((State.behind_showPreset _).trans s.pinHigh.behind_throttled)
  exact completes_of_next hexec ⟨congrArg Pins.rackLimitLow hpins, htimer, hgov,
    sameBytes_trans (sameBytes_of_eq rfl rfl rfl) hbytes⟩

theorem State.presetOn_off {s : State} (hlow : s.pins.rackLimitLow = false) (htimer : s.hr.presetTimer = false) :
    s.presetOn = false := by rw [State.presetOn, hlow, htimer]; rfl

theorem completes_presetWithdraw {s : State} (h : s.hr.presetTimer = true) : completes .presetWithdraw s fun t =>
    t.hr.presetTimer = false ∧ t.gov = s.gov ∧
    (s.pins.rackLimitLow = false → t.presetOn = false ∧ t.rackTerm = s.fget pRCK RCK_CAP_CAP) ∧
    t.pins = s.pins ∧ sameBytes s t := by
  have hexec : exec .presetWithdraw s = .next ({ s with hr.presetTimer := false } : State).showPreset :=
    if_neg (by rw [h]; decide)
  refine completes_of_next hexec ⟨rfl, rfl, fun hlow => ?_, rfl, sameBytes_of_eq rfl rfl rfl⟩
  have hoff : ({ s with hr.presetTimer := false } : State).showPreset.presetOn = false := State.presetOn_off hlow rfl
  refine ⟨hoff, ?_⟩
  rw [State.rackTerm, hoff, if_neg (by decide)]
  exact State.fget_fset_ne _ _ _ _ _ _ (by decide)

/-! ### O42 -/

/-- Settles O42: each command's new state is that of its register write or its pin, and what the write's bits start. -/
theorem driverAndStops : Obligations.DriverAndStops := by
  refine ⟨fun _ _ => completes_hbWrite, fun _ => completes_driverLost,
    fun cls path s hm => ⟨completes_haltKrm hm, completes_haltAcc hm, fun pull h => ?_⟩,
    fun _ _ => completes_dispatchOff, fun _ _ => completes_trayHalt, fun _ => completes_trayHalt_released,
    completes_rackLimitAssert, fun _ => completes_rackLimitRelease, fun _ => completes_presetWithdraw⟩
  cases path <;> exact completes_trayDrive pull hm h

end Sys2Proof.Machine
end
